-- ==== Sys2Proof/Word.lean ====
section
/-!
DEFINITION. The word types of the block: registers are 32 bits wide (R7) and memories are addressed by byte.
-/
namespace Sys2Proof

/-- One register word (R7). -/
abbrev Word := BitVec 32

/-- One byte of DRAM, of the Tarn store, of MRAM or of the flash. -/
abbrev Byte := BitVec 8

end Sys2Proof
end

