-- ==== Sys2Proof/Syntax.lean ====
section
/-!
DEFINITION. The commands of the block: one constructor per row of spec/opcode_table.json, in the table's order,
with the operands that the step needs from outside (who accesses what; what a sink, a sensor, a link or a supply shows).
-/
namespace Sys2Proof

/-- Who can reach registers (R8): an application hart, a safety-core pair, a PCIe function (0 = PF, c = VF c),
Dredge, or the Portage remote-access path. -/
inductive Initiator where
  | hart (h : Fin 8)
  | pair (k : Fin 2)
  | pcie (f : Fin 32)
  | dredge
  | portage
  deriving DecidableEq, Repr

/-- The tag of a transaction (R32): world, cove and generation. -/
structure WorkTag where
  secure : Bool
  cove : Nat
  gen : Nat
  deriving DecidableEq, Repr

/-- What issues a transaction, by the source of its tag (R32, Table 01-7): an initiator that reaches registers, an engine
that works from queue context `q` of cove `c`, engine work of the secure world, a general Sounding unit's warden check, or
a Portage import window. -/
inductive Source where
  | ini (i : Initiator)
  | queue (c : Fin 32) (q : Fin 64)
  | secureWork
  | genUnit (g : Fin 16)
  | importWindow (w : Fin 8)
  deriving DecidableEq, Repr

/-- A requester at a block arbiter (Table 05-3). -/
inductive Requester where
  | dredge
  | debugWindow
  | portage
  | composer (k : Fin 9)
  | outlet (k : Fin 12)
  | scrub
  | coveTraffic
  | secureTraffic
  | pcie
  | cores
  | safety
  deriving DecidableEq, Repr

/-- A request that waits at a region arbiter (R137): bytes moved (Table 05-5), and in the Memory region the channel and the
queue of Reservoir that it goes to (R221). -/
structure RegionReq where
  bytes : Nat
  ch : Fin 4
  write : Bool
  deriving DecidableEq, Repr

/-- What makes a Reservoir request, as Table 08-4 groups the users of the page hints; `other` for a requester that the table
does not name. -/
inductive ResUser where
  | cores
  | safety
  | loch
  | basinFetch
  | shorScrub
  | pageInit
  | pool
  | eventRing
  | vfBar2
  | dredge
  | training
  | other (hint : Fin 4)
  deriving DecidableEq, Repr

/-- The four regions that arbitrate among coves (Table 05-5). -/
inductive ShareRegion where
  | memory | graphics | display | sense
  deriving DecidableEq, Repr

/-- The kind of region slot that completed work held (R198): a cove's, a secure slot, or a pool slot that secure
work took. -/
inductive SlotKind where
  | cove | secure | securePool
  deriving DecidableEq, Repr

/-- A block: unit in the order of Table 01-10 (0 = CHIP, 20 = NVM) and instance in the unit. -/
structure BlockId where
  unit : Fin 21
  inst : Fin 512
  deriving DecidableEq, Repr

/-- The FIFOs that the margin governor watches (Table 01-6). -/
inductive Watched where
  | head (h : Fin 8)
  | tdmTx (n : Fin 4)
  | wdata (n : Fin 4)
  | pcieTx
  | portageTx (l : Fin 2)
  deriving DecidableEq, Repr

/-- What a debug access through the test access port reaches (R50). -/
inductive DebugTarget where
  | hart (h : Fin 8)
  | safety (k : Fin 2)
  | secureMemory
  deriving DecidableEq, Repr

/-- An IEEE 1149.1 instruction (R50): boundary scan that takes over the ball drivers, an instruction that does
not, or an access to a debug module. -/
inductive JtagInstr where
  | takeOver (drive : Nat)
  | passive
  | debug (t : DebugTarget)
  deriving DecidableEq, Repr

/-- The three writable vote registers (Table 03-18). -/
inductive PdReg where
  | voteSec | voteNs | forceOff
  deriving DecidableEq, Repr

/-- Width of a register read (R7). -/
inductive RegSize where
  | byte | half | word
  deriving DecidableEq, Repr

/-- Width of an aperture access in bytes (R108). -/
inductive AccSize where
  | b1 | b2 | b4 | b8
  deriving DecidableEq, Repr

/-- Outcome of a SECDED or inline ECC check. -/
inductive EccResult where
  | ok | corrected | uncorrectable
  deriving DecidableEq, Repr

/-- An event ring (Table 05-14). -/
inductive RingId where
  | sring (k : Fin 2)
  | warden
  | cove (c : Fin 32)
  | shaSecure
  | shaCove (c : Fin 32)
  | recorder
  deriving DecidableEq, Repr

/-- Architectural state of one hart bank (R165, Table 06-3): x0 to x31, pc, the hardware performance counters, the cycle
counter, and everything else as one number. -/
structure HartBank where
  x : List (BitVec 64)
  pc : BitVec 64
  rest : Nat
  machineMode : Bool
  hpm : List (BitVec 64)
  cycle : BitVec 64
  deriving DecidableEq, Repr

/-- Severity of a PCIe error under AER (Table 07-11). -/
inductive AerSeverity where
  | correctable | nonFatal | fatal
  deriving DecidableEq, Repr

/-- A fragment of a primitive (R373 to R375): its pixel of the tile, for each sample of that pixel the depth it has there where it
covers it, as the depth format codes it, and its invocation: the number under which its code's results stand, what it loads
and stores (cove-physical addresses), and whether it ends in an exception. -/
structure Frag where
  pixel : Fin 1024
  cover : List (Option Nat)
  code : Nat
  loads : List (Nat × Nat)
  stores : List (Nat × List Byte)
  exception : Bool
  deriving DecidableEq, Repr

/-- A primitive in the bin of a tile: the pipeline it was drawn with, by its place in the pass's streams, and its fragments in
that tile. -/
structure Prim where
  pipe : Nat
  frags : List Frag
  deriving DecidableEq, Repr

/-- A tile's bin in stream order, and the primitive from which on more than 4,096 quads would be in flight (R376). -/
structure TileBin where
  prims : List Prim
  orderedAt : Option Nat
  deriving DecidableEq, Repr

/-- What a dispatch did by the time it completed: what its vertex or compute shaders loaded, stored (cove-physical addresses)
and whether an invocation ended in an exception; for a tile, its bin; for a binning batch, the chunks it took, the tiles it
touched, whether it was the last, and a stream or pipeline fault (6 or 7) that ended it. -/
structure DispReport where
  loads : List (Nat × Nat)
  stores : List (Nat × List Byte)
  exception : Bool
  bin : TileBin
  chunks : Nat
  touched : List Nat
  last : Bool
  streamFault : Nat
  deriving DecidableEq, Repr
/-- What the array under march answers to one read (R519): background, element (`elem` + 1), the word address in the instance,
or in its spare rows, and the word read with its check bits. -/
structure MarchRead where
  bg : Fin 4
  elem : Fin 6
  spare : Bool
  addr : Nat
  value : BitVec 72
  deriving DecidableEq, Repr

/-- How an instance under march behaves: reads not listed answer what the march expects; the spare columns that fail; and whether
its engine runs the elements of either direction downwards. -/
structure InstMarch where
  inst : Fin 1024
  desc : Bool
  reads : List MarchRead
  badCols : List (Fin 2)
  deriving DecidableEq, Repr

/-- The marches of TEST: the instances that do not answer every read as expected; and, where TEST is stopped, the waves of Tarn
banks and the groups that had ended, with the instances that had ended of the group under way (R520). -/
structure MarchReport where
  insts : List InstMarch
  waves : Fin 5
  groups : Fin 7
  early : List (Fin 1024)
  deriving DecidableEq, Repr

/-- What the payload of a flit says (Table 20-1 leaves its form to the class): an access to a register by PTG_RACC, the
answer to one, bytes of a copy or of an image, the fence of a copy, one changed tile of a stream to mirror `m` (solid where it
has no data), a request of mirror `m` for a head's stream, the positions that the partner reaches now with those that await an
image, or a control message that a row of its own describes. -/
inductive FlitContent where
  | control
  | read (off : Nat)
  | write (off : Nat) (v : Word)
  | answer (err : Bool) (v : Word)
  | copy (addr : Nat) (data : List Byte)
  | image (off : Nat) (data : List Byte) (last : Bool)
  | fence (addr : Nat) (v : BitVec 64)
  | tile (m : Fin 8) (k : Nat) (colour : Nat) (data : List Byte)
  | bind (m : Fin 8) (head : Fin 8) (on : Bool)
  | reach (mask booting : BitVec 4)
  | nak (seq : Nat)
  deriving DecidableEq, Repr

/-- How a copy ended beyond this device (Table 20-3): all written, a link lost, or a write outside every window or denied. -/
inductive CopyEnd where
  | ok | link | noWindow
  deriving DecidableEq, Repr

/-- What training found at a DRAM channel (Tables 08-7, 03-22): MR5 to MR8 of both ranks, and the PHY settings by index. -/
structure ChanTrain where
  mr : List Byte
  phy : List Byte
  deriving DecidableEq, Repr

/-- What a boot step meets outside the device: `dram` tells step 10, which runs alongside steps 3 to 9, from the next step of
the others; the bytes that the flash returns from the start of the slot being read; and the DRAM as step 10 found it (`supported`: its
configuration is one of Table 08-1). -/
structure BootReport where
  dram : Bool
  slot : List Byte
  chans : List ChanTrain
  ranks2 : Bool
  dense : Bool
  dbi : Bool
  supported : Bool
  deriving DecidableEq, Repr


/-- The commands. Each docstring cites the rule of its table row. -/
inductive Instr where
  /-- R5. A write to a register that has no row of its own updates its fields according to their access types and any world or cove restriction. -/
  | registerWrite (ini : Initiator) (off : Nat) (v : Word)
  /-- R5. A read of an RC field returns its current value and then clears it. -/
  | readToClear (ini : Initiator) (off : Nat) (size : RegSize)
  /-- R7. An 8-bit or 16-bit register write is discarded and raises the Ripple access-error event. -/
  | narrowRegisterWrite (ini : Initiator) (off : Nat) (half : Bool) (v : Word)
  /-- R8. A read of the low word of a 64-bit register captures the high word into the initiator's holding register. -/
  | lowWordRead (ini : Initiator) (off : Nat)
  /-- R8. A read of the high word returns and consumes a pending capture for that register, or otherwise returns the current high word. -/
  | highWordRead (ini : Initiator) (off : Nat)
  /-- R9. An access to an unassigned offset reads 0 or is discarded, and raises ACCESS_ERR. -/
  | unassignedAccess (ini : Initiator) (addr : Nat) (write : Bool)
  /-- R33. Shoreline checks a DRAM access against the page entry, then allows it or denies it with an error response. -/
  | dramAccess (src : Source) (addr : Nat) (len : Nat) (write : Option (List Byte)) (tableUe : Bool)
  /-- R17. A block arbiter grants the highest-numbered request present in a phase. -/
  | arbitrationPhase (n : Fin 289) (reqs : List Requester) (ready : List Requester)
  /-- R136. A grant owner masked during its data phase has its transfer ended and discarded, and a new phase starts. -/
  | requesterMasked (n : Fin 289) (input : Fin 24)
  /-- R137. A region arbiter visits a cove, adds its share quantum to its deficit and admits its queued requests. -/
  | regionVisit (r : ShareRegion) (queued : List (Fin 32 × RegionReq)) (secureReqs : List RegionReq)
  /-- R198. Completed work frees its region slot, which can clear an OVER_SHARE mark. -/
  | regionSlotRelease (r : ShareRegion) (c : Fin 32) (k : SlotKind)
  /-- R129. A cell that stays stalled past its region's stall limit marks its block faulted. -/
  | cellStall (b : BlockId) (w : Source) (us : Nat)
  /-- R20. A parity or uncorrectable ECC error on a transfer retries it up to three times and escalates on the fourth failure. -/
  | transferError (b : BlockId) (w : Source) (ue : Bool) (fails : Nat)
  /-- R20. A faulted block is isolated, its work is drained, and a spare substitutes where one exists; otherwise the region raises the Spillway. -/
  | blockFaulted (b : BlockId) (w : Source) (kind : Fin 6) (hasWork : Bool)
  /-- R127. A request with no response after 2 ms receives an error response and raises ACCESS_ERR with KIND 3. -/
  | requestTimeout (src : Source) (addr : Nat) (write : Bool) (us : Nat)
  /-- R127. A response that arrives after its request has timed out is discarded and counted in the cove's discard counter. -/
  | lateResponse (cove : Fin 32)
  /-- R134. A write of FREEZE holds an arbiter's grant, or is refused on a Tarn bank that still holds displayed granules. -/
  | arbiterFreezeWrite (ini : Initiator) (n : Fin 289) (v : Word)
  /-- R139. A write of POP removes the head entry of the fault log. -/
  | flogPop (ini : Initiator)
  /-- R140. A region raises the Spillway, its timer starts and both safety-core pairs are interrupted. -/
  | spillRaised (r : Fin 7) (b : BlockId) (kind : Fin 6) (w : Source)
  /-- R142. A CLEAR command clears one pending region, which resumes without its isolated blocks. -/
  | spillClear (ini : Initiator) (r : Fin 8)
  /-- R142. A CONFIRM command declares chip safe state. -/
  | spillConfirm (ini : Initiator)
  /-- R140. A pending region's 1 ms timer expires and chip safe state is declared with BY_TIMEOUT set. -/
  | spillTimeout (r : Fin 7)
  /-- R24. A watched FIFO falls below its governor threshold and the governor starts raising VCORE. -/
  | govMargin (f : Watched) (fill : Nat) (active : Bool)
  /-- R24. The governor sends the next 10 mV raise step, and raises GOV_CEILING at 0.85 V. -/
  | govRaiseStep (below : Bool)
  /-- R25. After every watched FIFO has stayed above release for 100 ms, the governor lowers VCORE by one step. -/
  | govLowerStep (monitorsFast : Bool)
  /-- R25. A region speed monitor reports less than slow-corner speed while VCORE is below 0.62 V, and the governor raises VCORE. -/
  | speedMonitorSlow (r : Fin 7)
  /-- R50. A write of JTAG_EN or SEC_DEBUG opens or closes the test access port and raises DEBUG_CHANGE. -/
  | chipDebugWrite (ini : Initiator) (v : Word)
  /-- R50. A write of LOCK freezes JTAG_EN and SEC_DEBUG until the next chip reset. -/
  | debugLock (ini : Initiator) (v : Word)
  /-- R50. An IEEE 1149.1 instruction on the enabled test access port acts on boundary scan or on the debug modules. -/
  | jtagInstruction (j : JtagInstr)
  /-- R58. A pulse of 0.5–2 µs on SB_SYNC is received as a genlock pulse. -/
  | genlockPulse (ns : Nat)
  /-- R58. A pulse of 3–5 µs on SB_SYNC is received as a mark pulse and its edge is captured. -/
  | markPulse (ns : Nat)
  /-- R58. A pulse of any other width on SB_SYNC is ignored and counted. -/
  | invalidPulse (ns : Nat)
  /-- R58. The master sends a mark pulse at least once per millisecond, delayed away from genlock edges. -/
  | markPulseSend (nextGenlock : Option Nat)
  /-- R545. No valid pulse for 2 ms outside an announced DIP makes a member declare the heartbeat lost. -/
  | heartbeatLost
  /-- R59. A level mismatch on a driven SB_SYNC lasting over 100 ns releases the ball and raises event 509. -/
  | turnContention (ns : Nat)
  /-- R70. VBAT rises above 2.4 V from OFF, the seep domain is cleared and started, and the device enters SEEP. -/
  | vbatRise (mV : Nat)
  /-- R70. VBAT falls below 2.0 V in SEEP and the device enters OFF, losing the seep contents. -/
  | vbatFall (mV : Nat)
  /-- R96. An enabled edge on WAKE0 or WAKE1 held for 100 µs wakes the device from SEEP into RESET. -/
  | wakeEdge (w : Fin 2) (falling : Bool) (us : Nat)
  /-- R96. The seep tick count reaches the alarm with ALARM_EN set and the device wakes. -/
  | seepAlarm
  /-- R70. PORST_n falls and the device enters RESET with a power-on reset. -/
  | porstFall
  /-- R70. PORST_n rises in RESET: the straps are latched and BOOT starts, unless MODE is 111. -/
  | porstRise (turn : BitVec 11)
  /-- R79. WRST_n low for 1 µs places the channels in self-refresh and enters RESET. -/
  | warmReset (us : Nat)
  /-- R70. WRST_n rises in RESET with PORST_n high, and BOOT starts with the straps kept. -/
  | wrstRise
  /-- R70. The 1 ms internal reset of a command, restart or brown-out reset ends and BOOT starts. -/
  | internalResetEnd
  /-- R77. VCORE_OK low for 2 µs raises event 3, and the governor resends its target frame. -/
  | vcoreFault (us : Nat)
  /-- R77. VCORE_OK low for 50 µs causes a brown-out reset. -/
  | brownOut (us : Nat)
  /-- R70. VCORE_OK returns high, which starts the 1 ms internal reset after a brown-out. -/
  | vcoreOkRise
  /-- R81. A step of the boot sequence completes and the next begins; after step 14 the device enters RUN. -/
  | bootStepDone (r : BootReport)
  /-- R87. A write to the image-load data aperture stages image bytes in Tarn granules. -/
  | imgldDataWrite (off : Fin 32768) (data : List Byte)
  /-- R87. The completion write starts the acceptance checks on the staged image. -/
  | imgldComplete
  /-- R87. A write of ABORT discards the staged image. -/
  | imgldAbort
  /-- R87. The checks on a loaded image end: DONE continues the boot, or FAIL records the error and discards the image. -/
  | imgldCheckDone
  /-- R88. The ENTER_DIP command, where the Portage rules permit it, releases the sideband and gives TURN0–TURN11 their flash function. -/
  | enterDip (ini : Initiator) (limit : BitVec 10)
  /-- R88. The END_DIP command stops new flash commands and returns the device to RUN after the transfer in progress. -/
  | endDip (ini : Initiator)
  /-- R88. The DIP limit expires, which ends the DIP as END_DIP does and raises event 14. -/
  | dipLimit
  /-- R88. The flash transfer in progress completes after an END_DIP or the limit, and the Turnover balls and the sideband resume their RUN duties. -/
  | dipEndComplete
  /-- R89. A write of GO to CHIP_FL_CTRL issues a flash command, or sets ERR_PHASE outside DIP. -/
  | flashCommand (ini : Initiator) (v : Word)
  /-- R89. A flash command transfer completes and DONE is set. -/
  | flashTransferDone (data : List Byte)
  /-- R90. The SHUTDOWN_OFF command enters DRAIN with kind OFF. -/
  | shutdownOff (ini : Initiator)
  /-- R90. The SHUTDOWN_RESTART command enters DRAIN with kind RESTART. -/
  | shutdownRestart (ini : Initiator)
  /-- R78. The CHIP_RESET command enters RESET with a command reset. -/
  | chipReset (ini : Initiator)
  /-- R90. A step of the shutdown sequence completes and the next begins. -/
  | drainStepDone (log : Bool)
  /-- R90. DRAIN completes and the device enters TEST, or SEEP for a POWER_FAIL or THERMAL kind. -/
  | drainComplete
  /-- R90. The march completes and its results are written; the device enters RESET for RESTART or SEEP for OFF. -/
  | testComplete (r : MarchReport)
  /-- R92. VBST_IN stays below THRESH for 10 µs: event 4 is raised and the power-fail sequence runs. -/
  | powerFailWarning (mV us : Nat) (march : MarchReport)
  /-- R95. Tj reaches 125 °C: THERM_n is driven low and event 10 is raised. -/
  | thermWarn (tj : Int)
  /-- R95. Tj falls below 120 °C and THERM_n is released. -/
  | thermRelease (tj : Int)
  /-- R91. Tj reaches 130 °C: a THERMAL shutdown begins, or a shutdown in progress becomes THERMAL, or the march stops. -/
  | thermalLimit (tj : Int) (march : MarchReport)
  /-- R99. A write of the vote or FORCE_OFF registers recomputes each domain's power, which can raise a hold, override or refusal event. -/
  | pdVoteWrite (ini : Initiator) (reg : PdReg) (v : BitVec 14)
  /-- R101. A power domain finishes switching on, or finishes draining and switching off. -/
  | pdSwitchDone (d : Fin 14)
  /-- R105. The rolling 10 ms estimate against the effective cap sets throttling and UNMET. -/
  | pcapWindow (fixedMw : Nat) (lochMw : Nat) (rankMw : Nat) (coresMw : Nat)
  /-- R108. A read through the MRAM aperture returns the word corrected, counts corrections and reports uncorrectable words. -/
  | nvmApertureRead (ini : Initiator) (off : Nat) (size : AccSize) (ecc : EccResult)
  /-- R108. A write through the MRAM aperture stores the word atomically, or is refused in a protected region. -/
  | nvmApertureWrite (ini : Initiator) (off : Nat) (size : AccSize) (v : BitVec 64)
  /-- R121. A write of GO to CHIP_IMG_CTRL submits a delta image, which is read under the submitting world's tag. -/
  | deltaSubmit (ini : Initiator)
  /-- R122. The checks on a delta end: it is rejected whole, or its sections are accepted and PENDING is set. -/
  | deltaCheckDone
  /-- R122. An accepted section takes effect at the point that Table 04-10 gives for it. -/
  | deltaSectionApply (type : Nat)
  /-- R114. CMD 1 programs key slot 0 from the digest registers. -/
  | keyProgramSlot0 (ini : Initiator)
  /-- R114. CMD 2 programs key slot 1 from the digest registers. -/
  | keyProgramSlot1 (ini : Initiator)
  /-- R114. CMD 3 revokes key slot 0 permanently, unless the other slot is unusable. -/
  | keyRevokeSlot0 (ini : Initiator)
  /-- R114. CMD 4 revokes key slot 1 permanently, unless the other slot is unusable. -/
  | keyRevokeSlot1 (ini : Initiator)
  /-- R115. A write of CHIP_IMG_MINVER is stored in MRAM, unless it would lower the value. -/
  | minverWrite (ini : Initiator) (v : Word)
  /-- R120. A write of INVALIDATE clears the image cache tag. -/
  | imageCacheInvalidate (ini : Initiator)
  /-- R120. After a boot that missed the cache, the device rewrites the cache in RUN and writes the tag last. -/
  | imageCacheRewrite
  /-- R144. Inlet's capture arbiter grants an event raise, timestamps it and delivers records by its route. -/
  | eventCapture
  /-- R147. A write of INL_ROUTEs updates the route, or is discarded whole under the normal-world restrictions. -/
  | routeWrite (ini : Initiator) (n : Fin 512) (v : Word)
  /-- R149. A consumer's write of CONS frees ring space, can end an overflow episode and can signal the doorbell. -/
  | ringConsWrite (ini : Initiator) (ring : RingId) (v : Word)
  /-- R149. The HOLDOFF interval expires and a deferred doorbell is signalled. -/
  | doorbellHoldoff (ring : RingId)
  /-- R154. A write of TBS_SLEW starts a correction of the timebase at 1,000 ppm. -/
  | slewWrite (ini : Initiator) (v : Word)
  /-- R154. The remaining slew correction reaches 0 and event 510 is raised. -/
  | slewDone
  /-- R154. A write of the high word of TBS_STEP adds the amount to the timebase at once. -/
  | timebaseStep (ini : Initiator) (hi : Word)
  /-- R155. A 1PPS edge is captured and its interval is checked. -/
  | ppsCapture (falling : Bool)
  /-- R155. No 1PPS edge within 1.1 s of the last capture clears PPS_VALID and raises event 505. -/
  | ppsLost
  /-- R156. REFCLK stops and the timebase continues from the internal oscillator. -/
  | refclkLost
  /-- R156. REFCLK returns and the timebase switches back without a step. -/
  | refclkReturn
  /-- R160. The timebase reaches the START or END of an enabled window and event 507 is raised. -/
  | tbsWindow (n : Fin 8)
  /-- R165. A write of WEIR_HARTh_ENTER saves the normal bank and starts a secure call, or is refused. -/
  | weirEnter (ini : Initiator) (h : Fin 8) (service : BitVec 16) (bank : HartBank)
  /-- R166. A write of WEIR_HARTh_RETURN scrubs the hart's secure state and restores the normal bank. -/
  | weirReturn (ini : Initiator) (h : Fin 8) (status : BitVec 8) (a : List (BitVec 64)) (cycles : Word)
  /-- R167. A Weir call that exceeds MAX_RES_US is forced to return, and the locks of its port are abandoned. -/
  | weirTimeout (h : Fin 8) (cycles : Word)
  /-- R171. A write of WEIR_L3_SEC_WAYS starts cleaning the ways that change world. -/
  | l3SecWaysWrite (ini : Initiator) (ways : BitVec 16)
  /-- R171. The way cleaning ends, BUSY falls and event 67 is raised. -/
  | l3RepartDone
  /-- R173. A write of COVE_IOT_INVAL removes IOTLB entries and responds once their accesses have completed. -/
  | iotInval (ini : Initiator) (all : Bool) (c : Fin 32)
  /-- R178. OP 1 scrubs FREE pages and makes them OWNED by OWNER. -/
  | shorAssign (ini : Initiator) (owner : Fin 32) (reader : Fin 32)
  /-- R178. OP 2 makes OWNED pages SHARED with READER. -/
  | shorShare (ini : Initiator) (owner : Fin 32) (reader : Fin 32)
  /-- R178. OP 3 returns SHARED pages to OWNED. -/
  | shorUnshare (ini : Initiator) (owner : Fin 32) (reader : Fin 32)
  /-- R178. OP 4 scrubs OWNED or SHARED pages and makes them FREE. -/
  | shorRelease (ini : Initiator) (owner : Fin 32) (reader : Fin 32)
  /-- R178. OP 5 makes FREE pages SECURE. -/
  | shorTakeSecure (ini : Initiator) (owner : Fin 32) (reader : Fin 32)
  /-- R178. OP 6 scrubs SECURE pages and makes them FREE. -/
  | shorReleaseSecure (ini : Initiator) (owner : Fin 32) (reader : Fin 32)
  /-- R178. OP 7 makes FREE pages OWNED without a scrub. -/
  | shorAssignKeep (ini : Initiator) (owner : Fin 32) (reader : Fin 32)
  /-- R179. A command that waited for the other world's command to end begins running. -/
  | shorCmdStart
  /-- R178. Every entry of a command is final and every old access has completed: DONE is set and event 70 is raised. -/
  | shorCmdDone
  /-- R175. A write of SHOR_QUERY selects a page, whose entry is then returned in SHOR_QUERY_RESULT. -/
  | shorQuery (ini : Initiator) (page : Fin 524288)
  /-- R180. A write of SLU_PORT_ACQ acquires a lock, queues for it, or returns a refusal code. -/
  | sluAcquire (ini : Initiator) (port : Fin 536) (lock : Fin 256) (wait : Bool) (same : List (Initiator × Fin 536 × Bool))
  /-- R183. A write of SLU_PORT_REL frees the lock or grants it to the head waiter. -/
  | sluRelease (ini : Initiator) (port : Fin 536) (lock : Fin 256)
  /-- R183. A write of CANCEL removes the port from its lock's wait queue. -/
  | sluCancel (ini : Initiator) (port : Fin 536)
  /-- R184. A write of SLU_FORCE abandons the named lock. -/
  | sluForce (ini : Initiator) (lock : Fin 256)
  /-- R185. A write of a lock's configuration, discarded with CFG_REFUSED unless the lock is FREE with no waiters. -/
  | sluLockConfigWrite (ini : Initiator) (lock : Fin 256) (coves : Bool) (v : Word)
  /-- R188. A cove driver's write of PROD offers new descriptors to the engine. -/
  | queueProdWrite (ini : Initiator) (c : Fin 32) (q : Fin 64) (v : Word)
  /-- R188. An engine reads the next queue descriptor under the cove's tag, accepts it and advances CONS. -/
  | descriptorFetch (c : Fin 32) (q : Fin 64)
  /-- R189. A write of COVE_Qq_CFG sets the ring and engine, or starts or stops the queue. -/
  | queueCfgWrite (ini : Initiator) (c : Fin 32) (q : Fin 64) (v : Word)
  /-- R190. Clearing FAULT restarts the queue at its next descriptor. -/
  | queueFaultClear (ini : Initiator) (c : Fin 32) (q : Fin 64)
  /-- R192. An access to a cove page by an initiator without rights reads 0 or is discarded, and raises event 106. -/
  | covePageDenied (ini : Initiator) (c : Fin 32) (off : Nat) (write : Bool)
  /-- R194. A Function Level Reset of VF c is an instance reset of cove c. -/
  | vfFlr (c : Fin 32)
  /-- R194. A PF Function Level Reset, or clearing VF Enable, resets every external cove whose VF goes away. -/
  | pfFlr (clearVfEnable : Bool)
  /-- R195. A request to VF BAR2 is translated and checked under the cove's tag, then served, dropped or aborted. -/
  | vfBar2Request (c : Fin 32) (off : Nat) (len : Nat) (write : Option (List Byte))
  /-- R196. The PCIe transmit FIFO empties while a TLP is being assembled, idle is sent and event 111 is raised. -/
  | pcieStarved
  /-- R212. The PCIe link trains, is lost, or changes speed or width. -/
  | pcieLink (up : Bool) (speed : Fin 5) (width : Fin 9) (vfEnable : Bool) (busMaster : BitVec 32)
  /-- R206. A PCIe error on a VF is counted under AER and, when it is fatal, confines the cove. -/
  | pcieAerError (c : Fin 32) (sev : AerSeverity) (status : Fin 32)
  /-- R199. A write of a cove's shares applies to new admissions, or is refused when a sum would exceed 1,024. -/
  | shareWrite (ini : Initiator) (c : Fin 32) (regB : Bool) (v : Word)
  /-- R204. The RESET command starts an instance reset of the cove. -/
  | coveReset (ini : Initiator) (c : Fin 32)
  /-- R205. The FREEZE command quiesces the cove's engine work. -/
  | coveFreeze (ini : Initiator) (c : Fin 32)
  /-- R201. The THAW command returns a FROZEN cove to READY. -/
  | coveThaw (ini : Initiator) (c : Fin 32)
  /-- R207. The SAVE command writes the cove state record and seals it. -/
  | coveSave (ini : Initiator) (c : Fin 32)
  /-- R210. The RESTORE command checks a cove state record and applies it to a FROZEN cove. -/
  | coveRestore (ini : Initiator) (c : Fin 32)
  /-- R206. The CONFINE command confines the cove. -/
  | coveConfine (ini : Initiator) (c : Fin 32)
  /-- R205. Every engine has finished its freeze actions and the cove becomes FROZEN. -/
  | coveQuiesced (c : Fin 32)
  /-- R204. Step 5 of an instance reset completes and the cove becomes READY or DISABLED. -/
  | coveResetDone (c : Fin 32)
  /-- R207. The state record has been written, or its write was denied, and the cove returns to FROZEN. -/
  | coveSaved (c : Fin 32)
  /-- R210. The restore checks end, and the state is applied or refused. -/
  | coveRestored (c : Fin 32)
  /-- R221. A granted request enters a channel's read or write queue, merging with an earlier write or forwarding its data. -/
  | resRequestEnter (src : Source) (user : ResUser) (pa : Nat) (len : Nat) (write : Option (List Byte))
  /-- R225. The channel scheduler issues the next DRAM command under its age, hit and read-write rules. -/
  | resCommandIssue (ch : Fin 4) (busy : List Nat) (wdataReady : Bool) (readSpace : Bool)
  /-- R217. Read data returns and is checked by inline ECC: it is corrected, retried, or failed with ECC_UE. -/
  | resReadData (ch : Fin 4) (ecc : EccResult) (link : Nat)
  /-- R228. Every 4 ms MR4 of each rank is read and the refresh multiplier is applied. -/
  | mr4Poll (ch : Fin 4) (rank : Fin 2) (rate : BitVec 4) (hot : Bool)
  /-- R228. A refresh falls due, and is postponed or forced ahead of requests. -/
  | refreshDue (ch : Fin 4) (rank : Fin 2) (rfm : Option (Fin 16))
  /-- R230. Patrol scrub reads the next line, rewriting correctable errors and recording uncorrectable ones. -/
  | patrolScrub (ch : Fin 4) (ecc : EccResult) (link : Nat)
  /-- R220. Input 0 initialises the next uninitialised page in RUN, and raises INIT_DONE after the last. -/
  | pageInit
  /-- R231. A write of GO to RES_PPR_CMD starts a soft repair of the target row, or refuses it. -/
  | pprStart (ini : Initiator) (noResource : Bool)
  /-- R231. The repaired row is written back, the bank is released and the repair is listed in MRAM. -/
  | pprDone (ok : Bool) (badCols : List (Fin 32))
  /-- R234. Training OP 1 writes a pattern over the training area. -/
  | trnWritePattern (ini : Initiator) (chmask : BitVec 4) (pat : Fin 4) (lines : BitVec 11)
  /-- R234. Training OP 2 reads the training area and compares it with the pattern. -/
  | trnReadCompare (ini : Initiator) (chmask : BitVec 4) (pat : Fin 4) (lines : BitVec 11)
  /-- R234. Training OP 3 writes, reads and compares the pattern. -/
  | trnWriteReadCompare (ini : Initiator) (chmask : BitVec 4) (pat : Fin 4) (lines : BitVec 11)
  /-- R234. Training OP 4 runs a command-bus compare. -/
  | trnCmdBusCompare (ini : Initiator) (chmask : BitVec 4) (pat : Fin 4) (lines : BitVec 11)
  /-- R234. Training OP 5 samples WCK. -/
  | trnWckSample (ini : Initiator) (chmask : BitVec 4) (pat : Fin 4) (lines : BitVec 11)
  /-- R234. A training operation or mode-register access completes and DONE is set. -/
  | trnDone (errs : List Nat) (counts : List Nat) (mrr : BitVec 8)
  /-- R234. An MR access with WRITE set issues an MRW. -/
  | modeRegisterWrite (ini : Initiator) (ch : Fin 4) (rank : Fin 2) (sc : Fin 2) (ma : BitVec 7) (op : BitVec 8)
  /-- R234. An MR access with WRITE clear issues an MRR and returns the value. -/
  | modeRegisterRead (ini : Initiator) (ch : Fin 4) (rank : Fin 2) (sc : Fin 2) (ma : BitVec 7)
  /-- R235. A channel fails training: all channels retrain at a lower rate, or the channel is FAILED at 3200 MT/s. -/
  | trainingFail (ch : Fin 4)
  /-- R283. A write of GO to BAS_SLOTi_COMMIT copies the staged descriptors, checks the commit and accepts or refuses it. -/
  | slotCommit (ini : Initiator) (slot : Fin 64) (v : Word)
  /-- R284. The reads of a queue commit descriptor and its layer descriptors complete, and the commit is decided. -/
  | queueCommitAccept (c : Fin 32) (q : Fin 64)
  /-- R291. At a head's latch point Basin captures the state, tests acquire fences and starts a composition when one is needed. -/
  | latchPoint (h : Fin 8)
  /-- R293. A waiting granule reservation is granted and its composition proceeds. -/
  | reservationGrant (h : Fin 8)
  /-- R293. A dirty tile is written in solid, coded or raw form and the unused part of its reservation is returned. -/
  | tileComposed (h : Fin 8) (tile : Nat) (nvr : Bool) (mapEcc : Bool)
  /-- R580. A layer job of a composition completes, which frees its slot and writes the release fence once its reads are done. -/
  | layerJobDone (h : Fin 8) (slot : Fin 64)
  /-- R294. Every dirty tile and owner entry of a composition has been written. -/
  | compositionComplete (h : Fin 8)
  /-- R298. A denied or untranslatable source read ends the composition, which restarts with the slot shown as its placeholder. -/
  | layerFault (h : Fin 8) (slot : Fin 64)
  /-- R294. A head's frame start increments the sequence, swaps in a complete composition or repeats the frame, and applies timed changes. -/
  | frameStart (h : Fin 8) (mapEcc : Option Nat)
  /-- R273. A secure-world write through the Tarn debug window writes granule bytes with fresh SECDED. -/
  | tarnDebugWrite (ini : Initiator) (off : Fin 134217728) (data : List Byte) (ecc : EccResult)
  /-- R300. The patrol reads the next named granule, with its findings handled under R299. -/
  | tarnPatrolRead (word : Fin 128) (ecc : EccResult) (mapEcc : Option (Fin 8))
  /-- R302. Setting RETIRE removes a bank's free granules from the pool and starts evacuating its tiles. -/
  | bankRetire (ini : Initiator) (b : Fin 256) (v : Word)
  /-- R303. A write of PHYS while EMPTY is 1 maps the logical bank to another physical bank. -/
  | bankRemap (ini : Initiator) (b : Fin 256) (v : Word)
  /-- R313. An Outlet engine decodes the next strip of tiles into a freed scan-buffer slot. -/
  | stripDecode (e : Fin 12) (strip : Nat) (fill : Fin 96) (reads : List (Nat × EccResult)) (mapEcc : List Nat) (bufUe : List (Nat × Nat))
  /-- R317. An ordinary head meets a missing pixel and sends BG_COLOUR for the rest of the line. -/
  | scanUnderrun (h : Fin 8) (line : Nat) (col : Nat)
  /-- R318. A safety head meets a missing pixel, aborts the frame and starts the next at V_SYNC. -/
  | frameAbort (h : Fin 8) (line : Nat) (col : Nat)
  /-- R322. Dual-scan pixels differ, the frame aborts with cause 1 and event 261 is raised. -/
  | lockstepMismatch (h : Fin 8) (line : Nat) (col : Nat)
  /-- R324. A pixel PLL loses lock and the spare PLL is programmed to replace it. -/
  | pllUnlock (p : Fin 9)
  /-- R324. The spare PLL locks and the head restarts at a new frame start. -/
  | pllSpareIn
  /-- R330. A write of GO to OUT_PORTn_TRAIN retrains the link. -/
  | portRetrain (ini : Initiator) (n : Fin 8)
  /-- R326. Link training ends with LINK_UP, LINK_FALLBACK, or LINK_DOWN after every acceptable rate fails. -/
  | linkTrainingEnd (n : Fin 8) (ok : BitVec 4)
  /-- R327. HPD low for over 2 ms takes the link down with cause 0. -/
  | hpdUnplug (n : Fin 8) (us : Nat)
  /-- R327. A low HPD pulse of 0.5–2 ms raises event 269 and, with AUTO_TRAIN, checks the link status. -/
  | hpdIrq (n : Fin 8) (us : Nat) (loss : Bool)
  /-- R327. HPD rises after an unplug and training starts when AUTO_TRAIN is set. -/
  | hpdPlug (n : Fin 8)
  /-- R329. AUX command 0 issues a native write. -/
  | auxNativeWrite (ini : Initiator) (n : Fin 8) (len : Fin 16)
  /-- R329. AUX command 1 issues a native read. -/
  | auxNativeRead (ini : Initiator) (n : Fin 8) (len : Fin 16) (code : Fin 3)
  /-- R329. AUX command 2 issues an I²C write. -/
  | auxI2cWrite (ini : Initiator) (n : Fin 8) (len : Fin 16)
  /-- R329. AUX command 3 issues an I²C read. -/
  | auxI2cRead (ini : Initiator) (n : Fin 8) (len : Fin 16)
  /-- R329. AUX command 4 issues an I²C write with MOT. -/
  | auxI2cWriteMot (ini : Initiator) (n : Fin 8) (len : Fin 16)
  /-- R329. AUX command 5 issues an I²C read with MOT. -/
  | auxI2cReadMot (ini : Initiator) (n : Fin 8) (len : Fin 16)
  /-- R329. A sink's AUX reply completes the transaction, or a DEFER schedules a retry. -/
  | auxReply (n : Fin 8) (reply : Fin 3) (data : List Byte)
  /-- R329. The 400 µs interval after a DEFER ends and the transaction is retried. -/
  | auxDeferRetry (n : Fin 8)
  /-- R329. An AUX transaction goes 400 µs unanswered and is retried, or reports TIMEOUT after three. -/
  | auxTimeout (n : Fin 8)
  /-- R331. A panel power-on or power-off delay elapses and the head enable or disable sequence continues. -/
  | panelDelayElapsed (h : Fin 8)
  /-- R331. HPD does not arrive within 500 ms of step 3: LINK_DOWN with cause 0 and scan begins. -/
  | hpdWaitTimeout (h : Fin 8)
  /-- R332. A head being disabled drops its backlight at the next frame start and later powers the panel off. -/
  | headDisable (h : Fin 8)
  /-- R333. A backlight PWM period starts and the new duty is applied. -/
  | blPwmPeriod (h : Fin 8)
  /-- R334. The ambient-light bus reads its sensor and each head updates its filtered lux. -/
  | alsSample (b : Fin 4) (data : List Byte)
  /-- R334. A NACK, or a transfer not finished in 10 ms, sets ERR and raises event 273. -/
  | alsErr (b : Fin 4)
  /-- R336. At a reference instant the head's frame-start error is computed and the PLL trim is steered. -/
  | genlockReference (h : Fin 8) (err : Int) (refNs : Nat)
  /-- R336. No reference instant for three periods clears LOCKED and holds the trim. -/
  | genlockLost (h : Fin 8)
  /-- R313. A write of MIN_CLR restarts the recorded minimum fill. -/
  | fifoMinClr (ini : Initiator) (h : Fin 8) (v : Word)
  /-- R345. A write of GO to SND_UNITu_EXP_PUSH adds an expected entry, or refuses it. -/
  | sealExpPush (ini : Initiator) (u : Fin 64) (tag : BitVec 8) (flush : Bool)
  /-- R345. A write of FLUSH empties a unit's table of expected entries. -/
  | sealExpFlush (ini : Initiator) (u : Fin 64)
  /-- R346. A window's last pixel passes the tap, and the result is decided, recorded and acted on. -/
  | sealResult (u : Fin 64) (overflow : Bool) (noLink : Bool)
  /-- R354. A write of GO to SND_GENg_CTRL arms a general unit for a memory check. -/
  | genCheckStart (ini : Initiator) (g : Fin 16) (c : Fin 32) (compare : Bool)
  /-- R354. A general check ends as MATCH, MISMATCH, COMPUTED, FAULT or STALE. -/
  | genDone (g : Fin 16)
  /-- R365. A Loch job whose waits are all satisfied checks its work and starts it. -/
  | lochJobStart (c : Fin 32) (q : Fin 64)
  /-- R363. A job ends: its signal fences are written and its completion record follows. -/
  | lochJobEnd (c : Fin 32) (q : Fin 64)
  /-- R367. Loch re-reads the fences of waiting jobs at its poll period. -/
  | fencePoll
  /-- R367. A write of LOCH_FENCE_KICK re-reads the waiting fences of that cove. -/
  | fenceKick (ini : Initiator) (c : Fin 32)
  /-- R366. A wait reaches its deadline unsatisfied and the job ends with WAIT_TIMEOUT. -/
  | waitTimeout (c : Fin 32) (q : Fin 64) (k : Fin 8)
  /-- R397. A free cluster takes the waiting dispatch of the lowest rank. -/
  | dispatchPlace (lc : Fin 16)
  /-- R360. A dispatch completes, is charged its cluster time and frees its region slot. -/
  | dispatchComplete (lc : Fin 16) (ns : Nat) (rep : DispReport)
  /-- R379. The binner finds no free chunk, so the touched tiles are rendered, spilled and their chunks released. -/
  | partialRender (c : Fin 32) (q : Fin 64) (tiles : List (Nat × TileBin))
  /-- R377. A write of LOCH_CTXq_POOL_ADD appends chunks to the tile-list pool. -/
  | poolAdd (ini : Initiator) (c : Fin 32) (q : Fin 64) (n : BitVec 16)
  /-- R386. A job's running time exceeds TIMEOUT_MS and its dispatches are discarded. -/
  | jobTimeout (c : Fin 32) (q : Fin 64)
  /-- R398. The timebase reaches DEADLINE minus LEAD_US and the graphics job becomes urgent. -/
  | jobUrgent (c : Fin 32) (q : Fin 64)
  /-- R400. An urgent dispatch with no free cluster chooses a victim, which stops and is saved. -/
  | preemptStart
  /-- R401. A victim's state has been saved and the urgent dispatch starts on the cluster. -/
  | preemptSaveDone (lc : Fin 16) (ns : Nat) (ran : Nat) (bytes : Nat)
  /-- R401. A write of CLR restarts the recorded longest preemption at 0. -/
  | preemptMaxClear (ini : Initiator)
  /-- R407. A texture fetch through a sparse header returns texels or FILL according to residency. -/
  | sparseFetch (lc : Fin 16) (hdr : Nat) (layer : Nat) (px : Nat) (py : Nat) (lod : Nat) (foot : List (Nat × Nat × Nat × Nat))
  /-- R414. A traversal instruction walks the BVH and returns MISS, HIT, CANDIDATE or FAULT. -/
  | rayTraverse (lc : Fin 16) (inv : Nat) (ray : List Byte)
  /-- R415. The resume form of the instruction accepts or rejects a candidate and continues traversal. -/
  | rayResume (lc : Fin 16) (inv : Nat) (token : BitVec 64) (accept : Bool)
  /-- R431. At each 96 kHz tick Pool computes every output from its active inputs. -/
  | mixTick (starved : List (Nat × Nat))
  /-- R429. A TDM frame arrives and enters the receive FIFO, dropping the oldest frame when the FIFO is full. -/
  | tdmRxFrame (n : Fin 4) (slots : List Word)
  /-- R428. A TDM transmit frame falls due, and its slots repeat their last samples when the FIFO is empty. -/
  | tdmTxFrame (n : Fin 4)
  /-- R425. A slave port measures an FSYNC period and gains or loses LOCKED. -/
  | tdmFsync (n : Fin 4) (ps : Nat)
  /-- R425. Four frame periods without FSYNC clear LOCKED. -/
  | tdmFsyncLost (n : Fin 4)
  /-- R439. A write of a crosspoint node takes effect at the next tick, or is held while its column crossfades. -/
  | xpNodeWrite (ini : Initiator) (o : Fin 96) (inp : Fin 160) (g : BitVec 24)
  /-- R440. A write of GO to POOL_XP_SWAP starts a 64-tick crossfade to the shadow gains. -/
  | xpSwap (ini : Initiator)
  /-- R440. The 64th tick of a crossfade completes it, and event 424 is raised. -/
  | xpSwapDone
  /-- R438. A write of COMMIT applies a biquad's five staged coefficients at the next tick. -/
  | biquadCommit (ini : Initiator) (n : Fin 512)
  /-- R446. A stream descriptor is accepted, anchored, and late frames are discarded. -/
  | streamDescAccept (c : Fin 32) (q : Fin 64)
  /-- R447. 192 ticks of fading elapse and the stream becomes STALLED. -/
  | streamStalled (c : Fin 32) (q : Fin 64)
  /-- R451. START begins a tone generator at segment 0. -/
  | toneStart (ini : Initiator) (g : Fin 16) (at_ : Bool)
  /-- R451. STOP ends a tone generator at the end of its current pass. -/
  | toneStop (ini : Initiator) (g : Fin 16)
  /-- R451. STOP_NOW ramps the level to 0 over 96 ticks and ends. -/
  | toneStopNow (ini : Initiator) (g : Fin 16)
  /-- R450. A tone segment's duration ends and the next segment, repeat or end of play follows. -/
  | toneSegmentEnd (g : Fin 16)
  /-- R454. Every 96 ticks the recorder tap writes one block to its ring, or drops it when the ring is full. -/
  | recBlock
  /-- R467. Each 48 kHz control sample runs every channel's loop and advances its waveform. -/
  | controlSample (slew : BitVec 16)
  /-- R464. A write of GO to PLA_FXp_CMD submits an effect, checked per channel. -/
  | effectGo (ini : Initiator) (port : Fin 136) (tag : BitVec 8)
  /-- R465. A write of STOP to PLA_FXp_CMD stops the port's effect on its channels and removes it from queues. -/
  | effectStop (ini : Initiator) (port : Fin 136)
  /-- R466. An effect completes its last pass and WAVE_END reaches the sequencer. -/
  | waveEnd (c : Fin 16)
  /-- R470. |a_m| has stayed below THRESH for 96 control samples. -/
  | settled (c : Fin 16)
  /-- R471. A channel sequencer's timer expires. -/
  | sequencerTimer (c : Fin 16)
  /-- R474. A Shallows trigger submits the matching trigger entry's effect, or is counted as a miss. -/
  | touchTrigger
  /-- R469. In a sense gap the induced voltage is measured and the resonance tracked. -/
  | senseGap (c : Fin 16) (vs : Int) (cross : Option Int)
  /-- R476. Geyser detects a drive fault, acts on its outputs and raises FAULT in the channels concerned. -/
  | driveFault (code : Fin 8) (c : Fin 16) (vg5 : Bool)
  /-- R477. A write of CLEAR raises FAULT_CLEAR when the cause has ended. -/
  | faultClear (ini : Initiator) (c : Fin 16) (ended : Bool)
  /-- R478. An accelerometer read over SPI updates the measured acceleration, or marks the accelerometer faulty. -/
  | accRead (k : Fin 8) (b0 : Byte) (b1 : Byte)
  /-- R478. A write of ACC_RETRY clears the accelerometer faults. -/
  | accRetry (ini : Initiator)
  /-- R463. 100 ms after the last piezo channel becomes IDLE, the boost returns to IDLE_V. -/
  | boostIdleTimeout
  /-- R483. A touch scan frame starts at its scheduled instant and runs its listen, self and mutual steps. -/
  | scanFrameStart (sn : Fin 4) (noise : List Nat)
  /-- R483. At frame end candidates are filtered and matched, contact tables run, and records and triggers are produced. -/
  | scanFrameEnd (sn : Fin 4) (nodes : List Int) (tx : List Int) (rx : List Int)
  /-- R497. A scan frame cut short is dropped whole and event 466 is raised. -/
  | touchFrameDropped (sn : Fin 4) (cause : Fin 4)
  /-- R504. The main die receives HELLO from Wellhead and answers BIND, and the link comes up. -/
  | hello
  /-- R504. The main die receives KEEPALIVE from Wellhead. -/
  | keepalive
  /-- R504. A 1 ms or 100 ms timer sends HELLO, KEEPALIVE or TIME on the Wellhead link. -/
  | welSendTimer (slow : Bool)
  /-- R504. No valid frame for 10 ms takes the Wellhead link down and discards any plane being received. -/
  | welLinkDown
  /-- R503. A link frame with a bad CHECK, TYPE or LENGTH is discarded and counted. -/
  | welMsgErr
  /-- R506. PLANE_BEGIN starts a plane transfer and abandons any unfinished one. -/
  | planeBegin (id : BitVec 16) (nvr : Bool) (w : BitVec 16) (hgt : BitVec 16) (validMs : BitVec 16)
  /-- R506. A PLANE_DATA chunk is stored at its offset. -/
  | planeData (id : BitVec 16) (offset : Word) (data : List Byte)
  /-- R506. PLANE_END completes a transfer, which the main die answers with PLANE_ACK. -/
  | planeEnd (id : BitVec 16) (crc : Word)
  /-- R509. REFRESH restarts the validity of the current or waiting reading plane. -/
  | refresh (id : BitVec 16) (validMs : BitVec 16)
  /-- R508. SHOW_NVR sets the COMMAND reason. -/
  | showNvr
  /-- R351. EXPECT pushes an expected entry into the legal window's unit. -/
  | expect (seq : Word) (value : Word) (tag : BitVec 8)
  /-- R351. FLUSH empties the legal window's expected entries. -/
  | flush
  /-- R516. READING updates the WEL_READc copies and raises event 485. -/
  | reading (c : Fin 2) (status : BitVec 6) (unit : BitVec 8) (decimals : BitVec 8) (value : Word) (measSeq : Word)
  /-- R511. IDENT is copied into WEL_IDENT0–4 and event 487 is raised. -/
  | ident (payload : List Byte)
  /-- R508. The timebase passes acceptance plus VALID_MS of the current plane, which sets EXPIRED. -/
  | nvrExpired
  /-- R508. A write of WEL_CTRL.FORCE_NVR sets or clears the FORCED reason. -/
  | forceNvrWrite (ini : Initiator) (v : Bool)
  /-- R507. A write of WEL_PALk forces the keep-clear and NVR tiles at the next composition. -/
  | paletteWrite (ini : Initiator) (k : Fin 4) (colour : BitVec 30)
  /-- R504. Wellhead receives BIND and its side of the link comes up. -/
  | bind (head : Fin 8) (window : Fin 8) (depth30 : Bool) (x0 : BitVec 16) (y0 : BitVec 16) (x1 : BitVec 16) (y1 : BitVec 16) (seq : Word)
  /-- R506. Wellhead receives PLANE_ACK and resends missing or failed chunks. -/
  | planeAck (id : BitVec 16) (status : Fin 5) (missing : Word) (nvr : Bool) (data : List Byte)
  /-- R510. Wellhead receives a seal RESULT and judges whether the reading was displayed. -/
  | result (seq : Word) (status : Fin 6) (tag : BitVec 8)
  /-- R513. Wellhead receives TIME and timestamps its audit records. -/
  | time (t : BitVec 64)
  /-- R510. No RESULT for 200 ms with the link up records DISPLAY_FAULT and sends SHOW_NVR. -/
  | resultTimeout
  /-- R502. WH_RESET_n resets the Wellhead die. -/
  | whReset
  /-- R512. A transition of WH_SEALSW opens or closes the seal and is recorded in the audit trail. -/
  | sealSwitch (isOpen : Bool)
  /-- R511. At reset and every 24 h, Wellhead recomputes its firmware checksum. -/
  | checksumCheck (computed : Word)
  /-- R514. The UART command ID returns the identification and seal state. -/
  | idCmd
  /-- R514. The UART command AUDIT n returns audit record n. -/
  | audit (n : Nat)
  /-- R514. The UART command READ c returns channel c's reading. -/
  | read (c : Nat) (status : BitVec 6) (unit : BitVec 8) (decimals : BitVec 8) (value : Word) (measSeq : Word)
  /-- R514. The UART command PARAM k returns a sealed parameter. -/
  | param (k : BitVec 16)
  /-- R514. The UART command SET k v changes a parameter and records PARAM_CHANGE, or is refused. -/
  | setCmd (k : BitVec 16) (v : Word)
  /-- R511. The UART command SHOWID shows the identification in the legal plane for 10 s. -/
  | showid
  /-- R529. DRG_CMD OP 1 tests an untested, spare or isolated instance. -/
  | drgTest (ini : Initiator) (inst : BitVec 12)
  /-- R528. DRG_CMD OP 2 makes a planned substitution of a block in service. -/
  | drgSwapIn (ini : Initiator) (inst : BitVec 12)
  /-- R527. DRG_CMD OP 4 programs a fuse entry from a map entry. -/
  | drgFuse (ini : Initiator) (entry : BitVec 12)
  /-- R529. An in-service test ends and the instance becomes a spare or stays isolated. -/
  | testDone (marches : List InstMarch)
  /-- R528. A planned substitution ends and the freed block becomes UNTESTED. -/
  | swapDone
  /-- R527. Fuse programming ends with FUSE_DONE or FUSE_FAIL. -/
  | fuseProgramDone (ok : Bool)
  /-- R535. A Portage link trains, the partners exchange identity and PRESENT is updated. -/
  | portageLinkUp (l : Fin 2) (partner : Fin 4) (chipId : Word) (reach : BitVec 4) (booting : BitVec 4)
  /-- R540. A Portage link goes down, its flits in flight are lost and it retrains. -/
  | portageLinkDown (l : Fin 2) (cause : Fin 3) (reach : BitVec 4)
  /-- R538. A flit is received and accepted, forwarded or NAKed. -/
  | flitReceive (l : Fin 2) (flit : List Byte) (content : FlitContent)
  /-- R541. A Portage transmit FIFO empties during flit assembly, idle is sent and event 501 is raised. -/
  | ptgStarved (l : Fin 2)
  /-- R542. A MARK message is paired with the captured mark edge to steer the member's timebase. -/
  | mark (t : BitVec 64) (late : Bool)
  /-- R544. A member requests the DIP token from the master. -/
  | dipTokenRequest (pos : Fin 4)
  /-- R544. A member receives DIP_ANNOUNCE and suspends heartbeat loss for the announced limit. -/
  | dipAnnounce (limitMs : Nat)
  /-- R545. A member's failover wait ends without a valid pulse and it takes the master role. -/
  | failoverWaitEnd
  /-- R545. A ROLE message records the new master and raises event 498. -/
  | role (pos : Fin 4)
  /-- R546. Position 0 takes the master role when it has seen no pulse 3 ms after BOOT entry. -/
  | masterStartupTimeout
  /-- R546. PTG_ROLE RELEASE_TO hands the master role to the target position. -/
  | releaseTo (ini : Initiator) (target : Fin 4)
  /-- R543. An edge on SB_ALERT_n is captured and event 503 is raised. -/
  | sbAlert (level : Bool)
  /-- R553. A PTG_RACC GO with WRITE clear reads a register of another position. -/
  | remoteRead (ini : Initiator) (dest : Fin 4)
  /-- R553. A PTG_RACC GO with WRITE set writes a register of another position. -/
  | remoteWrite (ini : Initiator) (dest : Fin 4)
  /-- R548. A write of GO to PTG_CPYk_CTRL starts a copy to another position. -/
  | copyStart (ini : Initiator) (k : Fin 4) (v : Word)
  /-- R548. A copy ends with its status, after writing its fence on success. -/
  | copyDone (k : Fin 4) (far : CopyEnd)
  /-- R551. A write of EN in PTG_MIRm_CFG binds a mirror head, or is refused. -/
  | mirrorBind (ini : Initiator) (m : Fin 8) (v : Word) (alike : Bool) (srcSafety : Bool)
  /-- R552. A complete SWAP_END makes the mirror head swap in the streamed frame at its next frame start. -/
  | swapEnd (m : Fin 8) (frame : Word)
  /-- R141. A safety-core pair fails its lockstep compare; the pair is held in reset, its Sluice ports are abandoned and the Core region raises the Spillway. -/
  | lockstepCompareFailure (k : Fin 2)
  /-- R544. A member receives the master's END message after the master's DIP and resumes treating a missing heartbeat as lost. -/
  | endMessage
  /-- R544. A member receives the DIP token from the master, which permits its ENTER_DIP. -/
  | dipTokenGrant
  /-- R544. The master receives a member's returned DIP token at the member's END_DIP or DIP limit, and may grant or take the token again. -/
  | dipTokenReturn (pos : Fin 4)
  deriving DecidableEq, Repr

end Sys2Proof
end

