-- ==== Sys2Proof/Machine/Bits.lean ====
section
/-!
DEFINITION. Bit fields, two's complement, saturation and little-endian bytes of natural numbers
(00.4: a bit range is [msb:lsb]; multi-byte fields are little-endian), and CRC-32C (R342).
-/
namespace Sys2Proof.Machine

/-- Bits [hi:lo] of `v`. -/
def bits (v hi lo : Nat) : Nat := (v >>> lo) % 2 ^ (hi - lo + 1)

/-- Bit `i` of `v`. -/
def bit (v i : Nat) : Bool := v.testBit i

/-- One for `true`, zero for `false`. -/
def b2n (b : Bool) : Nat := if b then 1 else 0

/-- `v` with bits [hi:lo] replaced by the low bits of `x`. -/
def setBits (v hi lo x : Nat) : Nat :=
  v - ((v >>> lo) % 2 ^ (hi - lo + 1)) * 2 ^ lo + (x % 2 ^ (hi - lo + 1)) * 2 ^ lo

/-- The bits of `v` that are 0 in `m`, below bit `w`. -/
def clearMask (w v m : Nat) : Nat := v &&& (2 ^ w - 1 - m % 2 ^ w)

/-- The number of bits set among the lowest `w` bits of `v`. -/
def popCount : Nat → Nat → Nat
  | 0, _ => 0
  | w + 1, v => v % 2 + popCount w (v / 2)

/-- The lowest `n` numbers whose bit is set in `v`, ascending, among bits 0 to `w - 1`. -/
def setBitsList (w v : Nat) : List Nat := (List.range w).filter (fun i => v.testBit i)

/-- The value of the `w`-bit two's complement number `v`. -/
def sx (w v : Nat) : Int := if v % 2 ^ w < 2 ^ (w - 1) then ((v % 2 ^ w : Nat) : Int) else ((v % 2 ^ w : Nat) : Int) - 2 ^ w

/-- The `w`-bit two's complement representation of `x`. -/
def toTwos (w : Nat) (x : Int) : Nat := (x % (2 ^ w : Nat)).toNat

/-- `x` clamped to [lo, hi]. -/
def clampI (lo hi x : Int) : Int := if x < lo then lo else if hi < x then hi else x

/-- `x` clamped to [lo, hi]. -/
def clampN (lo hi x : Nat) : Nat := if x < lo then lo else if hi < x then hi else x

/-- Quotient rounded up. -/
def ceilDiv (a b : Nat) : Nat := (a + b - 1) / b

/-- `n` little-endian bytes of `v`. -/
def leBytes : Nat → Nat → List Byte
  | 0, _ => []
  | n + 1, v => BitVec.ofNat 8 v :: leBytes n (v / 256)

/-- The number that little-endian bytes spell. -/
def ofLe : List Byte → Nat
  | [] => 0
  | b :: bs => b.toNat + 256 * ofLe bs

/-- The `n` bytes of `l` from position `o`, with zeros past its end. -/
def slice (l : List Byte) (o n : Nat) : List Byte :=
  let t := (l.drop o).take n
  t ++ List.replicate (n - t.length) 0

/-- The little-endian number of `n` bytes at position `o` of `l`. -/
def leAt (l : List Byte) (o n : Nat) : Nat := ofLe (slice l o n)

/-- The number of big-endian bytes. -/
def ofBe (l : List Byte) : Nat := ofLe l.reverse

/-- Bytes padded with zeros to `n`. -/
def padTo (n : Nat) (l : List Byte) : List Byte := l ++ List.replicate (n - l.length) 0

/-- Element `i` of `l`, or `d` past its end. -/
def nth {α : Type} (l : List α) (i : Nat) (d : α) : α := l.getD i d

/-- `l` with element `i` replaced by `f` of it. -/
def modNth {α : Type} (l : List α) (i : Nat) (f : α → α) : List α := l.modify i f

/-- One bit of the CRC-32C register update, reflected polynomial 0x82F63B78 (R342). -/
def crcStep (c : Nat) : Nat := if c % 2 = 1 then (c / 2) ^^^ 0x82F63B78 else c / 2

/-- One byte through the CRC-32C register. -/
def crcByte (c b : Nat) : Nat :=
  crcStep (crcStep (crcStep (crcStep (crcStep (crcStep (crcStep (crcStep (c ^^^ b))))))))

/-- The CRC-32C register after a list of bytes. -/
def crcFold (c : Nat) (l : List Byte) : Nat := l.foldl (fun c b => crcByte c b.toNat) c

/-- CRC-32C of a list of bytes: initial value and final exclusive-or are all ones (R342). -/
def crc32c (l : List Byte) : Nat := crcFold 0xFFFFFFFF l ^^^ 0xFFFFFFFF

end Sys2Proof.Machine
end

