-- ==== Sys2Proof/Machine/Fields.lean ====
section
/-!
DEFINITION. What a register table of spec/ says of one field (00.5, Table 00-5): where it sits, its access
type, who may write it, what a chip reset leaves of it and its reset value.
-/
namespace Sys2Proof.Machine

/-- Access types of Table 00-5 (R5). RSVD bits have no field: they read 0 and ignore writes. -/
inductive Access where
  | ro | rw | wo | rw1c | rc | rw1s
  deriving DecidableEq, Repr

/-- Who may write a field, as its chapter says. -/
inductive Restr where
  /-- No restriction. -/
  | open_
  /-- Secure world only (R163). -/
  | sec
  /-- Writable by the secure world only under R163; readable by both worlds (R84, R89, R94, R97, R134). -/
  | secWr
  /-- Reached by the secure world only, reads included (R352, R459). -/
  | secAll
  /-- Cove 0 only (R579). -/
  | cove0
  /-- Secure world, or cove 0 (R499). -/
  | secOrCove0
  /-- Secure world; any other write is discarded and raises event 64 (R459). -/
  | secW
  /-- The banked SHOR_CMD: the normal copy takes cove 0 only (Table 06-9). -/
  | shorCmd
  /-- Configuration of a Sluice lock (R185). -/
  | slu
  /-- The staging window of a layer slot (R241). -/
  | slot
  /-- A head's, port's or PLL's registers (R330). -/
  | head
  /-- A general Sounding unit (R357). -/
  | gen
  /-- A tone generator (R452). -/
  | tone
  /-- A biquad (R459). -/
  | bq
  /-- A crosspoint node of either view (R459). -/
  | node
  /-- A Plash channel's configuration (R479). -/
  | plaCh
  /-- A Plash trigger entry (R474). -/
  | trig
  /-- A Shallows trigger selector (R499). -/
  | shaSel
  /-- A Portage import window (R547). -/
  | imp
  /-- A Portage copy engine (R548). -/
  | cpy
  /-- A timebase window register: windows 0 to 3 are the secure world's (Table 05-17). -/
  | tbsWin
  deriving DecidableEq, Repr

/-- What keeps a field through the resets of Table 03-5 (R78). -/
inductive Retain where
  /-- Cleared by every chip reset. -/
  | none
  /-- Held in MRAM. -/
  | mram
  /-- Held in the seep domain. -/
  | seep
  /-- Fixed in the part (fuses). -/
  | part
  /-- Latched from the straps. -/
  | strap
  deriving DecidableEq, Repr

/-- One register field. `st1` and `st2` are the offset steps of its two indices (`n1` and `n2` instances);
`own` marks a field whose write has a row of its own in the opcode table, which REGISTER_WRITE leaves alone. -/
structure Fld where
  off : Nat
  hi : Nat
  lo : Nat
  acc : Access
  restr : Restr
  ret : Retain
  st1 : Nat
  n1 : Nat
  st2 : Nat
  n2 : Nat
  own : Bool
  rst : Nat → Nat → Nat

/-- The step of a register banked per world: index 0 is the normal world's copy, 1 the secure world's. -/
def bankStep : Nat := 0x1000000000

/-- The key under which instance (i, j) of a field is held. -/
def Fld.key (f : Fld) (i j : Nat) : Nat := (f.off + f.st1 * i + f.st2 * j) * 64 + f.lo

/-- Bits of the field. -/
def Fld.width (f : Fld) : Nat := f.hi - f.lo + 1

/-- Routes fixed by Table 05-13 and by R163, R177, R356, R500 and R517. -/
def routeFixed (s : Nat) : Bool :=
  s == 5 || s == 6 || s == 7 || s == 37 || s == 38 || s == 39 || s == 64 || s == 69
    || (320 ≤ s && s ≤ 324) || s == 465 || s == 483

/-- DEST at reset of INL_ROUTEs (Tables 05-12 and 05-13). -/
def routeDestRst (s : Nat) : Nat :=
  if s = 6 then 2 else if s = 7 then 4 else if s = 39 then 6 else if s = 483 then 6 else 0

end Sys2Proof.Machine
end

