-- ==== Sys2Proof/Machine/RegsChip.lean ====
section
/-!
DEFINITION. Register fields of chip control, MRAM, fabric, Inlet and timebase (chapters 00 to 05): one `Fld` per field of the
register tables of spec/ (offset from REGBASE, bits, access type, restriction, reset value).
-/
namespace Sys2Proof.Machine

def F.CHIP_ID_PART : Fld := ⟨0x0, 31, 16, .ro, .open_, .part, 0x0, 1, 0x0, 1, false, fun _ _ => 0x8480⟩
def F.CHIP_ID_VARIANT : Fld := ⟨0x0, 15, 12, .ro, .open_, .part, 0x0, 1, 0x0, 1, false, fun _ _ => 1⟩
def F.CHIP_ID_STEP_MAJOR : Fld := ⟨0x0, 11, 8, .ro, .open_, .part, 0x0, 1, 0x0, 1, false, fun _ _ => 1⟩
def F.CHIP_ID_STEP_MINOR : Fld := ⟨0x0, 7, 4, .ro, .open_, .part, 0x0, 1, 0x0, 1, false, fun _ _ => 1⟩
def F.CHIP_DEBUG_LOCK : Fld := ⟨0x3c, 31, 31, .rw1s, .sec, .none, 0x0, 1, 0x0, 1, true, fun _ _ => 0x0⟩
def F.CHIP_DEBUG_SEC_DEBUG : Fld := ⟨0x3c, 1, 1, .rw, .sec, .none, 0x0, 1, 0x0, 1, true, fun _ _ => 0x0⟩
def F.CHIP_DEBUG_JTAG_EN : Fld := ⟨0x3c, 0, 0, .rw, .sec, .none, 0x0, 1, 0x0, 1, true, fun _ _ => 0x0⟩
def F.CHIP_STRAP_CLIPPED : Fld := ⟨0x4, 24, 24, .ro, .open_, .strap, 0x0, 1, 0x0, 1, false, fun _ _ => 0⟩
def F.CHIP_STRAP_RAW_MASK : Fld := ⟨0x4, 23, 16, .ro, .open_, .strap, 0x0, 1, 0x0, 1, false, fun _ _ => 0⟩
def F.CHIP_STRAP_SAFE_MASK : Fld := ⟨0x4, 15, 8, .ro, .open_, .strap, 0x0, 1, 0x0, 1, false, fun _ _ => 0⟩
def F.CHIP_STRAP_POSITION : Fld := ⟨0x4, 7, 6, .ro, .open_, .strap, 0x0, 1, 0x0, 1, false, fun _ _ => 0⟩
def F.CHIP_STRAP_MODE : Fld := ⟨0x4, 2, 0, .ro, .open_, .strap, 0x0, 1, 0x0, 1, false, fun _ _ => 0⟩
def F.CHIP_PORT_TYPE_APPLIED : Fld := ⟨0x8, 16, 16, .ro, .open_, .none, 0x0, 1, 0x0, 1, false, fun _ _ => 0x0⟩
def F.CHIP_PORT_TYPE_TYPES : Fld := ⟨0x8, 15, 0, .ro, .open_, .none, 0x0, 1, 0x0, 1, false, fun _ _ => 0x0⟩
def F.CHIP_PHASE_DIP_LEFT : Fld := ⟨0x10, 31, 16, .ro, .open_, .none, 0x0, 1, 0x0, 1, false, fun _ _ => 0x0000⟩
def F.CHIP_PHASE_KIND : Fld := ⟨0x10, 6, 5, .ro, .open_, .none, 0x0, 1, 0x0, 1, false, fun _ _ => 0x0⟩
def F.CHIP_PHASE_SAFE_STATE : Fld := ⟨0x10, 4, 4, .ro, .open_, .none, 0x0, 1, 0x0, 1, false, fun _ _ => 0x0⟩
def F.CHIP_PHASE_PHASE : Fld := ⟨0x10, 3, 0, .ro, .open_, .none, 0x0, 1, 0x0, 1, false, fun _ _ => 0x3⟩
def F.CHIP_RESET_CAUSE_BOOT_COUNT : Fld := ⟨0x18, 15, 8, .ro, .open_, .seep, 0x0, 1, 0x0, 1, false, fun _ _ => 0x00⟩
def F.CHIP_RESET_CAUSE_TEST_FAIL : Fld := ⟨0x18, 7, 7, .ro, .open_, .seep, 0x0, 1, 0x0, 1, false, fun _ _ => 0x0⟩
def F.CHIP_RESET_CAUSE_TEST_DONE : Fld := ⟨0x18, 6, 6, .ro, .open_, .seep, 0x0, 1, 0x0, 1, false, fun _ _ => 0x0⟩
def F.CHIP_RESET_CAUSE_DRAM_KEPT : Fld := ⟨0x18, 5, 5, .ro, .open_, .seep, 0x0, 1, 0x0, 1, false, fun _ _ => 0x0⟩
def F.CHIP_RESET_CAUSE_CAUSE : Fld := ⟨0x18, 3, 0, .ro, .open_, .seep, 0x0, 1, 0x0, 1, false, fun _ _ => 0x0⟩
def F.CHIP_BOOT_CFG_NO_FALLBACK : Fld := ⟨0x38, 1, 1, .rw, .secWr, .mram, 0x0, 1, 0x0, 1, false, fun _ _ => 0⟩
def F.CHIP_BOOT_CFG_PREFER_B : Fld := ⟨0x38, 0, 0, .rw, .secWr, .mram, 0x0, 1, 0x0, 1, false, fun _ _ => 0⟩
def F.CHIP_BOOT_STAT_STEP : Fld := ⟨0x1c, 15, 8, .ro, .open_, .none, 0x0, 1, 0x0, 1, false, fun _ _ => 0x00⟩
def F.CHIP_BOOT_STAT_FAIL : Fld := ⟨0x1c, 2, 2, .ro, .open_, .none, 0x0, 1, 0x0, 1, false, fun _ _ => 0x0⟩
def F.CHIP_BOOT_STAT_FALLBACK : Fld := ⟨0x1c, 1, 1, .ro, .open_, .none, 0x0, 1, 0x0, 1, false, fun _ _ => 0x0⟩
def F.CHIP_BOOT_STAT_SLOT : Fld := ⟨0x1c, 0, 0, .ro, .open_, .none, 0x0, 1, 0x0, 1, false, fun _ _ => 0x0⟩
def F.CHIP_FL_CTRL_GO : Fld := ⟨0x40, 31, 31, .wo, .secWr, .none, 0x0, 1, 0x0, 1, true, fun _ _ => 0x0⟩
def F.CHIP_FL_CTRL_LEN : Fld := ⟨0x40, 24, 16, .rw, .secWr, .none, 0x0, 1, 0x0, 1, false, fun _ _ => 0x000⟩
def F.CHIP_FL_CTRL_DIR : Fld := ⟨0x40, 14, 14, .rw, .secWr, .none, 0x0, 1, 0x0, 1, false, fun _ _ => 0x0⟩
def F.CHIP_FL_CTRL_DUMMY : Fld := ⟨0x40, 13, 9, .rw, .secWr, .none, 0x0, 1, 0x0, 1, false, fun _ _ => 0x00⟩
def F.CHIP_FL_CTRL_ADDR_EN : Fld := ⟨0x40, 8, 8, .rw, .secWr, .none, 0x0, 1, 0x0, 1, false, fun _ _ => 0x0⟩
def F.CHIP_FL_CTRL_OPCODE : Fld := ⟨0x40, 7, 0, .rw, .secWr, .none, 0x0, 1, 0x0, 1, false, fun _ _ => 0x00⟩
def F.CHIP_FL_STAT_ERR_PHASE : Fld := ⟨0x48, 2, 2, .rw1c, .secWr, .none, 0x0, 1, 0x0, 1, false, fun _ _ => 0x0⟩
def F.CHIP_FL_STAT_DONE : Fld := ⟨0x48, 1, 1, .rw1c, .secWr, .none, 0x0, 1, 0x0, 1, false, fun _ _ => 0x0⟩
def F.CHIP_FL_STAT_BUSY : Fld := ⟨0x48, 0, 0, .ro, .open_, .none, 0x0, 1, 0x0, 1, false, fun _ _ => 0x0⟩
def F.CHIP_PFAIL_EN : Fld := ⟨0x34, 8, 8, .rw, .secWr, .none, 0x0, 1, 0x0, 1, false, fun _ _ => 0x1⟩
def F.CHIP_PFAIL_THRESH : Fld := ⟨0x34, 5, 0, .rw, .secWr, .none, 0x0, 1, 0x0, 1, false, fun _ _ => 0x0A⟩
def F.CHIP_SEEP_WAKE_ALARM_EN : Fld := ⟨0x90, 4, 4, .rw, .secWr, .seep, 0x0, 1, 0x0, 1, false, fun _ _ => 0x0⟩
def F.CHIP_SEEP_WAKE_W1_FALL : Fld := ⟨0x90, 3, 3, .rw, .secWr, .seep, 0x0, 1, 0x0, 1, false, fun _ _ => 0x0⟩
def F.CHIP_SEEP_WAKE_W1_EN : Fld := ⟨0x90, 2, 2, .rw, .secWr, .seep, 0x0, 1, 0x0, 1, false, fun _ _ => 0x0⟩
def F.CHIP_SEEP_WAKE_W0_FALL : Fld := ⟨0x90, 1, 1, .rw, .secWr, .seep, 0x0, 1, 0x0, 1, false, fun _ _ => 0x0⟩
def F.CHIP_SEEP_WAKE_W0_EN : Fld := ⟨0x90, 0, 0, .rw, .secWr, .seep, 0x0, 1, 0x0, 1, false, fun _ _ => 0x1⟩
def F.CHIP_PD_VOTE_SEC_VAL : Fld := ⟨0x20, 13, 0, .rw, .sec, .none, 0x0, 1, 0x0, 1, true, fun _ _ => 0x0000⟩
def F.CHIP_PD_VOTE_NS_VAL : Fld := ⟨0x24, 13, 0, .rw, .open_, .none, 0x0, 1, 0x0, 1, true, fun _ _ => 0x3FFF⟩
def F.CHIP_PD_FORCE_OFF_VAL : Fld := ⟨0x28, 13, 0, .rw, .sec, .none, 0x0, 1, 0x0, 1, true, fun _ _ => 0x0000⟩
def F.CHIP_PD_STAT_VAL : Fld := ⟨0x2c, 27, 0, .ro, .open_, .none, 0x0, 1, 0x0, 1, false, fun _ _ => 0x5555555⟩
def F.CHIP_PCAP_UNMET : Fld := ⟨0x30, 25, 25, .ro, .open_, .none, 0x0, 1, 0x0, 1, false, fun _ _ => 0x0⟩
def F.CHIP_PCAP_THROTTLING : Fld := ⟨0x30, 24, 24, .ro, .open_, .none, 0x0, 1, 0x0, 1, false, fun _ _ => 0x0⟩
def F.CHIP_PCAP_EFFECTIVE : Fld := ⟨0x30, 21, 16, .ro, .open_, .none, 0x0, 1, 0x0, 1, false, fun _ _ => 0x2D⟩
def F.CHIP_PCAP_CAP_NS : Fld := ⟨0x30, 13, 8, .rw, .open_, .none, 0x0, 1, 0x0, 1, false, fun _ _ => 0x2D⟩
def F.CHIP_PCAP_CAP_SEC : Fld := ⟨0x30, 5, 0, .rw, .sec, .none, 0x0, 1, 0x0, 1, false, fun _ _ => 0x2D⟩
def F.NVM_WIN_BANK : Fld := ⟨0x7e00000, 2, 0, .rw, .sec, .none, 0x0, 1, 0x0, 1, false, fun _ _ => 0x0⟩
def F.NVM_STAT_BUSY : Fld := ⟨0x7e00004, 31, 31, .ro, .sec, .none, 0x0, 1, 0x0, 1, false, fun _ _ => 0x0⟩
def F.NVM_STAT_PROT : Fld := ⟨0x7e00004, 30, 30, .rw1c, .sec, .none, 0x0, 1, 0x0, 1, false, fun _ _ => 0x0⟩
def F.NVM_STAT_UE : Fld := ⟨0x7e00004, 29, 29, .rw1c, .sec, .none, 0x0, 1, 0x0, 1, false, fun _ _ => 0x0⟩
def F.NVM_UE_ADDR_OFFSET : Fld := ⟨0x7e00008, 22, 0, .ro, .sec, .none, 0x0, 1, 0x0, 1, false, fun _ _ => 0x0⟩
def F.NVM_CE_COUNT : Fld := ⟨0x7e0000c, 31, 0, .rc, .sec, .none, 0x0, 1, 0x0, 1, false, fun _ _ => 0x0⟩
def F.CHIP_IMG_MINVER_MINVER : Fld := ⟨0x60, 31, 0, .rw, .sec, .mram, 0x0, 1, 0x0, 1, true, fun _ _ => 0⟩
def F.CHIP_IMG_BUILD_BUILD : Fld := ⟨0x68, 63, 0, .ro, .open_, .none, 0x0, 1, 0x0, 1, false, fun _ _ => 0x0⟩
def F.CHIP_KEY_STAT_UNKEYED : Fld := ⟨0x70, 4, 4, .ro, .open_, .part, 0x0, 1, 0x0, 1, false, fun _ _ => 1⟩
def F.CHIP_KEY_STAT_REVOKED : Fld := ⟨0x70, 3, 2, .ro, .open_, .part, 0x0, 1, 0x0, 1, false, fun _ _ => 0⟩
def F.CHIP_KEY_STAT_PROG : Fld := ⟨0x70, 1, 0, .ro, .open_, .part, 0x0, 1, 0x0, 1, false, fun _ _ => 0⟩
def F.CHIP_KEY_CTRL_CMD : Fld := ⟨0x74, 3, 0, .wo, .sec, .none, 0x0, 1, 0x0, 1, true, fun _ _ => 0x0⟩
def F.CHIP_KEY_DIGEST_DIGEST : Fld := ⟨0x200, 31, 0, .rw, .sec, .none, 0x4, 12, 0x0, 1, false, fun _ _ => 0x0⟩
def F.CHIP_IMG_CACHE_INVALIDATE : Fld := ⟨0x64, 31, 31, .wo, .sec, .none, 0x0, 1, 0x0, 1, true, fun _ _ => 0x0⟩
def F.CHIP_IMG_CACHE_WRITING : Fld := ⟨0x64, 2, 2, .ro, .open_, .none, 0x0, 1, 0x0, 1, false, fun _ _ => 0x0⟩
def F.CHIP_IMG_CACHE_HIT : Fld := ⟨0x64, 1, 1, .ro, .open_, .none, 0x0, 1, 0x0, 1, false, fun _ _ => 0x0⟩
def F.CHIP_IMG_CACHE_VALID : Fld := ⟨0x64, 0, 0, .ro, .open_, .mram, 0x0, 1, 0x0, 1, false, fun _ _ => 0⟩
def F.CHIP_IMG_ADDR_ADDR : Fld := ⟨0x50, 39, 6, .rw, .open_, .none, 0x1000000000, 2, 0x0, 1, false, fun _ _ => 0x0⟩
def F.CHIP_IMG_CTRL_GO : Fld := ⟨0x58, 31, 31, .wo, .open_, .none, 0x1000000000, 2, 0x0, 1, true, fun _ _ => 0x0⟩
def F.CHIP_IMG_STAT_ERR_SECTION : Fld := ⟨0x5c, 31, 24, .ro, .open_, .none, 0x1000000000, 2, 0x0, 1, false, fun _ _ => 0xFF⟩
def F.CHIP_IMG_STAT_ERROR : Fld := ⟨0x5c, 20, 16, .ro, .open_, .none, 0x1000000000, 2, 0x0, 1, false, fun _ _ => 0x00⟩
def F.CHIP_IMG_STAT_SOURCE : Fld := ⟨0x5c, 8, 8, .ro, .open_, .none, 0x1000000000, 2, 0x0, 1, false, fun _ _ => 0x0⟩
def F.CHIP_IMG_STAT_PENDING : Fld := ⟨0x5c, 3, 3, .ro, .open_, .none, 0x1000000000, 2, 0x0, 1, false, fun _ _ => 0x0⟩
def F.CHIP_IMG_STAT_DONE : Fld := ⟨0x5c, 2, 2, .rw1c, .open_, .none, 0x1000000000, 2, 0x0, 1, false, fun _ _ => 0x0⟩
def F.CHIP_IMG_STAT_FAIL : Fld := ⟨0x5c, 1, 1, .rw1c, .open_, .none, 0x1000000000, 2, 0x0, 1, false, fun _ _ => 0x0⟩
def F.CHIP_IMG_STAT_BUSY : Fld := ⟨0x5c, 0, 0, .ro, .open_, .none, 0x1000000000, 2, 0x0, 1, false, fun _ _ => 0x0⟩
def F.RIP_AERR_ADDR_ADDR : Fld := ⟨0x100000, 39, 0, .ro, .open_, .none, 0x1000000000, 2, 0x0, 1, false, fun _ _ => 0x0⟩
def F.RIP_AERR_INFO_VALID : Fld := ⟨0x100008, 31, 31, .rw1c, .open_, .none, 0x1000000000, 2, 0x0, 1, false, fun _ _ => 0x0⟩
def F.RIP_AERR_INFO_OVERRUN : Fld := ⟨0x100008, 30, 30, .rw1c, .open_, .none, 0x1000000000, 2, 0x0, 1, false, fun _ _ => 0x0⟩
def F.RIP_AERR_INFO_WORLD : Fld := ⟨0x100008, 15, 15, .ro, .open_, .none, 0x1000000000, 2, 0x0, 1, false, fun _ _ => 0x0⟩
def F.RIP_AERR_INFO_COVE : Fld := ⟨0x100008, 12, 8, .ro, .open_, .none, 0x1000000000, 2, 0x0, 1, false, fun _ _ => 0x00⟩
def F.RIP_AERR_INFO_KIND : Fld := ⟨0x100008, 2, 1, .ro, .open_, .none, 0x1000000000, 2, 0x0, 1, false, fun _ _ => 0x0⟩
def F.RIP_AERR_INFO_WRITE : Fld := ⟨0x100008, 0, 0, .ro, .open_, .none, 0x1000000000, 2, 0x0, 1, false, fun _ _ => 0x0⟩
def F.RIP_ARB_CTRL_FREEZE : Fld := ⟨0x110000, 0, 0, .rw, .secWr, .none, 0x8, 289, 0x0, 1, true, fun _ _ => 0x0⟩
def F.RIP_ARB_STAT_BUSY : Fld := ⟨0x110004, 31, 31, .ro, .open_, .none, 0x8, 289, 0x0, 1, false, fun _ _ => 0x0⟩
def F.RIP_ARB_STAT_FREEZE_REFUSED : Fld := ⟨0x110004, 30, 30, .rw1c, .secWr, .none, 0x8, 289, 0x0, 1, false, fun _ _ => 0x0⟩
def F.RIP_ARB_STAT_OWNER : Fld := ⟨0x110004, 28, 24, .ro, .open_, .none, 0x8, 289, 0x0, 1, false, fun _ _ => 0x1F⟩
def F.RIP_ARB_STAT_MASKED : Fld := ⟨0x110004, 23, 0, .ro, .open_, .none, 0x8, 289, 0x0, 1, false, fun _ _ => 0x0⟩
def F.RIP_RGN_CFG_QUANTUM : Fld := ⟨0x100080, 25, 16, .rw, .sec, .none, 0x4, 7, 0x0, 1, false, fun _ _ => 0x004⟩
def F.RIP_RGN_CFG_STALL_US : Fld := ⟨0x100080, 9, 0, .rw, .sec, .none, 0x4, 7, 0x0, 1, false, fun _ _ => 0x010⟩
def F.RIP_FLOG_STAT_OVERFLOW : Fld := ⟨0x100040, 7, 7, .rw1c, .sec, .none, 0x0, 1, 0x0, 1, false, fun _ _ => 0x0⟩
def F.RIP_FLOG_STAT_COUNT : Fld := ⟨0x100040, 6, 0, .ro, .sec, .none, 0x0, 1, 0x0, 1, false, fun _ _ => 0x00⟩
def F.RIP_FLOG_W0_ACTION : Fld := ⟨0x100044, 26, 23, .ro, .sec, .none, 0x0, 1, 0x0, 1, false, fun _ _ => 0x0⟩
def F.RIP_FLOG_W0_KIND : Fld := ⟨0x100044, 22, 19, .ro, .sec, .none, 0x0, 1, 0x0, 1, false, fun _ _ => 0x0⟩
def F.RIP_FLOG_W0_INSTANCE : Fld := ⟨0x100044, 18, 10, .ro, .sec, .none, 0x0, 1, 0x0, 1, false, fun _ _ => 0x000⟩
def F.RIP_FLOG_W0_UNIT : Fld := ⟨0x100044, 9, 5, .ro, .sec, .none, 0x0, 1, 0x0, 1, false, fun _ _ => 0x00⟩
def F.RIP_FLOG_W0_REGION : Fld := ⟨0x100044, 4, 2, .ro, .sec, .none, 0x0, 1, 0x0, 1, false, fun _ _ => 0x0⟩
def F.RIP_FLOG_W0_LEVEL : Fld := ⟨0x100044, 1, 0, .ro, .sec, .none, 0x0, 1, 0x0, 1, false, fun _ _ => 0x0⟩
def F.RIP_FLOG_W1_GEN : Fld := ⟨0x100048, 31, 16, .ro, .sec, .none, 0x0, 1, 0x0, 1, false, fun _ _ => 0x0000⟩
def F.RIP_FLOG_W1_WORLD : Fld := ⟨0x100048, 5, 5, .ro, .sec, .none, 0x0, 1, 0x0, 1, false, fun _ _ => 0x0⟩
def F.RIP_FLOG_W1_COVE : Fld := ⟨0x100048, 4, 0, .ro, .sec, .none, 0x0, 1, 0x0, 1, false, fun _ _ => 0x00⟩
def F.RIP_FLOG_TS_TS : Fld := ⟨0x100050, 63, 0, .ro, .sec, .none, 0x0, 1, 0x0, 1, false, fun _ _ => 0x0⟩
def F.RIP_FLOG_POP_POP : Fld := ⟨0x100058, 0, 0, .wo, .sec, .none, 0x0, 1, 0x0, 1, true, fun _ _ => 0x0⟩
def F.RIP_SPILL_STAT_BY_TIMEOUT : Fld := ⟨0x100060, 9, 9, .ro, .open_, .none, 0x0, 1, 0x0, 1, false, fun _ _ => 0x0⟩
def F.RIP_SPILL_STAT_SAFE : Fld := ⟨0x100060, 8, 8, .ro, .open_, .none, 0x0, 1, 0x0, 1, false, fun _ _ => 0x0⟩
def F.RIP_SPILL_STAT_PENDING : Fld := ⟨0x100060, 6, 0, .ro, .open_, .none, 0x0, 1, 0x0, 1, false, fun _ _ => 0x00⟩
def F.RIP_SPILL_CTRL_CMD : Fld := ⟨0x100064, 9, 8, .wo, .sec, .none, 0x0, 1, 0x0, 1, true, fun _ _ => 0x0⟩
def F.RIP_SPILL_CTRL_REGION : Fld := ⟨0x100064, 2, 0, .wo, .sec, .none, 0x0, 1, 0x0, 1, true, fun _ _ => 0x0⟩
def F.INL_ROUTE_FIXED : Fld := ⟨0x201000, 31, 31, .ro, .open_, .none, 0x4, 512, 0x0, 1, true, fun i _ => if routeFixed i then 1 else 0⟩
def F.INL_ROUTE_LOCK : Fld := ⟨0x201000, 30, 30, .rw, .sec, .none, 0x4, 512, 0x0, 1, true, fun _ _ => 0x0⟩
def F.INL_ROUTE_GATE : Fld := ⟨0x201000, 8, 7, .rw, .open_, .none, 0x4, 512, 0x0, 1, true, fun _ _ => 0x0⟩
def F.INL_ROUTE_WIN : Fld := ⟨0x201000, 6, 4, .rw, .open_, .none, 0x4, 512, 0x0, 1, true, fun _ _ => 0x0⟩
def F.INL_ROUTE_DEST : Fld := ⟨0x201000, 3, 1, .rw, .open_, .none, 0x4, 512, 0x0, 1, true, fun i _ => routeDestRst i⟩
def F.INL_ROUTE_EN : Fld := ⟨0x201000, 0, 0, .rw, .open_, .none, 0x4, 512, 0x0, 1, true, fun _ _ => 0x1⟩
def F.INL_GATED_CNT_COUNT : Fld := ⟨0x200020, 31, 0, .rc, .sec, .none, 0x0, 1, 0x0, 1, false, fun _ _ => 0x0⟩
def F.INL_RAISE_LOST_COUNT : Fld := ⟨0x200024, 31, 0, .rc, .sec, .none, 0x0, 1, 0x0, 1, false, fun _ _ => 0x0⟩
def F.INL_SRING_PROD_PROD : Fld := ⟨0x200100, 31, 0, .ro, .open_, .none, 0x10, 2, 0x0, 1, false, fun _ _ => 0x0⟩
def F.INL_SRING_CONS_CONS : Fld := ⟨0x200104, 31, 0, .rw, .sec, .none, 0x10, 2, 0x0, 1, true, fun _ _ => 0x0⟩
def F.INL_SRING_LOST_LOST : Fld := ⟨0x200108, 31, 0, .rc, .sec, .none, 0x10, 2, 0x0, 1, false, fun _ _ => 0x0⟩
def F.INL_WRING_BASE_BASE : Fld := ⟨0x200200, 39, 12, .rw, .open_, .none, 0x0, 1, 0x0, 1, false, fun _ _ => 0x0⟩
def F.INL_WRING_CFG_HOLDOFF : Fld := ⟨0x200208, 15, 8, .rw, .open_, .none, 0x0, 1, 0x0, 1, false, fun _ _ => 0x00⟩
def F.INL_WRING_CFG_SIZE : Fld := ⟨0x200208, 4, 1, .rw, .open_, .none, 0x0, 1, 0x0, 1, false, fun _ _ => 0x0⟩
def F.INL_WRING_CFG_EN : Fld := ⟨0x200208, 0, 0, .rw, .open_, .none, 0x0, 1, 0x0, 1, false, fun _ _ => 0x0⟩
def F.INL_WRING_PROD_COUNT : Fld := ⟨0x20020c, 31, 0, .ro, .open_, .none, 0x0, 1, 0x0, 1, false, fun _ _ => 0x0⟩
def F.INL_WRING_CONS_COUNT : Fld := ⟨0x200210, 31, 0, .rw, .open_, .none, 0x0, 1, 0x0, 1, true, fun _ _ => 0x0⟩
def F.INL_WRING_LOST_COUNT : Fld := ⟨0x200214, 31, 0, .rc, .open_, .none, 0x0, 1, 0x0, 1, false, fun _ _ => 0x0⟩
def F.INL_WRING_DOOR_IDENTITY : Fld := ⟨0x200218, 18, 8, .rw, .open_, .none, 0x0, 1, 0x0, 1, false, fun _ _ => 0x000⟩
def F.INL_WRING_DOOR_HART : Fld := ⟨0x200218, 2, 0, .rw, .open_, .none, 0x0, 1, 0x0, 1, false, fun _ _ => 0x0⟩
def F.INL_COVE_DOOR_EXTERNAL : Fld := ⟨0x200400, 31, 31, .ro, .open_, .none, 0x4, 32, 0x0, 1, false, fun _ _ => 0x0⟩
def F.INL_COVE_DOOR_IDENTITY : Fld := ⟨0x200400, 18, 8, .rw, .open_, .none, 0x4, 32, 0x0, 1, false, fun _ _ => 0x000⟩
def F.INL_COVE_DOOR_GUEST : Fld := ⟨0x200400, 6, 3, .rw, .open_, .none, 0x4, 32, 0x0, 1, false, fun _ _ => 0x0⟩
def F.INL_COVE_DOOR_HART : Fld := ⟨0x200400, 2, 0, .rw, .open_, .none, 0x4, 32, 0x0, 1, false, fun _ _ => 0x0⟩
def F.COVE_EVT_BASE_BASE : Fld := ⟨0x81ff000, 49, 12, .rw, .open_, .none, 0x200000, 32, 0x0, 1, false, fun _ _ => 0x0⟩
def F.COVE_EVT_CFG_VECTOR : Fld := ⟨0x81ff008, 20, 16, .rw, .open_, .none, 0x200000, 32, 0x0, 1, false, fun _ _ => 0x00⟩
def F.COVE_EVT_CFG_HOLDOFF : Fld := ⟨0x81ff008, 15, 8, .rw, .open_, .none, 0x200000, 32, 0x0, 1, false, fun _ _ => 0x0⟩
def F.COVE_EVT_CFG_SIZE : Fld := ⟨0x81ff008, 4, 1, .rw, .open_, .none, 0x200000, 32, 0x0, 1, false, fun _ _ => 0x0⟩
def F.COVE_EVT_CFG_EN : Fld := ⟨0x81ff008, 0, 0, .rw, .open_, .none, 0x200000, 32, 0x0, 1, false, fun _ _ => 0x0⟩
def F.COVE_EVT_PROD_COUNT : Fld := ⟨0x81ff00c, 31, 0, .ro, .open_, .none, 0x200000, 32, 0x0, 1, false, fun _ _ => 0x0⟩
def F.COVE_EVT_CONS_COUNT : Fld := ⟨0x81ff010, 31, 0, .rw, .open_, .none, 0x200000, 32, 0x0, 1, true, fun _ _ => 0x0⟩
def F.COVE_EVT_LOST_COUNT : Fld := ⟨0x81ff014, 31, 0, .rc, .open_, .none, 0x200000, 32, 0x0, 1, false, fun _ _ => 0x0⟩
def F.COVE_EVT_MASK_MASK : Fld := ⟨0x81ff040, 31, 0, .rw, .open_, .none, 0x200000, 32, 0x4, 16, false, fun _ _ => 0xFFFFFFFF⟩
def F.TBS_CFG_PPS_FALL : Fld := ⟨0x300010, 2, 2, .rw, .sec, .none, 0x0, 1, 0x0, 1, false, fun _ _ => 0x0⟩
def F.TBS_CFG_SRC : Fld := ⟨0x300010, 1, 0, .rw, .sec, .none, 0x0, 1, 0x0, 1, false, fun _ _ => 0x0⟩
def F.TBS_RATE_RATE : Fld := ⟨0x300014, 31, 0, .rw, .sec, .none, 0x0, 1, 0x0, 1, false, fun _ _ => 0x0⟩
def F.TBS_SLEW_SLEW : Fld := ⟨0x300018, 31, 0, .rw, .sec, .none, 0x0, 1, 0x0, 1, true, fun _ _ => 0x0⟩
def F.TBS_STEP_STEP : Fld := ⟨0x300020, 63, 0, .wo, .sec, .none, 0x0, 1, 0x0, 1, true, fun _ _ => 0x0⟩
def F.TBS_PPS_CAP_CAP : Fld := ⟨0x300028, 63, 0, .ro, .open_, .none, 0x0, 1, 0x0, 1, false, fun _ _ => 0x0⟩
def F.TBS_STAT_MARK_VALID : Fld := ⟨0x300030, 3, 3, .ro, .open_, .none, 0x0, 1, 0x0, 1, false, fun _ _ => 0x0⟩
def F.TBS_STAT_REF_LOST : Fld := ⟨0x300030, 2, 2, .ro, .open_, .none, 0x0, 1, 0x0, 1, false, fun _ _ => 0x0⟩
def F.TBS_STAT_SLEWING : Fld := ⟨0x300030, 1, 1, .ro, .open_, .none, 0x0, 1, 0x0, 1, false, fun _ _ => 0x0⟩
def F.TBS_STAT_PPS_VALID : Fld := ⟨0x300030, 0, 0, .ro, .open_, .none, 0x0, 1, 0x0, 1, false, fun _ _ => 0x0⟩
def F.TBS_WIN_CTRL_EN : Fld := ⟨0x300040, 7, 0, .rw, .tbsWin, .none, 0x0, 1, 0x0, 1, false, fun _ _ => 0x00⟩
def F.TBS_WIN_START_START : Fld := ⟨0x300100, 63, 0, .rw, .tbsWin, .none, 0x10, 8, 0x0, 1, false, fun _ _ => 0x0⟩
def F.TBS_WIN_END_END : Fld := ⟨0x300108, 63, 0, .rw, .tbsWin, .none, 0x10, 8, 0x0, 1, false, fun _ _ => 0x0⟩
def F.CHIP_PHASE_CMD_DIP_LIMIT : Fld := ⟨0x14, 25, 16, .wo, .sec, .none, 0x0, 1, 0x0, 1, true, fun _ _ => 0x0⟩
def F.CHIP_PHASE_CMD_CMD : Fld := ⟨0x14, 3, 0, .wo, .sec, .none, 0x0, 1, 0x0, 1, true, fun _ _ => 0x0⟩
def F.CHIP_SEEP_CNT_COUNT : Fld := ⟨0x80, 47, 0, .ro, .open_, .seep, 0x0, 1, 0x0, 1, false, fun _ _ => 0x0⟩
def F.CHIP_SEEP_ALARM_ALARM : Fld := ⟨0x88, 47, 0, .rw, .secWr, .seep, 0x0, 1, 0x0, 1, false, fun _ _ => 0x0⟩
def F.CHIP_SEEP_KEEP_KEEP : Fld := ⟨0xc0, 31, 0, .rw, .secWr, .seep, 0x4, 16, 0x0, 1, false, fun _ _ => 0x0⟩
def F.CHIP_FL_ADDR_ADDR : Fld := ⟨0x44, 31, 0, .rw, .secWr, .none, 0x0, 1, 0x0, 1, false, fun _ _ => 0x0⟩
def F.CHIP_FL_BUF_BUF : Fld := ⟨0x100, 31, 0, .rw, .secWr, .none, 0x4, 64, 0x0, 1, false, fun _ _ => 0x0⟩
def F.TBS_NOW_NOW : Fld := ⟨0x300000, 63, 0, .ro, .open_, .none, 0x0, 1, 0x0, 1, false, fun _ _ => 0x0⟩

def tblRegsChip0_0 : List Fld := [F.CHIP_ID_PART, F.CHIP_ID_VARIANT, F.CHIP_ID_STEP_MAJOR, F.CHIP_ID_STEP_MINOR, F.CHIP_DEBUG_LOCK,
  F.CHIP_DEBUG_SEC_DEBUG, F.CHIP_DEBUG_JTAG_EN, F.CHIP_STRAP_CLIPPED, F.CHIP_STRAP_RAW_MASK, F.CHIP_STRAP_SAFE_MASK, F.CHIP_STRAP_POSITION,
  F.CHIP_STRAP_MODE, F.CHIP_PORT_TYPE_APPLIED, F.CHIP_PORT_TYPE_TYPES, F.CHIP_PHASE_DIP_LEFT, F.CHIP_PHASE_KIND, F.CHIP_PHASE_SAFE_STATE,
  F.CHIP_PHASE_PHASE, F.CHIP_RESET_CAUSE_BOOT_COUNT, F.CHIP_RESET_CAUSE_TEST_FAIL, F.CHIP_RESET_CAUSE_TEST_DONE, F.CHIP_RESET_CAUSE_DRAM_KEPT,
  F.CHIP_RESET_CAUSE_CAUSE, F.CHIP_BOOT_CFG_NO_FALLBACK, F.CHIP_BOOT_CFG_PREFER_B, F.CHIP_BOOT_STAT_STEP, F.CHIP_BOOT_STAT_FAIL,
  F.CHIP_BOOT_STAT_FALLBACK, F.CHIP_BOOT_STAT_SLOT, F.CHIP_FL_CTRL_GO, F.CHIP_FL_CTRL_LEN, F.CHIP_FL_CTRL_DIR, F.CHIP_FL_CTRL_DUMMY,
  F.CHIP_FL_CTRL_ADDR_EN, F.CHIP_FL_CTRL_OPCODE, F.CHIP_FL_STAT_ERR_PHASE, F.CHIP_FL_STAT_DONE, F.CHIP_FL_STAT_BUSY, F.CHIP_PFAIL_EN,
  F.CHIP_PFAIL_THRESH]
def tblRegsChip0_1 : List Fld := [F.CHIP_SEEP_WAKE_ALARM_EN, F.CHIP_SEEP_WAKE_W1_FALL, F.CHIP_SEEP_WAKE_W1_EN, F.CHIP_SEEP_WAKE_W0_FALL,
  F.CHIP_SEEP_WAKE_W0_EN, F.CHIP_PD_VOTE_SEC_VAL, F.CHIP_PD_VOTE_NS_VAL, F.CHIP_PD_FORCE_OFF_VAL, F.CHIP_PD_STAT_VAL, F.CHIP_PCAP_UNMET,
  F.CHIP_PCAP_THROTTLING, F.CHIP_PCAP_EFFECTIVE, F.CHIP_PCAP_CAP_NS, F.CHIP_PCAP_CAP_SEC, F.CHIP_IMG_MINVER_MINVER, F.CHIP_IMG_BUILD_BUILD,
  F.CHIP_KEY_STAT_UNKEYED, F.CHIP_KEY_STAT_REVOKED, F.CHIP_KEY_STAT_PROG, F.CHIP_KEY_CTRL_CMD, F.CHIP_KEY_DIGEST_DIGEST,
  F.CHIP_IMG_CACHE_INVALIDATE, F.CHIP_IMG_CACHE_WRITING, F.CHIP_IMG_CACHE_HIT, F.CHIP_IMG_CACHE_VALID, F.CHIP_IMG_ADDR_ADDR,
  F.CHIP_IMG_CTRL_GO, F.CHIP_IMG_STAT_ERR_SECTION, F.CHIP_IMG_STAT_ERROR, F.CHIP_IMG_STAT_SOURCE, F.CHIP_IMG_STAT_PENDING,
  F.CHIP_IMG_STAT_DONE, F.CHIP_IMG_STAT_FAIL, F.CHIP_IMG_STAT_BUSY, F.CHIP_PHASE_CMD_DIP_LIMIT, F.CHIP_PHASE_CMD_CMD, F.CHIP_SEEP_CNT_COUNT,
  F.CHIP_SEEP_ALARM_ALARM, F.CHIP_SEEP_KEEP_KEEP, F.CHIP_FL_ADDR_ADDR]
def tblRegsChip0_2 : List Fld := [F.CHIP_FL_BUF_BUF]
def tblRegsChip1_0 : List Fld := [F.RIP_AERR_ADDR_ADDR, F.RIP_AERR_INFO_VALID, F.RIP_AERR_INFO_OVERRUN, F.RIP_AERR_INFO_WORLD,
  F.RIP_AERR_INFO_COVE, F.RIP_AERR_INFO_KIND, F.RIP_AERR_INFO_WRITE, F.RIP_ARB_CTRL_FREEZE, F.RIP_ARB_STAT_BUSY,
  F.RIP_ARB_STAT_FREEZE_REFUSED, F.RIP_ARB_STAT_OWNER, F.RIP_ARB_STAT_MASKED, F.RIP_RGN_CFG_QUANTUM, F.RIP_RGN_CFG_STALL_US,
  F.RIP_FLOG_STAT_OVERFLOW, F.RIP_FLOG_STAT_COUNT, F.RIP_FLOG_W0_ACTION, F.RIP_FLOG_W0_KIND, F.RIP_FLOG_W0_INSTANCE, F.RIP_FLOG_W0_UNIT,
  F.RIP_FLOG_W0_REGION, F.RIP_FLOG_W0_LEVEL, F.RIP_FLOG_W1_GEN, F.RIP_FLOG_W1_WORLD, F.RIP_FLOG_W1_COVE, F.RIP_FLOG_TS_TS, F.RIP_FLOG_POP_POP,
  F.RIP_SPILL_STAT_BY_TIMEOUT, F.RIP_SPILL_STAT_SAFE, F.RIP_SPILL_STAT_PENDING, F.RIP_SPILL_CTRL_CMD, F.RIP_SPILL_CTRL_REGION]
def tblRegsChip2_0 : List Fld := [F.INL_ROUTE_FIXED, F.INL_ROUTE_LOCK, F.INL_ROUTE_GATE, F.INL_ROUTE_WIN, F.INL_ROUTE_DEST, F.INL_ROUTE_EN,
  F.INL_GATED_CNT_COUNT, F.INL_RAISE_LOST_COUNT, F.INL_SRING_PROD_PROD, F.INL_SRING_CONS_CONS, F.INL_SRING_LOST_LOST, F.INL_WRING_BASE_BASE,
  F.INL_WRING_CFG_HOLDOFF, F.INL_WRING_CFG_SIZE, F.INL_WRING_CFG_EN, F.INL_WRING_PROD_COUNT, F.INL_WRING_CONS_COUNT, F.INL_WRING_LOST_COUNT,
  F.INL_WRING_DOOR_IDENTITY, F.INL_WRING_DOOR_HART, F.INL_COVE_DOOR_EXTERNAL, F.INL_COVE_DOOR_IDENTITY, F.INL_COVE_DOOR_GUEST,
  F.INL_COVE_DOOR_HART]
def tblRegsChip3_0 : List Fld := [F.TBS_CFG_PPS_FALL, F.TBS_CFG_SRC, F.TBS_RATE_RATE, F.TBS_SLEW_SLEW, F.TBS_STEP_STEP, F.TBS_PPS_CAP_CAP,
  F.TBS_STAT_MARK_VALID, F.TBS_STAT_REF_LOST, F.TBS_STAT_SLEWING, F.TBS_STAT_PPS_VALID, F.TBS_WIN_CTRL_EN, F.TBS_WIN_START_START,
  F.TBS_WIN_END_END, F.TBS_NOW_NOW]
def tblRegsChip7E_0 : List Fld := [F.NVM_WIN_BANK, F.NVM_STAT_BUSY, F.NVM_STAT_PROT, F.NVM_STAT_UE, F.NVM_UE_ADDR_OFFSET, F.NVM_CE_COUNT]
def tblRegsChip81_0 : List Fld := [F.COVE_EVT_BASE_BASE, F.COVE_EVT_CFG_VECTOR, F.COVE_EVT_CFG_HOLDOFF, F.COVE_EVT_CFG_SIZE,
  F.COVE_EVT_CFG_EN, F.COVE_EVT_PROD_COUNT, F.COVE_EVT_CONS_COUNT, F.COVE_EVT_LOST_COUNT, F.COVE_EVT_MASK_MASK]

end Sys2Proof.Machine
end

