-- ==== Sys2Proof/Machine/RegsDisplay.lean ====
section
/-!
DEFINITION. Register fields of Reservoir, Basin, Tarn, Outlet and Sounding (chapters 08 to 12): one `Fld` per field of the
register tables of spec/ (offset from REGBASE, bits, access type, restriction, reset value).
-/
namespace Sys2Proof.Machine

def F.RES_CAP_SIZE_MIB : Fld := ⟨0x2000004, 15, 0, .ro, .open_, .none, 0x0, 1, 0x0, 1, false, fun _ _ => 0x0000⟩
def F.RES_PAGEINIT_DONE : Fld := ⟨0x2000008, 31, 31, .ro, .secWr, .none, 0x0, 1, 0x0, 1, false, fun _ _ => 0x0⟩
def F.RES_PAGEINIT_LEFT : Fld := ⟨0x2000008, 19, 0, .ro, .secWr, .none, 0x0, 1, 0x0, 1, false, fun _ _ => 0x0⟩
def F.RES_UE_ADDR_ADDR : Fld := ⟨0x2000080, 39, 0, .ro, .secWr, .none, 0x0, 1, 0x0, 1, false, fun _ _ => 0x0⟩
def F.RES_UE_INFO_VALID : Fld := ⟨0x2000088, 31, 31, .rw1c, .secWr, .none, 0x0, 1, 0x0, 1, false, fun _ _ => 0x0⟩
def F.RES_UE_INFO_SCRUB : Fld := ⟨0x2000088, 30, 30, .ro, .secWr, .none, 0x0, 1, 0x0, 1, false, fun _ _ => 0x0⟩
def F.RES_UE_INFO_CH : Fld := ⟨0x2000088, 29, 28, .ro, .secWr, .none, 0x0, 1, 0x0, 1, false, fun _ _ => 0x0⟩
def F.RES_UE_INFO_SC : Fld := ⟨0x2000088, 27, 27, .ro, .secWr, .none, 0x0, 1, 0x0, 1, false, fun _ _ => 0x0⟩
def F.RES_UE_INFO_RANK : Fld := ⟨0x2000088, 26, 26, .ro, .secWr, .none, 0x0, 1, 0x0, 1, false, fun _ _ => 0x0⟩
def F.RES_UE_INFO_BANK : Fld := ⟨0x2000088, 25, 22, .ro, .secWr, .none, 0x0, 1, 0x0, 1, false, fun _ _ => 0x0⟩
def F.RES_UE_INFO_ROW : Fld := ⟨0x2000088, 21, 5, .ro, .secWr, .none, 0x0, 1, 0x0, 1, false, fun _ _ => 0x0⟩
def F.RES_UE_INFO_COL : Fld := ⟨0x2000088, 4, 0, .ro, .secWr, .none, 0x0, 1, 0x0, 1, false, fun _ _ => 0x00⟩
def F.RES_SCRUB_CFG_HOURS : Fld := ⟨0x2000010, 15, 0, .rw, .secWr, .none, 0x0, 1, 0x0, 1, false, fun _ _ => 0x0018⟩
def F.RES_SCRUB_STAT_PASSES : Fld := ⟨0x2000014, 31, 0, .ro, .secWr, .none, 0x0, 1, 0x0, 1, false, fun _ _ => 0x0⟩
def F.RES_PPR_TGT_TARGET : Fld := ⟨0x2000020, 29, 0, .rw, .secWr, .none, 0x0, 1, 0x0, 1, false, fun _ _ => 0x0⟩
def F.RES_PPR_CMD_GO : Fld := ⟨0x2000024, 31, 31, .wo, .secWr, .none, 0x0, 1, 0x0, 1, true, fun _ _ => 0x0⟩
def F.RES_PPR_STAT_BUSY : Fld := ⟨0x2000028, 31, 31, .ro, .secWr, .none, 0x0, 1, 0x0, 1, false, fun _ _ => 0x0⟩
def F.RES_PPR_STAT_DONE : Fld := ⟨0x2000028, 30, 30, .rw1c, .secWr, .none, 0x0, 1, 0x0, 1, false, fun _ _ => 0x0⟩
def F.RES_PPR_STAT_FAIL : Fld := ⟨0x2000028, 29, 29, .rw1c, .secWr, .none, 0x0, 1, 0x0, 1, false, fun _ _ => 0x0⟩
def F.RES_PPR_STAT_LISTED : Fld := ⟨0x2000028, 24, 5, .ro, .secWr, .none, 0x0, 1, 0x0, 1, false, fun _ _ => 0x0⟩
def F.RES_PPR_STAT_REASON : Fld := ⟨0x2000028, 2, 0, .ro, .secWr, .none, 0x0, 1, 0x0, 1, false, fun _ _ => 0x0⟩
def F.RES_CFG_RATE_MAX : Fld := ⟨0x2000000, 17, 16, .rw, .secWr, .mram, 0x0, 1, 0x0, 1, false, fun _ _ => 3⟩
def F.RES_CFG_DBI : Fld := ⟨0x2000000, 13, 13, .ro, .secWr, .none, 0x0, 1, 0x0, 1, false, fun _ _ => 0x0⟩
def F.RES_CFG_LINK_ECC : Fld := ⟨0x2000000, 12, 12, .ro, .secWr, .none, 0x0, 1, 0x0, 1, false, fun _ _ => 0x0⟩
def F.RES_CFG_DENSITY : Fld := ⟨0x2000000, 9, 9, .ro, .secWr, .none, 0x0, 1, 0x0, 1, false, fun _ _ => 0x0⟩
def F.RES_CFG_RANKS2 : Fld := ⟨0x2000000, 8, 8, .ro, .secWr, .none, 0x0, 1, 0x0, 1, false, fun _ _ => 0x0⟩
def F.RES_CFG_RATE : Fld := ⟨0x2000000, 1, 0, .ro, .secWr, .none, 0x0, 1, 0x0, 1, false, fun _ _ => 0x0⟩
def F.RES_TRN_CTRL_GO : Fld := ⟨0x2000040, 31, 31, .wo, .secWr, .none, 0x0, 1, 0x0, 1, true, fun _ _ => 0x0⟩
def F.RES_TRN_CTRL_CHMASK : Fld := ⟨0x2000040, 27, 24, .rw, .secWr, .none, 0x0, 1, 0x0, 1, false, fun _ _ => 0x0⟩
def F.RES_TRN_CTRL_OP : Fld := ⟨0x2000040, 18, 16, .rw, .secWr, .none, 0x0, 1, 0x0, 1, false, fun _ _ => 0x0⟩
def F.RES_TRN_CTRL_PAT : Fld := ⟨0x2000040, 13, 12, .rw, .secWr, .none, 0x0, 1, 0x0, 1, false, fun _ _ => 0x0⟩
def F.RES_TRN_CTRL_LINES : Fld := ⟨0x2000040, 10, 0, .rw, .secWr, .none, 0x0, 1, 0x0, 1, false, fun _ _ => 0x000⟩
def F.RES_TRN_SEED_SEED : Fld := ⟨0x2000048, 31, 0, .rw, .secWr, .none, 0x0, 1, 0x0, 1, false, fun _ _ => 0x1⟩
def F.RES_TRN_STAT_BUSY : Fld := ⟨0x200004c, 31, 31, .ro, .secWr, .none, 0x0, 1, 0x0, 1, false, fun _ _ => 0x0⟩
def F.RES_TRN_STAT_DONE : Fld := ⟨0x200004c, 30, 30, .rw1c, .secWr, .none, 0x0, 1, 0x0, 1, false, fun _ _ => 0x0⟩
def F.RES_CH_STAT_WDEFER : Fld := ⟨0x2010000, 31, 16, .rc, .open_, .none, 0x1000, 4, 0x0, 1, false, fun _ _ => 0x0⟩
def F.RES_CH_STAT_STATE : Fld := ⟨0x2010000, 15, 14, .ro, .open_, .none, 0x1000, 4, 0x0, 1, false, fun _ _ => 0x0⟩
def F.RES_CH_STAT_WQ_FILL : Fld := ⟨0x2010000, 13, 7, .ro, .open_, .none, 0x1000, 4, 0x0, 1, false, fun _ _ => 0x00⟩
def F.RES_CH_STAT_RQ_FILL : Fld := ⟨0x2010000, 6, 0, .ro, .open_, .none, 0x1000, 4, 0x0, 1, false, fun _ _ => 0x00⟩
def F.RES_CH_SCHED_WQ_HIGH : Fld := ⟨0x2010004, 31, 24, .rw, .secWr, .none, 0x1000, 4, 0x0, 1, false, fun _ _ => 0x30⟩
def F.RES_CH_SCHED_WQ_LOW : Fld := ⟨0x2010004, 23, 16, .rw, .secWr, .none, 0x1000, 4, 0x0, 1, false, fun _ _ => 0x10⟩
def F.RES_CH_SCHED_IDLE_NS : Fld := ⟨0x2010004, 15, 8, .rw, .secWr, .none, 0x1000, 4, 0x0, 1, false, fun _ _ => 0x14⟩
def F.RES_CH_SCHED_AGE_NS : Fld := ⟨0x2010004, 7, 0, .rw, .secWr, .none, 0x1000, 4, 0x0, 1, false, fun _ _ => 0xC8⟩
def F.RES_CH_CE_LINK : Fld := ⟨0x2010008, 31, 16, .ro, .secWr, .none, 0x1000, 4, 0x0, 1, false, fun _ _ => 0x0⟩
def F.RES_CH_CE_DATA : Fld := ⟨0x2010008, 15, 0, .ro, .secWr, .none, 0x1000, 4, 0x0, 1, false, fun _ _ => 0x0⟩
def F.RES_CH_CE_THR_THR : Fld := ⟨0x201000c, 15, 0, .rw, .secWr, .none, 0x1000, 4, 0x0, 1, false, fun _ _ => 0x0100⟩
def F.RES_CH_MR_GO : Fld := ⟨0x2010014, 31, 31, .wo, .secWr, .none, 0x1000, 4, 0x0, 1, true, fun _ _ => 0x0⟩
def F.RES_CH_MR_WRITE : Fld := ⟨0x2010014, 24, 24, .rw, .secWr, .none, 0x1000, 4, 0x0, 1, false, fun _ _ => 0x0⟩
def F.RES_CH_MR_RANK : Fld := ⟨0x2010014, 23, 23, .rw, .secWr, .none, 0x1000, 4, 0x0, 1, false, fun _ _ => 0x0⟩
def F.RES_CH_MR_SC : Fld := ⟨0x2010014, 22, 22, .rw, .secWr, .none, 0x1000, 4, 0x0, 1, false, fun _ _ => 0x0⟩
def F.RES_CH_MR_MA : Fld := ⟨0x2010014, 14, 8, .rw, .secWr, .none, 0x1000, 4, 0x0, 1, false, fun _ _ => 0x00⟩
def F.RES_CH_MR_OP : Fld := ⟨0x2010014, 7, 0, .rw, .secWr, .none, 0x1000, 4, 0x0, 1, false, fun _ _ => 0x00⟩
def F.RES_CH_PHY_IDX_IDX : Fld := ⟨0x2010020, 8, 0, .rw, .secWr, .none, 0x1000, 4, 0x0, 1, false, fun _ _ => 0x000⟩
def F.RES_CH_PHY_DATA_VALUE : Fld := ⟨0x2010024, 7, 0, .rw, .secWr, .none, 0x1000, 4, 0x0, 1, false, fun _ _ => 0⟩
def F.RES_CH_TRN_ERR_DQ : Fld := ⟨0x2010030, 31, 0, .rw1c, .secWr, .none, 0x1000, 4, 0x0, 1, false, fun _ _ => 0x0⟩
def F.RES_CH_TRN_CNT_COUNT : Fld := ⟨0x2010034, 31, 0, .rc, .secWr, .none, 0x1000, 4, 0x0, 1, false, fun _ _ => 0x0⟩
def F.BAS_SLOT_DESC_DESC : Fld := ⟨0x3040000, 31, 0, .rw, .slot, .none, 0x1000, 64, 0x4, 32, false, fun _ _ => 0x0⟩
def F.BAS_SLOT_ACTIVE_ACTIVE : Fld := ⟨0x3040080, 31, 0, .ro, .slot, .none, 0x1000, 64, 0x4, 32, false, fun _ _ => 0x0⟩
def F.BAS_SLOT_STAT_REJECTED : Fld := ⟨0x3040100, 31, 31, .rw1c, .slot, .none, 0x1000, 64, 0x0, 1, false, fun _ _ => 0x0⟩
def F.BAS_SLOT_STAT_FENCE_FAULT : Fld := ⟨0x3040100, 30, 30, .rw1c, .slot, .none, 0x1000, 64, 0x0, 1, false, fun _ _ => 0x0⟩
def F.BAS_SLOT_STAT_DECODE_ERR : Fld := ⟨0x3040100, 29, 29, .rw1c, .slot, .none, 0x1000, 64, 0x0, 1, false, fun _ _ => 0x0⟩
def F.BAS_SLOT_STAT_LAYER_FAULT : Fld := ⟨0x3040100, 28, 28, .rw1c, .slot, .none, 0x1000, 64, 0x0, 1, false, fun _ _ => 0x0⟩
def F.BAS_SLOT_STAT_STALE_FRAMES : Fld := ⟨0x3040100, 23, 16, .ro, .slot, .none, 0x1000, 64, 0x0, 1, false, fun _ _ => 0x00⟩
def F.BAS_SLOT_STAT_PLACEHOLDER : Fld := ⟨0x3040100, 13, 13, .ro, .slot, .none, 0x1000, 64, 0x0, 1, false, fun _ _ => 0x0⟩
def F.BAS_SLOT_STAT_PENDING : Fld := ⟨0x3040100, 12, 12, .ro, .slot, .none, 0x1000, 64, 0x0, 1, false, fun _ _ => 0x0⟩
def F.BAS_SLOT_STAT_CODE : Fld := ⟨0x3040100, 3, 0, .ro, .slot, .none, 0x1000, 64, 0x0, 1, false, fun _ _ => 0x0⟩
def F.BAS_SLOT_INFO_EN : Fld := ⟨0x3040104, 31, 31, .ro, .slot, .none, 0x1000, 64, 0x0, 1, false, fun _ _ => 0⟩
def F.BAS_SLOT_INFO_SECURE : Fld := ⟨0x3040104, 30, 30, .ro, .slot, .none, 0x1000, 64, 0x0, 1, false, fun _ _ => 0⟩
def F.BAS_SLOT_INFO_OWNER : Fld := ⟨0x3040104, 28, 24, .ro, .slot, .none, 0x1000, 64, 0x0, 1, false, fun _ _ => 0⟩
def F.BAS_SLOT_INFO_COEF_SET : Fld := ⟨0x3040104, 23, 16, .ro, .slot, .none, 0x1000, 64, 0x0, 1, false, fun _ _ => 0⟩
def F.BAS_SLOT_INFO_BPP : Fld := ⟨0x3040104, 15, 12, .ro, .slot, .none, 0x1000, 64, 0x0, 1, false, fun _ _ => 0⟩
def F.BAS_SLOT_INFO_V_TAPS : Fld := ⟨0x3040104, 11, 8, .ro, .slot, .none, 0x1000, 64, 0x0, 1, false, fun _ _ => 0⟩
def F.BAS_SLOT_INFO_SCALER : Fld := ⟨0x3040104, 7, 0, .ro, .slot, .none, 0x1000, 64, 0x0, 1, false, fun _ _ => 0⟩
def F.BAS_SLOT_LIMIT_MAX_SRC_H : Fld := ⟨0x3040108, 31, 16, .ro, .slot, .none, 0x1000, 64, 0x0, 1, false, fun _ _ => 0⟩
def F.BAS_SLOT_LIMIT_MAX_SRC_W : Fld := ⟨0x3040108, 15, 0, .ro, .slot, .none, 0x1000, 64, 0x0, 1, false, fun _ _ => 0⟩
def F.BAS_SLOT_LIMIT_DST_MAX_DST_H : Fld := ⟨0x304010c, 31, 16, .ro, .slot, .none, 0x1000, 64, 0x0, 1, false, fun _ _ => 0⟩
def F.BAS_SLOT_LIMIT_DST_MAX_DST_W : Fld := ⟨0x304010c, 15, 0, .ro, .slot, .none, 0x1000, 64, 0x0, 1, false, fun _ _ => 0⟩
def F.BAS_HEAD_OWNCFG_MIN_COVER : Fld := ⟨0x3001000, 26, 16, .rw, .sec, .none, 0x10, 8, 0x0, 1, false, fun _ _ => 0x200⟩
def F.BAS_HEAD_OWNCFG_HIT_ALPHA : Fld := ⟨0x3001000, 9, 0, .rw, .sec, .none, 0x10, 8, 0x0, 1, false, fun _ _ => 0x200⟩
def F.BAS_SLOT_COMMIT_GO : Fld := ⟨0x3040200, 31, 31, .wo, .slot, .none, 0x1000, 64, 0x0, 1, true, fun _ _ => 0x0⟩
def F.BAS_SLOT_COMMIT_MASK : Fld := ⟨0x3040200, 7, 0, .wo, .slot, .none, 0x1000, 64, 0x0, 1, true, fun _ _ => 0x00⟩
def F.BAS_SLOT_COMMIT_STAT_DECIDED : Fld := ⟨0x3040204, 31, 31, .rw1c, .slot, .none, 0x1000, 64, 0x0, 1, false, fun _ _ => 0x0⟩
def F.BAS_SLOT_COMMIT_STAT_STATUS : Fld := ⟨0x3040204, 27, 24, .ro, .slot, .none, 0x1000, 64, 0x0, 1, false, fun _ _ => 0x0⟩
def F.BAS_SLOT_COMMIT_STAT_REJECTED : Fld := ⟨0x3040204, 7, 0, .ro, .slot, .none, 0x1000, 64, 0x0, 1, false, fun _ _ => 0x00⟩
def F.BAS_SLOT_COMMIT_SEQ_TARGET : Fld := ⟨0x3040208, 31, 0, .ro, .slot, .none, 0x1000, 64, 0x0, 1, false, fun _ _ => 0x0⟩
def F.BAS_SLOT_SHOWN_SEQ_SHOWN : Fld := ⟨0x304020c, 31, 0, .ro, .slot, .none, 0x1000, 64, 0x0, 1, false, fun _ _ => 0x0⟩
def F.BAS_HEAD_CSTAT_COMPOSING : Fld := ⟨0x3001004, 31, 31, .ro, .open_, .none, 0x10, 8, 0x0, 1, false, fun _ _ => 0x0⟩
def F.BAS_HEAD_CSTAT_WAITING : Fld := ⟨0x3001004, 30, 30, .ro, .open_, .none, 0x10, 8, 0x0, 1, false, fun _ _ => 0x0⟩
def F.BAS_HEAD_CSTAT_READY : Fld := ⟨0x3001004, 29, 29, .ro, .open_, .none, 0x10, 8, 0x0, 1, false, fun _ _ => 0x0⟩
def F.BAS_HEAD_CSTAT_LATCH_LINE : Fld := ⟨0x3001004, 15, 0, .ro, .open_, .none, 0x10, 8, 0x0, 1, false, fun _ _ => 0⟩
def F.BAS_HEAD_LATE_COUNT : Fld := ⟨0x3001008, 31, 0, .rc, .open_, .none, 0x10, 8, 0x0, 1, false, fun _ _ => 0x0⟩
def F.BAS_HEAD_DIRTY_TILES : Fld := ⟨0x300100c, 13, 0, .ro, .open_, .none, 0x10, 8, 0x0, 1, false, fun _ _ => 0x0⟩
def F.TARN_CFG_PATROL_MS : Fld := ⟨0x3800000, 31, 16, .rw, .sec, .none, 0x0, 1, 0x0, 1, false, fun _ _ => 0x03E8⟩
def F.TARN_CFG_EVAC : Fld := ⟨0x3800000, 7, 0, .rw, .sec, .none, 0x0, 1, 0x0, 1, false, fun _ _ => 0x40⟩
def F.TARN_STAT_FREE : Fld := ⟨0x3800004, 17, 0, .ro, .open_, .none, 0x0, 1, 0x0, 1, false, fun _ _ => 0⟩
def F.TARN_RESV_RESERVED : Fld := ⟨0x3800008, 17, 0, .ro, .open_, .none, 0x0, 1, 0x0, 1, false, fun _ _ => 0x0⟩
def F.TARN_CE_COUNT : Fld := ⟨0x3800010, 31, 0, .rc, .open_, .none, 0x0, 1, 0x0, 1, false, fun _ _ => 0x0⟩
def F.TARN_CE_THR_THR : Fld := ⟨0x3800014, 15, 0, .rw, .sec, .none, 0x0, 1, 0x0, 1, false, fun _ _ => 0x0100⟩
def F.TARN_UE_INFO_VALID : Fld := ⟨0x3800018, 31, 31, .rw1c, .open_, .none, 0x0, 1, 0x0, 1, false, fun _ _ => 0x0⟩
def F.TARN_UE_INFO_BANK : Fld := ⟨0x3800018, 25, 17, .ro, .open_, .none, 0x0, 1, 0x0, 1, false, fun _ _ => 0x000⟩
def F.TARN_UE_INFO_GRANULE : Fld := ⟨0x3800018, 16, 0, .ro, .open_, .none, 0x0, 1, 0x0, 1, false, fun _ _ => 0x0⟩
def F.TARN_RETIRED_COUNT : Fld := ⟨0x380001c, 17, 0, .ro, .open_, .none, 0x0, 1, 0x0, 1, false, fun _ _ => 0x0⟩
def F.TARN_BANK_MAP_RETIRE : Fld := ⟨0x3801000, 31, 31, .rw, .sec, .none, 0x4, 256, 0x0, 1, true, fun _ _ => 0x0⟩
def F.TARN_BANK_MAP_EMPTY : Fld := ⟨0x3801000, 30, 30, .ro, .open_, .none, 0x4, 256, 0x0, 1, false, fun _ _ => 0x0⟩
def F.TARN_BANK_MAP_USED : Fld := ⟨0x3801000, 25, 16, .ro, .open_, .none, 0x4, 256, 0x0, 1, false, fun _ _ => 0x000⟩
def F.TARN_BANK_MAP_PHYS : Fld := ⟨0x3801000, 8, 0, .rw, .sec, .none, 0x4, 256, 0x0, 1, true, fun i _ => i⟩
def F.OUT_ENG_STAT_ROLE : Fld := ⟨0x4020000, 31, 29, .ro, .open_, .none, 0x100, 12, 0x0, 1, false, fun _ _ => 0x0⟩
def F.OUT_ENG_STAT_HEAD : Fld := ⟨0x4020000, 26, 24, .ro, .open_, .none, 0x100, 12, 0x0, 1, false, fun _ _ => 0x0⟩
def F.OUT_ENG_STAT_HALF : Fld := ⟨0x4020000, 20, 20, .ro, .open_, .none, 0x100, 12, 0x0, 1, false, fun _ _ => 0x0⟩
def F.OUT_ENG_STAT_UE : Fld := ⟨0x4020000, 7, 0, .ro, .open_, .none, 0x100, 12, 0x0, 1, false, fun _ _ => 0x00⟩
def F.OUT_PLL_STAT_LOCKED : Fld := ⟨0x4030000, 31, 31, .ro, .head, .none, 0x40, 9, 0x0, 1, false, fun _ _ => 0x0⟩
def F.OUT_PLL_STAT_IN_USE : Fld := ⟨0x4030000, 30, 30, .ro, .head, .none, 0x40, 9, 0x0, 1, false, fun _ _ => 0x0⟩
def F.OUT_PLL_STAT_HEAD : Fld := ⟨0x4030000, 26, 24, .ro, .head, .none, 0x40, 9, 0x0, 1, false, fun _ _ => 0x0⟩
def F.OUT_PLL_STAT_TRIM : Fld := ⟨0x4030000, 15, 0, .ro, .head, .none, 0x40, 9, 0x0, 1, false, fun _ _ => 0x0000⟩
def F.OUT_PORT_CFG_AUTO_TRAIN : Fld := ⟨0x4010000, 0, 0, .rw, .head, .none, 0x1000, 8, 0x0, 1, false, fun _ _ => 0x1⟩
def F.OUT_PORT_STAT_HPD : Fld := ⟨0x4010004, 31, 31, .ro, .head, .none, 0x1000, 8, 0x0, 1, false, fun _ _ => 0x0⟩
def F.OUT_PORT_STAT_UP : Fld := ⟨0x4010004, 30, 30, .ro, .head, .none, 0x1000, 8, 0x0, 1, false, fun _ _ => 0x0⟩
def F.OUT_PORT_STAT_TRAINING : Fld := ⟨0x4010004, 29, 29, .ro, .head, .none, 0x1000, 8, 0x0, 1, false, fun _ _ => 0x0⟩
def F.OUT_PORT_STAT_RATE : Fld := ⟨0x4010004, 25, 24, .ro, .head, .none, 0x1000, 8, 0x0, 1, false, fun _ _ => 0x0⟩
def F.OUT_PORT_STAT_LANES : Fld := ⟨0x4010004, 18, 16, .ro, .head, .none, 0x1000, 8, 0x0, 1, false, fun _ _ => 0x0⟩
def F.OUT_PORT_STAT_TYPE : Fld := ⟨0x4010004, 1, 0, .ro, .head, .none, 0x1000, 8, 0x0, 1, false, fun _ _ => 0x0⟩
def F.OUT_PORT_AUX_CMD_GO : Fld := ⟨0x4010008, 31, 31, .wo, .head, .none, 0x1000, 8, 0x0, 1, true, fun _ _ => 0x0⟩
def F.OUT_PORT_AUX_CMD_CMD : Fld := ⟨0x4010008, 18, 16, .rw, .head, .none, 0x1000, 8, 0x0, 1, false, fun _ _ => 0x0⟩
def F.OUT_PORT_AUX_CMD_LEN : Fld := ⟨0x4010008, 3, 0, .rw, .head, .none, 0x1000, 8, 0x0, 1, false, fun _ _ => 0x0⟩
def F.OUT_PORT_AUX_ADDR_ADDR : Fld := ⟨0x401000c, 19, 0, .rw, .head, .none, 0x1000, 8, 0x0, 1, false, fun _ _ => 0x0⟩
def F.OUT_PORT_AUX_STAT_BUSY : Fld := ⟨0x4010010, 31, 31, .ro, .head, .none, 0x1000, 8, 0x0, 1, false, fun _ _ => 0x0⟩
def F.OUT_PORT_AUX_STAT_DONE : Fld := ⟨0x4010010, 30, 30, .rw1c, .head, .none, 0x1000, 8, 0x0, 1, false, fun _ _ => 0x0⟩
def F.OUT_PORT_AUX_STAT_FAIL : Fld := ⟨0x4010010, 29, 29, .rw1c, .head, .none, 0x1000, 8, 0x0, 1, false, fun _ _ => 0x0⟩
def F.OUT_PORT_AUX_STAT_REPLY : Fld := ⟨0x4010010, 1, 0, .ro, .head, .none, 0x1000, 8, 0x0, 1, false, fun _ _ => 0x0⟩
def F.OUT_PORT_TRAIN_GO : Fld := ⟨0x4010014, 31, 31, .wo, .head, .none, 0x1000, 8, 0x0, 1, true, fun _ _ => 0x0⟩
def F.OUT_PORT_AUX_DATA_DATA : Fld := ⟨0x4010020, 31, 0, .rw, .head, .none, 0x1000, 8, 0x4, 4, false, fun _ _ => 0x0⟩
def F.OUT_HEAD_BL_MODE : Fld := ⟨0x4000028, 31, 31, .rw, .head, .none, 0x1000, 8, 0x0, 1, false, fun _ _ => 0x0⟩
def F.OUT_HEAD_BL_SYNC : Fld := ⟨0x4000028, 30, 30, .rw, .head, .none, 0x1000, 8, 0x0, 1, false, fun _ _ => 0x0⟩
def F.OUT_HEAD_BL_FILTER : Fld := ⟨0x4000028, 26, 24, .rw, .head, .none, 0x1000, 8, 0x0, 1, false, fun _ _ => 0x3⟩
def F.OUT_HEAD_BL_SLEW : Fld := ⟨0x4000028, 23, 16, .rw, .head, .none, 0x1000, 8, 0x0, 1, false, fun _ _ => 0x00⟩
def F.OUT_HEAD_BL_DUTY_MANUAL : Fld := ⟨0x4000028, 15, 0, .rw, .head, .none, 0x1000, 8, 0x0, 1, false, fun _ _ => 0x0000⟩
def F.OUT_HEAD_BL_STAT_DUTY : Fld := ⟨0x400002c, 15, 0, .ro, .head, .none, 0x1000, 8, 0x0, 1, false, fun _ _ => 0x0000⟩
def F.OUT_HEAD_LUX_LUX : Fld := ⟨0x4000030, 31, 0, .ro, .head, .none, 0x1000, 8, 0x0, 1, false, fun _ _ => 0x0⟩
def F.OUT_HEAD_BL_PWM_PERIOD : Fld := ⟨0x4000034, 15, 0, .rw, .head, .none, 0x1000, 8, 0x0, 1, false, fun _ _ => 0x04E2⟩
def F.OUT_HEAD_BL_GAIN_GAIN : Fld := ⟨0x4000038, 16, 0, .rw, .head, .none, 0x1000, 8, 0x0, 1, false, fun _ _ => 0x10000⟩
def F.OUT_ALS_CFG_PERIOD_MS : Fld := ⟨0x4040000, 31, 24, .rw, .secW, .none, 0x20, 4, 0x0, 1, false, fun _ _ => 0x00⟩
def F.OUT_ALS_CFG_BIG_END : Fld := ⟨0x4040000, 17, 17, .rw, .secW, .none, 0x20, 4, 0x0, 1, false, fun _ _ => 0x0⟩
def F.OUT_ALS_CFG_LEN3 : Fld := ⟨0x4040000, 16, 16, .rw, .secW, .none, 0x20, 4, 0x0, 1, false, fun _ _ => 0x0⟩
def F.OUT_ALS_CFG_REG : Fld := ⟨0x4040000, 15, 8, .rw, .secW, .none, 0x20, 4, 0x0, 1, false, fun _ _ => 0x00⟩
def F.OUT_ALS_CFG_ADDR : Fld := ⟨0x4040000, 6, 0, .rw, .secW, .none, 0x20, 4, 0x0, 1, false, fun _ _ => 0x00⟩
def F.OUT_ALS_SCALE_SCALE : Fld := ⟨0x4040004, 31, 0, .rw, .secW, .none, 0x20, 4, 0x0, 1, false, fun _ _ => 0x00010000⟩
def F.OUT_ALS_RAW_VALID : Fld := ⟨0x4040008, 31, 31, .ro, .secW, .none, 0x20, 4, 0x0, 1, false, fun _ _ => 0x0⟩
def F.OUT_ALS_RAW_ERR : Fld := ⟨0x4040008, 30, 30, .rw1c, .secW, .none, 0x20, 4, 0x0, 1, false, fun _ _ => 0x0⟩
def F.OUT_ALS_RAW_COUNT : Fld := ⟨0x4040008, 23, 0, .ro, .secW, .none, 0x20, 4, 0x0, 1, false, fun _ _ => 0x0⟩
def F.OUT_HEAD_GENLOCK_MODE : Fld := ⟨0x4000020, 31, 30, .rw, .head, .none, 0x1000, 8, 0x0, 1, false, fun _ _ => 0x0⟩
def F.OUT_HEAD_GENLOCK_RATIO : Fld := ⟨0x4000020, 29, 29, .rw, .head, .none, 0x1000, 8, 0x0, 1, false, fun _ _ => 0x0⟩
def F.OUT_HEAD_GENLOCK_JUMP : Fld := ⟨0x4000020, 28, 28, .rw, .head, .none, 0x1000, 8, 0x0, 1, false, fun _ _ => 0x0⟩
def F.OUT_HEAD_GENLOCK_OFFSET_NS : Fld := ⟨0x4000020, 23, 0, .rw, .head, .none, 0x1000, 8, 0x0, 1, false, fun _ _ => 0x0⟩
def F.OUT_HEAD_GL_STAT_LOCKED : Fld := ⟨0x4000024, 31, 31, .ro, .head, .none, 0x1000, 8, 0x0, 1, false, fun _ _ => 0x0⟩
def F.OUT_HEAD_GL_STAT_INCOMPATIBLE : Fld := ⟨0x4000024, 30, 30, .ro, .head, .none, 0x1000, 8, 0x0, 1, false, fun _ _ => 0x0⟩
def F.OUT_HEAD_GL_STAT_ERR_NS : Fld := ⟨0x4000024, 23, 0, .ro, .head, .none, 0x1000, 8, 0x0, 1, false, fun _ _ => 0x0⟩
def F.OUT_HEAD_STAT_ON : Fld := ⟨0x4000000, 31, 31, .ro, .head, .none, 0x1000, 8, 0x0, 1, false, fun _ _ => 0x0⟩
def F.OUT_HEAD_STAT_SAFETY : Fld := ⟨0x4000000, 30, 30, .ro, .head, .none, 0x1000, 8, 0x0, 1, false, fun _ _ => 0x0⟩
def F.OUT_HEAD_STAT_PAIR_LEAD : Fld := ⟨0x4000000, 29, 29, .ro, .head, .none, 0x1000, 8, 0x0, 1, false, fun _ _ => 0x0⟩
def F.OUT_HEAD_STAT_SINGLE : Fld := ⟨0x4000000, 28, 28, .ro, .head, .none, 0x1000, 8, 0x0, 1, false, fun _ _ => 0x0⟩
def F.OUT_HEAD_STAT_FAULT : Fld := ⟨0x4000000, 27, 27, .ro, .head, .none, 0x1000, 8, 0x0, 1, false, fun _ _ => 0x0⟩
def F.OUT_HEAD_STAT_LINK_DOWN : Fld := ⟨0x4000000, 26, 26, .ro, .head, .none, 0x1000, 8, 0x0, 1, false, fun _ _ => 0x0⟩
def F.OUT_HEAD_STAT_ABORT : Fld := ⟨0x4000000, 25, 25, .ro, .head, .none, 0x1000, 8, 0x0, 1, false, fun _ _ => 0x0⟩
def F.OUT_HEAD_STAT_PLL : Fld := ⟨0x4000000, 3, 0, .ro, .head, .none, 0x1000, 8, 0x0, 1, false, fun i _ => i⟩
def F.OUT_HEAD_SEQ_SEQ : Fld := ⟨0x4000004, 31, 0, .ro, .head, .none, 0x1000, 8, 0x0, 1, false, fun _ _ => 0x0⟩
def F.OUT_HEAD_FS_TS_TS : Fld := ⟨0x4000008, 63, 0, .ro, .head, .none, 0x1000, 8, 0x0, 1, false, fun _ _ => 0x0⟩
def F.OUT_HEAD_POS_ACTIVE : Fld := ⟨0x4000010, 31, 31, .ro, .head, .none, 0x1000, 8, 0x0, 1, false, fun _ _ => 0x0⟩
def F.OUT_HEAD_POS_LINE : Fld := ⟨0x4000010, 12, 0, .ro, .head, .none, 0x1000, 8, 0x0, 1, false, fun _ _ => 0x0⟩
def F.OUT_HEAD_FIFO_MIN_CLR : Fld := ⟨0x4000014, 31, 31, .wo, .head, .none, 0x1000, 8, 0x0, 1, true, fun _ _ => 0x0⟩
def F.OUT_HEAD_FIFO_MIN : Fld := ⟨0x4000014, 30, 24, .ro, .head, .none, 0x1000, 8, 0x0, 1, false, fun _ _ => 0x60⟩
def F.OUT_HEAD_FIFO_RELEASE : Fld := ⟨0x4000014, 22, 16, .rw, .sec, .none, 0x1000, 8, 0x0, 1, false, fun _ _ => 0x30⟩
def F.OUT_HEAD_FIFO_LOW : Fld := ⟨0x4000014, 14, 8, .rw, .sec, .none, 0x1000, 8, 0x0, 1, false, fun _ _ => 0x18⟩
def F.OUT_HEAD_FIFO_FILL : Fld := ⟨0x4000014, 6, 0, .ro, .head, .none, 0x1000, 8, 0x0, 1, false, fun _ _ => 0x00⟩
def F.OUT_HEAD_UNDER_COUNT : Fld := ⟨0x4000018, 31, 0, .rc, .head, .none, 0x1000, 8, 0x0, 1, false, fun _ _ => 0x0⟩
def F.OUT_HEAD_ABORT_TOTAL : Fld := ⟨0x400001c, 31, 8, .ro, .head, .none, 0x1000, 8, 0x0, 1, false, fun _ _ => 0x0⟩
def F.OUT_HEAD_ABORT_CONSEC : Fld := ⟨0x400001c, 1, 0, .ro, .head, .none, 0x1000, 8, 0x0, 1, false, fun _ _ => 0x0⟩
def F.OUT_HEAD_HTIME0_H_FRONT : Fld := ⟨0x4000040, 31, 16, .ro, .head, .none, 0x1000, 8, 0x0, 1, false, fun _ _ => 0⟩
def F.OUT_HEAD_HTIME0_H_ACTIVE : Fld := ⟨0x4000040, 15, 0, .ro, .head, .none, 0x1000, 8, 0x0, 1, false, fun _ _ => 0⟩
def F.OUT_HEAD_HTIME1_H_BACK : Fld := ⟨0x4000044, 31, 16, .ro, .head, .none, 0x1000, 8, 0x0, 1, false, fun _ _ => 0⟩
def F.OUT_HEAD_HTIME1_H_SYNC : Fld := ⟨0x4000044, 15, 0, .ro, .head, .none, 0x1000, 8, 0x0, 1, false, fun _ _ => 0⟩
def F.OUT_HEAD_VTIME0_V_FRONT : Fld := ⟨0x4000048, 31, 16, .ro, .head, .none, 0x1000, 8, 0x0, 1, false, fun _ _ => 0⟩
def F.OUT_HEAD_VTIME0_V_ACTIVE : Fld := ⟨0x4000048, 15, 0, .ro, .head, .none, 0x1000, 8, 0x0, 1, false, fun _ _ => 0⟩
def F.OUT_HEAD_VTIME1_V_BACK : Fld := ⟨0x400004c, 31, 16, .ro, .head, .none, 0x1000, 8, 0x0, 1, false, fun _ _ => 0⟩
def F.OUT_HEAD_VTIME1_V_SYNC : Fld := ⟨0x400004c, 15, 0, .ro, .head, .none, 0x1000, 8, 0x0, 1, false, fun _ _ => 0⟩
def F.OUT_HEAD_PCLK_PCLK_KHZ : Fld := ⟨0x4000050, 31, 0, .ro, .head, .none, 0x1000, 8, 0x0, 1, false, fun _ _ => 0⟩
def F.OUT_HEAD_BG_BG_COLOUR : Fld := ⟨0x4000054, 29, 0, .ro, .head, .none, 0x1000, 8, 0x0, 1, false, fun _ _ => 0⟩
def F.SND_UNIT_CFG_EN : Fld := ⟨0x4800000, 31, 31, .ro, .sec, .none, 0x100, 64, 0x0, 1, false, fun _ _ => 0⟩
def F.SND_UNIT_CFG_STATIC : Fld := ⟨0x4800000, 30, 30, .ro, .sec, .none, 0x100, 64, 0x0, 1, false, fun _ _ => 0⟩
def F.SND_UNIT_CFG_LEGAL : Fld := ⟨0x4800000, 29, 29, .ro, .sec, .none, 0x100, 64, 0x0, 1, false, fun _ _ => 0⟩
def F.SND_UNIT_CFG_DEPTH30 : Fld := ⟨0x4800000, 28, 28, .ro, .sec, .none, 0x100, 64, 0x0, 1, false, fun _ _ => 0⟩
def F.SND_UNIT_CFG_HEAD : Fld := ⟨0x4800000, 26, 24, .ro, .sec, .none, 0x100, 64, 0x0, 1, false, fun i _ => i / 8⟩
def F.SND_UNIT_CFG_WINDOW : Fld := ⟨0x4800000, 18, 16, .ro, .sec, .none, 0x100, 64, 0x0, 1, false, fun i _ => i % 8⟩
def F.SND_UNIT_RECT0_Y0 : Fld := ⟨0x4800004, 31, 16, .ro, .sec, .none, 0x100, 64, 0x0, 1, false, fun _ _ => 0⟩
def F.SND_UNIT_RECT0_X0 : Fld := ⟨0x4800004, 15, 0, .ro, .sec, .none, 0x100, 64, 0x0, 1, false, fun _ _ => 0⟩
def F.SND_UNIT_RECT1_Y1 : Fld := ⟨0x4800008, 31, 16, .ro, .sec, .none, 0x100, 64, 0x0, 1, false, fun _ _ => 0⟩
def F.SND_UNIT_RECT1_X1 : Fld := ⟨0x4800008, 15, 0, .ro, .sec, .none, 0x100, 64, 0x0, 1, false, fun _ _ => 0⟩
def F.SND_UNIT_STATIC_EXPECT : Fld := ⟨0x480000c, 31, 0, .rw, .sec, .none, 0x100, 64, 0x0, 1, false, fun _ _ => 0⟩
def F.SND_UNIT_EXP_SEQ_SEQ : Fld := ⟨0x4800010, 31, 0, .rw, .sec, .none, 0x100, 64, 0x0, 1, false, fun _ _ => 0x0⟩
def F.SND_UNIT_EXP_VAL_VALUE : Fld := ⟨0x4800014, 31, 0, .rw, .sec, .none, 0x100, 64, 0x0, 1, false, fun _ _ => 0x0⟩
def F.SND_UNIT_EXP_PUSH_GO : Fld := ⟨0x4800018, 31, 31, .wo, .sec, .none, 0x100, 64, 0x0, 1, true, fun _ _ => 0x0⟩
def F.SND_UNIT_EXP_PUSH_FLUSH : Fld := ⟨0x4800018, 30, 30, .wo, .sec, .none, 0x100, 64, 0x0, 1, true, fun _ _ => 0x0⟩
def F.SND_UNIT_EXP_PUSH_TAG : Fld := ⟨0x4800018, 7, 0, .wo, .sec, .none, 0x100, 64, 0x0, 1, true, fun _ _ => 0x00⟩
def F.SND_UNIT_EXP_STAT_REFUSED : Fld := ⟨0x480001c, 31, 31, .rw1c, .sec, .none, 0x100, 64, 0x0, 1, false, fun _ _ => 0x0⟩
def F.SND_UNIT_EXP_STAT_REASON : Fld := ⟨0x480001c, 29, 28, .ro, .sec, .none, 0x100, 64, 0x0, 1, false, fun _ _ => 0x0⟩
def F.SND_UNIT_EXP_STAT_COUNT : Fld := ⟨0x480001c, 20, 16, .ro, .sec, .none, 0x100, 64, 0x0, 1, false, fun _ _ => 0x00⟩
def F.SND_UNIT_RES_SEQ_SEQ : Fld := ⟨0x4800020, 31, 0, .ro, .sec, .none, 0x100, 64, 0x0, 1, false, fun _ _ => 0x0⟩
def F.SND_UNIT_RES_CRC_CRC : Fld := ⟨0x4800024, 31, 0, .ro, .sec, .none, 0x100, 64, 0x0, 1, false, fun _ _ => 0x0⟩
def F.SND_UNIT_RES_STAT_NEW : Fld := ⟨0x4800028, 31, 31, .rw1c, .sec, .none, 0x100, 64, 0x0, 1, false, fun _ _ => 0x0⟩
def F.SND_UNIT_RES_STAT_STATUS : Fld := ⟨0x4800028, 26, 24, .ro, .sec, .none, 0x100, 64, 0x0, 1, false, fun _ _ => 0x0⟩
def F.SND_UNIT_RES_STAT_TAG : Fld := ⟨0x4800028, 23, 16, .ro, .sec, .none, 0x100, 64, 0x0, 1, false, fun _ _ => 0x00⟩
def F.SND_UNIT_RES_STAT_CONSEC_BAD : Fld := ⟨0x4800028, 15, 8, .ro, .sec, .none, 0x100, 64, 0x0, 1, false, fun _ _ => 0x00⟩
def F.SND_UNIT_RES_STAT_CAUSE : Fld := ⟨0x4800028, 1, 0, .ro, .sec, .none, 0x100, 64, 0x0, 1, false, fun _ _ => 0x0⟩
def F.SND_UNIT_MATCHES_COUNT : Fld := ⟨0x480002c, 31, 0, .rc, .sec, .none, 0x100, 64, 0x0, 1, false, fun _ _ => 0x0⟩
def F.SND_UNIT_BAD_COUNT : Fld := ⟨0x4800030, 31, 0, .rc, .sec, .none, 0x100, 64, 0x0, 1, false, fun _ _ => 0x0⟩
def F.SND_UNIT_EXPIRED_COUNT : Fld := ⟨0x4800034, 31, 0, .rc, .sec, .none, 0x100, 64, 0x0, 1, false, fun _ _ => 0x0⟩
def F.SND_UNIT_RES_TS_TS : Fld := ⟨0x4800038, 63, 0, .ro, .sec, .none, 0x100, 64, 0x0, 1, false, fun _ _ => 0x0⟩
def F.SND_GEN_CFG_SECURE : Fld := ⟨0x4810000, 31, 31, .rw, .sec, .none, 0x100, 16, 0x0, 1, false, fun _ _ => 0x0⟩
def F.SND_GEN_CFG_ARMED : Fld := ⟨0x4810000, 30, 30, .ro, .gen, .none, 0x100, 16, 0x0, 1, false, fun _ _ => 0x0⟩
def F.SND_GEN_CFG_BY_COVE_MGR : Fld := ⟨0x4810000, 29, 29, .ro, .gen, .none, 0x100, 16, 0x0, 1, false, fun _ _ => 0x0⟩
def F.SND_GEN_ADDR_ADDR : Fld := ⟨0x4810008, 49, 0, .rw, .gen, .none, 0x100, 16, 0x0, 1, false, fun _ _ => 0x0⟩
def F.SND_GEN_LEN_LENGTH : Fld := ⟨0x4810010, 31, 0, .rw, .gen, .none, 0x100, 16, 0x0, 1, false, fun _ _ => 0x0⟩
def F.SND_GEN_SALT_SALT : Fld := ⟨0x4810014, 31, 0, .rw, .gen, .none, 0x100, 16, 0x0, 1, false, fun _ _ => 0x0⟩
def F.SND_GEN_EXPECT_EXPECT : Fld := ⟨0x4810018, 31, 0, .rw, .gen, .none, 0x100, 16, 0x0, 1, false, fun _ _ => 0x0⟩
def F.SND_GEN_CTRL_GO : Fld := ⟨0x481001c, 31, 31, .wo, .gen, .none, 0x100, 16, 0x0, 1, true, fun _ _ => 0x0⟩
def F.SND_GEN_CTRL_COMPARE : Fld := ⟨0x481001c, 8, 8, .wo, .gen, .none, 0x100, 16, 0x0, 1, true, fun _ _ => 0x0⟩
def F.SND_GEN_CTRL_COVE : Fld := ⟨0x481001c, 4, 0, .wo, .gen, .none, 0x100, 16, 0x0, 1, true, fun _ _ => 0x00⟩
def F.SND_GEN_STAT_DONE : Fld := ⟨0x4810020, 31, 31, .rw1c, .gen, .none, 0x100, 16, 0x0, 1, false, fun _ _ => 0x0⟩
def F.SND_GEN_STAT_BUSY : Fld := ⟨0x4810020, 30, 30, .ro, .gen, .none, 0x100, 16, 0x0, 1, false, fun _ _ => 0x0⟩
def F.SND_GEN_STAT_STATUS : Fld := ⟨0x4810020, 2, 0, .ro, .gen, .none, 0x100, 16, 0x0, 1, false, fun _ _ => 0x0⟩
def F.SND_GEN_CRC_CRC : Fld := ⟨0x4810024, 31, 0, .ro, .gen, .none, 0x100, 16, 0x0, 1, false, fun _ _ => 0x0⟩

def tblRegsDisplay20_0 : List Fld := [F.RES_CAP_SIZE_MIB, F.RES_PAGEINIT_DONE, F.RES_PAGEINIT_LEFT, F.RES_UE_ADDR_ADDR, F.RES_UE_INFO_VALID,
  F.RES_UE_INFO_SCRUB, F.RES_UE_INFO_CH, F.RES_UE_INFO_SC, F.RES_UE_INFO_RANK, F.RES_UE_INFO_BANK, F.RES_UE_INFO_ROW, F.RES_UE_INFO_COL,
  F.RES_SCRUB_CFG_HOURS, F.RES_SCRUB_STAT_PASSES, F.RES_PPR_TGT_TARGET, F.RES_PPR_CMD_GO, F.RES_PPR_STAT_BUSY, F.RES_PPR_STAT_DONE,
  F.RES_PPR_STAT_FAIL, F.RES_PPR_STAT_LISTED, F.RES_PPR_STAT_REASON, F.RES_CFG_RATE_MAX, F.RES_CFG_DBI, F.RES_CFG_LINK_ECC, F.RES_CFG_DENSITY,
  F.RES_CFG_RANKS2, F.RES_CFG_RATE, F.RES_TRN_CTRL_GO, F.RES_TRN_CTRL_CHMASK, F.RES_TRN_CTRL_OP, F.RES_TRN_CTRL_PAT, F.RES_TRN_CTRL_LINES,
  F.RES_TRN_SEED_SEED, F.RES_TRN_STAT_BUSY, F.RES_TRN_STAT_DONE, F.RES_CH_STAT_WDEFER, F.RES_CH_STAT_STATE, F.RES_CH_STAT_WQ_FILL,
  F.RES_CH_STAT_RQ_FILL, F.RES_CH_SCHED_WQ_HIGH]
def tblRegsDisplay20_1 : List Fld := [F.RES_CH_SCHED_WQ_LOW, F.RES_CH_SCHED_IDLE_NS, F.RES_CH_SCHED_AGE_NS, F.RES_CH_CE_LINK,
  F.RES_CH_CE_DATA, F.RES_CH_CE_THR_THR, F.RES_CH_MR_GO, F.RES_CH_MR_WRITE, F.RES_CH_MR_RANK, F.RES_CH_MR_SC, F.RES_CH_MR_MA, F.RES_CH_MR_OP,
  F.RES_CH_PHY_IDX_IDX, F.RES_CH_PHY_DATA_VALUE, F.RES_CH_TRN_ERR_DQ, F.RES_CH_TRN_CNT_COUNT]
def tblRegsDisplay30_0 : List Fld := [F.BAS_SLOT_DESC_DESC, F.BAS_SLOT_ACTIVE_ACTIVE, F.BAS_SLOT_STAT_REJECTED, F.BAS_SLOT_STAT_FENCE_FAULT,
  F.BAS_SLOT_STAT_DECODE_ERR, F.BAS_SLOT_STAT_LAYER_FAULT, F.BAS_SLOT_STAT_STALE_FRAMES, F.BAS_SLOT_STAT_PLACEHOLDER, F.BAS_SLOT_STAT_PENDING,
  F.BAS_SLOT_STAT_CODE, F.BAS_SLOT_INFO_EN, F.BAS_SLOT_INFO_SECURE, F.BAS_SLOT_INFO_OWNER, F.BAS_SLOT_INFO_COEF_SET, F.BAS_SLOT_INFO_BPP,
  F.BAS_SLOT_INFO_V_TAPS, F.BAS_SLOT_INFO_SCALER, F.BAS_SLOT_LIMIT_MAX_SRC_H, F.BAS_SLOT_LIMIT_MAX_SRC_W, F.BAS_SLOT_LIMIT_DST_MAX_DST_H,
  F.BAS_SLOT_LIMIT_DST_MAX_DST_W, F.BAS_HEAD_OWNCFG_MIN_COVER, F.BAS_HEAD_OWNCFG_HIT_ALPHA, F.BAS_SLOT_COMMIT_GO, F.BAS_SLOT_COMMIT_MASK,
  F.BAS_SLOT_COMMIT_STAT_DECIDED, F.BAS_SLOT_COMMIT_STAT_STATUS, F.BAS_SLOT_COMMIT_STAT_REJECTED, F.BAS_SLOT_COMMIT_SEQ_TARGET,
  F.BAS_SLOT_SHOWN_SEQ_SHOWN, F.BAS_HEAD_CSTAT_COMPOSING, F.BAS_HEAD_CSTAT_WAITING, F.BAS_HEAD_CSTAT_READY, F.BAS_HEAD_CSTAT_LATCH_LINE,
  F.BAS_HEAD_LATE_COUNT, F.BAS_HEAD_DIRTY_TILES]
def tblRegsDisplay38_0 : List Fld := [F.TARN_CFG_PATROL_MS, F.TARN_CFG_EVAC, F.TARN_STAT_FREE, F.TARN_RESV_RESERVED, F.TARN_CE_COUNT,
  F.TARN_CE_THR_THR, F.TARN_UE_INFO_VALID, F.TARN_UE_INFO_BANK, F.TARN_UE_INFO_GRANULE, F.TARN_RETIRED_COUNT, F.TARN_BANK_MAP_RETIRE,
  F.TARN_BANK_MAP_EMPTY, F.TARN_BANK_MAP_USED, F.TARN_BANK_MAP_PHYS]
def tblRegsDisplay40_0 : List Fld := [F.OUT_ENG_STAT_ROLE, F.OUT_ENG_STAT_HEAD, F.OUT_ENG_STAT_HALF, F.OUT_ENG_STAT_UE,
  F.OUT_PLL_STAT_LOCKED, F.OUT_PLL_STAT_IN_USE, F.OUT_PLL_STAT_HEAD, F.OUT_PLL_STAT_TRIM, F.OUT_PORT_CFG_AUTO_TRAIN, F.OUT_PORT_STAT_HPD,
  F.OUT_PORT_STAT_UP, F.OUT_PORT_STAT_TRAINING, F.OUT_PORT_STAT_RATE, F.OUT_PORT_STAT_LANES, F.OUT_PORT_STAT_TYPE, F.OUT_PORT_AUX_CMD_GO,
  F.OUT_PORT_AUX_CMD_CMD, F.OUT_PORT_AUX_CMD_LEN, F.OUT_PORT_AUX_ADDR_ADDR, F.OUT_PORT_AUX_STAT_BUSY, F.OUT_PORT_AUX_STAT_DONE,
  F.OUT_PORT_AUX_STAT_FAIL, F.OUT_PORT_AUX_STAT_REPLY, F.OUT_PORT_TRAIN_GO, F.OUT_PORT_AUX_DATA_DATA, F.OUT_HEAD_BL_MODE, F.OUT_HEAD_BL_SYNC,
  F.OUT_HEAD_BL_FILTER, F.OUT_HEAD_BL_SLEW, F.OUT_HEAD_BL_DUTY_MANUAL, F.OUT_HEAD_BL_STAT_DUTY, F.OUT_HEAD_LUX_LUX, F.OUT_HEAD_BL_PWM_PERIOD,
  F.OUT_HEAD_BL_GAIN_GAIN, F.OUT_ALS_CFG_PERIOD_MS, F.OUT_ALS_CFG_BIG_END, F.OUT_ALS_CFG_LEN3, F.OUT_ALS_CFG_REG, F.OUT_ALS_CFG_ADDR,
  F.OUT_ALS_SCALE_SCALE]
def tblRegsDisplay40_1 : List Fld := [F.OUT_ALS_RAW_VALID, F.OUT_ALS_RAW_ERR, F.OUT_ALS_RAW_COUNT, F.OUT_HEAD_GENLOCK_MODE,
  F.OUT_HEAD_GENLOCK_RATIO, F.OUT_HEAD_GENLOCK_JUMP, F.OUT_HEAD_GENLOCK_OFFSET_NS, F.OUT_HEAD_GL_STAT_LOCKED, F.OUT_HEAD_GL_STAT_INCOMPATIBLE,
  F.OUT_HEAD_GL_STAT_ERR_NS, F.OUT_HEAD_STAT_ON, F.OUT_HEAD_STAT_SAFETY, F.OUT_HEAD_STAT_PAIR_LEAD, F.OUT_HEAD_STAT_SINGLE,
  F.OUT_HEAD_STAT_FAULT, F.OUT_HEAD_STAT_LINK_DOWN, F.OUT_HEAD_STAT_ABORT, F.OUT_HEAD_STAT_PLL, F.OUT_HEAD_SEQ_SEQ, F.OUT_HEAD_FS_TS_TS,
  F.OUT_HEAD_POS_ACTIVE, F.OUT_HEAD_POS_LINE, F.OUT_HEAD_FIFO_MIN_CLR, F.OUT_HEAD_FIFO_MIN, F.OUT_HEAD_FIFO_RELEASE, F.OUT_HEAD_FIFO_LOW,
  F.OUT_HEAD_FIFO_FILL, F.OUT_HEAD_UNDER_COUNT, F.OUT_HEAD_ABORT_TOTAL, F.OUT_HEAD_ABORT_CONSEC, F.OUT_HEAD_HTIME0_H_FRONT,
  F.OUT_HEAD_HTIME0_H_ACTIVE, F.OUT_HEAD_HTIME1_H_BACK, F.OUT_HEAD_HTIME1_H_SYNC, F.OUT_HEAD_VTIME0_V_FRONT, F.OUT_HEAD_VTIME0_V_ACTIVE,
  F.OUT_HEAD_VTIME1_V_BACK, F.OUT_HEAD_VTIME1_V_SYNC, F.OUT_HEAD_PCLK_PCLK_KHZ, F.OUT_HEAD_BG_BG_COLOUR]
def tblRegsDisplay48_0 : List Fld := [F.SND_UNIT_CFG_EN, F.SND_UNIT_CFG_STATIC, F.SND_UNIT_CFG_LEGAL, F.SND_UNIT_CFG_DEPTH30,
  F.SND_UNIT_CFG_HEAD, F.SND_UNIT_CFG_WINDOW, F.SND_UNIT_RECT0_Y0, F.SND_UNIT_RECT0_X0, F.SND_UNIT_RECT1_Y1, F.SND_UNIT_RECT1_X1,
  F.SND_UNIT_STATIC_EXPECT, F.SND_UNIT_EXP_SEQ_SEQ, F.SND_UNIT_EXP_VAL_VALUE, F.SND_UNIT_EXP_PUSH_GO, F.SND_UNIT_EXP_PUSH_FLUSH,
  F.SND_UNIT_EXP_PUSH_TAG, F.SND_UNIT_EXP_STAT_REFUSED, F.SND_UNIT_EXP_STAT_REASON, F.SND_UNIT_EXP_STAT_COUNT, F.SND_UNIT_RES_SEQ_SEQ,
  F.SND_UNIT_RES_CRC_CRC, F.SND_UNIT_RES_STAT_NEW, F.SND_UNIT_RES_STAT_STATUS, F.SND_UNIT_RES_STAT_TAG, F.SND_UNIT_RES_STAT_CONSEC_BAD,
  F.SND_UNIT_RES_STAT_CAUSE, F.SND_UNIT_MATCHES_COUNT, F.SND_UNIT_BAD_COUNT, F.SND_UNIT_EXPIRED_COUNT, F.SND_UNIT_RES_TS_TS,
  F.SND_GEN_CFG_SECURE, F.SND_GEN_CFG_ARMED, F.SND_GEN_CFG_BY_COVE_MGR, F.SND_GEN_ADDR_ADDR, F.SND_GEN_LEN_LENGTH, F.SND_GEN_SALT_SALT,
  F.SND_GEN_EXPECT_EXPECT, F.SND_GEN_CTRL_GO, F.SND_GEN_CTRL_COMPARE, F.SND_GEN_CTRL_COVE]
def tblRegsDisplay48_1 : List Fld := [F.SND_GEN_STAT_DONE, F.SND_GEN_STAT_BUSY, F.SND_GEN_STAT_STATUS, F.SND_GEN_CRC_CRC]

end Sys2Proof.Machine
end

