-- ==== Sys2Proof/Machine/RegsEngines.lean ====
section
/-!
DEFINITION. Register fields of Loch, Pool, Plash and Shallows (chapters 13 to 17): one `Fld` per field of the
register tables of spec/ (offset from REGBASE, bits, access type, restriction, reset value).
-/
namespace Sys2Proof.Machine

def F.LOCH_CTX_CFG_TIMEOUT_MS : Fld := ⟨0x8010000, 31, 20, .rw, .open_, .none, 0x200000, 32, 0x100, 64, false, fun _ _ => 0x3E8⟩
def F.LOCH_CTX_CFG_WAIT_MS : Fld := ⟨0x8010000, 19, 8, .rw, .open_, .none, 0x200000, 32, 0x100, 64, false, fun _ _ => 0x064⟩
def F.LOCH_CTX_CFG_PRIO : Fld := ⟨0x8010000, 2, 0, .rw, .open_, .none, 0x200000, 32, 0x100, 64, false, fun _ _ => 0x3⟩
def F.LOCH_CTX_POOL_TABLE_TABLE : Fld := ⟨0x8010008, 49, 3, .rw, .open_, .none, 0x200000, 32, 0x100, 64, false, fun _ _ => 0x0⟩
def F.LOCH_CTX_POOL_ADD_COUNT : Fld := ⟨0x8010010, 15, 0, .wo, .open_, .none, 0x200000, 32, 0x100, 64, true, fun _ _ => 0x0000⟩
def F.LOCH_CTX_POOL_STAT_CHUNKS : Fld := ⟨0x8010014, 31, 16, .ro, .open_, .none, 0x200000, 32, 0x100, 64, false, fun _ _ => 0x0000⟩
def F.LOCH_CTX_POOL_STAT_LOW : Fld := ⟨0x8010014, 15, 15, .ro, .open_, .none, 0x200000, 32, 0x100, 64, false, fun _ _ => 0x0⟩
def F.LOCH_CTX_POOL_STAT_USED : Fld := ⟨0x8010014, 14, 0, .ro, .open_, .none, 0x200000, 32, 0x100, 64, false, fun _ _ => 0x0000⟩
def F.LOCH_CTX_PARTIALS_COUNT : Fld := ⟨0x8010018, 31, 0, .rc, .open_, .none, 0x200000, 32, 0x100, 64, false, fun _ _ => 0x0⟩
def F.LOCH_CTX_SAVE_SAVE : Fld := ⟨0x8010020, 49, 12, .rw, .open_, .none, 0x200000, 32, 0x100, 64, false, fun _ _ => 0x0⟩
def F.LOCH_CTX_STAT_STATE : Fld := ⟨0x8010028, 31, 29, .ro, .open_, .none, 0x200000, 32, 0x100, 64, false, fun _ _ => 0x0⟩
def F.LOCH_CTX_STAT_PHASE : Fld := ⟨0x8010028, 25, 24, .ro, .open_, .none, 0x200000, 32, 0x100, 64, false, fun _ _ => 0x0⟩
def F.LOCH_CTX_STAT_DISPATCHES : Fld := ⟨0x8010028, 7, 0, .ro, .open_, .none, 0x200000, 32, 0x100, 64, false, fun _ _ => 0x00⟩
def F.LOCH_CTX_FAULT_VALID : Fld := ⟨0x8010030, 63, 63, .rw1c, .open_, .none, 0x200000, 32, 0x100, 64, false, fun _ _ => 0x0⟩
def F.LOCH_CTX_FAULT_CPA : Fld := ⟨0x8010030, 49, 0, .ro, .open_, .none, 0x200000, 32, 0x100, 64, false, fun _ _ => 0x0⟩
def F.LOCH_FENCE_KICK_KICK : Fld := ⟨0x801f000, 0, 0, .wo, .open_, .none, 0x200000, 32, 0x0, 1, true, fun _ _ => 0x0⟩
def F.LOCH_CFG_POLL_US : Fld := ⟨0x5000000, 15, 0, .rw, .sec, .none, 0x0, 1, 0x0, 1, false, fun _ _ => 0x0032⟩
def F.LOCH_SPARE_IN_USE : Fld := ⟨0x5000004, 31, 31, .ro, .open_, .none, 0x0, 1, 0x0, 1, false, fun _ _ => 0x0⟩
def F.LOCH_SPARE_LOGICAL : Fld := ⟨0x5000004, 3, 0, .ro, .open_, .none, 0x0, 1, 0x0, 1, false, fun _ _ => 0x0⟩
def F.LOCH_CLUSTER_STAT_ROLE : Fld := ⟨0x5000100, 31, 30, .ro, .open_, .none, 0x4, 17, 0x0, 1, false, fun i _ => if i < 16 then 0 else 1⟩
def F.LOCH_CLUSTER_STAT_LOGICAL : Fld := ⟨0x5000100, 27, 24, .ro, .open_, .none, 0x4, 17, 0x0, 1, false, fun i _ => if i < 16 then i else 0⟩
def F.LOCH_CLUSTER_STAT_COVE : Fld := ⟨0x5000100, 20, 16, .ro, .open_, .none, 0x4, 17, 0x0, 1, false, fun _ _ => 0x00⟩
def F.LOCH_CLUSTER_STAT_LOCAL_Q : Fld := ⟨0x5000100, 13, 8, .ro, .open_, .none, 0x4, 17, 0x0, 1, false, fun _ _ => 0x00⟩
def F.LOCH_CLUSTER_STAT_BUSY : Fld := ⟨0x5000100, 0, 0, .ro, .open_, .none, 0x4, 17, 0x0, 1, false, fun _ _ => 0x0⟩
def F.LOCH_CTX_PREEMPTED_COUNT : Fld := ⟨0x8010038, 31, 0, .rc, .open_, .none, 0x200000, 32, 0x100, 64, false, fun _ _ => 0x0⟩
def F.LOCH_CTX_NONRES_COUNT : Fld := ⟨0x801003c, 31, 0, .rc, .open_, .none, 0x200000, 32, 0x100, 64, false, fun _ _ => 0x0⟩
def F.LOCH_SCHED_CFG_LEAD_US : Fld := ⟨0x5000200, 15, 0, .rw, .sec, .none, 0x0, 1, 0x0, 1, false, fun _ _ => 0x07D0⟩
def F.LOCH_SCHED_STAT_THROTTLED : Fld := ⟨0x5000204, 31, 31, .ro, .open_, .none, 0x0, 1, 0x0, 1, false, fun _ _ => 0x0⟩
def F.LOCH_SCHED_STAT_URGENT_RUNNING : Fld := ⟨0x5000204, 12, 8, .ro, .open_, .none, 0x0, 1, 0x0, 1, false, fun _ _ => 0x00⟩
def F.LOCH_SCHED_STAT_URGENT_WAITING : Fld := ⟨0x5000204, 4, 0, .ro, .open_, .none, 0x0, 1, 0x0, 1, false, fun _ _ => 0x00⟩
def F.LOCH_PREEMPTS_COUNT : Fld := ⟨0x5000208, 31, 0, .rc, .sec, .none, 0x0, 1, 0x0, 1, false, fun _ _ => 0x0⟩
def F.LOCH_PREEMPT_MAX_CLR : Fld := ⟨0x500020c, 31, 31, .wo, .sec, .none, 0x0, 1, 0x0, 1, true, fun _ _ => 0x0⟩
def F.LOCH_PREEMPT_MAX_MAX : Fld := ⟨0x500020c, 15, 0, .ro, .open_, .none, 0x0, 1, 0x0, 1, false, fun _ _ => 0x0000⟩
def F.POOL_XP_SWAP_GO : Fld := ⟨0x6000000, 31, 31, .wo, .open_, .none, 0x1000000000, 2, 0x0, 1, true, fun _ _ => 0x0⟩
def F.POOL_XP_SWAP_BUSY : Fld := ⟨0x6000000, 30, 30, .ro, .open_, .none, 0x1000000000, 2, 0x0, 1, false, fun _ _ => 0x0⟩
def F.POOL_XP_SWAP_DONE : Fld := ⟨0x6000000, 29, 29, .rw1c, .open_, .none, 0x1000000000, 2, 0x0, 1, false, fun _ _ => 0x0⟩
def F.POOL_RET_SRC : Fld := ⟨0x6000040, 6, 0, .rw, .secW, .none, 0x4, 8, 0x0, 1, false, fun _ _ => 0x7F⟩
def F.POOL_PDM_CFG_EN : Fld := ⟨0x6000080, 1, 0, .rw, .secW, .none, 0x0, 1, 0x0, 1, false, fun _ _ => 0x0⟩
def F.POOL_TDM_CFG_EN : Fld := ⟨0x6000100, 31, 31, .rw, .secW, .none, 0x20, 4, 0x0, 1, false, fun _ _ => 0x0⟩
def F.POOL_TDM_CFG_ROLE : Fld := ⟨0x6000100, 8, 8, .rw, .secW, .none, 0x20, 4, 0x0, 1, false, fun _ _ => 0x0⟩
def F.POOL_TDM_CFG_MCLK_EN : Fld := ⟨0x6000100, 4, 4, .rw, .secW, .none, 0x20, 4, 0x0, 1, false, fun _ _ => 0x0⟩
def F.POOL_TDM_CFG_DELAY : Fld := ⟨0x6000100, 2, 2, .rw, .secW, .none, 0x20, 4, 0x0, 1, false, fun _ _ => 0x0⟩
def F.POOL_TDM_CFG_FSYNC_POL : Fld := ⟨0x6000100, 1, 1, .rw, .secW, .none, 0x20, 4, 0x0, 1, false, fun _ _ => 0x0⟩
def F.POOL_TDM_CFG_BCLK_INV : Fld := ⟨0x6000100, 0, 0, .rw, .secW, .none, 0x20, 4, 0x0, 1, false, fun _ _ => 0x0⟩
def F.POOL_TDM_STAT_LOCKED : Fld := ⟨0x6000104, 31, 31, .ro, .secW, .none, 0x20, 4, 0x0, 1, false, fun _ _ => 0x0⟩
def F.POOL_TDM_STAT_RUNNING : Fld := ⟨0x6000104, 30, 30, .ro, .secW, .none, 0x20, 4, 0x0, 1, false, fun _ _ => 0x0⟩
def F.POOL_TDM_STAT_RATE_HZ : Fld := ⟨0x6000104, 17, 0, .ro, .secW, .none, 0x20, 4, 0x0, 1, false, fun _ _ => 0x0⟩
def F.POOL_TDM_FIFO_MIN_CLR : Fld := ⟨0x6000108, 31, 31, .wo, .secW, .none, 0x20, 4, 0x0, 1, false, fun _ _ => 0x0⟩
def F.POOL_TDM_FIFO_MIN : Fld := ⟨0x6000108, 29, 24, .ro, .secW, .none, 0x20, 4, 0x0, 1, false, fun _ _ => 0x20⟩
def F.POOL_TDM_FIFO_RELEASE : Fld := ⟨0x6000108, 21, 16, .rw, .secW, .none, 0x20, 4, 0x0, 1, false, fun _ _ => 0x10⟩
def F.POOL_TDM_FIFO_LOW : Fld := ⟨0x6000108, 13, 8, .rw, .secW, .none, 0x20, 4, 0x0, 1, false, fun _ _ => 0x08⟩
def F.POOL_TDM_FIFO_FILL : Fld := ⟨0x6000108, 5, 0, .ro, .secW, .none, 0x20, 4, 0x0, 1, false, fun _ _ => 0x00⟩
def F.POOL_TDM_UNDER_COUNT : Fld := ⟨0x600010c, 31, 0, .rc, .secW, .none, 0x20, 4, 0x0, 1, false, fun _ _ => 0x0⟩
def F.POOL_TDM_RXDROP_COUNT : Fld := ⟨0x6000110, 31, 0, .rc, .secW, .none, 0x20, 4, 0x0, 1, false, fun _ _ => 0x0⟩
def F.POOL_OUT_STAT_CLASS : Fld := ⟨0x6001000, 31, 30, .ro, .secW, .none, 0x4, 96, 0x0, 1, false, fun _ _ => 0⟩
def F.POOL_OUT_STAT_ACTIVE : Fld := ⟨0x6001000, 23, 16, .ro, .secW, .none, 0x4, 96, 0x0, 1, false, fun _ _ => 0x00⟩
def F.POOL_OUT_CLIP_COUNT : Fld := ⟨0x6001200, 31, 0, .rc, .secW, .none, 0x4, 96, 0x0, 1, false, fun _ _ => 0x0⟩
def F.POOL_PSLOT_CFG_HP_HZ : Fld := ⟨0x6001400, 31, 22, .rw, .secW, .none, 0x4, 16, 0x0, 1, false, fun _ _ => 0x014⟩
def F.POOL_PSLOT_CFG_FIRST : Fld := ⟨0x6001400, 18, 10, .ro, .secW, .none, 0x4, 16, 0x0, 1, false, fun _ _ => 0⟩
def F.POOL_PSLOT_CFG_PER_CH : Fld := ⟨0x6001400, 7, 0, .ro, .secW, .none, 0x4, 16, 0x0, 1, false, fun _ _ => 0⟩
def F.POOL_BQ_COEF_COEF : Fld := ⟨0x6020000, 31, 0, .rw, .bq, .none, 0x20, 512, 0x4, 5, false, fun _ j => if j = 0 then 0x20000000 else 0⟩
def F.POOL_BQ_CTRL_COMMIT : Fld := ⟨0x6020014, 31, 31, .wo, .bq, .none, 0x20, 512, 0x0, 1, true, fun _ _ => 0x0⟩
def F.POOL_PCH_EN : Fld := ⟨0x6040000, 31, 31, .rw, .secOrCove0, .none, 0x4, 64, 0x0, 1, false, fun _ _ => 0x0⟩
def F.POOL_PCH_COVE : Fld := ⟨0x6040000, 20, 16, .rw, .secOrCove0, .none, 0x4, 64, 0x0, 1, false, fun _ _ => 0x00⟩
def F.POOL_PCH_LOCAL_Q : Fld := ⟨0x6040000, 13, 8, .rw, .secOrCove0, .none, 0x4, 64, 0x0, 1, false, fun _ _ => 0x00⟩
def F.POOL_PCH_INDEX : Fld := ⟨0x6040000, 5, 0, .rw, .secOrCove0, .none, 0x4, 64, 0x0, 1, false, fun _ _ => 0x00⟩
def F.POOL_CCH_EN : Fld := ⟨0x6040100, 31, 31, .rw, .secOrCove0, .none, 0x4, 32, 0x0, 1, false, fun _ _ => 0x0⟩
def F.POOL_CCH_COVE : Fld := ⟨0x6040100, 20, 16, .rw, .secOrCove0, .none, 0x4, 32, 0x0, 1, false, fun _ _ => 0x00⟩
def F.POOL_CCH_LOCAL_Q : Fld := ⟨0x6040100, 13, 8, .rw, .secOrCove0, .none, 0x4, 32, 0x0, 1, false, fun _ _ => 0x00⟩
def F.POOL_CCH_INDEX : Fld := ⟨0x6040100, 5, 0, .rw, .secOrCove0, .none, 0x4, 32, 0x0, 1, false, fun _ _ => 0x00⟩
def F.POOL_TONE_CFG_SECURE : Fld := ⟨0x6050000, 31, 31, .rw, .sec, .none, 0x100, 16, 0x0, 1, false, fun _ _ => 0x0⟩
def F.POOL_TONE_CFG_SHAPE : Fld := ⟨0x6050000, 9, 8, .rw, .tone, .none, 0x100, 16, 0x0, 1, false, fun _ _ => 0x0⟩
def F.POOL_TONE_CFG_REPEAT : Fld := ⟨0x6050000, 7, 0, .rw, .tone, .none, 0x100, 16, 0x0, 1, false, fun _ _ => 0x00⟩
def F.POOL_TONE_CTRL_START : Fld := ⟨0x6050004, 31, 31, .wo, .tone, .none, 0x100, 16, 0x0, 1, true, fun _ _ => 0x0⟩
def F.POOL_TONE_CTRL_STOP : Fld := ⟨0x6050004, 30, 30, .wo, .tone, .none, 0x100, 16, 0x0, 1, true, fun _ _ => 0x0⟩
def F.POOL_TONE_CTRL_STOP_NOW : Fld := ⟨0x6050004, 29, 29, .wo, .tone, .none, 0x100, 16, 0x0, 1, true, fun _ _ => 0x0⟩
def F.POOL_TONE_CTRL_AT : Fld := ⟨0x6050004, 0, 0, .wo, .tone, .none, 0x100, 16, 0x0, 1, true, fun _ _ => 0x0⟩
def F.POOL_TONE_AT_AT : Fld := ⟨0x6050008, 63, 0, .rw, .tone, .none, 0x100, 16, 0x0, 1, false, fun _ _ => 0x0⟩
def F.POOL_TONE_STAT_PLAYING : Fld := ⟨0x6050010, 31, 31, .ro, .tone, .none, 0x100, 16, 0x0, 1, false, fun _ _ => 0x0⟩
def F.POOL_TONE_STAT_SEG : Fld := ⟨0x6050010, 11, 8, .ro, .tone, .none, 0x100, 16, 0x0, 1, false, fun _ _ => 0x0⟩
def F.POOL_TONE_STAT_LOOPS : Fld := ⟨0x6050010, 7, 0, .ro, .tone, .none, 0x100, 16, 0x0, 1, false, fun _ _ => 0x00⟩
def F.POOL_TONE_SEG_A_DUR_MS : Fld := ⟨0x6050040, 31, 18, .rw, .tone, .none, 0x100, 16, 0x8, 16, false, fun _ _ => 0x0⟩
def F.POOL_TONE_SEG_A_FREQ : Fld := ⟨0x6050040, 17, 0, .rw, .tone, .none, 0x100, 16, 0x8, 16, false, fun _ _ => 0x0⟩
def F.POOL_TONE_SEG_B_LEVEL : Fld := ⟨0x6050044, 23, 0, .rw, .tone, .none, 0x100, 16, 0x8, 16, false, fun _ _ => 0x0⟩
def F.POOL_REC_BASE_BASE : Fld := ⟨0x6060000, 39, 6, .rw, .secAll, .none, 0x0, 1, 0x0, 1, false, fun _ _ => 0x0⟩
def F.POOL_REC_CFG_EN : Fld := ⟨0x6060008, 31, 31, .rw, .secAll, .none, 0x0, 1, 0x0, 1, false, fun _ _ => 0x0⟩
def F.POOL_REC_CFG_SIZE : Fld := ⟨0x6060008, 3, 0, .rw, .secAll, .none, 0x0, 1, 0x0, 1, false, fun _ _ => 0x0⟩
def F.POOL_REC_SRC0_CH : Fld := ⟨0x6060010, 31, 0, .rw, .secAll, .none, 0x0, 1, 0x0, 1, false, fun _ _ => 0x7F7F7F7F⟩
def F.POOL_REC_SRC1_CH : Fld := ⟨0x6060014, 31, 0, .rw, .secAll, .none, 0x0, 1, 0x0, 1, false, fun _ _ => 0x7F7F7F7F⟩
def F.POOL_REC_PROD_COUNT : Fld := ⟨0x6060018, 31, 0, .ro, .secAll, .none, 0x0, 1, 0x0, 1, false, fun _ _ => 0x0⟩
def F.POOL_REC_CONS_COUNT : Fld := ⟨0x606001c, 31, 0, .rw, .secAll, .none, 0x0, 1, 0x0, 1, true, fun _ _ => 0x0⟩
def F.POOL_REC_LOST_COUNT : Fld := ⟨0x6060020, 31, 0, .rc, .secAll, .none, 0x0, 1, 0x0, 1, false, fun _ _ => 0x0⟩
def F.POOL_NODE_GAIN : Fld := ⟨0x6100000, 23, 0, .rw, .node, .none, 0x280, 96, 0x4, 160, true, fun _ _ => 0x0⟩
def F.POOL_SHADOW_GAIN : Fld := ⟨0x6120000, 23, 0, .rw, .node, .none, 0x280, 96, 0x4, 160, false, fun _ _ => 0x0⟩
def F.POOL_STR_CFG_LATENCY_US : Fld := ⟨0x8140000, 31, 16, .rw, .open_, .none, 0x200000, 32, 0x100, 64, false, fun _ _ => 0x4E20⟩
def F.POOL_STR_CFG_FS : Fld := ⟨0x8140000, 11, 8, .rw, .open_, .none, 0x200000, 32, 0x100, 64, false, fun _ _ => 0x4⟩
def F.POOL_STR_CFG_FORMAT : Fld := ⟨0x8140000, 2, 0, .rw, .open_, .none, 0x200000, 32, 0x100, 64, false, fun _ _ => 0x0⟩
def F.POOL_STR_STAT_STATE : Fld := ⟨0x8140004, 31, 30, .ro, .open_, .none, 0x200000, 32, 0x100, 64, false, fun _ _ => 0x0⟩
def F.POOL_STR_STAT_CHANNELS : Fld := ⟨0x8140004, 21, 16, .ro, .open_, .none, 0x200000, 32, 0x100, 64, false, fun _ _ => 0x00⟩
def F.POOL_STR_STAT_FULL : Fld := ⟨0x8140004, 22, 22, .ro, .open_, .none, 0x200000, 32, 0x100, 64, false, fun _ _ => 0x0⟩
def F.POOL_STR_POS_POS : Fld := ⟨0x8140008, 63, 0, .ro, .open_, .none, 0x200000, 32, 0x100, 64, false, fun _ _ => 0x0⟩
def F.POOL_STR_ANCHOR_ANCHOR : Fld := ⟨0x8140010, 63, 0, .ro, .open_, .none, 0x200000, 32, 0x100, 64, false, fun _ _ => 0x0⟩
def F.POOL_STR_DISCARD_COUNT : Fld := ⟨0x8140018, 31, 0, .rc, .open_, .none, 0x200000, 32, 0x100, 64, false, fun _ _ => 0x0⟩
def F.POOL_STR_STALLS_COUNT : Fld := ⟨0x814001c, 31, 0, .rc, .open_, .none, 0x200000, 32, 0x100, 64, false, fun _ _ => 0x0⟩
def F.PLA_CH_INFO_KIND : Fld := ⟨0x6800000, 31, 30, .ro, .plaCh, .none, 0x100, 16, 0x0, 1, false, fun _ _ => 0⟩
def F.PLA_CH_INFO_BRIDGE : Fld := ⟨0x6800000, 29, 28, .ro, .plaCh, .none, 0x100, 16, 0x0, 1, false, fun _ _ => 0⟩
def F.PLA_CH_INFO_ACC_CS : Fld := ⟨0x6800000, 23, 16, .ro, .plaCh, .none, 0x100, 16, 0x0, 1, false, fun _ _ => 0⟩
def F.PLA_CH_INFO_LIMIT : Fld := ⟨0x6800000, 7, 0, .ro, .plaCh, .none, 0x100, 16, 0x0, 1, false, fun _ _ => 0⟩
def F.PLA_CH_COVES_COVES : Fld := ⟨0x6800004, 31, 0, .rw, .cove0, .none, 0x100, 16, 0x0, 1, false, fun _ _ => 0x0⟩
def F.PLA_CH_SEC_SECURE : Fld := ⟨0x6800008, 0, 0, .rw, .sec, .none, 0x100, 16, 0x0, 1, false, fun _ _ => 0x0⟩
def F.PLA_CH_RES_TRACK_EN : Fld := ⟨0x680000c, 31, 31, .rw, .plaCh, .none, 0x100, 16, 0x0, 1, false, fun _ _ => 0x1⟩
def F.PLA_CH_RES_BAND : Fld := ⟨0x680000c, 30, 24, .rw, .plaCh, .none, 0x100, 16, 0x0, 1, false, fun _ _ => 0x0A⟩
def F.PLA_CH_RES_GAIN : Fld := ⟨0x680000c, 23, 16, .rw, .plaCh, .none, 0x100, 16, 0x0, 1, false, fun _ _ => 0x20⟩
def F.PLA_CH_RES_F0 : Fld := ⟨0x680000c, 15, 0, .rw, .plaCh, .none, 0x100, 16, 0x0, 1, false, fun _ _ => 0x08FC⟩
def F.PLA_CH_LOOP_FF : Fld := ⟨0x6800010, 31, 24, .rw, .plaCh, .none, 0x100, 16, 0x0, 1, false, fun _ _ => 0xA0⟩
def F.PLA_CH_LOOP_KP : Fld := ⟨0x6800010, 23, 16, .rw, .plaCh, .none, 0x100, 16, 0x0, 1, false, fun _ _ => 0x40⟩
def F.PLA_CH_LOOP_KB : Fld := ⟨0x6800010, 15, 8, .rw, .plaCh, .none, 0x100, 16, 0x0, 1, false, fun _ _ => 0x60⟩
def F.PLA_CH_LOOP_KI_HI : Fld := ⟨0x6800010, 7, 0, .rw, .plaCh, .none, 0x100, 16, 0x0, 1, false, fun _ _ => 0x04⟩
def F.PLA_CH_BRAKE_MAX_MS : Fld := ⟨0x6800014, 23, 16, .rw, .plaCh, .none, 0x100, 16, 0x0, 1, false, fun _ _ => 0x14⟩
def F.PLA_CH_BRAKE_THRESH : Fld := ⟨0x6800014, 15, 0, .rw, .plaCh, .none, 0x100, 16, 0x0, 1, false, fun _ _ => 0x0005⟩
def F.PLA_CH_ATTACK_MS : Fld := ⟨0x6800018, 15, 8, .rw, .plaCh, .none, 0x100, 16, 0x0, 1, false, fun _ _ => 0x0A⟩
def F.PLA_CH_ATTACK_OVERDRIVE : Fld := ⟨0x6800018, 7, 0, .rw, .plaCh, .none, 0x100, 16, 0x0, 1, false, fun _ _ => 0x20⟩
def F.PLA_CH_SENSE_K_EMF : Fld := ⟨0x680001c, 31, 16, .rw, .plaCh, .none, 0x100, 16, 0x0, 1, false, fun _ _ => 0x0100⟩
def F.PLA_CH_SENSE_SENSE_US : Fld := ⟨0x680001c, 9, 0, .rw, .plaCh, .none, 0x100, 16, 0x0, 1, false, fun _ _ => 0x064⟩
def F.PLA_CH_STAT_STATE : Fld := ⟨0x6800020, 31, 28, .ro, .plaCh, .none, 0x100, 16, 0x0, 1, false, fun _ _ => 0x0⟩
def F.PLA_CH_STAT_PRIO : Fld := ⟨0x6800020, 27, 24, .ro, .plaCh, .none, 0x100, 16, 0x0, 1, false, fun _ _ => 0x0⟩
def F.PLA_CH_STAT_QUEUED : Fld := ⟨0x6800020, 22, 20, .ro, .plaCh, .none, 0x100, 16, 0x0, 1, false, fun _ _ => 0x0⟩
def F.PLA_CH_STAT_COVE : Fld := ⟨0x6800020, 12, 8, .ro, .plaCh, .none, 0x100, 16, 0x0, 1, false, fun _ _ => 0x00⟩
def F.PLA_CH_STAT_TABLE : Fld := ⟨0x6800020, 7, 0, .ro, .plaCh, .none, 0x100, 16, 0x0, 1, false, fun _ _ => 0xFF⟩
def F.PLA_CH_MEAS_RES : Fld := ⟨0x6800024, 31, 16, .ro, .plaCh, .none, 0x100, 16, 0x0, 1, false, fun _ _ => 0x08FC⟩
def F.PLA_CH_MEAS_ACC : Fld := ⟨0x6800024, 15, 0, .ro, .plaCh, .none, 0x100, 16, 0x0, 1, false, fun _ _ => 0x0⟩
def F.PLA_CH_FAULT_CLEAR : Fld := ⟨0x6800028, 31, 31, .wo, .plaCh, .none, 0x100, 16, 0x0, 1, true, fun _ _ => 0x0⟩
def F.PLA_CH_FAULT_STILL_SET : Fld := ⟨0x6800028, 30, 30, .ro, .plaCh, .none, 0x100, 16, 0x0, 1, false, fun _ _ => 0x0⟩
def F.PLA_CH_FAULT_CODE : Fld := ⟨0x6800028, 2, 0, .ro, .plaCh, .none, 0x100, 16, 0x0, 1, false, fun _ _ => 0x0⟩
def F.PLA_CH_SAT_COUNT : Fld := ⟨0x680002c, 31, 0, .rc, .plaCh, .none, 0x100, 16, 0x0, 1, false, fun _ _ => 0x0⟩
def F.PLA_CH_TABLE_TABLE_ID : Fld := ⟨0x6800030, 7, 0, .rw, .plaCh, .none, 0x100, 16, 0x0, 1, false, fun _ _ => 0xFF⟩
def F.PLA_BOOST_CFG_IDLE_V : Fld := ⟨0x6801000, 6, 0, .rw, .sec, .none, 0x0, 1, 0x0, 1, false, fun _ _ => 0x14⟩
def F.PLA_BOOST_STAT_V_B : Fld := ⟨0x6801004, 6, 0, .ro, .open_, .none, 0x0, 1, 0x0, 1, false, fun _ _ => 0x00⟩
def F.PLA_ACC_CFG_ACC_RETRY : Fld := ⟨0x6801100, 31, 31, .wo, .secOrCove0, .none, 0x0, 1, 0x0, 1, true, fun _ _ => 0x0⟩
def F.PLA_ACC_CFG_SPI_MODE : Fld := ⟨0x6801100, 9, 8, .rw, .secOrCove0, .none, 0x0, 1, 0x0, 1, false, fun _ _ => 0x0⟩
def F.PLA_ACC_CFG_DIV : Fld := ⟨0x6801100, 7, 4, .rw, .secOrCove0, .none, 0x0, 1, 0x0, 1, false, fun _ _ => 0x4⟩
def F.PLA_ACC_CFG_RATE : Fld := ⟨0x6801100, 3, 0, .rw, .secOrCove0, .none, 0x0, 1, 0x0, 1, false, fun _ _ => 0x3⟩
def F.PLA_ACCK_CFG_SCALE : Fld := ⟨0x6801110, 31, 16, .rw, .secOrCove0, .none, 0x4, 8, 0x0, 1, false, fun _ _ => 0x0100⟩
def F.PLA_ACCK_CFG_BIG_END : Fld := ⟨0x6801110, 9, 9, .rw, .secOrCove0, .none, 0x4, 8, 0x0, 1, false, fun _ _ => 0x0⟩
def F.PLA_ACCK_CFG_READ_BIT : Fld := ⟨0x6801110, 8, 8, .rw, .secOrCove0, .none, 0x4, 8, 0x0, 1, false, fun _ _ => 0x1⟩
def F.PLA_ACCK_CFG_REG : Fld := ⟨0x6801110, 6, 0, .rw, .secOrCove0, .none, 0x4, 8, 0x0, 1, false, fun _ _ => 0x00⟩
def F.PLA_TRIG_EN : Fld := ⟨0x6802000, 31, 31, .rw, .trig, .none, 0x10, 32, 0x0, 1, false, fun _ _ => 0x0⟩
def F.PLA_TRIG_SECURE : Fld := ⟨0x6802000, 30, 30, .rw, .sec, .none, 0x10, 32, 0x0, 1, false, fun _ _ => 0x0⟩
def F.PLA_TRIG_OWNER : Fld := ⟨0x6802000, 28, 24, .rw, .trig, .none, 0x10, 32, 0x0, 1, false, fun _ _ => 0x00⟩
def F.PLA_TRIG_PRIO : Fld := ⟨0x6802000, 23, 21, .rw, .trig, .none, 0x10, 32, 0x0, 1, false, fun _ _ => 0x0⟩
def F.PLA_TRIG_MODE : Fld := ⟨0x6802000, 20, 20, .rw, .trig, .none, 0x10, 32, 0x0, 1, false, fun _ _ => 0x0⟩
def F.PLA_TRIG_CHMASK : Fld := ⟨0x6802000, 15, 0, .rw, .trig, .none, 0x10, 32, 0x0, 1, false, fun _ _ => 0x0⟩
def F.PLA_TRIG_FX_WAVE : Fld := ⟨0x6802004, 21, 16, .rw, .trig, .none, 0x10, 32, 0x0, 1, false, fun _ _ => 0x00⟩
def F.PLA_TRIG_FX_AMP : Fld := ⟨0x6802004, 15, 0, .rw, .trig, .none, 0x10, 32, 0x0, 1, false, fun _ _ => 0x0⟩
def F.PLA_TRIG_MISS_COUNT : Fld := ⟨0x6802200, 31, 0, .rc, .secOrCove0, .none, 0x0, 1, 0x0, 1, false, fun _ _ => 0x0⟩
def F.PLA_FX_CFG_MODE : Fld := ⟨0x100000000, 31, 31, .rw, .open_, .none, 0x40, 136, 0x0, 1, false, fun _ _ => 0x0⟩
def F.PLA_FX_CFG_PRIO : Fld := ⟨0x100000000, 26, 24, .rw, .open_, .none, 0x40, 136, 0x0, 1, false, fun _ _ => 0x0⟩
def F.PLA_FX_CFG_WAVE : Fld := ⟨0x100000000, 21, 16, .rw, .open_, .none, 0x40, 136, 0x0, 1, false, fun _ _ => 0x00⟩
def F.PLA_FX_CFG_CHMASK : Fld := ⟨0x100000000, 15, 0, .rw, .open_, .none, 0x40, 136, 0x0, 1, false, fun _ _ => 0x0⟩
def F.PLA_FX_AMP_REPEAT : Fld := ⟨0x100000004, 31, 24, .rw, .open_, .none, 0x40, 136, 0x0, 1, false, fun _ _ => 0x00⟩
def F.PLA_FX_AMP_AMP : Fld := ⟨0x100000004, 16, 0, .rw, .open_, .none, 0x40, 136, 0x0, 1, false, fun _ _ => 0x8000⟩
def F.PLA_FX_AT_AT : Fld := ⟨0x100000008, 63, 0, .rw, .open_, .none, 0x40, 136, 0x0, 1, false, fun _ _ => 0x0⟩
def F.PLA_FX_CMD_GO : Fld := ⟨0x100000010, 31, 31, .wo, .open_, .none, 0x40, 136, 0x0, 1, true, fun _ _ => 0x0⟩
def F.PLA_FX_CMD_STOP : Fld := ⟨0x100000010, 30, 30, .wo, .open_, .none, 0x40, 136, 0x0, 1, true, fun _ _ => 0x0⟩
def F.PLA_FX_CMD_TAG : Fld := ⟨0x100000010, 7, 0, .wo, .open_, .none, 0x40, 136, 0x0, 1, true, fun _ _ => 0x00⟩
def F.PLA_FX_STAT_BUSY : Fld := ⟨0x100000014, 31, 31, .ro, .open_, .none, 0x40, 136, 0x0, 1, false, fun _ _ => 0x0⟩
def F.PLA_FX_STAT_DONE : Fld := ⟨0x100000014, 30, 30, .rw1c, .open_, .none, 0x40, 136, 0x0, 1, false, fun _ _ => 0x0⟩
def F.PLA_FX_STAT_RESULT : Fld := ⟨0x100000014, 29, 26, .ro, .open_, .none, 0x40, 136, 0x0, 1, false, fun _ _ => 0x0⟩
def F.PLA_FX_STAT_STARTED : Fld := ⟨0x100000014, 15, 0, .ro, .open_, .none, 0x40, 136, 0x0, 1, false, fun _ _ => 0x0⟩
def F.PLA_FX_REFUSED_CHMASK : Fld := ⟨0x100000018, 15, 0, .ro, .open_, .none, 0x40, 136, 0x0, 1, false, fun _ _ => 0x0⟩
def F.SHA_SNS_INFO0_TX_FIRST : Fld := ⟨0x6c00000, 30, 24, .ro, .secOrCove0, .none, 0x100, 4, 0x0, 1, false, fun _ _ => 0⟩
def F.SHA_SNS_INFO0_TX_COUNT : Fld := ⟨0x6c00000, 23, 16, .ro, .secOrCove0, .none, 0x100, 4, 0x0, 1, false, fun _ _ => 0⟩
def F.SHA_SNS_INFO0_RX_FIRST : Fld := ⟨0x6c00000, 15, 8, .ro, .secOrCove0, .none, 0x100, 4, 0x0, 1, false, fun _ _ => 0⟩
def F.SHA_SNS_INFO0_RX_COUNT : Fld := ⟨0x6c00000, 7, 0, .ro, .secOrCove0, .none, 0x100, 4, 0x0, 1, false, fun _ _ => 0⟩
def F.SHA_SNS_INFO1_EN : Fld := ⟨0x6c00004, 31, 31, .ro, .secOrCove0, .none, 0x100, 4, 0x0, 1, false, fun _ _ => 0⟩
def F.SHA_SNS_INFO1_MUTUAL : Fld := ⟨0x6c00004, 30, 30, .ro, .secOrCove0, .none, 0x100, 4, 0x0, 1, false, fun _ _ => 0⟩
def F.SHA_SNS_INFO1_SELF : Fld := ⟨0x6c00004, 29, 29, .ro, .secOrCove0, .none, 0x100, 4, 0x0, 1, false, fun _ _ => 0⟩
def F.SHA_SNS_INFO1_HEAD : Fld := ⟨0x6c00004, 26, 24, .ro, .secOrCove0, .none, 0x100, 4, 0x0, 1, false, fun _ _ => 0⟩
def F.SHA_SNS_INFO1_DRIVE_VPP : Fld := ⟨0x6c00004, 21, 16, .ro, .secOrCove0, .none, 0x100, 4, 0x0, 1, false, fun _ _ => 0⟩
def F.SHA_SNS_INFO1_RATE : Fld := ⟨0x6c00004, 15, 8, .ro, .secOrCove0, .none, 0x100, 4, 0x0, 1, false, fun _ _ => 0⟩
def F.SHA_SNS_INFO1_GLOVE_MM : Fld := ⟨0x6c00004, 2, 0, .ro, .secOrCove0, .none, 0x100, 4, 0x0, 1, false, fun _ _ => 0⟩
def F.SHA_SNS_DET_THRESH : Fld := ⟨0x6c00008, 31, 16, .rw, .secOrCove0, .none, 0x100, 4, 0x0, 1, false, fun _ _ => 0x0100⟩
def F.SHA_SNS_DET_SELF_THR : Fld := ⟨0x6c00008, 15, 8, .rw, .secOrCove0, .none, 0x100, 4, 0x0, 1, false, fun _ _ => 0x40⟩
def F.SHA_SNS_DET_NOISE : Fld := ⟨0x6c00008, 7, 0, .rw, .secOrCove0, .none, 0x100, 4, 0x0, 1, false, fun _ _ => 0x80⟩
def F.SHA_SNS_REJ_PALM : Fld := ⟨0x6c0000c, 31, 24, .rw, .secOrCove0, .none, 0x100, 4, 0x0, 1, false, fun _ _ => 0x30⟩
def F.SHA_SNS_REJ_STREAK : Fld := ⟨0x6c0000c, 23, 16, .rw, .secOrCove0, .none, 0x100, 4, 0x0, 1, false, fun _ _ => 0x08⟩
def F.SHA_SNS_REJ_MATCH : Fld := ⟨0x6c0000c, 15, 8, .rw, .secOrCove0, .none, 0x100, 4, 0x0, 1, false, fun _ _ => 0x20⟩
def F.SHA_SNS_REJ_DROP_LIMIT : Fld := ⟨0x6c0000c, 7, 0, .rw, .secOrCove0, .none, 0x100, 4, 0x0, 1, false, fun _ _ => 0x04⟩
def F.SHA_SNS_SX_SCALE : Fld := ⟨0x6c00010, 31, 0, .rw, .secOrCove0, .none, 0x100, 4, 0x0, 1, false, fun _ _ => 0x00010000⟩
def F.SHA_SNS_SY_SCALE : Fld := ⟨0x6c00014, 31, 0, .rw, .secOrCove0, .none, 0x100, 4, 0x0, 1, false, fun _ _ => 0x00010000⟩
def F.SHA_SNS_OFS_OY : Fld := ⟨0x6c00018, 31, 16, .rw, .secOrCove0, .none, 0x100, 4, 0x0, 1, false, fun _ _ => 0x0⟩
def F.SHA_SNS_OFS_OX : Fld := ⟨0x6c00018, 15, 0, .rw, .secOrCove0, .none, 0x100, 4, 0x0, 1, false, fun _ _ => 0x0⟩
def F.SHA_SNS_AXES_FLIP_V : Fld := ⟨0x6c0001c, 2, 2, .rw, .secOrCove0, .none, 0x100, 4, 0x0, 1, false, fun _ _ => 0x0⟩
def F.SHA_SNS_AXES_FLIP_U : Fld := ⟨0x6c0001c, 1, 1, .rw, .secOrCove0, .none, 0x100, 4, 0x0, 1, false, fun _ _ => 0x0⟩
def F.SHA_SNS_AXES_SWAP : Fld := ⟨0x6c0001c, 0, 0, .rw, .secOrCove0, .none, 0x100, 4, 0x0, 1, false, fun _ _ => 0x0⟩
def F.SHA_SNS_FREQ_FREQS : Fld := ⟨0x6c00020, 31, 0, .rw, .secOrCove0, .none, 0x100, 4, 0x0, 1, false, fun _ _ => 0x4B3C2D1E⟩
def F.SHA_SNS_STAT_RUNNING : Fld := ⟨0x6c00024, 31, 31, .ro, .secOrCove0, .none, 0x100, 4, 0x0, 1, false, fun _ _ => 0x0⟩
def F.SHA_SNS_STAT_WET : Fld := ⟨0x6c00024, 30, 30, .ro, .secOrCove0, .none, 0x100, 4, 0x0, 1, false, fun _ _ => 0x0⟩
def F.SHA_SNS_STAT_NOISY : Fld := ⟨0x6c00024, 29, 29, .ro, .secOrCove0, .none, 0x100, 4, 0x0, 1, false, fun _ _ => 0x0⟩
def F.SHA_SNS_STAT_FREQ : Fld := ⟨0x6c00024, 25, 24, .ro, .secOrCove0, .none, 0x100, 4, 0x0, 1, false, fun _ _ => 0x0⟩
def F.SHA_SNS_STAT_CONTACTS : Fld := ⟨0x6c00024, 20, 16, .ro, .secOrCove0, .none, 0x100, 4, 0x0, 1, false, fun _ _ => 0x00⟩
def F.SHA_SNS_STAT_CONSEC_DROP : Fld := ⟨0x6c00024, 7, 0, .ro, .secOrCove0, .none, 0x100, 4, 0x0, 1, false, fun _ _ => 0x00⟩
def F.SHA_SNS_FRAME_COUNT : Fld := ⟨0x6c00028, 31, 0, .ro, .secOrCove0, .none, 0x100, 4, 0x0, 1, false, fun _ _ => 0x0⟩
def F.SHA_SNS_DROPPED_COUNT : Fld := ⟨0x6c0002c, 31, 0, .rc, .secOrCove0, .none, 0x100, 4, 0x0, 1, false, fun _ _ => 0x0⟩
def F.SHA_SNS_TABLE_TABLE_ID : Fld := ⟨0x6c00030, 7, 0, .rw, .secOrCove0, .none, 0x100, 4, 0x0, 1, false, fun _ _ => 0xFF⟩
def F.SHA_TRIGSEL_EN : Fld := ⟨0x6c01000, 7, 7, .rw, .shaSel, .none, 0x4, 80, 0x0, 1, false, fun _ _ => 0x0⟩
def F.SHA_TRIGSEL_T : Fld := ⟨0x6c01000, 4, 0, .rw, .shaSel, .none, 0x4, 80, 0x0, 1, false, fun _ _ => 0x00⟩
def F.SHA_UNROUTED_COUNT : Fld := ⟨0x6c01200, 31, 0, .rc, .secOrCove0, .none, 0x0, 1, 0x0, 1, false, fun _ _ => 0x0⟩
def F.SHA_SRING_PROD_COUNT : Fld := ⟨0x6c02000, 31, 0, .ro, .sec, .none, 0x0, 1, 0x0, 1, false, fun _ _ => 0x0⟩
def F.SHA_SRING_CONS_COUNT : Fld := ⟨0x6c02004, 31, 0, .rw, .sec, .none, 0x0, 1, 0x0, 1, true, fun _ _ => 0x0⟩
def F.SHA_SRING_LOST_COUNT : Fld := ⟨0x6c02008, 31, 0, .rc, .sec, .none, 0x0, 1, 0x0, 1, false, fun _ _ => 0x0⟩
def F.SHA_RING_BASE_BASE : Fld := ⟨0x8190000, 49, 12, .rw, .open_, .none, 0x200000, 32, 0x0, 1, false, fun _ _ => 0x0⟩
def F.SHA_RING_CFG_SIZE : Fld := ⟨0x8190008, 4, 1, .rw, .open_, .none, 0x200000, 32, 0x0, 1, false, fun _ _ => 0x0⟩
def F.SHA_RING_CFG_EN : Fld := ⟨0x8190008, 0, 0, .rw, .open_, .none, 0x200000, 32, 0x0, 1, false, fun _ _ => 0x0⟩
def F.SHA_RING_PROD_COUNT : Fld := ⟨0x819000c, 31, 0, .ro, .open_, .none, 0x200000, 32, 0x0, 1, false, fun _ _ => 0x0⟩
def F.SHA_RING_CONS_COUNT : Fld := ⟨0x8190010, 31, 0, .rw, .open_, .none, 0x200000, 32, 0x0, 1, true, fun _ _ => 0x0⟩
def F.SHA_RING_LOST_COUNT : Fld := ⟨0x8190014, 31, 0, .rc, .open_, .none, 0x200000, 32, 0x0, 1, false, fun _ _ => 0x0⟩
def F.SHA_RING_WITHHELD_COUNT : Fld := ⟨0x8190018, 31, 0, .rc, .open_, .none, 0x200000, 32, 0x0, 1, false, fun _ _ => 0x0⟩

def tblRegsEngines50_0 : List Fld := [F.LOCH_CFG_POLL_US, F.LOCH_SPARE_IN_USE, F.LOCH_SPARE_LOGICAL, F.LOCH_CLUSTER_STAT_ROLE,
  F.LOCH_CLUSTER_STAT_LOGICAL, F.LOCH_CLUSTER_STAT_COVE, F.LOCH_CLUSTER_STAT_LOCAL_Q, F.LOCH_CLUSTER_STAT_BUSY, F.LOCH_SCHED_CFG_LEAD_US,
  F.LOCH_SCHED_STAT_THROTTLED, F.LOCH_SCHED_STAT_URGENT_RUNNING, F.LOCH_SCHED_STAT_URGENT_WAITING, F.LOCH_PREEMPTS_COUNT,
  F.LOCH_PREEMPT_MAX_CLR, F.LOCH_PREEMPT_MAX_MAX]
def tblRegsEngines60_0 : List Fld := [F.POOL_XP_SWAP_GO, F.POOL_XP_SWAP_BUSY, F.POOL_XP_SWAP_DONE, F.POOL_RET_SRC, F.POOL_PDM_CFG_EN,
  F.POOL_TDM_CFG_EN, F.POOL_TDM_CFG_ROLE, F.POOL_TDM_CFG_MCLK_EN, F.POOL_TDM_CFG_DELAY, F.POOL_TDM_CFG_FSYNC_POL, F.POOL_TDM_CFG_BCLK_INV,
  F.POOL_TDM_STAT_LOCKED, F.POOL_TDM_STAT_RUNNING, F.POOL_TDM_STAT_RATE_HZ, F.POOL_TDM_FIFO_MIN_CLR, F.POOL_TDM_FIFO_MIN,
  F.POOL_TDM_FIFO_RELEASE, F.POOL_TDM_FIFO_LOW, F.POOL_TDM_FIFO_FILL, F.POOL_TDM_UNDER_COUNT, F.POOL_TDM_RXDROP_COUNT, F.POOL_OUT_STAT_CLASS,
  F.POOL_OUT_STAT_ACTIVE, F.POOL_OUT_CLIP_COUNT, F.POOL_PSLOT_CFG_HP_HZ, F.POOL_PSLOT_CFG_FIRST, F.POOL_PSLOT_CFG_PER_CH, F.POOL_BQ_COEF_COEF,
  F.POOL_BQ_CTRL_COMMIT, F.POOL_PCH_EN, F.POOL_PCH_COVE, F.POOL_PCH_LOCAL_Q, F.POOL_PCH_INDEX, F.POOL_CCH_EN, F.POOL_CCH_COVE,
  F.POOL_CCH_LOCAL_Q, F.POOL_CCH_INDEX, F.POOL_TONE_CFG_SECURE, F.POOL_TONE_CFG_SHAPE, F.POOL_TONE_CFG_REPEAT]
def tblRegsEngines60_1 : List Fld := [F.POOL_TONE_CTRL_START, F.POOL_TONE_CTRL_STOP, F.POOL_TONE_CTRL_STOP_NOW, F.POOL_TONE_CTRL_AT,
  F.POOL_TONE_AT_AT, F.POOL_TONE_STAT_PLAYING, F.POOL_TONE_STAT_SEG, F.POOL_TONE_STAT_LOOPS, F.POOL_TONE_SEG_A_DUR_MS, F.POOL_TONE_SEG_A_FREQ,
  F.POOL_TONE_SEG_B_LEVEL, F.POOL_REC_BASE_BASE, F.POOL_REC_CFG_EN, F.POOL_REC_CFG_SIZE, F.POOL_REC_SRC0_CH, F.POOL_REC_SRC1_CH,
  F.POOL_REC_PROD_COUNT, F.POOL_REC_CONS_COUNT, F.POOL_REC_LOST_COUNT]
def tblRegsEngines61_0 : List Fld := [F.POOL_NODE_GAIN, F.POOL_SHADOW_GAIN]
def tblRegsEngines68_0 : List Fld := [F.PLA_CH_INFO_KIND, F.PLA_CH_INFO_BRIDGE, F.PLA_CH_INFO_ACC_CS, F.PLA_CH_INFO_LIMIT,
  F.PLA_CH_COVES_COVES, F.PLA_CH_SEC_SECURE, F.PLA_CH_RES_TRACK_EN, F.PLA_CH_RES_BAND, F.PLA_CH_RES_GAIN, F.PLA_CH_RES_F0, F.PLA_CH_LOOP_FF,
  F.PLA_CH_LOOP_KP, F.PLA_CH_LOOP_KB, F.PLA_CH_LOOP_KI_HI, F.PLA_CH_BRAKE_MAX_MS, F.PLA_CH_BRAKE_THRESH, F.PLA_CH_ATTACK_MS,
  F.PLA_CH_ATTACK_OVERDRIVE, F.PLA_CH_SENSE_K_EMF, F.PLA_CH_SENSE_SENSE_US, F.PLA_CH_STAT_STATE, F.PLA_CH_STAT_PRIO, F.PLA_CH_STAT_QUEUED,
  F.PLA_CH_STAT_COVE, F.PLA_CH_STAT_TABLE, F.PLA_CH_MEAS_RES, F.PLA_CH_MEAS_ACC, F.PLA_CH_FAULT_CLEAR, F.PLA_CH_FAULT_STILL_SET,
  F.PLA_CH_FAULT_CODE, F.PLA_CH_SAT_COUNT, F.PLA_CH_TABLE_TABLE_ID, F.PLA_BOOST_CFG_IDLE_V, F.PLA_BOOST_STAT_V_B, F.PLA_ACC_CFG_ACC_RETRY,
  F.PLA_ACC_CFG_SPI_MODE, F.PLA_ACC_CFG_DIV, F.PLA_ACC_CFG_RATE, F.PLA_ACCK_CFG_SCALE, F.PLA_ACCK_CFG_BIG_END]
def tblRegsEngines68_1 : List Fld := [F.PLA_ACCK_CFG_READ_BIT, F.PLA_ACCK_CFG_REG, F.PLA_TRIG_EN, F.PLA_TRIG_SECURE, F.PLA_TRIG_OWNER,
  F.PLA_TRIG_PRIO, F.PLA_TRIG_MODE, F.PLA_TRIG_CHMASK, F.PLA_TRIG_FX_WAVE, F.PLA_TRIG_FX_AMP, F.PLA_TRIG_MISS_COUNT]
def tblRegsEngines6C_0 : List Fld := [F.SHA_SNS_INFO0_TX_FIRST, F.SHA_SNS_INFO0_TX_COUNT, F.SHA_SNS_INFO0_RX_FIRST,
  F.SHA_SNS_INFO0_RX_COUNT, F.SHA_SNS_INFO1_EN, F.SHA_SNS_INFO1_MUTUAL, F.SHA_SNS_INFO1_SELF, F.SHA_SNS_INFO1_HEAD, F.SHA_SNS_INFO1_DRIVE_VPP,
  F.SHA_SNS_INFO1_RATE, F.SHA_SNS_INFO1_GLOVE_MM, F.SHA_SNS_DET_THRESH, F.SHA_SNS_DET_SELF_THR, F.SHA_SNS_DET_NOISE, F.SHA_SNS_REJ_PALM,
  F.SHA_SNS_REJ_STREAK, F.SHA_SNS_REJ_MATCH, F.SHA_SNS_REJ_DROP_LIMIT, F.SHA_SNS_SX_SCALE, F.SHA_SNS_SY_SCALE, F.SHA_SNS_OFS_OY,
  F.SHA_SNS_OFS_OX, F.SHA_SNS_AXES_FLIP_V, F.SHA_SNS_AXES_FLIP_U, F.SHA_SNS_AXES_SWAP, F.SHA_SNS_FREQ_FREQS, F.SHA_SNS_STAT_RUNNING,
  F.SHA_SNS_STAT_WET, F.SHA_SNS_STAT_NOISY, F.SHA_SNS_STAT_FREQ, F.SHA_SNS_STAT_CONTACTS, F.SHA_SNS_STAT_CONSEC_DROP, F.SHA_SNS_FRAME_COUNT,
  F.SHA_SNS_DROPPED_COUNT, F.SHA_SNS_TABLE_TABLE_ID, F.SHA_TRIGSEL_EN, F.SHA_TRIGSEL_T, F.SHA_UNROUTED_COUNT, F.SHA_SRING_PROD_COUNT,
  F.SHA_SRING_CONS_COUNT]
def tblRegsEngines6C_1 : List Fld := [F.SHA_SRING_LOST_COUNT]
def tblRegsEngines80_0 : List Fld := [F.LOCH_CTX_CFG_TIMEOUT_MS, F.LOCH_CTX_CFG_WAIT_MS, F.LOCH_CTX_CFG_PRIO, F.LOCH_CTX_POOL_TABLE_TABLE,
  F.LOCH_CTX_POOL_ADD_COUNT, F.LOCH_CTX_POOL_STAT_CHUNKS, F.LOCH_CTX_POOL_STAT_LOW, F.LOCH_CTX_POOL_STAT_USED, F.LOCH_CTX_PARTIALS_COUNT,
  F.LOCH_CTX_SAVE_SAVE, F.LOCH_CTX_STAT_STATE, F.LOCH_CTX_STAT_PHASE, F.LOCH_CTX_STAT_DISPATCHES, F.LOCH_CTX_FAULT_VALID,
  F.LOCH_CTX_FAULT_CPA, F.LOCH_FENCE_KICK_KICK, F.LOCH_CTX_PREEMPTED_COUNT, F.LOCH_CTX_NONRES_COUNT]
def tblRegsEngines81_0 : List Fld := [F.POOL_STR_CFG_LATENCY_US, F.POOL_STR_CFG_FS, F.POOL_STR_CFG_FORMAT, F.POOL_STR_STAT_STATE,
  F.POOL_STR_STAT_CHANNELS, F.POOL_STR_STAT_FULL, F.POOL_STR_POS_POS, F.POOL_STR_ANCHOR_ANCHOR, F.POOL_STR_DISCARD_COUNT,
  F.POOL_STR_STALLS_COUNT, F.SHA_RING_BASE_BASE, F.SHA_RING_CFG_SIZE, F.SHA_RING_CFG_EN, F.SHA_RING_PROD_COUNT, F.SHA_RING_CONS_COUNT,
  F.SHA_RING_LOST_COUNT, F.SHA_RING_WITHHELD_COUNT]
def tblRegsEngines1000_0 : List Fld := [F.PLA_FX_CFG_MODE, F.PLA_FX_CFG_PRIO, F.PLA_FX_CFG_WAVE, F.PLA_FX_CFG_CHMASK, F.PLA_FX_AMP_REPEAT,
  F.PLA_FX_AMP_AMP, F.PLA_FX_AT_AT, F.PLA_FX_CMD_GO, F.PLA_FX_CMD_STOP, F.PLA_FX_CMD_TAG, F.PLA_FX_STAT_BUSY, F.PLA_FX_STAT_DONE,
  F.PLA_FX_STAT_RESULT, F.PLA_FX_STAT_STARTED, F.PLA_FX_REFUSED_CHMASK]

end Sys2Proof.Machine
end

