-- ==== Sys2Proof/Machine/RegsLinks.lean ====
section
/-!
DEFINITION. Register fields of the Wellhead link, Dredge and Portage (chapters 18 to 20): one `Fld` per field of the
register tables of spec/ (offset from REGBASE, bits, access type, restriction, reset value).
-/
namespace Sys2Proof.Machine

def F.WEL_STAT_LINK_UP : Fld := ⟨0x7000000, 31, 31, .ro, .sec, .none, 0x0, 1, 0x0, 1, false, fun _ _ => 0x0⟩
def F.WEL_STAT_NVR : Fld := ⟨0x7000000, 30, 30, .ro, .sec, .none, 0x0, 1, 0x0, 1, false, fun _ _ => 0x1⟩
def F.WEL_STAT_REASONS : Fld := ⟨0x7000000, 21, 16, .ro, .sec, .none, 0x0, 1, 0x0, 1, false, fun _ _ => 0x20⟩
def F.WEL_STAT_PLANE_ID : Fld := ⟨0x7000000, 15, 0, .ro, .sec, .none, 0x0, 1, 0x0, 1, false, fun _ _ => 0x0000⟩
def F.WEL_CTRL_FORCE_NVR : Fld := ⟨0x7000004, 0, 0, .rw, .sec, .none, 0x0, 1, 0x0, 1, true, fun _ _ => 0x0⟩
def F.WEL_PAL_COLOUR : Fld := ⟨0x7000010, 29, 0, .rw, .sec, .none, 0x4, 4, 0x0, 1, true, fun _ _ => 0x0⟩
def F.WEL_SHOWN_SEQ_SEQ : Fld := ⟨0x7000020, 31, 0, .ro, .sec, .none, 0x0, 1, 0x0, 1, false, fun _ _ => 0x0⟩
def F.WEL_READ_VAL_VALUE : Fld := ⟨0x7000040, 31, 0, .ro, .open_, .none, 0x10, 2, 0x0, 1, false, fun _ _ => 0x0⟩
def F.WEL_READ_INFO_STATUS : Fld := ⟨0x7000044, 23, 16, .ro, .open_, .none, 0x10, 2, 0x0, 1, false, fun _ _ => 0x0⟩
def F.WEL_READ_INFO_UNIT : Fld := ⟨0x7000044, 15, 8, .ro, .open_, .none, 0x10, 2, 0x0, 1, false, fun _ _ => 0x0⟩
def F.WEL_READ_INFO_DECIMALS : Fld := ⟨0x7000044, 7, 0, .ro, .open_, .none, 0x10, 2, 0x0, 1, false, fun _ _ => 0x0⟩
def F.WEL_READ_SEQ_MEAS_SEQ : Fld := ⟨0x7000048, 31, 0, .ro, .open_, .none, 0x10, 2, 0x0, 1, false, fun _ _ => 0x0⟩
def F.WEL_IDENT_IDENT : Fld := ⟨0x7000080, 31, 0, .ro, .open_, .none, 0x4, 5, 0x0, 1, false, fun _ _ => 0x0⟩
def F.WEL_MSG_ERR_COUNT : Fld := ⟨0x70000a0, 31, 0, .rc, .sec, .none, 0x0, 1, 0x0, 1, false, fun _ _ => 0x0⟩
def F.WEL_PLANE_REJ_COUNT : Fld := ⟨0x70000a4, 31, 0, .rc, .sec, .none, 0x0, 1, 0x0, 1, false, fun _ _ => 0x0⟩
def F.DRG_CMD_GO : Fld := ⟨0x7800000, 31, 31, .wo, .sec, .none, 0x0, 1, 0x0, 1, true, fun _ _ => 0x0⟩
def F.DRG_CMD_OP : Fld := ⟨0x7800000, 27, 24, .rw, .sec, .none, 0x0, 1, 0x0, 1, false, fun _ _ => 0x0⟩
def F.DRG_CMD_TARGET : Fld := ⟨0x7800000, 11, 0, .rw, .sec, .none, 0x0, 1, 0x0, 1, false, fun _ _ => 0x000⟩
def F.DRG_STAT_BUSY : Fld := ⟨0x7800004, 31, 31, .ro, .sec, .none, 0x0, 1, 0x0, 1, false, fun _ _ => 0x0⟩
def F.DRG_STAT_DONE : Fld := ⟨0x7800004, 30, 30, .rw1c, .sec, .none, 0x0, 1, 0x0, 1, false, fun _ _ => 0x0⟩
def F.DRG_STAT_REFUSED : Fld := ⟨0x7800004, 29, 29, .rw1c, .sec, .none, 0x0, 1, 0x0, 1, false, fun _ _ => 0x0⟩
def F.DRG_STAT_REASON : Fld := ⟨0x7800004, 27, 24, .ro, .sec, .none, 0x0, 1, 0x0, 1, false, fun _ _ => 0x0⟩
def F.DRG_STAT_RESULT : Fld := ⟨0x7800004, 17, 16, .ro, .sec, .none, 0x0, 1, 0x0, 1, false, fun _ _ => 0x0⟩
def F.DRG_STAT_ROWS : Fld := ⟨0x7800004, 7, 0, .ro, .sec, .none, 0x0, 1, 0x0, 1, false, fun _ _ => 0x00⟩
def F.DRG_MAP_STAT_COPY : Fld := ⟨0x7800008, 31, 31, .ro, .sec, .none, 0x0, 1, 0x0, 1, false, fun _ _ => 0⟩
def F.DRG_MAP_STAT_VALID : Fld := ⟨0x7800008, 30, 30, .ro, .sec, .none, 0x0, 1, 0x0, 1, false, fun _ _ => 0⟩
def F.DRG_MAP_STAT_COUNT : Fld := ⟨0x7800008, 12, 0, .ro, .sec, .none, 0x0, 1, 0x0, 1, false, fun _ _ => 0⟩
def F.DRG_FUSE_STAT_USED : Fld := ⟨0x780000c, 8, 0, .ro, .sec, .part, 0x0, 1, 0x0, 1, false, fun _ _ => 0⟩
def F.DRG_LOG_ADDR_ADDR : Fld := ⟨0x7800010, 39, 0, .rw, .sec, .none, 0x0, 1, 0x0, 1, false, fun _ _ => 0x0⟩
def F.DRG_LOG_LEN_LEN : Fld := ⟨0x7800018, 18, 0, .rw, .sec, .none, 0x0, 1, 0x0, 1, false, fun _ _ => 0x0⟩
def F.DRG_TEST_SUM_UNREP : Fld := ⟨0x780001c, 31, 16, .ro, .sec, .none, 0x0, 1, 0x0, 1, false, fun _ _ => 0⟩
def F.DRG_TEST_SUM_ROWS : Fld := ⟨0x780001c, 15, 0, .ro, .sec, .none, 0x0, 1, 0x0, 1, false, fun _ _ => 0⟩
def F.DRG_INST_STATE : Fld := ⟨0x7801000, 31, 29, .ro, .sec, .none, 0x4, 1024, 0x0, 1, false, fun _ _ => 0⟩
def F.DRG_INST_LAST : Fld := ⟨0x7801000, 13, 12, .ro, .sec, .none, 0x4, 1024, 0x0, 1, false, fun _ _ => 0⟩
def F.DRG_INST_ROWS_USED : Fld := ⟨0x7801000, 11, 8, .ro, .sec, .none, 0x4, 1024, 0x0, 1, false, fun _ _ => 0⟩
def F.DRG_INST_COLS_USED : Fld := ⟨0x7801000, 5, 4, .ro, .sec, .none, 0x4, 1024, 0x0, 1, false, fun _ _ => 0⟩
def F.DRG_FAIL_RECORD : Fld := ⟨0x7802000, 127, 0, .ro, .sec, .none, 0x10, 256, 0x0, 1, false, fun _ _ => 0⟩
def F.PTG_CFG_REMOTE_EN : Fld := ⟨0x7c00000, 31, 31, .rw, .sec, .none, 0x0, 1, 0x0, 1, false, fun _ _ => 0x0⟩
def F.PTG_CFG_MASTER : Fld := ⟨0x7c00000, 30, 30, .ro, .open_, .none, 0x0, 1, 0x0, 1, false, fun _ _ => 0x0⟩
def F.PTG_CFG_MASTER_POS : Fld := ⟨0x7c00000, 25, 24, .ro, .open_, .none, 0x0, 1, 0x0, 1, false, fun _ _ => 0x0⟩
def F.PTG_CFG_BOOTING : Fld := ⟨0x7c00000, 19, 16, .ro, .open_, .none, 0x0, 1, 0x0, 1, false, fun _ _ => 0x0⟩
def F.PTG_CFG_PRESENT : Fld := ⟨0x7c00000, 11, 8, .ro, .open_, .none, 0x0, 1, 0x0, 1, false, fun _ _ => 0x0⟩
def F.PTG_CFG_POSITION : Fld := ⟨0x7c00000, 1, 0, .ro, .open_, .strap, 0x0, 1, 0x0, 1, false, fun _ _ => 0⟩
def F.PTG_LINK_STAT_UP : Fld := ⟨0x7c00010, 31, 31, .ro, .open_, .none, 0x10, 2, 0x0, 1, false, fun _ _ => 0x0⟩
def F.PTG_LINK_STAT_PARTNER : Fld := ⟨0x7c00010, 1, 0, .ro, .open_, .none, 0x10, 2, 0x0, 1, false, fun _ _ => 0x0⟩
def F.PTG_LINK_RETRY_COUNT : Fld := ⟨0x7c00014, 31, 0, .rc, .open_, .none, 0x10, 2, 0x0, 1, false, fun _ _ => 0x0⟩
def F.PTG_ROLE_CMD : Fld := ⟨0x7c00040, 9, 8, .wo, .sec, .none, 0x0, 1, 0x0, 1, true, fun _ _ => 0x0⟩
def F.PTG_ROLE_TARGET : Fld := ⟨0x7c00040, 1, 0, .wo, .sec, .none, 0x0, 1, 0x0, 1, true, fun _ _ => 0x0⟩
def F.PTG_ALERT_LEVEL : Fld := ⟨0x7c00050, 31, 31, .ro, .open_, .none, 0x0, 1, 0x0, 1, false, fun _ _ => 0x1⟩
def F.PTG_ALERT_AUTO_SAFE : Fld := ⟨0x7c00050, 1, 1, .rw, .sec, .none, 0x0, 1, 0x0, 1, false, fun _ _ => 0x0⟩
def F.PTG_ALERT_DRIVE : Fld := ⟨0x7c00050, 0, 0, .rw, .sec, .none, 0x0, 1, 0x0, 1, false, fun _ _ => 0x0⟩
def F.PTG_RACC_ADDR_OFFSET : Fld := ⟨0x7c00060, 27, 2, .rw, .sec, .none, 0x0, 1, 0x0, 1, false, fun _ _ => 0x0⟩
def F.PTG_RACC_DATA_DATA : Fld := ⟨0x7c00064, 31, 0, .rw, .sec, .none, 0x0, 1, 0x0, 1, false, fun _ _ => 0x0⟩
def F.PTG_RACC_CTRL_GO : Fld := ⟨0x7c00068, 31, 31, .wo, .sec, .none, 0x0, 1, 0x0, 1, true, fun _ _ => 0x0⟩
def F.PTG_RACC_CTRL_BUSY : Fld := ⟨0x7c00068, 30, 30, .ro, .open_, .none, 0x0, 1, 0x0, 1, false, fun _ _ => 0x0⟩
def F.PTG_RACC_CTRL_ERR : Fld := ⟨0x7c00068, 29, 29, .rw1c, .open_, .none, 0x0, 1, 0x0, 1, false, fun _ _ => 0x0⟩
def F.PTG_RACC_CTRL_WRITE : Fld := ⟨0x7c00068, 8, 8, .rw, .sec, .none, 0x0, 1, 0x0, 1, false, fun _ _ => 0x0⟩
def F.PTG_RACC_CTRL_DEST : Fld := ⟨0x7c00068, 1, 0, .rw, .sec, .none, 0x0, 1, 0x0, 1, false, fun _ _ => 0x0⟩
def F.PTG_CPY_SRC_ADDR : Fld := ⟨0x7c00100, 39, 0, .rw, .cpy, .none, 0x40, 4, 0x0, 1, false, fun _ _ => 0x0⟩
def F.PTG_CPY_DST_ADDR : Fld := ⟨0x7c00108, 39, 0, .rw, .cpy, .none, 0x40, 4, 0x0, 1, false, fun _ _ => 0x0⟩
def F.PTG_CPY_LEN_LEN : Fld := ⟨0x7c00110, 31, 0, .rw, .cpy, .none, 0x40, 4, 0x0, 1, false, fun _ _ => 0x0⟩
def F.PTG_CPY_FADDR_ADDR : Fld := ⟨0x7c00118, 39, 3, .rw, .cpy, .none, 0x40, 4, 0x0, 1, false, fun _ _ => 0x0⟩
def F.PTG_CPY_FVAL_VALUE : Fld := ⟨0x7c00120, 63, 0, .rw, .cpy, .none, 0x40, 4, 0x0, 1, false, fun _ _ => 0x0⟩
def F.PTG_CPY_CTRL_GO : Fld := ⟨0x7c00128, 31, 31, .wo, .cpy, .none, 0x40, 4, 0x0, 1, true, fun _ _ => 0x0⟩
def F.PTG_CPY_CTRL_LAST : Fld := ⟨0x7c00128, 9, 9, .rw, .cpy, .none, 0x40, 4, 0x0, 1, false, fun _ _ => 0x0⟩
def F.PTG_CPY_CTRL_KIND : Fld := ⟨0x7c00128, 8, 8, .rw, .cpy, .none, 0x40, 4, 0x0, 1, false, fun _ _ => 0x0⟩
def F.PTG_CPY_CTRL_DEST_POS : Fld := ⟨0x7c00128, 1, 0, .rw, .cpy, .none, 0x40, 4, 0x0, 1, false, fun _ _ => 0x0⟩
def F.PTG_CPY_STAT_BUSY : Fld := ⟨0x7c0012c, 31, 31, .ro, .cpy, .none, 0x40, 4, 0x0, 1, false, fun _ _ => 0x0⟩
def F.PTG_CPY_STAT_DONE : Fld := ⟨0x7c0012c, 30, 30, .rw1c, .cpy, .none, 0x40, 4, 0x0, 1, false, fun _ _ => 0x0⟩
def F.PTG_CPY_STAT_STATUS : Fld := ⟨0x7c0012c, 2, 0, .ro, .cpy, .none, 0x40, 4, 0x0, 1, false, fun _ _ => 0x0⟩
def F.PTG_IMP_BASE_PAGE : Fld := ⟨0x7c00400, 19, 0, .rw, .imp, .none, 0x10, 8, 0x0, 1, false, fun _ _ => 0x0⟩
def F.PTG_IMP_LIMIT_PAGE : Fld := ⟨0x7c00404, 19, 0, .rw, .imp, .none, 0x10, 8, 0x0, 1, false, fun _ _ => 0x0⟩
def F.PTG_IMP_CFG_EN : Fld := ⟨0x7c00408, 31, 31, .rw, .imp, .none, 0x10, 8, 0x0, 1, false, fun _ _ => 0x0⟩
def F.PTG_IMP_CFG_SRC_MASK : Fld := ⟨0x7c00408, 11, 8, .rw, .imp, .none, 0x10, 8, 0x0, 1, false, fun _ _ => 0x0⟩
def F.PTG_IMP_CFG_COVE : Fld := ⟨0x7c00408, 4, 0, .rw, .imp, .none, 0x10, 8, 0x0, 1, false, fun _ _ => 0x00⟩
def F.PTG_MIR_CFG_EN : Fld := ⟨0x7c00600, 31, 31, .rw, .sec, .none, 0x10, 8, 0x0, 1, true, fun _ _ => 0x0⟩
def F.PTG_MIR_CFG_SRC_POS : Fld := ⟨0x7c00600, 17, 16, .rw, .sec, .none, 0x10, 8, 0x0, 1, true, fun _ _ => 0x0⟩
def F.PTG_MIR_CFG_SRC_HEAD : Fld := ⟨0x7c00600, 10, 8, .rw, .sec, .none, 0x10, 8, 0x0, 1, true, fun _ _ => 0x0⟩
def F.PTG_MIR_CFG_HEAD : Fld := ⟨0x7c00600, 2, 0, .rw, .sec, .none, 0x10, 8, 0x0, 1, true, fun _ _ => 0x0⟩
def F.PTG_MIR_STAT_REFUSED : Fld := ⟨0x7c00604, 31, 31, .rw1c, .open_, .none, 0x10, 8, 0x0, 1, false, fun _ _ => 0x0⟩
def F.PTG_MIR_SEQ_SRC_SEQ : Fld := ⟨0x7c00608, 31, 0, .ro, .open_, .none, 0x10, 8, 0x0, 1, false, fun _ _ => 0x0⟩

def tblRegsLinks70_0 : List Fld := [F.WEL_STAT_LINK_UP, F.WEL_STAT_NVR, F.WEL_STAT_REASONS, F.WEL_STAT_PLANE_ID, F.WEL_CTRL_FORCE_NVR,
  F.WEL_PAL_COLOUR, F.WEL_SHOWN_SEQ_SEQ, F.WEL_READ_VAL_VALUE, F.WEL_READ_INFO_STATUS, F.WEL_READ_INFO_UNIT, F.WEL_READ_INFO_DECIMALS,
  F.WEL_READ_SEQ_MEAS_SEQ, F.WEL_IDENT_IDENT, F.WEL_MSG_ERR_COUNT, F.WEL_PLANE_REJ_COUNT]
def tblRegsLinks78_0 : List Fld := [F.DRG_CMD_GO, F.DRG_CMD_OP, F.DRG_CMD_TARGET, F.DRG_STAT_BUSY, F.DRG_STAT_DONE, F.DRG_STAT_REFUSED,
  F.DRG_STAT_REASON, F.DRG_STAT_RESULT, F.DRG_STAT_ROWS, F.DRG_MAP_STAT_COPY, F.DRG_MAP_STAT_VALID, F.DRG_MAP_STAT_COUNT,
  F.DRG_FUSE_STAT_USED, F.DRG_LOG_ADDR_ADDR, F.DRG_LOG_LEN_LEN, F.DRG_TEST_SUM_UNREP, F.DRG_TEST_SUM_ROWS, F.DRG_INST_STATE, F.DRG_INST_LAST,
  F.DRG_INST_ROWS_USED, F.DRG_INST_COLS_USED, F.DRG_FAIL_RECORD]
def tblRegsLinks7C_0 : List Fld := [F.PTG_CFG_REMOTE_EN, F.PTG_CFG_MASTER, F.PTG_CFG_MASTER_POS, F.PTG_CFG_BOOTING, F.PTG_CFG_PRESENT,
  F.PTG_CFG_POSITION, F.PTG_LINK_STAT_UP, F.PTG_LINK_STAT_PARTNER, F.PTG_LINK_RETRY_COUNT, F.PTG_ROLE_CMD, F.PTG_ROLE_TARGET,
  F.PTG_ALERT_LEVEL, F.PTG_ALERT_AUTO_SAFE, F.PTG_ALERT_DRIVE, F.PTG_RACC_ADDR_OFFSET, F.PTG_RACC_DATA_DATA, F.PTG_RACC_CTRL_GO,
  F.PTG_RACC_CTRL_BUSY, F.PTG_RACC_CTRL_ERR, F.PTG_RACC_CTRL_WRITE, F.PTG_RACC_CTRL_DEST, F.PTG_CPY_SRC_ADDR, F.PTG_CPY_DST_ADDR,
  F.PTG_CPY_LEN_LEN, F.PTG_CPY_FADDR_ADDR, F.PTG_CPY_FVAL_VALUE, F.PTG_CPY_CTRL_GO, F.PTG_CPY_CTRL_LAST, F.PTG_CPY_CTRL_KIND,
  F.PTG_CPY_CTRL_DEST_POS, F.PTG_CPY_STAT_BUSY, F.PTG_CPY_STAT_DONE, F.PTG_CPY_STAT_STATUS, F.PTG_IMP_BASE_PAGE, F.PTG_IMP_LIMIT_PAGE,
  F.PTG_IMP_CFG_EN, F.PTG_IMP_CFG_SRC_MASK, F.PTG_IMP_CFG_COVE, F.PTG_MIR_CFG_EN, F.PTG_MIR_CFG_SRC_POS]
def tblRegsLinks7C_1 : List Fld := [F.PTG_MIR_CFG_SRC_HEAD, F.PTG_MIR_CFG_HEAD, F.PTG_MIR_STAT_REFUSED, F.PTG_MIR_SEQ_SRC_SEQ]

end Sys2Proof.Machine
end

