-- ==== Sys2Proof/Machine/RegsOwn.lean ====
section
/-!
DEFINITION. Register fields of Weir, Shoreline, Sluice and the cove manager (chapters 06 and 07): one `Fld` per field of the
register tables of spec/ (offset from REGBASE, bits, access type, restriction, reset value).
-/
namespace Sys2Proof.Machine

def F.WEIR_CFG_MAX_RES_US : Fld := ⟨0x400000, 25, 16, .rw, .sec, .none, 0x0, 1, 0x0, 1, false, fun _ _ => 0x064⟩
def F.WEIR_CFG_L2_KEEP : Fld := ⟨0x400000, 1, 1, .rw, .sec, .none, 0x0, 1, 0x0, 1, false, fun _ _ => 0x0⟩
def F.WEIR_CFG_EN : Fld := ⟨0x400000, 0, 0, .rw, .sec, .none, 0x0, 1, 0x0, 1, false, fun _ _ => 0x0⟩
def F.WEIR_SVEC_ENTRY : Fld := ⟨0x400008, 63, 2, .rw, .sec, .none, 0x0, 1, 0x0, 1, false, fun _ _ => 0x0⟩
def F.WEIR_L3_SEC_WAYS_WAYS : Fld := ⟨0x400040, 15, 0, .rw, .sec, .none, 0x0, 1, 0x0, 1, true, fun _ _ => 0x0000⟩
def F.WEIR_L3_STAT_BUSY : Fld := ⟨0x400044, 31, 31, .ro, .open_, .none, 0x0, 1, 0x0, 1, false, fun _ _ => 0x0⟩
def F.WEIR_HART_ENTER_SERVICE : Fld := ⟨0x400100, 15, 0, .wo, .open_, .none, 0x20, 8, 0x0, 1, true, fun _ _ => 0x0000⟩
def F.WEIR_HART_RETURN_STATUS : Fld := ⟨0x400104, 7, 0, .wo, .sec, .none, 0x20, 8, 0x0, 1, true, fun _ _ => 0x00⟩
def F.WEIR_HART_STAT_SECURE : Fld := ⟨0x400108, 31, 31, .ro, .open_, .none, 0x20, 8, 0x0, 1, false, fun _ _ => 0x0⟩
def F.WEIR_HART_STAT_LAST : Fld := ⟨0x400108, 23, 16, .ro, .open_, .none, 0x20, 8, 0x0, 1, false, fun _ _ => 0x00⟩
def F.WEIR_HART_STAT_SERVICE : Fld := ⟨0x400108, 15, 0, .ro, .open_, .none, 0x20, 8, 0x0, 1, false, fun _ _ => 0x0000⟩
def F.WEIR_HART_COVE_GEN : Fld := ⟨0x40010c, 31, 16, .ro, .cove0, .none, 0x20, 8, 0x0, 1, false, fun _ _ => 0x0000⟩
def F.WEIR_HART_COVE_COVE : Fld := ⟨0x40010c, 4, 0, .rw, .cove0, .none, 0x20, 8, 0x0, 1, false, fun _ _ => 0x00⟩
def F.WEIR_L3_COVE_WAYS_WAYS : Fld := ⟨0x400200, 15, 0, .rw, .cove0, .none, 0x4, 32, 0x0, 1, false, fun _ _ => 0xFFFF⟩
def F.COVE_IOT_ATP_MODE : Fld := ⟨0x1f00000, 63, 60, .rw, .cove0, .none, 0x10, 32, 0x0, 1, false, fun _ _ => 0x0⟩
def F.COVE_IOT_ATP_VMID : Fld := ⟨0x1f00000, 57, 44, .rw, .cove0, .none, 0x10, 32, 0x0, 1, false, fun _ _ => 0x0⟩
def F.COVE_IOT_ATP_PPN : Fld := ⟨0x1f00000, 43, 0, .rw, .cove0, .none, 0x10, 32, 0x0, 1, false, fun _ _ => 0x0⟩
def F.COVE_IOT_FAULT_VALID : Fld := ⟨0x1f00008, 63, 63, .rw1c, .cove0, .none, 0x10, 32, 0x0, 1, false, fun _ _ => 0x0⟩
def F.COVE_IOT_FAULT_CPA : Fld := ⟨0x1f00008, 58, 0, .ro, .cove0, .none, 0x10, 32, 0x0, 1, false, fun _ _ => 0x0⟩
def F.COVE_IOT_INVAL_ALL : Fld := ⟨0x1f00400, 8, 8, .wo, .cove0, .none, 0x0, 1, 0x0, 1, true, fun _ _ => 0x0⟩
def F.COVE_IOT_INVAL_COVE : Fld := ⟨0x1f00400, 4, 0, .wo, .cove0, .none, 0x0, 1, 0x0, 1, true, fun _ _ => 0x00⟩
def F.SHOR_CMD_GO : Fld := ⟨0x500000, 31, 31, .wo, .shorCmd, .none, 0x1000000000, 2, 0x0, 1, true, fun _ _ => 0x0⟩
def F.SHOR_CMD_OP : Fld := ⟨0x500000, 30, 28, .rw, .shorCmd, .none, 0x1000000000, 2, 0x0, 1, false, fun _ _ => 0x0⟩
def F.SHOR_CMD_OWNER : Fld := ⟨0x500000, 20, 16, .rw, .shorCmd, .none, 0x1000000000, 2, 0x0, 1, false, fun _ _ => 0x00⟩
def F.SHOR_CMD_READER : Fld := ⟨0x500000, 12, 8, .rw, .shorCmd, .none, 0x1000000000, 2, 0x0, 1, false, fun _ _ => 0x00⟩
def F.SHOR_CMD_FIRST_FIRST : Fld := ⟨0x500004, 18, 0, .rw, .open_, .none, 0x1000000000, 2, 0x0, 1, false, fun _ _ => 0x0⟩
def F.SHOR_CMD_COUNT_COUNT : Fld := ⟨0x500008, 19, 0, .rw, .open_, .none, 0x1000000000, 2, 0x0, 1, false, fun _ _ => 0x0⟩
def F.SHOR_STAT_BUSY : Fld := ⟨0x50000c, 31, 31, .ro, .open_, .none, 0x1000000000, 2, 0x0, 1, false, fun _ _ => 0x0⟩
def F.SHOR_STAT_DONE : Fld := ⟨0x50000c, 30, 30, .rw1c, .open_, .none, 0x1000000000, 2, 0x0, 1, false, fun _ _ => 0x0⟩
def F.SHOR_STAT_REFUSED : Fld := ⟨0x50000c, 29, 29, .rw1c, .open_, .none, 0x1000000000, 2, 0x0, 1, false, fun _ _ => 0x0⟩
def F.SHOR_STAT_REASON : Fld := ⟨0x50000c, 3, 0, .ro, .open_, .none, 0x1000000000, 2, 0x0, 1, false, fun _ _ => 0x0⟩
def F.SHOR_CMD_REFUSED_PAGE_PAGE : Fld := ⟨0x500010, 18, 0, .ro, .open_, .none, 0x1000000000, 2, 0x0, 1, false, fun _ _ => 0x0⟩
def F.SHOR_QUERY_PAGE : Fld := ⟨0x500020, 18, 0, .rw, .open_, .none, 0x1000000000, 2, 0x0, 1, true, fun _ _ => 0x0⟩
def F.SHOR_QUERY_RESULT_ENTRY : Fld := ⟨0x500024, 15, 0, .ro, .open_, .none, 0x1000000000, 2, 0x0, 1, false, fun _ _ => 0x0000⟩
def F.SHOR_DELEG_BASE_BASE : Fld := ⟨0x500040, 19, 0, .rw, .sec, .none, 0x8, 4, 0x0, 1, false, fun _ _ => 0x0⟩
def F.SHOR_DELEG_LIMIT_LIMIT : Fld := ⟨0x500044, 19, 0, .rw, .sec, .none, 0x8, 4, 0x0, 1, false, fun _ _ => 0x0⟩
def F.SHOR_DENY_ADDR_ADDR : Fld := ⟨0x500080, 39, 0, .ro, .sec, .none, 0x0, 1, 0x0, 1, false, fun _ _ => 0x0⟩
def F.SHOR_DENY_INFO_VALID : Fld := ⟨0x500088, 31, 31, .rw1c, .sec, .none, 0x0, 1, 0x0, 1, false, fun _ _ => 0x0⟩
def F.SHOR_DENY_INFO_OVERRUN : Fld := ⟨0x500088, 30, 30, .rw1c, .sec, .none, 0x0, 1, 0x0, 1, false, fun _ _ => 0x0⟩
def F.SHOR_DENY_INFO_WORLD : Fld := ⟨0x500088, 15, 15, .ro, .sec, .none, 0x0, 1, 0x0, 1, false, fun _ _ => 0x0⟩
def F.SHOR_DENY_INFO_COVE : Fld := ⟨0x500088, 12, 8, .ro, .sec, .none, 0x0, 1, 0x0, 1, false, fun _ _ => 0x00⟩
def F.SHOR_DENY_INFO_STATE : Fld := ⟨0x500088, 6, 4, .ro, .sec, .none, 0x0, 1, 0x0, 1, false, fun _ _ => 0x0⟩
def F.SHOR_DENY_INFO_WRITE : Fld := ⟨0x500088, 0, 0, .ro, .sec, .none, 0x0, 1, 0x0, 1, false, fun _ _ => 0x0⟩
def F.SLU_PORT_ACQ_WAIT : Fld := ⟨0x200000000, 8, 8, .wo, .open_, .none, 0x100, 536, 0x0, 1, true, fun _ _ => 0x0⟩
def F.SLU_PORT_ACQ_LOCK : Fld := ⟨0x200000000, 7, 0, .wo, .open_, .none, 0x100, 536, 0x0, 1, true, fun _ _ => 0x00⟩
def F.SLU_PORT_REL_LOCK : Fld := ⟨0x200000004, 7, 0, .wo, .open_, .none, 0x100, 536, 0x0, 1, true, fun _ _ => 0x00⟩
def F.SLU_PORT_RESULT_LOCK : Fld := ⟨0x200000008, 15, 8, .ro, .open_, .none, 0x100, 536, 0x0, 1, false, fun _ _ => 0x00⟩
def F.SLU_PORT_RESULT_CODE : Fld := ⟨0x200000008, 3, 0, .ro, .open_, .none, 0x100, 536, 0x0, 1, false, fun _ _ => 0x0⟩
def F.SLU_PORT_HELD_CLASSES : Fld := ⟨0x20000000c, 15, 0, .ro, .open_, .none, 0x100, 536, 0x0, 1, false, fun _ _ => 0x0000⟩
def F.SLU_PORT_CANCEL_CANCEL : Fld := ⟨0x200000010, 0, 0, .wo, .open_, .none, 0x100, 536, 0x0, 1, true, fun _ _ => 0x0⟩
def F.SLU_FORCE_LOCK : Fld := ⟨0x603000, 7, 0, .wo, .sec, .none, 0x0, 1, 0x0, 1, true, fun _ _ => 0x00⟩
def F.SLU_LOCK_CFG_SECURE : Fld := ⟨0x604000, 8, 8, .rw, .sec, .none, 0x8, 256, 0x0, 1, true, fun _ _ => 0x0⟩
def F.SLU_LOCK_CFG_CLASS : Fld := ⟨0x604000, 3, 0, .rw, .slu, .none, 0x8, 256, 0x0, 1, true, fun _ _ => 0x0⟩
def F.SLU_LOCK_COVES_COVES : Fld := ⟨0x604004, 31, 0, .rw, .slu, .none, 0x8, 256, 0x0, 1, true, fun _ _ => 0x00000000⟩
def F.SLU_LOCK_STAT_WAITERS : Fld := ⟨0x605000, 31, 24, .ro, .slu, .none, 0x4, 256, 0x0, 1, false, fun _ _ => 0x00⟩
def F.SLU_LOCK_STAT_PORT : Fld := ⟨0x605000, 20, 16, .ro, .slu, .none, 0x4, 256, 0x0, 1, false, fun _ _ => 0x00⟩
def F.SLU_LOCK_STAT_COVE : Fld := ⟨0x605000, 12, 8, .ro, .slu, .none, 0x4, 256, 0x0, 1, false, fun _ _ => 0x00⟩
def F.SLU_LOCK_STAT_WORLD : Fld := ⟨0x605000, 7, 7, .ro, .slu, .none, 0x4, 256, 0x0, 1, false, fun _ _ => 0x0⟩
def F.SLU_LOCK_STAT_CFG_REFUSED : Fld := ⟨0x605000, 6, 6, .rw1c, .open_, .none, 0x4, 256, 0x0, 1, false, fun _ _ => 0x0⟩
def F.SLU_LOCK_STAT_STATE : Fld := ⟨0x605000, 1, 0, .ro, .slu, .none, 0x4, 256, 0x0, 1, false, fun _ _ => 0x0⟩
def F.COVE_Q_BASE_BASE : Fld := ⟨0x8001000, 49, 6, .rw, .open_, .none, 0x200000, 32, 0x40, 64, false, fun _ _ => 0x0⟩
def F.COVE_Q_CFG_SIZE : Fld := ⟨0x8001008, 11, 8, .rw, .open_, .none, 0x200000, 32, 0x40, 64, true, fun _ _ => 0x0⟩
def F.COVE_Q_CFG_ENGINE : Fld := ⟨0x8001008, 6, 4, .rw, .open_, .none, 0x200000, 32, 0x40, 64, true, fun _ _ => 0x0⟩
def F.COVE_Q_CFG_EN : Fld := ⟨0x8001008, 0, 0, .rw, .open_, .none, 0x200000, 32, 0x40, 64, true, fun _ _ => 0x0⟩
def F.COVE_Q_PROD_PROD : Fld := ⟨0x800100c, 31, 0, .rw, .open_, .none, 0x200000, 32, 0x40, 64, true, fun _ _ => 0x0⟩
def F.COVE_Q_CONS_CONS : Fld := ⟨0x8001010, 31, 0, .ro, .open_, .none, 0x200000, 32, 0x40, 64, false, fun _ _ => 0x0⟩
def F.COVE_Q_STAT_FAULT : Fld := ⟨0x8001014, 31, 31, .rw1c, .open_, .none, 0x200000, 32, 0x40, 64, true, fun _ _ => 0x0⟩
def F.COVE_Q_STAT_RUNNING : Fld := ⟨0x8001014, 30, 30, .ro, .open_, .none, 0x200000, 32, 0x40, 64, false, fun _ _ => 0x0⟩
def F.COVE_Q_STAT_CODE : Fld := ⟨0x8001014, 3, 0, .ro, .open_, .none, 0x200000, 32, 0x40, 64, false, fun _ _ => 0x0⟩
def F.COVE_ID_GEN : Fld := ⟨0x8000000, 31, 16, .ro, .open_, .none, 0x200000, 32, 0x0, 1, false, fun _ _ => 0x0000⟩
def F.COVE_ID_EXTERNAL : Fld := ⟨0x8000000, 8, 8, .ro, .open_, .none, 0x200000, 32, 0x0, 1, false, fun _ _ => 0x0⟩
def F.COVE_ID_COVE : Fld := ⟨0x8000000, 4, 0, .ro, .open_, .none, 0x200000, 32, 0x0, 1, false, fun i _ => i⟩
def F.COVE_STATE_OVER_SHARE : Fld := ⟨0x8000004, 11, 8, .ro, .open_, .none, 0x200000, 32, 0x0, 1, false, fun _ _ => 0x0⟩
def F.COVE_STATE_STATE : Fld := ⟨0x8000004, 3, 0, .ro, .open_, .none, 0x200000, 32, 0x0, 1, false, fun _ _ => 0x0⟩
def F.COVE_DISCARD_COUNT : Fld := ⟨0x8000008, 31, 0, .ro, .open_, .none, 0x200000, 32, 0x0, 1, false, fun _ _ => 0x0⟩
def F.COVE_PURGED_COUNT : Fld := ⟨0x800000c, 31, 0, .ro, .open_, .none, 0x200000, 32, 0x0, 1, false, fun _ _ => 0x0⟩
def F.COVE_QUEUES_COUNT : Fld := ⟨0x8000010, 6, 0, .ro, .open_, .none, 0x200000, 32, 0x0, 1, false, fun _ _ => 0x00⟩
def F.COVE_SHAREA_LOCH_SHARE : Fld := ⟨0x801004, 26, 16, .rw, .cove0, .none, 0x20, 32, 0x0, 1, true, fun _ _ => 0⟩
def F.COVE_SHAREA_RES_SHARE : Fld := ⟨0x801004, 10, 0, .rw, .cove0, .none, 0x20, 32, 0x0, 1, true, fun _ _ => 0⟩
def F.COVE_SHAREB_POOL_SHARE : Fld := ⟨0x801008, 26, 16, .rw, .cove0, .none, 0x20, 32, 0x0, 1, true, fun _ _ => 0⟩
def F.COVE_SHAREB_BAS_SHARE : Fld := ⟨0x801008, 10, 0, .rw, .cove0, .none, 0x20, 32, 0x0, 1, true, fun _ _ => 0⟩
def F.COVE_HOLD_SENSE : Fld := ⟨0x80100c, 31, 24, .ro, .cove0, .none, 0x20, 32, 0x0, 1, false, fun _ _ => 0x00⟩
def F.COVE_HOLD_DISP : Fld := ⟨0x80100c, 23, 16, .ro, .cove0, .none, 0x20, 32, 0x0, 1, false, fun _ _ => 0x00⟩
def F.COVE_HOLD_GFX : Fld := ⟨0x80100c, 15, 8, .ro, .cove0, .none, 0x20, 32, 0x0, 1, false, fun _ _ => 0x00⟩
def F.COVE_HOLD_MEM : Fld := ⟨0x80100c, 7, 0, .ro, .cove0, .none, 0x20, 32, 0x0, 1, false, fun _ _ => 0x00⟩
def F.COVE_VFWIN_BASE : Fld := ⟨0x801010, 49, 30, .rw, .cove0, .none, 0x20, 32, 0x0, 1, false, fun _ _ => 0x0⟩
def F.COVE_CMD_GO : Fld := ⟨0x800000, 31, 31, .wo, .cove0, .none, 0x0, 1, 0x0, 1, true, fun _ _ => 0x0⟩
def F.COVE_CMD_CMD : Fld := ⟨0x800000, 27, 24, .rw, .cove0, .none, 0x0, 1, 0x0, 1, false, fun _ _ => 0x0⟩
def F.COVE_CMD_COVE : Fld := ⟨0x800000, 4, 0, .rw, .cove0, .none, 0x0, 1, 0x0, 1, false, fun _ _ => 0x00⟩
def F.COVE_CMD_STAT_BUSY : Fld := ⟨0x800004, 31, 31, .ro, .cove0, .none, 0x0, 1, 0x0, 1, false, fun _ _ => 0x0⟩
def F.COVE_CMD_STAT_DONE : Fld := ⟨0x800004, 30, 30, .rw1c, .cove0, .none, 0x0, 1, 0x0, 1, false, fun _ _ => 0x0⟩
def F.COVE_CMD_STAT_REFUSED : Fld := ⟨0x800004, 29, 29, .rw1c, .cove0, .none, 0x0, 1, 0x0, 1, false, fun _ _ => 0x0⟩
def F.COVE_CMD_STAT_REASON : Fld := ⟨0x800004, 3, 0, .ro, .cove0, .none, 0x0, 1, 0x0, 1, false, fun _ _ => 0x0⟩
def F.COVE_MIG_ADDR_ADDR : Fld := ⟨0x800008, 39, 4, .rw, .cove0, .none, 0x0, 1, 0x0, 1, false, fun _ _ => 0x0⟩
def F.COVE_MIG_LEN_LEN : Fld := ⟨0x800010, 31, 0, .rw, .cove0, .none, 0x0, 1, 0x0, 1, false, fun _ _ => 0x0⟩
def F.COVE_MIG_CFG_UNIT : Fld := ⟨0x800014, 3, 0, .rw, .cove0, .none, 0x0, 1, 0x0, 1, false, fun _ _ => 0x0⟩
def F.COVE_MIG_SIZE_SIZE : Fld := ⟨0x800018, 31, 0, .ro, .cove0, .none, 0x0, 1, 0x0, 1, false, fun _ _ => 0x0⟩

def tblRegsOwn4_0 : List Fld := [F.WEIR_CFG_MAX_RES_US, F.WEIR_CFG_L2_KEEP, F.WEIR_CFG_EN, F.WEIR_SVEC_ENTRY, F.WEIR_L3_SEC_WAYS_WAYS,
  F.WEIR_L3_STAT_BUSY, F.WEIR_HART_ENTER_SERVICE, F.WEIR_HART_RETURN_STATUS, F.WEIR_HART_STAT_SECURE, F.WEIR_HART_STAT_LAST,
  F.WEIR_HART_STAT_SERVICE, F.WEIR_HART_COVE_GEN, F.WEIR_HART_COVE_COVE, F.WEIR_L3_COVE_WAYS_WAYS]
def tblRegsOwn5_0 : List Fld := [F.SHOR_CMD_GO, F.SHOR_CMD_OP, F.SHOR_CMD_OWNER, F.SHOR_CMD_READER, F.SHOR_CMD_FIRST_FIRST,
  F.SHOR_CMD_COUNT_COUNT, F.SHOR_STAT_BUSY, F.SHOR_STAT_DONE, F.SHOR_STAT_REFUSED, F.SHOR_STAT_REASON, F.SHOR_CMD_REFUSED_PAGE_PAGE,
  F.SHOR_QUERY_PAGE, F.SHOR_QUERY_RESULT_ENTRY, F.SHOR_DELEG_BASE_BASE, F.SHOR_DELEG_LIMIT_LIMIT, F.SHOR_DENY_ADDR_ADDR,
  F.SHOR_DENY_INFO_VALID, F.SHOR_DENY_INFO_OVERRUN, F.SHOR_DENY_INFO_WORLD, F.SHOR_DENY_INFO_COVE, F.SHOR_DENY_INFO_STATE,
  F.SHOR_DENY_INFO_WRITE]
def tblRegsOwn6_0 : List Fld := [F.SLU_FORCE_LOCK, F.SLU_LOCK_CFG_SECURE, F.SLU_LOCK_CFG_CLASS, F.SLU_LOCK_COVES_COVES,
  F.SLU_LOCK_STAT_WAITERS, F.SLU_LOCK_STAT_PORT, F.SLU_LOCK_STAT_COVE, F.SLU_LOCK_STAT_WORLD, F.SLU_LOCK_STAT_CFG_REFUSED,
  F.SLU_LOCK_STAT_STATE]
def tblRegsOwn8_0 : List Fld := [F.COVE_SHAREA_LOCH_SHARE, F.COVE_SHAREA_RES_SHARE, F.COVE_SHAREB_POOL_SHARE, F.COVE_SHAREB_BAS_SHARE,
  F.COVE_HOLD_SENSE, F.COVE_HOLD_DISP, F.COVE_HOLD_GFX, F.COVE_HOLD_MEM, F.COVE_VFWIN_BASE, F.COVE_CMD_GO, F.COVE_CMD_CMD, F.COVE_CMD_COVE,
  F.COVE_CMD_STAT_BUSY, F.COVE_CMD_STAT_DONE, F.COVE_CMD_STAT_REFUSED, F.COVE_CMD_STAT_REASON, F.COVE_MIG_ADDR_ADDR, F.COVE_MIG_LEN_LEN,
  F.COVE_MIG_CFG_UNIT, F.COVE_MIG_SIZE_SIZE]
def tblRegsOwn1F_0 : List Fld := [F.COVE_IOT_ATP_MODE, F.COVE_IOT_ATP_VMID, F.COVE_IOT_ATP_PPN, F.COVE_IOT_FAULT_VALID,
  F.COVE_IOT_FAULT_CPA, F.COVE_IOT_INVAL_ALL, F.COVE_IOT_INVAL_COVE]
def tblRegsOwn80_0 : List Fld := [F.COVE_Q_BASE_BASE, F.COVE_Q_CFG_SIZE, F.COVE_Q_CFG_ENGINE, F.COVE_Q_CFG_EN, F.COVE_Q_PROD_PROD,
  F.COVE_Q_CONS_CONS, F.COVE_Q_STAT_FAULT, F.COVE_Q_STAT_RUNNING, F.COVE_Q_STAT_CODE, F.COVE_ID_GEN, F.COVE_ID_EXTERNAL, F.COVE_ID_COVE,
  F.COVE_STATE_OVER_SHARE, F.COVE_STATE_STATE, F.COVE_DISCARD_COUNT, F.COVE_PURGED_COUNT, F.COVE_QUEUES_COUNT]
def tblRegsOwn2000_0 : List Fld := [F.SLU_PORT_ACQ_WAIT, F.SLU_PORT_ACQ_LOCK, F.SLU_PORT_REL_LOCK, F.SLU_PORT_RESULT_LOCK,
  F.SLU_PORT_RESULT_CODE, F.SLU_PORT_HELD_CLASSES, F.SLU_PORT_CANCEL_CANCEL]

end Sys2Proof.Machine
end

