-- ==== Sys2Proof/Machine/RegMap.lean ====
section
/-!
DEFINITION. The register map of Table 01-10 (R39): the fields of each 1 MiB of register offsets.
Tables without offsets of their own (Plash effect ports, Sluice ports) stand at the model's port
numbers 0x1000 and 0x2000 (in MiB), to which `canonAddr` maps their real addresses.
-/
namespace Sys2Proof.Machine

/-- The fields whose register lies in MiB `b` of the register space (R39, Table 01-10). -/
def fldsOfMiB (b : Nat) : List Fld :=
  match b with
  | 0x0 => tblRegsChip0_0 ++ tblRegsChip0_1 ++ tblRegsChip0_2
  | 0x1 => tblRegsChip1_0
  | 0x2 => tblRegsChip2_0
  | 0x3 => tblRegsChip3_0
  | 0x4 => tblRegsOwn4_0
  | 0x5 => tblRegsOwn5_0
  | 0x6 => tblRegsOwn6_0
  | 0x8 => tblRegsOwn8_0
  | 0x1f => tblRegsOwn1F_0
  | 0x20 => tblRegsDisplay20_0 ++ tblRegsDisplay20_1
  | 0x30 => tblRegsDisplay30_0
  | 0x38 => tblRegsDisplay38_0
  | 0x40 => tblRegsDisplay40_0 ++ tblRegsDisplay40_1
  | 0x48 => tblRegsDisplay48_0 ++ tblRegsDisplay48_1
  | 0x50 => tblRegsEngines50_0
  | 0x60 => tblRegsEngines60_0 ++ tblRegsEngines60_1
  | 0x61 => tblRegsEngines61_0
  | 0x68 => tblRegsEngines68_0 ++ tblRegsEngines68_1
  | 0x6c => tblRegsEngines6C_0 ++ tblRegsEngines6C_1
  | 0x70 => tblRegsLinks70_0
  | 0x78 => tblRegsLinks78_0
  | 0x7c => tblRegsLinks7C_0 ++ tblRegsLinks7C_1
  | 0x7e => tblRegsChip7E_0
  | 0x80 => tblRegsEngines80_0 ++ tblRegsOwn80_0
  | 0x81 => tblRegsChip81_0 ++ tblRegsEngines81_0
  | 0x1000 => tblRegsEngines1000_0
  | 0x2000 => tblRegsOwn2000_0
  | _ => []

end Sys2Proof.Machine
end

