-- ==== Sys2Proof/Config.lean ====
section
/-!
DEFINITION. What an implementation fixes and what the spec leaves open. A constant without a body is opaque:
no proof can see its value, so every claim holds whatever it is. The argument of a free value is the model's
counter `State.fresh`, which each use advances, so that two uses are two independent values.
-/
namespace Sys2Proof

/-- SHA-384 of a byte string (R110, R111): a published standard, outside the manual (00_scope, External standards). -/
opaque Config.sha384 : List Byte → List Byte

/-- ECDSA on P-384 with SHA-384, as FIPS 186-5 defines it (R111): key Qx Qy, signature r s, message. -/
opaque Config.ecdsaP384 : List Byte → List Byte → List Byte → Bool

/-- A value that the spec leaves open (one 64-bit draw per use of the counter). -/
opaque Config.freeValue : Nat → BitVec 64

/-- Interval in nanoseconds between the refreshes of a rank whose MR4 reports this rate field (R228): LPDDR5's own, outside the manual. -/
opaque Config.refreshNs : Nat → Nat

/-- What sealed parameter `k` of Wellhead is: 1 DISPLAY_LIMIT, 2 to 5 the pin colours P_0 to P_3, else another one (R507,
R510). The manual numbers none. -/
opaque Config.paramRole : Nat → Nat

/-- What the code of a fragment gives (R372: shader code is the compiler's): the number of its invocation, the values that it
read of its own samples, and which result: 16 k + 0 discard, + 1 depth, + 2 stencil, + 3 + t colour target t of its k-th sample. -/
opaque Config.shade : Nat → List Nat → Nat → Nat

/-- Whether the code of a fragment that is not deferrable runs where the depth test fails every sample, by CLASS: R373 fixes the
content, and no rule says whether the test comes first. -/
opaque Config.lateTest : Nat → Bool

/-- A depth in the code of a fixed-point depth format (Table 13-6), from binary32: the spec states no conversion. -/
opaque Config.depthCode : Nat → Nat → Nat

/-- What a sample-rate converter gives (15.2): the spec states no filter. Arguments: the draw, and the samples it had. -/
opaque Config.convert : Nat → List Int → BitVec 24

/-- A tone generator's wave (R450): shape and phase. The spec states its peak, and no wave form sample by sample. -/
opaque Config.toneWave : Nat → BitVec 32 → BitVec 24

/-- The carrier (R466): magnitude times sin of the phase, in 1/480,000 of a turn. The spec states no rounding. -/
opaque Config.carrier : Nat → Nat → Int

end Sys2Proof
end

