-- ==== Sys2Proof/Machine/Sparse.lean ====
section
/-!
DEFINITION. Sparse data by key: lists of (key, value) pairs with keys strictly rising and no entry equal to what
an unlisted key reads as. Register fields, memories and tables are held so.
-/
namespace Sys2Proof.Machine

/-- The value under key `k`, `d` when none is listed. -/
def spGet {α : Type} (l : List (Nat × α)) (k : Nat) (d : α) : α :=
  match l with
  | [] => d
  | (k', v) :: t => if k' = k then v else spGet t k d

/-- Entries without key `k`. -/
def spDrop {α : Type} (l : List (Nat × α)) (k : Nat) : List (Nat × α) := l.filter (fun e => e.1 != k)

/-- Insert an entry before the first larger key. -/
def spIns {α : Type} (l : List (Nat × α)) (k : Nat) (v : α) : List (Nat × α) :=
  match l with
  | [] => [(k, v)]
  | e :: t => if k < e.1 then (k, v) :: e :: t else e :: spIns t k v

/-- Store `v` under `k`; a value equal to the default `d` is not listed. -/
def spSet {α : Type} [DecidableEq α] (d : α) (l : List (Nat × α)) (k : Nat) (v : α) : List (Nat × α) :=
  if v = d then spDrop l k else spIns (spDrop l k) k v

/-- Keys strictly rising. -/
def spRising {α : Type} : List (Nat × α) → Bool
  | [] => true
  | [_] => true
  | a :: b :: t => decide (a.1 < b.1) && spRising (b :: t)

/-- The canonical form: keys strictly rising and no entry equal to the default. -/
def spWf {α : Type} [DecidableEq α] (d : α) (l : List (Nat × α)) : Bool :=
  spRising l && l.all (fun e => decide (e.2 ≠ d))

/-- `n` consecutive values from key `a`. -/
def spRead {α : Type} (d : α) (l : List (Nat × α)) (a : Nat) : Nat → List α
  | 0 => []
  | n + 1 => spGet l a d :: spRead d l (a + 1) n

/-- Consecutive values stored from key `a`. -/
def spWrite {α : Type} [DecidableEq α] (d : α) (l : List (Nat × α)) (a : Nat) : List α → List (Nat × α)
  | [] => l
  | v :: vs => spWrite d (spSet d l a v) (a + 1) vs

end Sys2Proof.Machine
end

