-- ==== Sys2Proof/Machine/Types.lean ====
section
/-!
DEFINITION. The data types that `State` is made of, block by block: everything that the chapters of spec/ give the
device beside its registers, which `State.regs` holds.
-/
namespace Sys2Proof.Machine

/-- Device phases (Table 03-1). -/
inductive Phase where
  | off | seep | reset | boot | run | dip | drain | test
  deriving DecidableEq, Repr

/-- Shutdown kinds (Table 03-3). -/
inductive Kind where
  | off | restart | powerFail | thermal
  deriving DecidableEq, Repr

/-- The chip resets of Table 03-5. -/
inductive ResetKind where
  | powerOn | warm | command | restart | brownOut
  deriving DecidableEq, Repr

/-- Answer of the response network to the sender (R125). -/
structure Resp where
  value : Nat
  err : Bool
  deriving DecidableEq, Repr

/-- What the block drives or sends to the outside, in order (pins, frames, messages). -/
inductive Sent where
  /-- A VCORE control frame (R48). -/
  | vcoreFrame (w : Nat)
  /-- An MSI to a hart's incoming MSI controller (Table 05-14); guest 0 is the supervisor file. -/
  | msi (hart guest identity : Nat)
  /-- An MSI-X message of VF `c` (R193). -/
  | msix (c entry : Nat)
  /-- The Spillway line of region `r` interrupts both safety-core pairs (R19, R140). -/
  | spillLine (r : Nat)
  /-- A genlock or mark pulse on SB_SYNC (R58). -/
  | sbPulse (mark : Bool) (at_ : Nat)
  /-- A flash command (R89): opcode, address, dummy cycles, data written. -/
  | flash (op addr dummy : Nat) (data : List Byte)
  /-- FL_RST_n pulsed and the flash switched to 8D-8D-8D (Tables 03-7 and 03-10). -/
  | flashReset
  /-- A rising edge of LOG_CLK with the levels of LOG_VALID and LOG_D3 to LOG_D0 (R61). -/
  | logEdge (valid : Bool) (nibble : Nat)
  /-- A PCIe completion status: 0 successful, 1 Unsupported Request, 2 Completer Abort, 3 Configuration Request Retry. -/
  | pcieCpl (status : Nat) (data : List Byte)
  /-- Idle between TLPs, or idle symbols on a Portage link. -/
  | pcieIdle
  | portageIdle (link : Nat)
  /-- A DRAM command on channel `ch` (chapter 08). -/
  | dramCmd (ch : Nat) (cmd : List Nat)
  /-- An AUX transaction on port `n` (R329). -/
  | aux (n cmd addr len : Nat) (data : List Byte)
  /-- A frame on the Wellhead link to Wellhead (`down = true`) or to the main die (R503). -/
  | welFrame (down : Bool) (frame : List Byte)
  /-- The answer of a texture fetch or of a traversal to the shader on a logical cluster (R407, R416). -/
  | shader (lc : Nat) (data : List Byte)
  /-- A reply on the Wellhead verification UART (R514). -/
  | uart (line : List Byte)
  /-- A Portage message or flit payload to position `dest`, or a hop on link `l`. -/
  | ptgMsg (dest type : Nat) (body : List Nat)
  | ptgFlit (link : Nat) (seq : Nat) (body : List Nat)
  /-- A NAK on a link, naming the SEQ that it wants again (R540). -/
  | ptgNak (link : Nat) (seq : Nat)
  /-- Pixels of a line at a port while a head sends its background colour. -/
  | background (head : Nat)
  /-- A frame on DOUT of a TDM port (R424). -/
  | tdm (port : Nat) (slots : List Int)
  /-- Drive of a haptic channel, in its LIMIT's unit (R467). -/
  | drive (ch : Nat) (v : Int)
  /-- SPI read of an accelerometer (R478). -/
  | accSpi (cs reg : Nat)
  /-- A read of an ambient-light sensor (R334). -/
  | alsRead (bus addr reg len : Nat)
  deriving DecidableEq, Repr

/-- What a ball does (Tables 02-3, 02-5 and 02-8). -/
inductive Ball where
  /-- No supply (R46). -/
  | unpowered
  /-- Sampled as a strap while PORST_n is low (R52). -/
  | strap
  /-- High impedance; released. -/
  | hiZ
  /-- High impedance with a bus keeper (R51). -/
  | keeper
  | low
  | high
  /-- A function that the chapter gives the ball: flash, log, sideband, I²C controller, test data, a lane, AUX or an LVDS pair. -/
  | flash
  | logClk
  | logValid
  | logData (bit : Fin 4)
  | sbSync
  | sbAlert
  | i2c
  | test
  | lane (n : Fin 4)
  | aux
  | lvdsData (channelB : Bool) (n : Fin 4)
  | lvdsClock (channelB : Bool)
  deriving DecidableEq, Repr

/-- Drivers of the control and Turnover balls (Tables 02-3 and 02-5). -/
structure Pins where
  porst : Bool
  wrst : Bool
  vcoreOk : Bool
  safeOk : Bool
  thermLow : Bool
  pwrReq : Bool
  /-- PANEL_ENn and BL_ENn, one bit each. -/
  panelEn : Nat
  blEn : Nat
  /-- Ports held at high impedance, one bit each (R63). -/
  portHiZ : Nat
  /-- The device drives SB_SYNC; SB_SYNC was released on contention (R59). -/
  sbDrive : Bool
  sbContended : Bool
  /-- SB_ALERT_n driven low by this device. -/
  alertDrive : Bool
  /-- TURN0 to TURN11 in their flash function. -/
  turnFlash : Bool
  /-- Reference time until which each port is held at high impedance between two types (R65). -/
  portHold : List (Option Nat)
  deriving DecidableEq, Repr

/-- HEADS record (Table 04-6). -/
structure HeadCfg where
  en : Bool
  safety : Bool
  lead : Bool
  follow : Bool
  depth30 : Bool
  genlockRef : Bool
  layers : Nat
  latchLine : Nat
  hActive : Nat
  hFront : Nat
  hSync : Nat
  hBack : Nat
  vActive : Nat
  vFront : Nat
  vSync : Nat
  vBack : Nat
  pclk : Nat
  syncPol : Nat
  panelOn : Nat
  panelOff : Nat
  bg : Nat
  deriving DecidableEq, Repr, Inhabited

/-- LAYERS record (Table 04-6). -/
structure LayerCfg where
  owner : Nat
  en : Bool
  secure : Bool
  scaler : Nat
  vTaps : Nat
  srcW : Nat
  srcH : Nat
  dstW : Nat
  dstH : Nat
  bpp : Nat
  staleLimit : Nat
  coefSet : Nat
  placeholder : Nat
  deriving DecidableEq, Repr, Inhabited

/-- PORTS record (Table 04-7). -/
structure PortCfg where
  type : Nat
  lanes : Nat
  rate : Nat
  lvdsMap : Nat
  swing : Nat
  preemph : Nat
  als : Nat
  deriving DecidableEq, Repr, Inhabited

/-- AUDIO output record and processing-slot record (Table 04-7). -/
structure AudioOut where
  cls : Nat
  curve : Nat
  deriving DecidableEq, Repr, Inhabited

structure PSlotCfg where
  kind : Nat
  biquads : Nat
  fs : Nat
  slots : Nat
  deriving DecidableEq, Repr, Inhabited

/-- HAPTICS record (Table 04-7). -/
structure HapticCfg where
  kind : Nat
  bridge : Nat
  accCs : Nat
  limit : Nat
  deriving DecidableEq, Repr, Inhabited

/-- TOUCH sensor record and secure-claim record (Table 04-7). -/
structure SensorCfg where
  en : Bool
  hasMutual : Bool
  hasSelf : Bool
  head : Nat
  txFirst : Nat
  txCount : Nat
  rxFirst : Nat
  rxCount : Nat
  drive : Nat
  rate : Nat
  glove : Nat
  deriving DecidableEq, Repr, Inhabited

structure ClaimCfg where
  head : Nat
  en : Bool
  x0 : Nat
  y0 : Nat
  x1 : Nat
  y1 : Nat
  deriving DecidableEq, Repr, Inhabited

/-- COVES record (Table 04-7). -/
structure CoveCfg where
  en : Bool
  ext : Bool
  queues : Nat
  res : Nat
  loch : Nat
  bas : Nat
  pool : Nat
  deriving DecidableEq, Repr, Inhabited

/-- POWER record (Table 04-7). -/
structure PowerCfg where
  voteSec : Nat
  voteNs : Nat
  forceOff : Nat
  pfail : Nat
  groups : List Nat
  pcapSec : Nat
  pcapNs : Nat
  deriving DecidableEq, Repr, Inhabited

/-- SEALS record (Table 04-7). -/
structure SealCfg where
  en : Bool
  static_ : Bool
  x0 : Nat
  y0 : Nat
  x1 : Nat
  y1 : Nat
  expect : Nat
  deriving DecidableEq, Repr, Inhabited

/-- LEGAL record (Table 04-7). -/
structure LegalCfg where
  head : Nat
  window : Nat
  x0 : Nat
  y0 : Nat
  x1 : Nat
  y1 : Nat
  deriving DecidableEq, Repr, Inhabited

/-- The configuration that the applied Troex sections give (chapter 04): structure sections as records, table
sections as their bytes (empty where the image holds none). -/
structure Image where
  heads : List HeadCfg
  layers : List LayerCfg
  ports : List PortCfg
  outs : List AudioOut
  pslots : List PSlotCfg
  haptics : List HapticCfg
  sensors : List SensorCfg
  claims : List ClaimCfg
  coves : List CoveCfg
  power : PowerCfg
  seals : List SealCfg
  legal : Option LegalCfg
  logo : List Byte
  colour : List Byte
  backlight : List Byte
  coef : List Byte
  waves : List Byte
  curves : List Byte
  stables : List Byte
  fw : List Byte
  deriving DecidableEq, Repr

/-- A section of an accepted delta that is not yet in effect (R122). -/
structure PendSection where
  type : Nat
  data : List Byte
  secure : Bool
  /-- Its parts (heads, channels, sensors, engines) that are not yet in effect. -/
  left : Nat
  /-- Its turn in directory order has come: its parts wait for their own points only. -/
  started : Bool
  deriving DecidableEq, Repr

/-- Chip control: phases, boot, image load, flash, shutdown, images (chapters 03 and 04). -/
structure Chip where
  phase : Phase
  kind : Kind
  /-- Why the next RESET is entered from SEEP: cause code of Table 03-6. -/
  wakeCause : Nat
  /-- RESET is waiting for its internal end (Table 03-2): reference time at which it may end. -/
  internalReset : Option Nat
  /-- Boot: slots still to try, the slot in use, steps done, DRAM trained (step 10). -/
  slot : Nat
  triedOther : Bool
  step10 : Bool
  /-- The DRAM was in self-refresh with empty write queues at the reset (R79, R229). -/
  selfRefresh : Bool
  /-- Bytes of an image are staged in the Tarn store (R87). -/
  staged : Bool
  stagedBusy : Bool
  stagedDone : Bool
  imgldStat : Nat
  imgldSize : Nat
  imgldBank : Nat
  cacheMissed : Bool
  /-- Header, directory and signature block of the image being booted, and the sections read from it (type, bytes). -/
  imgHead : List Byte
  bootSecs : List (Nat × List Byte)
  /-- The reset that RESET was entered by (Table 03-5). -/
  resetKind : ResetKind
  /-- DIP: reference time of the limit; step 3 of Table 03-10 is reached. -/
  dipEnd : Nat
  dipEnding : Bool
  /-- Shutdown requested while a DIP is ending. -/
  pendingShutdown : Option Kind
  /-- The flash command in progress: DIR and LEN as they were at GO. -/
  flashOp : Option (Bool × Nat)
  /-- Last step of Table 03-13 or 03-14 completed, and whether step 6 of the former, which runs alongside, is. -/
  drainStep : Nat
  drainLogged : Bool
  /-- Timebase at DRAIN entry (Table 19-5). -/
  drainTs : Nat
  /-- Delta image being checked: submitting world, bytes read, index of the first section that could not be read. -/
  delta : Option (Bool × List Byte × Option Nat)
  deltaQueued : List PendSection
  deltaWorld : Bool
  /-- Key slots as digests in fuses (R114). -/
  keyDigest : List (List Byte)
  /-- A test-access-port instruction in force (R50). -/
  bscan : Option Nat
  debugReach : Option DebugTarget
  /-- Fraction of a tick of the seep count, in 1/10^9 of a tick. -/
  seepFrac : Nat
  /-- Domains draining or powering: bit d of PD_STAT is 11. -/
  pdTarget : Nat
  /-- Domains whose normal-world vote was cleared under a secure vote (R99). -/
  secHeld : Nat
  /-- RUN has been reached since the reset: the application cores have been released (R82). -/
  ran : Bool
  /-- Highest junction temperature that a thermal command has reported since the reset (Table 03-25). -/
  tjMax : Option Int
  deriving DecidableEq, Repr

/-- Margin governor (01.4.1). -/
structure Gov where
  /-- VCORE code last sent. -/
  code : Nat
  raising : Bool
  slowMonitor : Bool
  ceiling : Bool
  below : List Watched
  /-- FIFOs that are not above their release threshold, and since when there has been none (R25). -/
  under : List Watched
  clearAt : Nat
  lastFrame : Option Nat
  deriving DecidableEq, Repr

/-- An entry of the fault log (Table 05-7). -/
structure FlogEntry where
  w0 : Nat
  w1 : Nat
  ts : Nat
  deriving DecidableEq, Repr

/-- Ripple: arbiters keep their grant in their registers; regions, fault log, Spillway timers, timed-out requests. -/
structure Fabric where
  /-- Deficit D_c of each cove in the four share regions (R137). -/
  deficit : List (List Int)
  /-- Cove that each region's round visits next, and the requests that wait in the Memory and Sense regions, oldest first:
  region and cove, or region alone for secure-world work. -/
  round : List Nat
  waiting : List (Nat × Nat × RegionReq)
  secWaiting : List (Nat × RegionReq)
  /-- Secure slots taken in each share region, and pool slots taken by secure work (R198). -/
  secSlots : List Nat
  secPool : List Nat
  flog : List FlogEntry
  isolated : List BlockId
  /-- Spares that have taken over: block replaced. -/
  covered : List BlockId
  /-- Isolated blocks whose spare has not yet taken over, with what the fault log says of their fault (R323, R139). -/
  uncovered : List (BlockId × FlogEntry)
  /-- Blocks that a stalled cell has marked faulted and that are not yet isolated (R129). -/
  faulted : List BlockId
  /-- What each pending region's entry of the fault log says of its fault (R139). -/
  spillFault : List FlogEntry
  /-- Reference time at which each pending region's 1 ms timer was started (R140). -/
  spillStart : List Nat
  pairReset : List Bool
  /-- Requests that timed out: cove and reference time (R127, R203). -/
  timedOut : List (Nat × Nat)
  deriving DecidableEq, Repr

/-- A raise awaiting capture in Inlet (R144). -/
structure EvRaise where
  src : Nat
  cove : Nat
  gen : Nat
  secure : Bool
  boot : Bool
  info : Nat
  deriving DecidableEq, Repr

/-- Delivery state of one event ring (R149, R150). -/
structure RingState where
  afterLoss : Bool
  episode : Bool
  signalled : Bool
  lastDoor : Option Nat
  deferred : Bool
  deriving DecidableEq, Repr

/-- Inlet (05.6): raises awaiting capture, oldest first, and ring states (0, 1 secure; 2 warden; 3 + c cove c). -/
structure Inlet where
  awaiting : List EvRaise
  rings : List RingState
  deriving DecidableEq, Repr

/-- Edge bookkeeping of one time window (R160). -/
structure WinState where
  startDone : Bool
  endDone : Bool
  skipStart : Bool
  skipEnd : Bool
  /-- Low words written and not yet joined by their high word (R158). -/
  heldStart : Nat
  heldEnd : Nat
  deriving DecidableEq, Repr

/-- Timebase (05.7). -/
structure Tbs where
  now : Nat
  running : Bool
  /-- Fraction of a nanosecond, in units of 2^-32. -/
  frac : Int
  /-- Remaining slew in ns (signed) and reference nanoseconds since the last slewed one. -/
  slew : Int
  slewFrac : Nat
  /-- A correction is being applied (R154). -/
  slewing : Bool
  stepLow : Nat
  /-- A 1PPS edge has been captured; the pulse is declared lost (R155). -/
  ppsSeen : Bool
  ppsLost : Bool
  wins : List WinState
  /-- Mark instant captured and awaiting its MARK message; genlock instant captured. -/
  markCap : Option Nat
  genCap : Option Nat
  badPulses : Nat
  deriving DecidableEq, Repr

/-- Weir state of one application hart (06.2). -/
structure WeirHart where
  normal : HartBank
  current : HartBank
  enteredAt : Nat
  /-- TLB and page-walk entries filled in the secure world, and predictor, return-stack and prefetcher history. -/
  secTlb : Bool
  predictor : Bool
  deriving DecidableEq, Repr

/-- An IOTLB entry (R172): cove, generation, first CPA, first physical address, size, permissions. -/
structure IotEntry where
  cove : Nat
  gen : Nat
  cpa : Nat
  pa : Nat
  size : Nat
  read : Bool
  write : Bool
  deriving DecidableEq, Repr

/-- A line of an L1 or an L2 (R170): PA / 64, world and cove of the access that filled it, the hart that did, and whether a
write has been allowed on it. Its bytes are the coherent ones of `State.dram`. -/
structure CacheLine where
  line : Nat
  secure : Bool
  cove : Nat
  hart : Nat
  written : Bool
  deriving DecidableEq, Repr

/-- A Shoreline command (R178). -/
structure ShorCmd where
  secure : Bool
  op : Nat
  first : Nat
  count : Nat
  owner : Nat
  reader : Nat
  deriving DecidableEq, Repr

/-- Weir, I/O translation and Shoreline state beside their registers. -/
structure Owner where
  harts : List WeirHart
  /-- Lines of each hart's L1, of each cluster's L2, and of the L3: PA / 64 and way (R170, R171). -/
  l1 : List (List CacheLine)
  l2 : List (List CacheLine)
  l3 : List (Nat × Nat)
  l3New : Nat
  /-- COVE_IOT_ATPc values in effect (R173). -/
  atp : List Nat
  iotlb : List IotEntry
  /-- Owner table: page and nonzero entry, ascending (Table 06-6). -/
  table : List (Nat × Nat)
  running : Option ShorCmd
  waiting : Option ShorCmd
  deriving DecidableEq, Repr

/-- One Sluice lock (06.6): state 0 FREE, 1 HELD, 2 ABANDONED; last holder; queue of waiting ports. -/
structure Lock where
  state : Nat
  holder : Nat
  waiters : List Nat
  deriving DecidableEq, Repr

/-- Cove manager state of one cove (chapter 07). -/
structure Cove where
  /-- EN and EXTERNAL as the COVES records in effect give them. -/
  en : Bool
  ext : Bool
  queues : Nat
  /-- Physical queue contexts, by local queue (R187). -/
  ctx : List Nat
  heldReset : Bool
  heldConfine : Option Nat
  /-- Queue EN bits to set at THAW after a restore (R210). -/
  thawEn : List Nat
  /-- AER status of the cove's VF. -/
  aerCor : Nat
  aerUncor : Nat
  busMaster : Bool
  vfEnabled : Bool
  pba : Nat
  deriving DecidableEq, Repr

/-- Cove manager: command running, record under SAVE or RESTORE; PCIe endpoint. -/
structure Host_ where
  coves : List Cove
  cmd : Option (Nat × Nat)
  record : List Byte
  linkUp : Bool
  speed : Nat
  width : Nat
  txFill : Nat
  lastStarved : Option Nat
  /-- The PF's configuration space answers (R81, R87). -/
  cfgReady : Bool
  deriving DecidableEq, Repr

/-- A read in a channel's read queue (08.4): line address PA / 64, the bytes wanted, and the data the read is to return,
taken when it entered (R223). -/
structure ReadReq where
  tag : WorkTag
  line : Nat
  off : Nat
  data : List Byte
  hint : Nat
  at_ : Nat
  issued : Bool
  /-- It shares the completing read of a partial write entry (R223). -/
  shared : Bool
  deriving DecidableEq, Repr

/-- An entry of a channel's write queue (R222). The bytes themselves take effect, and are held in `State.dram`, when the
write enters (R221). -/
structure WriteEntry where
  tag : WorkTag
  line : Nat
  /-- Byte-valid mask, and the bytes of it that writes have supplied. -/
  mask : Nat
  given : Nat
  hint : Nat
  at_ : Nat
  selected : Bool
  /-- Its completing read is under way; its DRAM write has been issued and has not completed (R222, R223). -/
  filling : Bool
  sent : Bool
  deriving DecidableEq, Repr

/-- A DRAM read under way: its line, whether it completes a write entry, and reads made before it (R217). -/
structure Flight where
  line : Nat
  fill : Bool
  tries : Nat
  deriving DecidableEq, Repr

/-- An open row of a bank: bank key, row, hint of its last access and when that was (R224). -/
structure OpenRow where
  bank : Nat
  row : Nat
  hint : Nat
  last : Nat
  deriving DecidableEq, Repr

/-- One DRAM channel beside its registers (chapter 08). -/
structure Chan where
  rq : List ReadReq
  wq : List WriteEntry
  flight : List Flight
  rows : List OpenRow
  /-- Check lines in the channel's cache (R217), by channel address, and corrected lines that wait to be rewritten, as PA / 64. -/
  checks : List Nat
  rewrites : List Nat
  /-- Writes drain (R225). -/
  draining : Bool
  /-- By rank: refreshes postponed, when the last fell due, the bank that the next per-bank refresh takes, and MR4 rate fields. -/
  refDebt : List Nat
  refAt : List Nat
  refBank : List Nat
  mr4 : List Nat
  /-- PHY settings by index (Table 08-9). -/
  phy : List (Nat × Nat)
  /-- Mode registers written, by 128 x rank + address. -/
  mr : List (Nat × Nat)
  /-- Next line of the patrol, and whether this pass is over. -/
  scrubPos : Nat
  scrubDone : Bool
  /-- Repairs held, as RES_PPR_TGT [29:0] (R231). -/
  repairs : List Nat
  lastLate : Option Nat
  /-- Pattern, seed and lines last written to the training area. -/
  trained : Option (Nat × Nat × Nat)
  deriving DecidableEq, Repr

/-- A training operation or mode-register access in progress (R234). -/
inductive TrnOp where
  | op (op mask : Nat)
  | mrw (ch : Nat)
  | mrr (ch : Nat)
  deriving DecidableEq, Repr

/-- Reservoir beside its registers. -/
structure Res where
  chans : List Chan
  /-- Initialised bits (R220): pages below `initUpTo`, and the pages of `initExtra` (ascending, none below). -/
  initUpTo : Nat
  initExtra : List Nat
  initDone : Bool
  /-- Lines stored with poisoned check bytes (R218), as PA / 64. -/
  poison : List Nat
  scrubStart : Nat
  /-- Target of the repair that runs. -/
  ppr : Option Nat
  trn : Option TrnOp
  /-- Rate being tried, and training after a warm reset (R235, R236). -/
  tryRate : Nat
  warmTrain : Bool
  /-- RATE_MAX when the saved training settings were taken (R236). -/
  trainedMax : Nat
  deriving DecidableEq, Repr

/-- A tile map entry (Table 10-2). -/
structure TileEntry where
  count : Nat
  /-- Granules named. -/
  grans : List Nat
  colour : Nat
  lost : Bool
  deriving DecidableEq, Repr, Inhabited

/-- What a composition does with one slot, captured at its latch point (R291). -/
structure Plan where
  slot : Nat
  /-- Descriptor composed; empty when none has taken effect. -/
  raw : List Byte
  /-- Descriptor in effect before. -/
  old : List Byte
  /-- The descriptor takes effect in this composition; its commit and its generation. -/
  taking : Bool
  commit : Nat
  gen : Nat
  placeholder : Bool
  allDirty : Bool
  /-- The release fence has been written. -/
  released : Bool
  deriving DecidableEq, Repr

/-- A layer job of a composition (R580): its slot, the cove it is queued for (none: the secure world), its cost, the
kind of region slot it took, and whether it has ended. -/
structure LayerJob where
  slot : Nat
  cove : Option Nat
  cost : Nat
  kind : Option SlotKind
  done : Bool
  /-- Its coded blocks have been checked (R249). -/
  decoded : Bool
  deriving DecidableEq, Repr

/-- A composition of a head, from its latch point to its swap (10.6). -/
structure Comp where
  /-- Frame whose latch point started it. -/
  seq : Nat
  /-- When: the order of R580. -/
  at_ : Nat
  plans : List Plan
  forced : List Nat
  bg : Nat
  /-- Reading plane and NVR plane captured (R507, R508). -/
  plane : List Byte
  planeId : Option Nat
  nvrPlane : List Byte
  nvrLeft : List Nat
  dirty : List Nat
  left : List Nat
  jobs : List LayerJob
  granted : Bool
  /-- Granules reserved and not yet used or returned. -/
  resv : Nat
  complete : Bool
  /-- Its engine has failed: it starts again at the next latch point (Table 19-4). -/
  restart : Bool
  deriving DecidableEq, Repr

/-- Tile maps, owner maps and composition of one head (chapters 09 and 10). -/
structure HeadComp where
  disp : List TileEntry
  comp : List TileEntry
  own : List Nat
  ownNew : List Nat
  forced : List Nat
  /-- NVR tiles to compose at the next composition. -/
  nvrForced : List Nat
  /-- The latch point of the current frame has passed. -/
  latched : Bool
  cur : Option Comp
  /-- A delta has changed BG_COLOUR, or a LAYERS record of the head (R291). -/
  bgChanged : Bool
  imgChanged : Bool
  deriving DecidableEq, Repr

/-- An accepted descriptor that has not yet taken effect. -/
structure PendDesc where
  raw : List Byte
  gen : Nat
  commit : Nat
  /-- A latch point has taken it (R289). -/
  taken : Bool
  deriving DecidableEq, Repr

/-- A layer slot beside its registers. -/
structure BasSlot where
  pend : Option PendDesc
  /-- Descriptor in effect; empty when none. -/
  act : List Byte
  actGen : Nat
  /-- Shown as its placeholder because it is stale (R295), or because of a source fault (R298). -/
  holder : Bool
  faulted : Bool
  /-- Owner, EN or SECURE has changed (R269). -/
  recompose : Bool
  deriving DecidableEq, Repr

/-- A commit that has accepted slots (R287): how it came (cove and queue for a queue commit), and its record. -/
structure Commit where
  id : Nat
  queue : Option (Nat × Nat)
  gen : Nat
  record : Nat
  wantRecord : Bool
  event : Bool
  low : Nat
  left : List Nat
  rejected : Nat
  target : Nat
  shown : Nat
  anyShown : Bool
  superseded : Bool
  deriving DecidableEq, Repr

/-- A descriptor that an engine has fetched from a queue and not yet accepted. -/
structure QDesc where
  cove : Nat
  q : Nat
  gen : Nat
  bytes : List Byte
  deriving DecidableEq, Repr

/-- Basin: heads, layer slots, commits whose records are open, queue descriptors fetched. -/
structure Basin where
  heads : List HeadComp
  slots : List BasSlot
  commits : List Commit
  nextCommit : Nat
  queue : List QDesc
  deriving DecidableEq, Repr

/-- Tarn beside its registers and its bytes: granules retired (R299), the bank that the last tile started in (R293), NVR
tiles and the granules held for them (R508), uncorrectable 64-bit words (128 x granule + word), patrol position. -/
structure TarnSt where
  retired : List Nat
  lastBank : Nat
  nvrGrans : List (List Nat)
  nvr : List TileEntry
  bad : List Nat
  patrolPos : Nat
  deriving DecidableEq, Repr

/-- Where a head stands in the sequences of Table 11-9 and R332. -/
inductive HeadStage where
  /-- Not enabled, or switched off. -/
  | off
  /-- PANEL_ENn is high and PANEL_ON_MS runs (step 3). -/
  | panelDelay
  /-- eDP or DP waits for HPD (step 3). -/
  | hpdWait
  /-- The link trains (step 4). -/
  | training
  /-- The first frame start is awaited (step 5). -/
  | first
  /-- The first frame is scanned; the backlight is dark (step 6). -/
  | dark
  /-- The head is on. -/
  | lit
  /-- The backlight is off and PANEL_OFF_MS runs (R332). -/
  | closing
  /-- Stopped with FAULT set (R324), or waiting for the spare PLL. -/
  | stopped
  deriving DecidableEq, Repr

/-- Outlet state of one head beside its registers (chapter 11). -/
structure OutHead where
  stage : HeadStage
  /-- The head is to be disabled (R332). -/
  disabling : Bool
  /-- Tiles decoded for the current frame: tile and pixels, none where its content is unavailable. -/
  scan : List (Nat × Option (List Nat))
  /-- Missing pixels of scan-buffer words (R315): line and column. -/
  lostPx : List (Nat × Nat)
  /-- Lines that BG_COLOUR replaced from a column on (R317). -/
  under : List (Nat × Nat)
  underRaised : Bool
  lowRaised : Bool
  /-- The frame has been aborted, and the next frame start is an abort's (R318). -/
  aborting : Bool
  /-- When the current frame started (reference ns). -/
  fsAt : Nat
  /-- COLOUR record in force. -/
  lut : List Byte
  /-- LINK_DOWN was 1 during this frame. -/
  linkSeen : Bool
  /-- Slewed duty of the curve (R333). -/
  curve : Nat
  /-- Reference instants in a row within 2 us (R336). -/
  good : Nat
  /-- Lines by which the current frame's V_BACK is lengthened (R336). -/
  extra : Nat
  deriving DecidableEq, Repr

/-- An AUX transaction (R329): its command, address, length and data; DEFER replies and unanswered tries so far; whether
it waits for a DEFER's interval to end. -/
structure Aux where
  cmd : Nat
  addr : Nat
  len : Nat
  data : List Byte
  defers : Nat
  silent : Nat
  waiting : Bool
  deriving DecidableEq, Repr

/-- Outlet: heads, AUX transactions, engines lost and not yet substituted (engine, head, half), the PLL that PLL 8
is being programmed to replace, and the fill of each engine's scan buffer in lines (R313). -/
structure Outlet where
  heads : List OutHead
  aux : List (Option Aux)
  lost : List (Nat × Nat × Nat)
  pllSpare : Option Nat
  fills : List Nat
  deriving DecidableEq, Repr

/-- An expected entry of a display unit (R345). -/
structure SndEntry where
  seq : Nat
  value : Nat
  tag : Nat
  deriving DecidableEq, Repr

/-- A display unit (chapter 12): window in force, expected entries in push order, and whether this frame's result has
been produced. -/
structure SndUnit where
  cfg : SealCfg
  expect : Nat
  entries : List SndEntry
  done : Bool
  deriving DecidableEq, Repr

/-- A check that a general unit runs (R354). -/
structure GenCheck where
  secure : Bool
  cove : Nat
  gen : Nat
  addr : Nat
  len : Nat
  salt : Nat
  compare : Bool
  expect : Nat
  deriving DecidableEq, Repr

/-- Sounding: display units and the checks of the general units. -/
structure Snd where
  units : List SndUnit
  gens : List (Option GenCheck)
  deriving DecidableEq, Repr

/-- A wait entry of a fence list (R364): address, value, the deadline in force, and what the last reading said. -/
structure LWait where
  addr : Nat
  value : Nat
  deadline : Nat
  ok : Bool
  failed : Bool
  deriving DecidableEq, Repr

/-- What a dispatch is (R360): a binning batch, a tile, or a batch of compute workgroups. -/
inductive DispKind where
  | bin | tile (k : Nat) | batch (k : Nat)
  deriving DecidableEq, Repr

/-- Where an admitted dispatch stands. -/
inductive DispAt where
  /-- It waits for a cluster. -/
  | waiting
  /-- It waits for logical cluster `lc`, whose victim is being saved (R401). -/
  | taking (lc : Nat)
  | running (lc : Nat)
  /-- Stopped as a victim and being saved; `k`: preemptions under way when it was chosen, itself included. -/
  | saving (lc k : Nat)
  /-- Preempted; `n`: its place in the order of preemption. -/
  | preempted (n : Nat)
  deriving DecidableEq, Repr

/-- A triangle that a ray may hit (R413), in the space of its own BVH, with the ray of that space. -/
structure RayTri where
  o : List Rat
  d : List Rat
  v : List Rat
  prim : Nat
  geom : Nat
  inst : Nat
  opaque_ : Bool
  noCull : Bool
  deriving DecidableEq, Repr

/-- A hit (R416): exact distance and barycentrics. -/
structure RayHit where
  t : Rat
  u : Rat
  v : Rat
  prim : Nat
  geom : Nat
  inst : Nat
  back : Bool
  deriving DecidableEq, Repr

/-- A ray that waits for the shader's answer to a candidate (R415). -/
structure RayState where
  inv : Nat
  token : Nat
  flags : Nat
  tmaxBits : Nat
  tmin : Rat
  tmax : Option Rat
  best : Option RayHit
  cand : RayHit
  left : List RayTri
  entered : Bool
  deriving DecidableEq, Repr

/-- A dispatch (R360). -/
structure Dispatch where
  kind : DispKind
  seq : Nat
  at_ : DispAt
  /-- It has been preempted before (rank 4 origin). -/
  resumed : Bool
  /-- Nanoseconds of cluster time so far, and units already charged for it. -/
  ran : Nat
  charged : Nat
  /-- Access-counter increments: address, count, MISSED (R409). -/
  counts : List (Nat × Nat × Bool)
  /-- Map bytes read in this dispatch (R410). -/
  cache : List (Nat × Nat)
  rays : List RayState
  deriving DecidableEq, Repr

/-- A pipeline block's header as Loch takes it (R372): CLASS, DEPTH_FUNC and TARGET_MASK. -/
structure Pipe where
  cls : Nat
  func : Nat
  mask : Nat
  deriving DecidableEq, Repr

/-- What Loch has stored of one tile in a depth/stencil or SPILL area (R381): the context, the area, the pass's WIDTH, HEIGHT,
SAMPLES and format, the tile, the values of its samples, and the bytes that stand for them in the private layout. -/
structure LArea where
  cove : Nat
  q : Nat
  addr : Nat
  w : Nat
  h : Nat
  samples : Nat
  fmt : Nat
  tile : Nat
  vals : List Nat
  bytes : List Byte
  deriving DecidableEq, Repr

/-- A Loch job: the descriptor accepted for a context (R361, R362) and how far it has come. -/
structure LJob where
  cove : Nat
  q : Nat
  gen : Nat
  engine : Nat
  op : Nat
  flags : Nat
  work : Nat
  deadline : Nat
  record : Nat
  waits : List LWait
  signals : List (Nat × Nat)
  waitStart : Nat
  /-- LOCH_CTXq_CFG as it stood when the job began (R391). -/
  timeoutMs : Nat
  waitMs : Nat
  prio : Nat
  started : Bool
  /-- Pass or dispatch descriptor. -/
  desc : List Byte
  /-- Headers of the pipelines that the pass's streams name, in stream order (R372). -/
  pipes : List Pipe
  /-- Bins were lost to a failed chunk access (Table 13-8). -/
  lost : Bool
  /-- Every packet has been binned. -/
  binned : Bool
  /-- Next tile or workgroup batch to admit, and how many there are. -/
  next : Nat
  total : Nat
  disps : List Dispatch
  fault : Nat
  replayed : Bool
  partial_ : Bool
  ordered : Bool
  partials : Nat
  /-- Tiles with bins, and tiles that a partial render has spilled. -/
  touched : List Nat
  spilled : List Nat
  urgent : Bool
  blocked : Bool
  nonres : Bool
  rayFault : Bool
  /-- Nanoseconds for which its work was admitted and running (R386). -/
  runNs : Nat
  deriving DecidableEq, Repr

/-- Loch beside its registers: jobs (one at most for each context), the orders of admission and of preemption, ray tokens,
and jobs kept by SAVE for a RESTORE (the PRIVATE part of a context record). -/
structure Loch where
  jobs : List LJob
  seq : Nat
  preemptSeq : Nat
  token : Nat
  kept : List (Nat × LJob)
  /-- Content of private areas. -/
  areas : List LArea
  /-- Power estimates of the last PCAP window, in mW: the fixed regions, Loch, Loch's dispatches of ranks 1 to 3 (R105, R399). -/
  fixedMw : Nat
  estMw : Nat
  rankMw : Nat
  deriving DecidableEq, Repr

/-- A straight line (R434, R450): from one value to another; `j` ticks done. -/
structure PLine where
  from_ : Int
  to_ : Int
  j : Nat
  deriving DecidableEq, Repr

/-- An accepted stream descriptor (Table 15-5); `done`: frames played, written or discarded. -/
structure PDesc where
  flags : Nat
  frames : Nat
  addr : Nat
  record : Nat
  gen : Nat
  done : Nat
  discarded : Nat
  firstTs : Nat
  resumed : Bool
  gap : Bool
  /-- Cut short by a failed access: no record is written. -/
  cut : Bool
  deriving DecidableEq, Repr

/-- A stream that has accepted a descriptor (15.6). Its state is in POOL_STRq_STAT. -/
structure PStream where
  cove : Nat
  q : Nat
  capture : Bool
  /-- Frames per second, and the anchor in units of 1 / fs ns. -/
  fs : Nat
  anchorFs : Int
  /-- Number of the next frame to play or write; staged frames from it on, a sample for each channel. -/
  play : Nat
  held : List (List Int)
  /-- Scale in 1/192, and ticks of the fade done. -/
  gain : Nat
  fade : Nat
  /-- Fading for a freeze or a reset (Table 15-7): nothing more is staged. -/
  halt : Bool
  toIdle : Bool
  gap : Bool
  descs : List PDesc
  deriving DecidableEq, Repr

/-- A TDM port: FIFOs of frames, the last frame sent, frames in a row within tolerance (R425, R428, R429). -/
structure TdmPort where
  rx : List (List Int)
  tx : List (List Int)
  last : List Int
  good : Nat
  lowAt : Option Nat
  underAt : Option Nat
  dropAt : Option Nat
  /-- When a slave last saw FSYNC (R425). -/
  fsyncAt : Option Nat
  deriving DecidableEq, Repr

/-- A crossfade (R440): whose it is, ticks done, its columns, and their gains before it by 160 o + i. -/
structure PSwap where
  secure : Bool
  j : Nat
  cols : List Nat
  old : List (Nat × Nat)
  deriving DecidableEq, Repr

/-- A tone generator (15.7): phase, level line, ticks left in the segment, and how it ends. -/
structure Tone where
  phase : Nat
  level : PLine
  left : Nat
  /-- START is waiting for this instant. -/
  start : Option Nat
  stopAtEnd : Bool
  ending : Bool
  deriving DecidableEq, Repr

/-- Pool beside its registers. -/
structure Pool where
  /-- Number of the next tick of the mix clock (R431). -/
  nextTick : Nat
  /-- Final samples and active counts of the last tick. -/
  last : List Int
  counts : List Nat
  scale : List PLine
  /-- Mute of the mix outputs in 1/192 (Table 15-7). -/
  mute : Nat
  swap : Option PSwap
  swapNext : Option Bool
  /-- Node writes held by a crossfade: shadow view, 160 o + i, gain. -/
  heldWrites : List (Bool × Nat × Nat)
  /-- Biquad coefficients in force by 8 n + j, biquad states by n, high-pass states by 16 p + s. -/
  coef : List (Nat × Nat)
  bqState : List (Nat × Int × Int)
  hpState : List (Nat × Int × Int)
  ports : List TdmPort
  fetched : List (Nat × Nat × List Byte)
  streams : List PStream
  tones : List Tone
  /-- Frames of the recorder tap with their instants; loss flags (R454). -/
  tap : List (Nat × List Int)
  recLoss : Bool
  recEpisode : Bool
  clipAt : List (Option Nat)
  /-- An AUDIO section in the course of its application, and the fade of each processing slot's port in 1/192. -/
  newAudio : Option (List AudioOut × List PSlotCfg)
  slotFade : List Nat
  deriving DecidableEq, Repr

/-- A row of a state table (Tables 16-3 and 17-3). -/
structure SRow where
  state : Nat
  event : Nat
  cond : Nat
  next : Nat
  action : Nat
  arg : Nat
  deriving DecidableEq, Repr

/-- An effect on one channel (16.2). `port`: 0 to 127 cove ports, 128 to 135 secure ports, none for a trigger. -/
structure PlaFx where
  port : Option Nat
  cove : Nat
  gen : Nat
  secure : Bool
  prio : Nat
  carrier : Bool
  wave : Nat
  amp : Nat
  rep : Nat
  /-- Start instant, and order of submission. -/
  at_ : Nat
  order : Nat
  /-- Control samples into the pass, further passes left, STOP taken. -/
  pos : Nat
  left : Nat
  stopped : Bool
  deriving DecidableEq, Repr

/-- Loop mode of a channel (R467, R471). -/
inductive PlaMode where
  | off | attack | sustain | brake
  deriving DecidableEq, Repr

/-- A haptic channel (16.3, 16.4). -/
structure PlaCh where
  /-- Effects whose NEW waits for its control sample. -/
  news : List PlaFx
  cur : Option PlaFx
  queue : List PlaFx
  mode : PlaMode
  timer : Option Nat
  /-- The channel brakes under R473 and ends OFF. -/
  forced : Bool
  /-- Last drive, integrator, phase in 1/480,000 of a turn, measured acceleration, sense reading, accelerometer value. -/
  u : Int
  i : Int
  phi : Nat
  am : Int
  vs : Int
  acc : Int
  /-- The next sample sets i so that the drive does not step (R470). -/
  joined : Bool
  reached : Bool
  waveDone : Bool
  settle : Nat
  gaps : Nat
  resLost : Bool
  satAt : Nat
  satCount : Nat
  satRaised : Bool
  /-- A HAPTICS record that waits for the channel to be idle. -/
  pend : Option HapticCfg
  deriving DecidableEq, Repr

/-- An effect port (R464): channels whose effect has not ended, worst result, TAG, generation. -/
structure PlaPort where
  open_ : Nat
  worst : Nat
  tag : Nat
  gen : Nat
  deriving DecidableEq, Repr

/-- An accelerometer (R478): bad reads in a row, faulty. -/
structure PlaAcc where
  bad : Nat
  faulty : Bool
  deriving DecidableEq, Repr

/-- Plash beside its registers. -/
structure Pla where
  chans : List PlaCh
  ports : List PlaPort
  accs : List PlaAcc
  order : Nat
  /-- Triggers raised by Shallows: number, secure, cove, timestamp (R474, R494). -/
  trigs : List (Nat × Bool × Nat × Nat)
  /-- Reference time at which the boost returns to IDLE_V. -/
  boostIdle : Option Nat
  boostStopped : Bool
  deriving DecidableEq, Repr

/-- Where a contact goes (Table 17-5). -/
inductive ShaRoute where
  | none_
  | secure (layer trig : Nat)
  | cove (c layer trig : Nat)
  deriving DecidableEq, Repr

/-- A contact (17.3): position in 1/256 pitch, region extent, peak, route; `muted` after an instance reset. -/
structure Contact where
  id : Nat
  state : Nat
  count : Nat
  u : Nat
  v : Nat
  sizeU : Nat
  sizeV : Nat
  signal : Nat
  route : Option ShaRoute
  muted : Bool
  deriving DecidableEq, Repr

/-- The sensor's registers as its frame uses them (R499). -/
structure ShaCfg where
  thresh : Nat
  selfThr : Nat
  noise : Nat
  palm : Nat
  streak : Nat
  match_ : Nat
  sx : Int
  sy : Int
  ox : Int
  oy : Int
  flipU : Bool
  flipV : Bool
  swap : Bool
  deriving DecidableEq, Repr

/-- A sensor: what the frame running was started with, baselines of nodes and electrodes, contacts. -/
structure ShaSensor where
  cfg : Option ShaCfg
  /-- When its next frame may start, and when the last one started (R483). -/
  grid : Nat
  began : Nat
  /-- The contact table and the claims that the last frame started with. -/
  rows : List SRow
  claims : List ClaimCfg
  baseM : List Int
  baseTx : List Int
  baseRx : List Int
  contacts : List Contact
  cancel : Bool
  cancelDrop : Bool
  deriving DecidableEq, Repr

/-- Shallows: sensors, and the loss state of the rings (32 = the secure ring). -/
structure Sha where
  sensors : List ShaSensor
  afterLoss : List Nat
  episodes : List Nat
  /-- TOUCH records that wait for the sensor's next frame start, and STATE_TABLES bytes that wait. -/
  pend : List (Nat × SensorCfg)
  deriving DecidableEq, Repr

/-- A plane transfer on the main-die side (R506): chunks by offset. -/
structure PlaneRx where
  id : Nat
  nvr : Bool
  w : Nat
  h : Nat
  validMs : Nat
  chunks : List (Nat × List Byte)
  deriving DecidableEq, Repr

/-- An accepted reading plane: its data, and the timebase instant at which its validity ends (R508, R509). -/
structure Plane where
  id : Nat
  data : List Byte
  until_ : Nat
  deriving DecidableEq, Repr

/-- Main-die side of the Wellhead link beside its registers (18.2, 18.3): planes that wait for a latch point, that a
composition shows, and that is on the glass. -/
structure Wel where
  /-- The link has been started (step 13 of Table 03-7). -/
  started : Bool
  /-- Frames sent to Wellhead (LINKSEQ). -/
  linkSeq : Nat
  rx : Option PlaneRx
  waiting : Option Plane
  composing : Option Plane
  current : Option Plane
  nvrWaiting : Bool
  nvrData : List Byte
  lastMsgErr : Option Nat
  lastReading : List (Option Nat)
  /-- Instants of the last valid frame from Wellhead, of the last frame to it and of the last TIME (R504). -/
  lastRx : Nat
  lastTx : Nat
  lastTime : Nat
  deriving DecidableEq, Repr

/-- A plane as Wellhead knows it. -/
structure WhPlane where
  id : Nat
  data : List Byte
  deriving DecidableEq, Repr

/-- What Wellhead took from BIND. -/
structure WhBind where
  head : Nat
  window : Nat
  depth30 : Bool
  x0 : Nat
  y0 : Nat
  x1 : Nat
  y1 : Nat
  seq : Nat
  deriving DecidableEq, Repr

/-- The Wellhead die (chapter 18). `pins` are the pin colours P_k, sealed parameters; `params` the others by number. -/
structure Whd where
  name : List Byte
  version : Nat
  /-- Stored checksum, and the one that IDENT carries. -/
  stored : Nat
  checksum : Nat
  /-- Valid readings are issued (R511). -/
  valid : Bool
  sealOpen : Bool
  audit : List (List Byte)
  params : List (Nat × Nat)
  displayLimit : Nat
  pins : List Nat
  up : Bool
  bind : Option WhBind
  time : Option Nat
  linkSeq : Nat
  /-- PLANE_END repeated: plane and how often (R506). -/
  resent : Option (Nat × Nat)
  current : Option WhPlane
  waiting : Option WhPlane
  nvr : Option WhPlane
  /-- Newest RESULT, newest sequence pushed, results in a row that show neither plane, and a fault under way (R510). -/
  lastSeq : Option Nat
  pushed : Option Nat
  badRow : Nat
  fault : Bool
  displayed : Bool
  showUntil : Option Nat
  /-- Since when no RESULT has come (R510). -/
  resultAt : Nat
  deriving DecidableEq, Repr

/-- An entry of the repair map (R524). -/
structure RepEntry where
  inst : Nat
  kind : Nat
  spare : Nat
  target : Nat
  fused : Bool
  bad : Bool
  deriving DecidableEq, Repr

/-- What Dredge is doing (R527 to R529). -/
inductive DrgJob where
  | test (inst : Nat)
  | swap (inst spare : Nat)
  | fuse (entry : Nat)
  deriving DecidableEq, Repr

/-- Dredge: the map in force, its sequence number, fuse entries, entries in use as spares, and the command running. -/
structure Drg where
  map : List RepEntry
  seq : Nat
  fuses : List RepEntry
  /-- Repairs in effect. -/
  applied : List RepEntry
  job : Option DrgJob
  /-- Instance state before the test that runs, and its last result. -/
  before : Nat
  /-- Instances that have passed or been repaired since they last served. -/
  ready : List Nat
  deriving DecidableEq, Repr

/-- A Portage link (R538 to R541): sequence numbers, the retry buffer with the replays of its oldest flit, and when PTG_STARVED
was last raised. -/
structure PtgLink where
  tx : Nat
  rx : Nat
  retry : List (List Byte)
  replays : Nat
  starvedAt : Option Nat
  deriving DecidableEq, Repr

/-- A copy that runs (R548): writer's tag, its registers as they stood, and whether a source read was denied. -/
structure PtgCopy where
  tag : WorkTag
  src : Nat
  dst : Nat
  len : Nat
  faddr : Nat
  fval : Nat
  kind : Nat
  last : Bool
  dest : Nat
  denied : Bool
  deriving DecidableEq, Repr

/-- A mirror binding (R551, R552): source position and head, the complete frame not yet shown with its tiles (tile, colour,
data; empty data: solid), and the tiles of the frame that is arriving. -/
structure PtgMirror where
  srcPos : Nat
  srcHead : Nat
  head : Nat
  frame : Option Nat
  ready : List (Nat × Nat × List Byte)
  tiles : List (Nat × Nat × List Byte)
  deriving DecidableEq, Repr

/-- Portage. -/
structure Ptg where
  /-- The master's DIP has been announced: reference time until which a missing heartbeat is no loss (R544). -/
  masterDip : Bool
  dipUntil : Nat
  /-- This device holds the DIP token; as master, the position that holds it (R544). -/
  token : Bool
  holder : Option Nat
  /-- Marks paired and missed in a row; reference time of the last valid pulse. -/
  paired : Nat
  missed : Nat
  pulseAt : Option Nat
  /-- Reference time of the last mark pulse. -/
  markAt : Option Nat
  /-- Position 0 has seen a valid pulse since BOOT entry; reference time of BOOT entry (R546). -/
  pulseSeen : Bool
  bootAt : Nat
  /-- End of a failover wait (R545). -/
  failover : Option Nat
  links : List PtgLink
  copies : List (Option PtgCopy)
  mirrors : List (Option PtgMirror)
  /-- The remote access under way: its position, and whether it writes (R553). -/
  racc : Option (Nat × Bool)
  /-- The timebase at the last edge of SB_ALERT_n (R543). -/
  alertCap : Option Nat
  /-- Tile streams that this device sends: mirror position, mirror number, source head, whole frame due. -/
  streams : List (Nat × Nat × Nat × Bool)
  deriving DecidableEq, Repr

end Sys2Proof.Machine
end

