-- ==== Sys2Proof/Machine/State.lean ====
section
/-!
DEFINITION. The state of the block: registers, memories, every piece of state that the chapters give each unit, the
queue of waiting commands, and the state right after a power-on reset is released.
-/
namespace Sys2Proof.Machine

/-- Faults: none is raised by the device. The spec gives every command an effect or leaves the state as it is (R10). -/
inductive Fault where
  /-- Raised by nothing: kept so that the type has a name for a stop. Safe. -/
  | none_
  deriving DecidableEq, Repr

/-- Refusals. -/
inductive Refusal where
  /-- Raised by `exec` for a row that has no meaning in the model yet. Safe: the run stops. -/
  | notModelled (mnemonic : String)
  deriving DecidableEq, Repr

/-- The whole machine. -/
structure State where
  /-- Commands that wait, first in, first out. -/
  pending : List Instr
  /-- Register fields by `Fld.key`; a field not listed holds its reset value. -/
  regs : List (Nat × Nat)
  /-- Holding registers (R8): initiator, register address, captured high word. -/
  hold : List (Initiator × Nat × Nat)
  /-- DRAM by physical address; bytes not listed read 0. -/
  dram : List Host.Cell
  /-- MRAM array by array offset (R107). -/
  mram : List Host.Cell
  /-- Tarn store bytes by 1,024 x granule + byte. -/
  tarn : List Host.Cell
  /-- On-chip rings and tables that registers show as memory, by offset from REGBASE. -/
  ram : List Host.Cell
  chip : Chip
  pins : Pins
  img : Image
  gov : Gov
  fab : Fabric
  inl : Inlet
  tbs : Tbs
  own : Owner
  locks : List Lock
  host : Host_
  res : Res
  bas : Basin
  tst : TarnSt
  out : Outlet
  snd : Snd
  ptg : Ptg
  wel : Wel
  loch : Loch
  whd : Whd
  pool : Pool
  pla : Pla
  sha : Sha
  drg : Drg
  /-- Reference nanoseconds since the last reset: what intervals and timers are measured by. -/
  elapsed : Nat
  /-- Counter of free values drawn (the model's own). -/
  fresh : Nat
  /-- What the device has driven or sent, newest first. -/
  sent : List Sent
  /-- The response to the last access. -/
  resp : Resp
  deriving DecidableEq, Repr

/-- A hart bank of zeros. -/
def zeroBank : HartBank :=
  { x := List.replicate 32 0, pc := 0, rest := 0, machineMode := false, hpm := List.replicate 29 0, cycle := 0 }

/-- No image applied: every head, slot, output, channel, sensor and cove disabled. -/
def noImage : Image :=
  { heads := List.replicate 8
      { en := false, safety := false, lead := false, follow := false, depth30 := false, genlockRef := false,
        layers := 0, latchLine := 0, hActive := 0, hFront := 0, hSync := 0, hBack := 0, vActive := 0, vFront := 0,
        vSync := 0, vBack := 0, pclk := 0, syncPol := 0, panelOn := 0, panelOff := 0, bg := 0 }
    layers := List.replicate 64
      { owner := 0, en := false, secure := false, scaler := 255, vTaps := 0, srcW := 0, srcH := 0, dstW := 0,
        dstH := 0, bpp := 0, staleLimit := 0, coefSet := 255, placeholder := 0 }
    ports := List.replicate 8
      { type := 0, lanes := 0, rate := 0, lvdsMap := 0, swing := 0, preemph := 0, als := 255 }
    outs := List.replicate 96 { cls := 0, curve := 255 }
    pslots := List.replicate 16 { kind := 0, biquads := 0, fs := 0, slots := 0 }
    haptics := List.replicate 16 { kind := 0, bridge := 0, accCs := 255, limit := 0 }
    sensors := List.replicate 4
      { en := false, hasMutual := false, hasSelf := false, head := 0, txFirst := 0, txCount := 0, rxFirst := 0,
        rxCount := 0, drive := 0, rate := 0, glove := 0 }
    claims := List.replicate 16 { head := 0, en := false, x0 := 0, y0 := 0, x1 := 0, y1 := 0 }
    coves := List.replicate 32 { en := false, ext := false, queues := 0, res := 0, loch := 0, bas := 0, pool := 0 }
    power := { voteSec := 0, voteNs := 0x3FFF, forceOff := 0, pfail := 0x10A, groups := List.replicate 14 255,
               pcapSec := 45, pcapNs := 45 }
    seals := List.replicate 64 { en := false, static_ := false, x0 := 0, y0 := 0, x1 := 0, y1 := 0, expect := 0 }
    legal := none
    logo := [], colour := [], backlight := [], coef := [], waves := [], curves := [], stables := [], fw := [] }

/-- A channel with empty queues. -/
def noChan : Chan :=
  { rq := [], wq := [], flight := [], rows := [], checks := [], rewrites := [], draining := false, refDebt := [0, 0], refAt := [0, 0],
    refBank := [0, 0], mr4 := [0, 0], phy := [], mr := [], scrubPos := 0,
    scrubDone := false, repairs := [], lastLate := none, trained := none }

/-- Reservoir after a power-on reset: no page initialised (R220); RATE_MAX is 3 as shipped. -/
def resReset : Res :=
  { chans := List.replicate 4 noChan, initUpTo := 0, initExtra := [], initDone := false, poison := [], scrubStart := 0,
    ppr := none, trn := none, tryRate := 3, warmTrain := false, trainedMax := 3 }

/-- A head without maps. -/
def noHead : HeadComp :=
  { disp := [], comp := [], own := [], ownNew := [], forced := [], nvrForced := [], latched := false, cur := none,
    bgChanged := false, imgChanged := false }

/-- A slot in which no descriptor is in effect. -/
def noSlot : BasSlot := { pend := none, act := [], actGen := 0, holder := false, faulted := false, recompose := false }

/-- Basin and Tarn with no map and nothing committed. -/
def basReset : Basin :=
  { heads := List.replicate 8 noHead, slots := List.replicate 64 noSlot, commits := [], nextCommit := 1, queue := [] }

def tarnReset : TarnSt := { retired := [], lastBank := 255, nvrGrans := [], nvr := [], bad := [], patrolPos := 0 }

/-- A head that is off. -/
def offHead : OutHead :=
  { stage := .off, disabling := false, scan := [], lostPx := [], under := [], underRaised := false, lowRaised := false,
    aborting := false, fsAt := 0, lut := [], linkSeen := false, curve := 0, good := 0, extra := 0 }

def outReset : Outlet :=
  { heads := List.replicate 8 offHead, aux := List.replicate 8 none, lost := [], pllSpare := none, fills := List.replicate 12 0 }

/-- A window that no SEALS section has set. -/
def noSeal : SealCfg := { en := false, static_ := false, x0 := 0, y0 := 0, x1 := 0, y1 := 0, expect := 0 }

def noUnit : SndUnit := { cfg := noSeal, expect := 0, entries := [], done := false }

def ptgReset : Ptg :=
  { masterDip := false, dipUntil := 0, token := false, holder := none, paired := 0, missed := 0,
    pulseAt := none, markAt := none, pulseSeen := false, bootAt := 0, failover := none,
    links := List.replicate 2 { tx := 0, rx := 0, retry := [], replays := 0, starvedAt := none },
    copies := List.replicate 4 none, mirrors := List.replicate 8 none, racc := none, alertCap := none, streams := [] }

/-- A line at rest. -/
def PLine.flat (v : Int) : PLine := { from_ := v, to_ := v, j := 0 }

/-- Pool with no stream, every generator silent and every scale at 0 dB (R434, R438). -/
def poolReset : Pool :=
  { nextTick := 0, last := List.replicate 96 0, counts := List.replicate 96 0, scale := List.replicate 96 (PLine.flat 0x100000),
    mute := 0, swap := none, swapNext := none, heldWrites := [], coef := [], bqState := [], hpState := [],
    ports := List.replicate 4 { rx := [], tx := [], last := [], good := 0, lowAt := none, underAt := none, dropAt := none, fsyncAt := none },
    fetched := [], streams := [],
    tones := List.replicate 16
      { phase := 0, level := PLine.flat 0, left := 0, start := none, stopAtEnd := false, ending := false },
    tap := [], recLoss := false, recEpisode := false, clipAt := List.replicate 96 none, newAudio := none,
    slotFade := List.replicate 16 192 }

/-- A channel at rest. -/
def idleCh : PlaCh :=
  { news := [], cur := none, queue := [], mode := .off, timer := none, forced := false, u := 0, i := 0, phi := 0, am := 0,
    vs := 0, acc := 0, joined := false, reached := false, waveDone := false, settle := 0, gaps := 0, resLost := false,
    satAt := 0, satCount := 0, satRaised := false, pend := none }

def plaReset : Pla :=
  { chans := List.replicate 16 idleCh,
    ports := List.replicate 136 { open_ := 0, worst := 0, tag := 0, gen := 0 },
    accs := List.replicate 8 { bad := 0, faulty := false }, order := 0, trigs := [], boostIdle := none,
    boostStopped := false }

def shaReset : Sha :=
  { sensors := List.replicate 4
      { cfg := none, grid := 0, began := 0, rows := [], claims := [], baseM := [], baseTx := [], baseRx := [], contacts := [], cancel := false,
        cancelDrop := false },
    afterLoss := [], episodes := [], pend := [] }

def drgReset : Drg :=
  { map := [], seq := 0, fuses := [], applied := [], job := none, before := 0, ready := [] }

/-- The link has not been started; no plane has been accepted. -/
def welReset : Wel :=
  { started := false, linkSeq := 0, rx := none, waiting := none, composing := none, current := none, nvrWaiting := false,
    nvrData := [], lastMsgErr := none, lastReading := [none, none], lastRx := 0, lastTx := 0, lastTime := 0 }

/-- Wellhead as shipped, sealed, with an empty audit trail; DISPLAY_LIMIT is 3 (R510). -/
def whdReset : Whd :=
  { name := List.replicate 8 0, version := 0, stored := 0, checksum := 0, valid := true, sealOpen := false, audit := [],
    params := [], displayLimit := 3, pins := [0, 0, 0, 0], up := false, bind := none, time := none, linkSeq := 0,
    resent := none, current := none, waiting := none, nvr := none, lastSeq := none, pushed := none, badRow := 0,
    fault := false, displayed := false, showUntil := none, resultAt := 0 }

def lochReset : Loch := { jobs := [], seq := 0, preemptSeq := 0, token := 1, kept := [], areas := [], fixedMw := 0, estMw := 0, rankMw := 0 }

def sndReset : Snd := { units := List.replicate 64 noUnit, gens := List.replicate 16 none }

/-- Chip control as BOOT is entered. -/
def bootChip : Chip :=
  { phase := .boot, kind := .off, wakeCause := 0, internalReset := none, slot := 0, triedOther := false,
    step10 := false, selfRefresh := false, staged := false, stagedBusy := false,
    stagedDone := false, imgldStat := 0, imgldSize := 0, imgldBank := 0, cacheMissed := false, imgHead := [],
    bootSecs := [], resetKind := .powerOn, dipEnd := 0,
    dipEnding := false, pendingShutdown := none, flashOp := none,
    drainStep := 0, drainLogged := false, drainTs := 0, delta := none, deltaQueued := [], deltaWorld := false,
    keyDigest := [[], []], bscan := none, debugReach := none, seepFrac := 0, pdTarget := 0x3FFF,
    secHeld := 0, ran := false, tjMax := none }

/-- The balls after a power-on reset is released: every display output low, SAFE_OK low (R46, R47, R63). -/
def bootPins : Pins :=
  { porst := true, wrst := true, vcoreOk := true, safeOk := false, thermLow := false, pwrReq := true, panelEn := 0,
    blEn := 0, portHiZ := 255, sbDrive := false, sbContended := false, alertDrive := false, turnFlash := true,
    portHold := List.replicate 8 none }

/-- The machine right after a power-on reset is released with MODE 000 and SHM 0: phase BOOT, every register at its
reset value, memories with nothing listed, no command waiting. -/
def State.reset : State :=
  { pending := [], regs := [], hold := [], dram := [], mram := [], tarn := [], ram := [],
    chip := bootChip, pins := bootPins, img := noImage,
    gov := { code := 50, raising := false, slowMonitor := false, ceiling := false, below := [], under := [], clearAt := 0,
             lastFrame := none },
    fab := { deficit := List.replicate 4 (List.replicate 32 0), round := [0, 0, 0, 0], waiting := [], secWaiting := [],
             secSlots := [0, 0, 0, 0], secPool := [0, 0, 0, 0],
             flog := [], isolated := [], covered := [], uncovered := [], faulted := [],
             spillFault := List.replicate 7 { w0 := 0, w1 := 0, ts := 0 }, spillStart := List.replicate 7 0,
             pairReset := [false, false], timedOut := [] },
    inl := { awaiting := [], rings := List.replicate 35
              { afterLoss := false, episode := false, signalled := false, lastDoor := none, deferred := false } },
    tbs := { now := 0, running := true, frac := 0, slew := 0, slewFrac := 0, slewing := false, stepLow := 0, ppsSeen := false,
             ppsLost := false,
             wins := List.replicate 8 { startDone := false, endDone := false, skipStart := false, skipEnd := false,
                                        heldStart := 0, heldEnd := 0 },
             markCap := none, genCap := none, badPulses := 0 },
    own := { harts := List.replicate 8 { normal := zeroBank, current := zeroBank, enteredAt := 0, secTlb := false,
                                         predictor := false },
             l1 := List.replicate 8 [], l2 := List.replicate 2 [], l3 := [], l3New := 0, atp := List.replicate 32 0, iotlb := [], table := [], running := none, waiting := none },
    locks := List.replicate 256 { state := 0, holder := 0, waiters := [] },
    host := { coves := List.replicate 32
                { en := false, ext := false, queues := 0, ctx := [], heldReset := false, heldConfine := none,
                  thawEn := [], aerCor := 0, aerUncor := 0, busMaster := false,
                  vfEnabled := false, pba := 0 },
              cmd := none, record := [], linkUp := false, speed := 0, width := 0, txFill := 0,
              lastStarved := none, cfgReady := false },
    res := resReset, bas := basReset, tst := tarnReset, out := outReset, snd := sndReset, ptg := ptgReset, wel := welReset, loch := lochReset, whd := whdReset,
    pool := poolReset, pla := plaReset, sha := shaReset, drg := drgReset,
    elapsed := 0, fresh := 0, sent := [], resp := { value := 0, err := false } }

end Sys2Proof.Machine
end

