-- ==== Sys2Proof/Machine/Ops.lean ====
section
/-!
DEFINITION. The named operations that every meaning is built from: reading and writing register fields and
memories, the tag of an initiator (R32), raising an event (R144), recording access errors (R128), world denials
(R163), the fault log (R139) and what the device sends.
-/
namespace Sys2Proof.Machine

/-- What exec answers. -/
abbrev Ans := Host.Outcome State Fault Refusal

/-- Field `f` of instance (i, j). -/
def State.rd (s : State) (f : Fld) (i : Nat := 0) (j : Nat := 0) : Nat :=
  spGet s.regs (f.key i j) (f.rst i j) % 2 ^ f.width

/-- `s` with field `f` of instance (i, j) holding the low bits of `v`. -/
def State.wr (s : State) (f : Fld) (v : Nat) (i : Nat := 0) (j : Nat := 0) : State :=
  { s with regs := spSet (f.rst i j) s.regs (f.key i j) (v % 2 ^ f.width) }

/-- A field that is 1. -/
def State.on (s : State) (f : Fld) (i : Nat := 0) (j : Nat := 0) : Bool := s.rd f i j != 0

/-- Write a flag. -/
def State.wrB (s : State) (f : Fld) (b : Bool) (i : Nat := 0) (j : Nat := 0) : State := s.wr f (b2n b) i j

/-- Add to a counter field, wrapping at its width. -/
def State.inc (s : State) (f : Fld) (n : Nat) (i : Nat := 0) (j : Nat := 0) : State := s.wr f (s.rd f i j + n) i j

/-- Add to a counter field, saturating at its width. -/
def State.incSat (s : State) (f : Fld) (n : Nat) (i : Nat := 0) (j : Nat := 0) : State :=
  s.wr f (min (s.rd f i j + n) (2 ^ f.width - 1)) i j

/-- Reset a field of instance (i, j). -/
def State.clr (s : State) (f : Fld) (i : Nat := 0) (j : Nat := 0) : State := { s with regs := spDrop s.regs (f.key i j) }

/-- A draw of a free value: the value and the state whose counter has moved on. -/
def State.draw (s : State) : Nat × State := ((Config.freeValue s.fresh).toNat, { s with fresh := s.fresh + 1 })

/-- `n` free bytes: memory whose content the spec keeps private or calls undefined. -/
def State.freeBytes (s : State) (n : Nat) : List Byte × State :=
  ((List.range n).map fun k => BitVec.ofNat 8 (Config.freeValue (s.fresh + k)).toNat, { s with fresh := s.fresh + n })

/-- The device sends `m`. -/
def State.send (s : State) (m : Sent) : State := { s with sent := m :: s.sent }

/-- Answer an access. -/
def State.answer (s : State) (v : Nat) (err : Bool := false) : State := { s with resp := { value := v, err := err } }

/-- Apply `f` to each element in turn. -/
def State.each {α : Type} (s : State) (l : List α) (f : State → α → State) : State := l.foldl f s

/-- Apply `f` when `b` holds. -/
def State.when (s : State) (b : Bool) (f : State → State) : State := if b then f s else s

/-! ### Blocks of state -/

def State.modChip (s : State) (f : Chip → Chip) : State := { s with chip := f s.chip }
def State.modPins (s : State) (f : Pins → Pins) : State := { s with pins := f s.pins }
def State.modImg (s : State) (f : Image → Image) : State := { s with img := f s.img }
def State.modGov (s : State) (f : Gov → Gov) : State := { s with gov := f s.gov }
def State.modFab (s : State) (f : Fabric → Fabric) : State := { s with fab := f s.fab }
def State.modTbs (s : State) (f : Tbs → Tbs) : State := { s with tbs := f s.tbs }
def State.modOwn (s : State) (f : Owner → Owner) : State := { s with own := f s.own }
def State.modHost (s : State) (f : Host_ → Host_) : State := { s with host := f s.host }

def State.modRes (s : State) (f : Res → Res) : State := { s with res := f s.res }

def State.modBas (s : State) (f : Basin → Basin) : State := { s with bas := f s.bas }
def State.modTst (s : State) (f : TarnSt → TarnSt) : State := { s with tst := f s.tst }

/-- Maps and composition of head `h`. -/
def State.hc (s : State) (h : Nat) : HeadComp := s.bas.heads.getD h noHead

def State.modHc (s : State) (h : Nat) (f : HeadComp → HeadComp) : State :=
  s.modBas fun b => { b with heads := b.heads.modify h f }

/-- Layer slot `i`. -/
def State.slot (s : State) (i : Nat) : BasSlot := s.bas.slots.getD i noSlot

def State.modSlot (s : State) (i : Nat) (f : BasSlot → BasSlot) : State :=
  s.modBas fun b => { b with slots := b.slots.modify i f }

/-- Change the composition of head `h`, if one runs. -/
def State.modComp (s : State) (h : Nat) (f : Comp → Comp) : State :=
  s.modHc h fun k => { k with cur := k.cur.map f }

def State.modOut (s : State) (f : Outlet → Outlet) : State := { s with out := f s.out }

/-- Outlet state of head `h`. -/
def State.oh (s : State) (h : Nat) : OutHead := s.out.heads.getD h offHead

def State.modOh (s : State) (h : Nat) (f : OutHead → OutHead) : State :=
  s.modOut fun o => { o with heads := o.heads.modify h f }

def State.modSnd (s : State) (f : Snd → Snd) : State := { s with snd := f s.snd }

def State.modWel (s : State) (f : Wel → Wel) : State := { s with wel := f s.wel }

def State.modWhd (s : State) (f : Whd → Whd) : State := { s with whd := f s.whd }

def State.modLoch (s : State) (f : Loch → Loch) : State := { s with loch := f s.loch }

def State.modPtg (s : State) (f : Ptg → Ptg) : State := { s with ptg := f s.ptg }

def State.modPool (s : State) (f : Pool → Pool) : State := { s with pool := f s.pool }

def State.modPla (s : State) (f : Pla → Pla) : State := { s with pla := f s.pla }

def State.modSha (s : State) (f : Sha → Sha) : State := { s with sha := f s.sha }

def State.modDrg (s : State) (f : Drg → Drg) : State := { s with drg := f s.drg }

/-- Sensor `n` of Shallows is enabled: its frames start from the next whole multiple of 1,000 ns on (R483). -/
def State.scanGrid (s : State) (n : Nat) : State :=
  s.modSha fun a => { a with sensors := a.sensors.modify n fun x => { x with grid := ceilDiv s.tbs.now 1000 * 1000 } }

/-- Haptic channel `c`. -/
def State.hch (s : State) (c : Nat) : PlaCh := s.pla.chans.getD c idleCh

def State.modHch (s : State) (c : Nat) (f : PlaCh → PlaCh) : State :=
  s.modPla fun p => { p with chans := p.chans.modify c f }

/-- Display unit `u`. -/
def State.unit (s : State) (u : Nat) : SndUnit := s.snd.units.getD u noUnit

def State.modUnit (s : State) (u : Nat) (f : SndUnit → SndUnit) : State :=
  s.modSnd fun d => { d with units := d.units.modify u f }

/-- DRAM channel `n`. -/
def State.chan (s : State) (n : Nat) : Chan := s.res.chans.getD n noChan

def State.modChan (s : State) (n : Nat) (f : Chan → Chan) : State :=
  s.modRes fun r => { r with chans := r.chans.modify n f }

/-- Cove manager state of cove `c`. -/
def State.cove (s : State) (c : Nat) : Cove :=
  s.host.coves.getD c { en := false, ext := false, queues := 0, ctx := [], heldReset := false, heldConfine := none,
                        thawEn := [], aerCor := 0, aerUncor := 0, busMaster := false,
                        vfEnabled := false, pba := 0 }

def State.modCove (s : State) (c : Nat) (f : Cove → Cove) : State :=
  s.modHost fun h => { h with coves := h.coves.modify c f }

/-- Sluice lock `n`. -/
def State.lock (s : State) (n : Nat) : Lock := s.locks.getD n { state := 0, holder := 0, waiters := [] }

def State.modLock (s : State) (n : Nat) (f : Lock → Lock) : State := { s with locks := s.locks.modify n f }

/-- HEADS, LAYERS and other records in effect. -/
def State.head (s : State) (h : Nat) : HeadCfg := s.img.heads.getD h default
def State.layer (s : State) (i : Nat) : LayerCfg := s.img.layers.getD i default

/-- The pending section of a type in an accepted delta (R122). -/
def State.deltaOf (s : State) (type : Nat) : Option PendSection := s.chip.deltaQueued.find? fun p => p.type == type

/-- Parts of a pending section are in effect; with the last part of the last section PENDING clears and DONE sets (R122). -/
def State.deltaTake (s : State) (type mask : Nat) : State :=
  let q := s.chip.deltaQueued.filterMap fun p =>
    if p.type = type then
      (let l := clearMask 128 p.left mask
       if l = 0 then none else some { p with left := l })
    else some p
  let s1 := s.modChip fun c => { c with deltaQueued := q }
  if q.isEmpty && !s.chip.deltaQueued.isEmpty then
    (s1.wr F.CHIP_IMG_STAT_PENDING 0 (b2n s.chip.deltaWorld)).wr F.CHIP_IMG_STAT_DONE 1 (b2n s.chip.deltaWorld)
  else s1

/-- The scaler coefficients in force on head `h`: a new section takes effect at the head's next frame start (Table 04-10). -/
def State.coefOf (s : State) (h : Nat) : List Byte :=
  match s.deltaOf 0x32 with
  | some p => if bit p.left h then s.img.coef else p.data
  | none => s.img.coef

/-! ### Variant, phase and time -/

/-- The part is a JLK-8480-MA (Table 00-2). -/
def State.isMA (s : State) : Bool := s.rd F.CHIP_ID_VARIANT == 1

/-- Status of power domain `d`: 0 off, 1 on, 2 SECURE_HELD, 3 switching (Table 03-18). -/
def State.pdStat (s : State) (d : Nat) : Nat := s.rd F.CHIP_PD_STAT_VAL / 4 ^ d % 4

/-- Power domain `d` is on, or held on by the secure vote (Table 03-18). -/
def State.domainOn (s : State) (d : Nat) : Bool := s.pdStat d == 1 || s.pdStat d == 2

/-- The bit of a domain that its votes have decided on: it is to be on. -/
def State.pdAim (s : State) (d : Nat) : Bool := bit s.chip.pdTarget d

/-- Power domain `d` has power: on, or still draining its own work before it goes off (R101). -/
def State.domainUp (s : State) (d : Nat) : Bool := s.domainOn d || (s.pdStat d == 3 && !s.pdAim d)

/-- Phases RUN and DIP. -/
def State.runOrDip (s : State) : Bool := s.chip.phase == .run || s.chip.phase == .dip

/-- The phases BOOT to TEST, in which registers can be reached (Table 03-2). -/
def State.powered (s : State) : Bool :=
  s.chip.phase == .boot || s.chip.phase == .run || s.chip.phase == .dip || s.chip.phase == .drain || s.chip.phase == .test

/-- Chip safe state is declared (R141). -/
def State.safe (s : State) : Bool := s.on F.RIP_SPILL_STAT_SAFE

/-- Encoding of CHIP_PHASE.PHASE (Table 03-3). -/
def phaseCode : Phase → Nat
  | .off => 0 | .seep => 1 | .reset => 2 | .boot => 3 | .run => 4 | .dip => 5 | .drain => 6 | .test => 7

/-- Encoding of CHIP_PHASE.KIND (Table 03-3). -/
def kindCode : Kind → Nat
  | .off => 0 | .restart => 1 | .powerFail => 2 | .thermal => 3

/-- Current generation of cove `c`. -/
def State.gen (s : State) (c : Nat) : Nat := s.rd F.COVE_ID_GEN c

/-- Cove `c` is enabled: its state is not DISABLED (Table 07-7). -/
def State.coveEnabled (s : State) (c : Nat) : Bool := s.rd F.COVE_STATE_STATE c != 0

/-- Cove `c` is READY. -/
def State.coveReady (s : State) (c : Nat) : Bool := s.rd F.COVE_STATE_STATE c == 1

/-! ### Tags -/

/-- The tag that hardware attaches to an initiator's transactions (R32, Table 01-7, R162). Dredge and the
Portage remote-access path act for the secure world. -/
def State.tag (s : State) (i : Initiator) : WorkTag :=
  match i with
  | .hart h =>
      if s.on F.WEIR_HART_STAT_SECURE h then { secure := true, cove := 0, gen := s.gen 0 }
      else { secure := false, cove := s.rd F.WEIR_HART_COVE_COVE h, gen := s.gen (s.rd F.WEIR_HART_COVE_COVE h) }
  | .pair _ => { secure := true, cove := 0, gen := s.gen 0 }
  | .pcie f => { secure := false, cove := f, gen := s.gen f }
  | .dredge => { secure := true, cove := 0, gen := s.gen 0 }
  | .portage => { secure := true, cove := 0, gen := s.gen 0 }

/-- The initiator is in the secure world. -/
def State.isSec (s : State) (i : Initiator) : Bool := (s.tag i).secure

/-- The initiator may act on a cove-0-only field (R579): secure world, or cove 0. -/
def State.isCove0 (s : State) (i : Initiator) : Bool := (s.tag i).secure || (s.tag i).cove == 0

/-- The tag of work of cove `c`. -/
def State.coveTag (s : State) (c : Nat) : WorkTag := { secure := false, cove := c, gen := s.gen c }

/-- The tag of the warden's work. -/
def State.wardenTag (s : State) : WorkTag := s.coveTag 0

def secTag (s : State) : WorkTag := { secure := true, cove := 0, gen := s.gen 0 }

/-- The tag of a source's transactions (R32, Table 01-7): always of the present generation; a general unit's is that of the COVE
that armed it. -/
def State.srcTag (s : State) : Source → WorkTag
  | .ini i => s.tag i
  | .queue c _ => s.coveTag c
  | .secureWork => secTag s
  | .genUnit g => match s.snd.gens.getD g none with
    | some k => { secure := k.secure, cove := k.cove, gen := s.gen k.cove }
    | none => s.wardenTag
  | .importWindow w => s.coveTag (s.rd F.PTG_IMP_CFG_COVE w)

/-- Safety-core pair `k` is held in reset (R141). -/
def State.pairHeld (s : State) (k : Nat) : Bool := s.fab.pairReset.getD k false

/-- The initiator can issue accesses: application cores run once RUN has been reached, while their cluster's domain is on (R82,
Table 03-17); a safety-core pair that is not held in reset, and everything else, in BOOT to TEST. -/
def State.issues (s : State) : Initiator → Bool
  | .hart h => s.powered && s.chip.ran && s.domainUp (h.val / 4)
  | .pair k => s.powered && !s.pairHeld k.val
  | .pcie _ => s.powered && s.domainUp 6
  | _ => s.powered

/-- The source can issue transactions: an initiator as above, a queue context of an enabled cove, an armed general unit, an
enabled import window. -/
def State.srcIssues (s : State) : Source → Bool
  | .ini i => s.issues i
  | .queue c q => s.powered && s.coveEnabled c && decide (q.val < s.rd F.COVE_QUEUES_COUNT c)
  | .secureWork => s.powered
  | .genUnit g => s.powered && (s.snd.gens.getD g none).isSome
  | .importWindow w => s.powered && s.on F.PTG_IMP_CFG_EN w

/-- A command of `ini` acts if `ini` can issue it; its response tells that it has taken effect, unless it answers otherwise (R125). -/
def State.by (s : State) (ini : Initiator) (f : State → Ans) : Ans := if s.issues ini then f (s.answer 0) else .next s

/-- A PCIe function reaches registers through its cove page only (Table 07-4). -/
def noWay : Initiator → Bool
  | .pcie _ => true
  | _ => false

/-- The same for a register outside the cove pages: a PCIe function's request completes with Unsupported Request. -/
def State.busBy (s : State) (ini : Initiator) (f : State → Ans) : Ans :=
  s.by ini fun s => if noWay ini then .next (s.answer 0 true) else f s

/-! ### Events -/

/-- Put a raise in Inlet; a fifth of one source is dropped (R144). -/
def State.putRaise (s : State) (e : EvRaise) : State × Bool :=
  if (s.inl.awaiting.filter (fun x => x.src == e.src)).length < 4 then
    ({ s with inl := { s.inl with awaiting := s.inl.awaiting ++ [e] } }, true)
  else (s, false)

/-- Raise event `src` of a cove's generation `gen` (R144). A dropped raise is counted, and raises event 42 once until the
count is read; should that raise be dropped too, it is counted as well. BOOT marks what is raised before RUN (R145). On JLK-8480-NA sources 480 to 487 are never raised (R3). -/
def State.raiseGen (s : State) (src info cove gen : Nat) (secure : Bool := false) : State :=
  if !s.isMA && 480 ≤ src && src ≤ 487 then s else
  let e : EvRaise :=
    { src := src, cove := cove, gen := gen, secure := secure, info := info % 65536, boot := !s.chip.ran }
  match s.putRaise e with
  | (s1, true) => s1
  | (s1, false) =>
    let first := s1.rd F.INL_RAISE_LOST_COUNT == 0
    let s2 := s1.inc F.INL_RAISE_LOST_COUNT 1
    if !first then s2
    else match s2.putRaise { e with src := 42, info := src, cove := 0, gen := s.gen 0 } with
      | (s3, true) => s3
      | (s3, false) => s3.inc F.INL_RAISE_LOST_COUNT 1

/-- Raise event `src` of the cove's present generation. -/
def State.raise (s : State) (src : Nat) (info : Nat := 0) (cove : Nat := 0) (secure : Bool := false) : State :=
  s.raiseGen src info cove (s.gen cove) secure

/-- A junction temperature is reported: the highest since the reset is kept (Table 03-25). -/
def State.tjSeen (s : State) (tj : Int) : State :=
  if s.powered then s.modChip fun c => { c with tjMax := some (match c.tjMax with | some t => max t tj | none => tj) } else s

/-! ### Errors and denials -/

/-- Record an access error in the copy of the accessing world (R128); KIND 2 raises no event 32. -/
def State.accessErr (s : State) (t : WorkTag) (addr kind : Nat) (write : Bool) : State :=
  let w := b2n t.secure
  let s1 :=
    if s.on F.RIP_AERR_INFO_VALID w then s.wr F.RIP_AERR_INFO_OVERRUN 1 w
    else
      let s := s.wr F.RIP_AERR_ADDR_ADDR addr w
      let s := s.wr F.RIP_AERR_INFO_VALID 1 w
      let s := s.wrB F.RIP_AERR_INFO_WORLD t.secure w
      let s := s.wr F.RIP_AERR_INFO_COVE t.cove w
      let s := s.wr F.RIP_AERR_INFO_KIND kind w
      s.wrB F.RIP_AERR_INFO_WRITE write w
  if kind = 2 then s1
  else s1.raise 32 (kind * 2 + b2n write + b2n t.secure * 32768) t.cove t.secure

/-- Physical address of register offset `off` (R36). -/
def regBase : Nat := 0xF000000000

/-- Unit number of a register offset, in the order of Table 01-10 (R163: INFO [4:0]); cove pages count as COVE. -/
def unitOf (off : Nat) : Nat :=
  let m := off >>> 20
  if m = 0 then 0 else if m = 1 then 1 else if m = 2 then 2 else if m = 3 then 3 else if m = 4 then 4
  else if m = 5 then 5 else if m = 6 then 6 else if m < 0x20 then 7 else if m < 0x30 then 8 else if m < 0x38 then 9
  else if m < 0x40 then 10 else if m < 0x48 then 11 else if m < 0x50 then 12 else if m < 0x60 then 13
  else if m < 0x68 then 14 else if m < 0x6C then 15 else if m < 0x70 then 16 else if m < 0x78 then 17
  else if m < 0x7C then 18 else if m < 0x7E then 19 else if m < 0x80 then 20 else 7

/-- Region of a unit (Table 01-2, numbered as R138): instances from 64 of Sounding are its general units. -/
def regionOf (b : BlockId) : Nat :=
  match b.unit.val with
  | 7 => 1
  | 4 => 2 | 5 => 2 | 6 => 2
  | 8 => 3
  | 13 => 4
  | 9 => 5 | 10 => 5 | 11 => 5
  | 12 => if b.inst.val < 64 then 5 else 6
  | 14 => 6 | 15 => 6 | 16 => 6 | 17 => 6 | 19 => 6
  | _ => 0

/-- A refused write that would have acted: event 64, WORLD_DENIED (R163, R579), recorded with KIND 2 (R128). -/
def State.denied (s : State) (i : Initiator) (off : Nat) (write : Bool := true) : State :=
  let t := s.tag i
  (s.accessErr t (regBase + off) 2 write).raise 64 (unitOf off + b2n write * 32) t.cove t.secure

/-- VF `c` serves cove `c`: EXTERNAL is set and the cove is neither DISABLED nor CONFINED (R194). -/
def State.vfServes (s : State) (c : Nat) : Bool :=
  (s.cove c).ext && s.rd F.COVE_STATE_STATE c != 0 && s.rd F.COVE_STATE_STATE c != 6

/-- Rights on cove page `c` (R192): the secure world, tags of cove `c` or cove 0, and VF c while it serves. -/
def State.pageOk (s : State) (i : Initiator) (c : Nat) : Bool :=
  let t := s.tag i
  match i with
  | .pcie f => f.val == c && s.vfServes c
  | _ => t.secure || t.cove == c || t.cove == 0

/-- An access to a cove page that is not served: VF c's own requests complete with Unsupported Request (R194); any other
access is discarded or reads 0, raises event 106 and is recorded with KIND 2 (R128, R192). -/
def State.pageDenied (s : State) (i : Initiator) (c off : Nat) (write : Bool) : State :=
  let t := s.tag i
  if i = .pcie (Fin.ofNat 32 c) then (s.send (.pcieCpl 1 [])).answer 0 true
  else ((s.accessErr t (regBase + off) 2 write).raise 106 t.cove c).answer 0

/-! ### Fault log and Spillway -/

/-- An entry of the fault log (Table 05-7). -/
def State.flogEntry (s : State) (level action kind r : Nat) (b : BlockId) (t : WorkTag) : FlogEntry :=
  { w0 := action * 2 ^ 23 + kind * 2 ^ 19 + b.inst.val * 2 ^ 10 + b.unit.val * 32 + r * 4 + level,
    w1 := t.gen * 65536 + b2n t.secure * 32 + t.cove, ts := s.tbs.now }

/-- Add an entry; a full log drops it and sets OVERFLOW (R139). -/
def State.flogPut (s : State) (e : FlogEntry) : State :=
  if s.fab.flog.length < 64 then s.modFab fun f => { f with flog := f.flog ++ [e] }
  else s.wr F.RIP_FLOG_STAT_OVERFLOW 1

/-- Add the entry of an action on a block's fault. -/
def State.flogAdd (s : State) (level action kind : Nat) (b : BlockId) (t : WorkTag) : State :=
  s.flogPut (s.flogEntry level action kind (regionOf b) b t)

/-- An entry as `e`, with LEVEL and ACTION of a later action on the same fault. -/
def FlogEntry.again (e : FlogEntry) (level action : Nat) : FlogEntry :=
  { e with w0 := setBits (setBits e.w0 26 23 action) 1 0 level }

/-- Region `r` raises the Spillway for the fault that entry `e` describes (Table 05-8): its own line interrupts both safety-core
pairs, beside event 37. -/
def State.spillRaise (s : State) (r : Nat) (e : FlogEntry) : State :=
  if s.safe || bit (s.rd F.RIP_SPILL_STAT_PENDING) r then s
  else
    let s := s.wr F.RIP_SPILL_STAT_PENDING (s.rd F.RIP_SPILL_STAT_PENDING + 2 ^ r)
    let s := s.modFab fun f =>
      { f with spillStart := f.spillStart.set r s.elapsed, spillFault := f.spillFault.set r e }
    ((s.flogPut (e.again 3 5)).send (.spillLine r)).raise 37 r

/-- A block is isolated. -/
def State.isIsolated (s : State) (b : BlockId) : Bool := s.fab.isolated.contains b

end Sys2Proof.Machine
end

