-- ==== Sys2Proof/Machine/LochJobs.lean ====
section
/-!
DEFINITION. Loch's jobs and dispatches as the registers show them (R361, R391, R392, R420): lookup, state and phase of a
context, what runs on a cluster, and the ranks of Table 14-2.
-/
namespace Sys2Proof.Machine

/-- The job of a context. -/
def State.job (s : State) (c q : Nat) : Option LJob := s.loch.jobs.find? fun j => j.cove == c && j.q == q

/-- The same context. -/
def LJob.same (j : LJob) (c q : Nat) : Bool := j.cove == c && j.q == q

def State.modJob (s : State) (c q : Nat) (f : LJob → LJob) : State :=
  s.modLoch fun l => { l with jobs := l.jobs.map fun j => if j.same c q then f j else j }

/-- The context's job is gone. -/
def State.dropJob (s : State) (c q : Nat) : State := s.modLoch fun l => { l with jobs := l.jobs.filter fun j => !j.same c q }

/-- A dispatch is preempted and awaits resumption. -/
def DispAt.isPreempted : DispAt → Bool
  | .preempted _ => true
  | _ => false

/-- The logical cluster that a dispatch runs on. -/
def DispAt.runsOn (a : DispAt) (lc : Nat) : Bool := a == .running lc

/-- The logical cluster that a dispatch occupies: it runs there, or is being saved there. -/
def DispAt.occupies (a : DispAt) (lc : Nat) : Bool :=
  match a with
  | .running n => n == lc
  | .saving n _ => n == lc
  | _ => false

/-- Rank of a dispatch of a job (Table 14-2); no secure-world context exists. -/
def LJob.rank (j : LJob) (d : Dispatch) : Nat :=
  if j.urgent then 2 else if d.at_.isPreempted then 4 else if j.engine = 1 && j.deadline ≠ 0 then 3 else 5

/-- STATE of a context (Table 13-10). -/
def State.ctxState (s : State) (c q : Nat) : Nat :=
  match s.job c q with
  | none => if s.on F.COVE_Q_STAT_FAULT c q then 4 else 0
  | some j => if !j.started then 1 else if !j.disps.isEmpty && j.disps.all (·.at_.isPreempted) then 3 else 2

/-- PHASE of a context. -/
def State.ctxPhase (s : State) (c q : Nat) : Nat :=
  match s.job c q with
  | some j => if !j.started then 0 else if j.op = 1 then (if j.binned then 2 else 1) else if j.op = 2 then 3 else 0
  | none => 0

/-- Jobs with a dispatch on logical cluster `lc`. -/
def State.jobOn (s : State) (lc : Nat) : Option LJob := s.loch.jobs.find? fun j => j.disps.any fun d => d.at_.occupies lc

/-- Dispatches in flight whose rank is 2 and that stand as `p` says. -/
def State.urgentCount (s : State) (p : DispAt → Bool) : Nat :=
  (s.loch.jobs.map fun j => (j.disps.filter fun d => j.rank d == 2 && p d.at_).length).sum

/-- A dispatch runs. -/
def DispAt.isRunning : DispAt → Bool
  | .running _ => true
  | _ => false

/-- A dispatch waits for a cluster. -/
def DispAt.isWaiting : DispAt → Bool
  | .waiting => true
  | .taking _ => true
  | .preempted _ => true
  | _ => false

/-- Physical cluster `p` is in service: active. -/
def State.clActive (s : State) (p : Nat) : Bool := s.rd F.LOCH_CLUSTER_STAT_ROLE p == 0

/-- The physical cluster that serves logical cluster `lc`, if one does. -/
def State.physOf (s : State) (lc : Nat) : Option Nat :=
  (List.range 17).find? fun p => s.clActive p && s.rd F.LOCH_CLUSTER_STAT_LOGICAL p == lc

end Sys2Proof.Machine
end

