-- ==== Sys2Proof/Machine/Memory.lean ====
section
/-!
DEFINITION. Memory accesses: the physical address map (R36, R37), Shoreline's check of every DRAM access (R33,
R175, R176), the I/O translation of cove-physical addresses (R172, R174), and reads and writes of the memories.
-/
namespace Sys2Proof.Machine

/-- What a memory byte that nothing has written reads as. -/
def memDflt : Byte := 0

/-- `n` bytes of a memory from address `a`. -/
def memRead (m : List Host.Cell) (a n : Nat) : List Byte := spRead memDflt m a n

/-- Bytes stored in a memory from address `a`. -/
def memWrite (m : List Host.Cell) (a : Nat) (l : List Byte) : List Host.Cell := spWrite memDflt m a l

/-- A memory is in canonical form. -/
def Memory.wf (m : List Host.Cell) : Bool := spWf memDflt m

/-- Zero `n` bytes from address `a`: drop every listed byte of the range. -/
def memZero (m : List Host.Cell) (a n : Nat) : List Host.Cell := m.filter (fun e => decide (e.1 < a ∨ a + n ≤ e.1))

/-- Installed DRAM capacity in bytes (RES_CAP). -/
def State.dramBytes (s : State) : Nat := s.rd F.RES_CAP_SIZE_MIB * 1048576

/-- Owner-table entry of Shoreline page `p` (Table 06-6). -/
def State.shorEntry (s : State) (p : Nat) : Nat := spGet s.own.table p 0

/-- STATE, OWNER and READER of an entry. -/
def entState (e : Nat) : Nat := e % 8
def entOwner (e : Nat) : Nat := e / 8 % 32
def entReader (e : Nat) : Nat := e / 256 % 32

/-- An entry (Table 06-6). -/
def mkEntry (st owner reader : Nat) : Nat := st + owner * 8 + reader * 256

/-- Shoreline's access rule (Table 06-7). -/
def shorAllows (e : Nat) (t : WorkTag) (write : Bool) : Bool :=
  match entState e with
  | 0 => t.secure
  | 1 => t.secure || t.cove == entOwner e
  | 2 => t.secure || t.cove == entOwner e || (!write && t.cove == entReader e)
  | 3 => t.secure
  | _ => false

/-- A cached line may stay under entry `e` of its page: its tag may still read, and write where it has. -/
def CacheLine.keeps (e : Nat) (x : CacheLine) : Bool :=
  let t : WorkTag := { secure := x.secure, cove := x.cove, gen := 0 }
  shorAllows e t false && (!x.written || shorAllows e t true)

/-- Lines of page `p` that entry `e` no longer allows leave an L1 or L2, so that R33 holds for cached accesses (R170). -/
def purgePage (p e : Nat) (l : List CacheLine) : List CacheLine := l.filter fun x => x.line / 1024 != p || x.keeps e

/-- Store an entry of the owner table; cached copies that it no longer allows are cleaned and invalidated. -/
def State.setEntry (s : State) (p e : Nat) : State :=
  s.modOwn fun o => { o with table := spSet 0 o.table p e, l1 := o.l1.map (purgePage p e), l2 := o.l2.map (purgePage p e) }

/-- Record a denied DRAM access and raise event 68 (R176), for the generation of the access. -/
def State.shorDeny (s : State) (t : WorkTag) (addr e : Nat) (write : Bool) : State :=
  let s1 :=
    if s.on F.SHOR_DENY_INFO_VALID then s.wr F.SHOR_DENY_INFO_OVERRUN 1
    else
      let s := s.wr F.SHOR_DENY_ADDR_ADDR addr
      let s := s.wr F.SHOR_DENY_INFO_VALID 1
      let s := s.wrB F.SHOR_DENY_INFO_WORLD t.secure
      let s := s.wr F.SHOR_DENY_INFO_COVE t.cove
      let s := s.wr F.SHOR_DENY_INFO_STATE (entState e)
      s.wrB F.SHOR_DENY_INFO_WRITE write
  s1.raiseGen 68 (entState e + b2n write * 8) t.cove t.gen t.secure

/-! ### Reservoir: address decoding, initialised pages and poisoned lines (R214 to R220) -/

/-- Channel of a physical address (R215). -/
def chanOf (pa : Nat) : Nat := bits pa 9 8 ^^^ bits pa 21 20

/-- Channel address of a physical address (R215). -/
def chanAddr (pa : Nat) : Nat := pa / 1024 * 256 + pa % 256

/-- The physical address of channel address `a` of channel `ch`. -/
def chanPa (ch a : Nat) : Nat := a / 256 * 1024 + (ch ^^^ (a / 2 ^ 18 % 4)) * 256 + a % 256

/-- The coordinates that a channel address decodes to (R215). -/
structure Coord where
  sc : Nat
  rank : Nat
  bank : Nat
  row : Nat
  col : Nat
  deriving DecidableEq, Repr

def State.coord (s : State) (a : Nat) : Coord :=
  let r2 := s.on F.RES_CFG_RANKS2
  let row := if r2 then a / 2 ^ 17 else a / 2 ^ 16
  { sc := bits a 6 6, rank := if r2 then bits a 16 16 else 0, bank := bits a 15 12 ^^^ row % 16, row := row,
    col := bits a 11 7 }

/-- One number for a bank of a channel. -/
def Coord.key (c : Coord) : Nat := c.sc + 2 * c.rank + 4 * c.bank

/-- Coordinates as RES_UE_INFO [29:5] and RES_PPR_TGT lay them out. -/
def Coord.word (c : Coord) (ch : Nat) : Nat :=
  ch * 2 ^ 28 + c.sc * 2 ^ 27 + c.rank * 2 ^ 26 + c.bank * 2 ^ 22 + c.row % 2 ^ 17 * 32 + c.col

/-- Shoreline pages of the usable capacity. -/
def State.pageCount (s : State) : Nat := s.dramBytes / 65536

/-- Page `p` is initialised (R220). -/
def State.pageInit (s : State) (p : Nat) : Bool := decide (p < s.res.initUpTo) || s.res.initExtra.contains p

/-- Pages not yet initialised. -/
def State.pagesLeft (s : State) : Nat :=
  s.pageCount - s.res.initUpTo - (s.res.initExtra.filter fun p => decide (p < s.pageCount)).length

/-- Set the initialised bit of page `p`. A page that was not initialised holds zeros. -/
def State.markInit (s : State) (p : Nat) : State :=
  if s.pageInit p then s
  else if p = s.res.initUpTo then
    s.modRes fun r => { r with initUpTo := p + 1 }
  else s.modRes fun r => { r with initExtra := p :: r.initExtra }

/-- Record an uncorrectable error (Table 08-2); `addr` is 0 for a scrub find. -/
def State.ueRecord (s : State) (scrub : Bool) (addr ch a : Nat) : State :=
  if s.on F.RES_UE_INFO_VALID then s
  else
    let c := s.coord a
    let s := s.wr F.RES_UE_ADDR_ADDR addr
    let s := (s.wr F.RES_UE_INFO_VALID 1).wrB F.RES_UE_INFO_SCRUB scrub
    let s := ((s.wr F.RES_UE_INFO_CH ch).wr F.RES_UE_INFO_SC c.sc).wr F.RES_UE_INFO_RANK c.rank
    ((s.wr F.RES_UE_INFO_BANK c.bank).wr F.RES_UE_INFO_ROW c.row).wr F.RES_UE_INFO_COL c.col

/-- The fourth read of a line has failed (R217): the error is recorded, the Memory region logs KIND 3 with ACTION 0, and event 129 is
raised for the request's cove and generation. -/
def State.eccUe (s : State) (t : WorkTag) (pa : Nat) : State :=
  let ch := chanOf pa
  let s1 := s.ueRecord false pa ch (chanAddr pa)
  (s1.flogAdd 2 0 3 { unit := 8, inst := Fin.ofNat 512 ch } t).raiseGen 129 ch t.cove t.gen t.secure

/-- Lines of an access. -/
def linesOf (addr len : Nat) : List Nat := (List.range ((addr + len - 1) / 64 - addr / 64 + 1)).map (addr / 64 + ·)

/-- Whole lines that a write of `len` bytes at `addr` covers get fresh check bytes (R218). -/
def State.unpoison (s : State) (addr len : Nat) : State :=
  if s.res.poison.isEmpty then s
  else s.modRes fun r => { r with poison := r.poison.filter fun l => !(decide (addr ≤ l * 64) && decide (l * 64 + 64 ≤ addr + len)) }

/-! ### The Tarn store debug window (R38, R273) -/

/-- Write bytes of granules: the words written are good (R273). -/
def State.tarnStore (s : State) (a : Nat) (l : List Byte) : State :=
  if l.isEmpty then s
  else
    let s1 := { s with tarn := memWrite s.tarn a l }
    if s1.tst.bad.isEmpty then s1
    else s1.modTst fun t => { t with bad := t.bad.filter fun w => !(decide (a ≤ 8 * w + 7) && decide (8 * w < a + l.length)) }

/-- Words that a write touches without writing them whole. -/
def partWords (a n : Nat) : List Nat :=
  (((List.range ((a + n - 1) / 8 - a / 8 + 1)).map fun k => a / 8 + k).filter fun w =>
    !(decide (a ≤ 8 * w) && decide (8 * w + 8 ≤ a + n)))

/-- A secure-world write through the debug window: fresh check bits; a word written in part whose old content is
uncorrectable stays so. -/
def State.debugWrite (s : State) (a : Nat) (l : List Byte) (ecc : EccResult) : State :=
  let stay := (partWords a l.length).filter fun w => s.tst.bad.contains w || ecc == .uncorrectable
  (s.tarnStore a l).modTst fun t => { t with bad := t.bad ++ stay }

/-- The Tarn store debug window in the physical map (Table 01-8). -/
def tarnBase : Nat := 0x800000000
def inTarn (addr len : Nat) : Bool := decide (tarnBase ≤ addr) && decide (addr + len ≤ tarnBase + 0x8000000)

/-- A normal-world access to the window is refused: KIND 2 and event 64 with WINDOW set (R38, R128). -/
def State.tarnDenied (s : State) (t : WorkTag) (addr : Nat) (write : Bool) : State :=
  (s.accessErr t addr 2 write).raiseGen 64 (10 + b2n write * 32 + 64) t.cove t.gen

/-! ### The access itself -/

/-- How a physical access ends. -/
inductive Access1 where
  /-- Allowed. -/
  | ok
  /-- Beyond the installed DRAM, or an unassigned address (R37). -/
  | absent
  /-- In the Tarn store debug window (R38). -/
  | tarn
  /-- A channel of the access is isolated: an error response at once (R127). -/
  | isolated
  /-- A line read is uncorrectable (R217, R218). -/
  | poison (addr : Nat)
  /-- Denied by Shoreline at the first page concerned. -/
  | denied (addr entry : Nat)
  deriving DecidableEq, Repr

/-- The first page of an access that Shoreline denies. -/
def firstDenied (s : State) (t : WorkTag) (write : Bool) (addr : Nat) : List Nat → Option (Nat × Nat)
  | [] => none
  | p :: ps =>
    if shorAllows (s.shorEntry p) t write then firstDenied s t write addr ps
    else some (max addr (p * 65536), s.shorEntry p)

/-- Shoreline pages of an access of `len` bytes at `addr`. -/
def pagesOf (addr len : Nat) : List Nat :=
  (List.range ((addr + len - 1) / 65536 - addr / 65536 + 1)).map (fun k => addr / 65536 + k)

/-- Channels of an access of `len` bytes at `addr`: one for each block of 256 bytes (R215). -/
def chansOf (addr len : Nat) : List Nat :=
  (List.range (min 8 ((addr + len - 1) / 256 - addr / 256 + 1))).map fun k => chanOf ((addr / 256 + k) * 256)

/-- Channel `n` is isolated. -/
def State.chanCut (s : State) (n : Nat) : Bool := s.isIsolated { unit := 8, inst := Fin.ofNat 512 n }

/-- A poisoned line of an access. -/
def State.poisoned (s : State) (addr len : Nat) : Option Nat :=
  if s.res.poison.isEmpty then none else (linesOf addr len).find? fun l => s.res.poison.contains l

/-- Decide a physical access (R33, R36 to R38, R127, R176, R217). -/
def State.dramCheck (s : State) (t : WorkTag) (addr len : Nat) (write : Bool) : Access1 :=
  if len = 0 then .ok
  else if inTarn addr len then .tarn
  else if s.dramBytes < addr + len then .absent
  else match firstDenied s t write addr (pagesOf addr len) with
    | some (a, e) => .denied a e
    | none =>
      if (chansOf addr len).any s.chanCut then .isolated
      else match s.poisoned addr len with
        | some l => if write then .ok else .poison (max addr (l * 64))
        | none => .ok

/-- What follows from an access that is not made: the access-error event (R37), the denial (R38, R176) or the error (R217). -/
def State.accessFail (s : State) (t : WorkTag) (addr : Nat) (write : Bool) : Access1 → State
  | .ok => s
  | .isolated => s
  | .tarn => s.tarnDenied t addr write
  | .absent => s.accessErr t addr 0 write
  | .poison a => s.eccUe t a
  | .denied a e => s.shorDeny t a e write

/-- Read physical memory under tag `t`: the bytes, or what refuses the access. -/
def State.physRead (s : State) (t : WorkTag) (addr len : Nat) : State × Except Access1 (List Byte) :=
  match s.dramCheck t addr len false with
  | .ok => (s, .ok (memRead s.dram addr len))
  | .tarn => if t.secure then (s, .ok (memRead s.tarn (addr - tarnBase) len)) else (s.tarnDenied t addr false, .error .tarn)
  | r => (s.accessFail t addr false r, .error r)

/-- Read DRAM under tag `t`: the bytes, or nothing when the access is refused. -/
def State.dramRead (s : State) (t : WorkTag) (addr len : Nat) : State × Option (List Byte) :=
  match s.physRead t addr len with
  | (s1, .ok l) => (s1, some l)
  | (s1, .error _) => (s1, none)

/-- Bytes written to DRAM: lines written whole get fresh check bytes, and the pages are initialised (R218, R220). -/
def State.dramPut (s : State) (addr : Nat) (l : List Byte) : State :=
  if l.isEmpty then s
  else ({ s with dram := memWrite s.dram addr l }.unpoison addr l.length).each (pagesOf addr l.length) State.markInit

/-- Write physical memory under tag `t`: what refuses the access, if anything does. -/
def State.physWrite (s : State) (t : WorkTag) (addr : Nat) (l : List Byte) : State × Option Access1 :=
  match s.dramCheck t addr l.length true with
  | .ok => (s.dramPut addr l, none)
  | .tarn => if t.secure then (s.debugWrite (addr - tarnBase) l .ok, none) else (s.tarnDenied t addr true, some .tarn)
  | r => (s.accessFail t addr true r, some r)

/-- Write DRAM under tag `t`. -/
def State.dramWrite (s : State) (t : WorkTag) (addr : Nat) (l : List Byte) : State × Bool :=
  match s.physWrite t addr l with
  | (s1, none) => (s1, true)
  | (s1, some _) => (s1, false)

/-! ### I/O translation (R172) -/

/-- Outcome of a translation. -/
inductive Xlate where
  | ok (pa : Nat)
  /-- Fault; `why`: the table read that failed, its address and outcome. -/
  | fault (why : Option (Nat × Access1))
  deriving DecidableEq, Repr

/-- Read one 8-byte table entry under the warden's tag, or what refuses the read. -/
def pteRead (s : State) (addr : Nat) : Except Access1 Nat :=
  match s.dramCheck s.wardenTag addr 8 false with
  | .ok => .ok (ofLe (memRead s.dram addr 8))
  | r => .error r

/-- A G-stage leaf allows the access: R (or W), U and A set, D for a write (R172). -/
def leafOk (pte : Nat) (write : Bool) : Bool :=
  bit pte 4 && bit pte 6 && bit pte 1 && (!write || (bit pte 2 && bit pte 7))

/-- One entry of a G-stage table at level `lvl`: the answer of the walk, or the address of the next table. -/
@[irreducible] def gEntry (s : State) (cpa : Nat) (write : Bool) (rootBits rootLvl lvl base : Nat) : Xlate ⊕ Nat :=
  let shift := 12 + 9 * lvl
  let width := if lvl = rootLvl then rootBits else 9
  let at_ := base + 8 * (cpa / 2 ^ shift % 2 ^ width)
  match pteRead s at_ with
  | .error r => .inl (.fault (some (at_, r)))
  | .ok pte =>
    if !bit pte 0 || (!bit pte 1 && bit pte 2) || pte / 2 ^ 54 ≠ 0 then .inl (.fault none)
    else
      let ppn := bits pte 53 10
      if bit pte 1 || bit pte 3 then
        .inl (if leafOk pte write && ppn % 2 ^ (9 * lvl) = 0 then .ok (ppn * 4096 + cpa % 2 ^ shift) else .fault none)
      else .inr (ppn * 4096)

/-- Walk G-stage tables from level `lvl` down, `base` the table's address. -/
def gWalk (s : State) (cpa : Nat) (write : Bool) (rootBits : Nat) (rootLvl : Nat) : Nat → Nat → Xlate
  | 0, base => (gEntry s cpa write rootBits rootLvl 0 base).elim id fun _ => .fault none
  | l + 1, base =>
    (gEntry s cpa write rootBits rootLvl (l + 1) base).elim id fun b => gWalk s cpa write rootBits rootLvl l b

/-- Translate by the tables of an hgatp value in effect: Bare, Sv39x4 or Sv48x4; any other MODE faults. -/
def xlateTables (s : State) (atp cpa : Nat) (write : Bool) : Xlate :=
  let root := bits atp 43 0 * 4096
  match bits atp 63 60 with
  | 0 => .ok cpa
  | 8 => if cpa < 2 ^ 41 then gWalk s cpa write 11 2 2 root else .fault none
  | 9 => if cpa < 2 ^ 50 then gWalk s cpa write 11 3 3 root else .fault none
  | _ => .fault none

/-- An IOTLB entry that answers for a CPA. -/
def iotHit (c g cpa : Nat) (e : IotEntry) : Bool :=
  e.cove == c && e.gen == g && e.cpa ≤ cpa && cpa < e.cpa + e.size

/-- Translate a CPA of cove `c` (R172): the IOTLB first, then a walk whose 4 KiB result is cached. -/
def State.xlate (s : State) (c cpa : Nat) (write : Bool) : State × Xlate :=
  let g := s.gen c
  match s.own.iotlb.find? (iotHit c g cpa) with
  | some e =>
    if (write && !e.write) || (!write && !e.read) then
      match xlateTables s (s.own.atp.getD c 0) cpa write with
      | .ok pa => (s.modOwn fun o =>
          { o with iotlb := ({ e with write := e.write || write, read := e.read || !write } :: o.iotlb.erase e).take 2048 }, .ok pa)
      | x => (s, x)
    else (s, .ok (e.pa + (cpa - e.cpa)))
  | none =>
    match xlateTables s (s.own.atp.getD c 0) cpa write with
    | .ok pa =>
      if bits (s.own.atp.getD c 0) 63 60 = 0 then (s, .ok pa)
      else (s.modOwn fun o => { o with iotlb :=
        ({ cove := c, gen := g, cpa := cpa / 4096 * 4096, pa := pa / 4096 * 4096, size := 4096,
           read := true, write := write } :: o.iotlb).take 2048 }, .ok pa)
    | x => (s, x)

/-- Shoreline denied a walk. -/
def walkDenied : Option (Nat × Access1) → Bool
  | some (_, .denied _ _) => true
  | _ => false

/-- Record a translation fault of cove `c` and raise event 72 (R174); a table read that was refused has the consequence of any
other access under the warden's tag (R37, R176). -/
def State.iotFault (s : State) (c cpa : Nat) (write : Bool) (why : Option (Nat × Access1)) : State :=
  let s0 := match why with
    | some (a, r) => s.accessFail s.wardenTag a false r
    | none => s
  let s1 := if s0.on F.COVE_IOT_FAULT_VALID c then s0
    else (s0.wr F.COVE_IOT_FAULT_CPA cpa c).wr F.COVE_IOT_FAULT_VALID 1 c
  s1.raise 72 (b2n write + b2n (walkDenied why) * 2) c

/-- Why an engine's access fails. -/
inductive EngErr where
  | xlate | denied | isolated
  deriving DecidableEq, Repr

/-- The reason that a refused access gives its engine. -/
def Access1.engErr : Access1 → EngErr
  | .isolated => .isolated
  | _ => .denied

/-- Bytes of an access up to the end of its 4 KiB page. -/
def inPage (a len : Nat) : Nat := min len (4096 - a % 4096)

/-- Read `len` bytes at CPA under tag `t` page by page: secure-world work addresses memory physically. -/
def State.cpaRead (s : State) (t : WorkTag) (cpa : Nat) : Nat → Nat → State × Except EngErr (List Byte)
  | 0, _ => (s, .ok [])
  | fuel + 1, len =>
    if len = 0 then (s, .ok []) else
    let n := inPage cpa len
    let (s1, x) := if t.secure then (s, Xlate.ok cpa) else s.xlate t.cove cpa false
    match x with
    | .fault why => (s1.iotFault t.cove cpa false why, .error .xlate)
    | .ok pa =>
      match s1.physRead t pa n with
      | (s2, .error r) => (s2, .error r.engErr)
      | (s2, .ok l) =>
        match State.cpaRead s2 t (cpa + n) fuel (len - n) with
        | (s3, .ok l') => (s3, .ok (l ++ l'))
        | r => r

/-- Read at a CPA: the bytes or the reason of the failure. -/
def State.engRead (s : State) (t : WorkTag) (cpa len : Nat) : State × Except EngErr (List Byte) :=
  s.cpaRead t cpa (len / 4096 + 2) len

/-- Write bytes at a CPA page by page. -/
def State.cpaWrite (s : State) (t : WorkTag) (cpa : Nat) : Nat → List Byte → State × Option EngErr
  | 0, _ => (s, none)
  | fuel + 1, l =>
    if l.isEmpty then (s, none) else
    let n := inPage cpa l.length
    let (s1, x) := if t.secure then (s, Xlate.ok cpa) else s.xlate t.cove cpa true
    match x with
    | .fault why => (s1.iotFault t.cove cpa true why, some .xlate)
    | .ok pa =>
      match s1.physWrite t pa (l.take n) with
      | (s2, some r) => (s2, some r.engErr)
      | (s2, none) => State.cpaWrite s2 t (cpa + n) fuel (l.drop n)

/-- Write at a CPA. -/
def State.engWrite (s : State) (t : WorkTag) (cpa : Nat) (l : List Byte) : State × Option EngErr :=
  s.cpaWrite t cpa (l.length / 4096 + 2) l

end Sys2Proof.Machine
end

