-- ==== Sys2Proof/Machine/Maps.lean ====
section
/-!
DEFINITION. Tile grids, tile maps and the granules that they name: what the registers of Basin and Tarn show of them
(R271, R279, R280, Tables 09-10 and 10-7).
-/
namespace Sys2Proof.Machine

/-! ### Geometry -/

/-- Tile grid of a head (09.11). -/
def State.tilesW (s : State) (h : Nat) : Nat := ceilDiv (s.head h).hActive 32
def State.tilesH (s : State) (h : Nat) : Nat := ceilDiv (s.head h).vActive 32
def State.tileCount (s : State) (h : Nat) : Nat := s.tilesW h * s.tilesH h

/-- Granules of a raw tile of head `h`, g_h (R272). -/
def State.gOf (s : State) (h : Nat) : Nat := if (s.head h).depth30 then 4 else 3

/-- The keep-clear rectangle, when head `h` carries the legal plane. -/
def State.legalOf (s : State) (h : Nat) : Option LegalCfg :=
  match s.img.legal with
  | some l => if l.head = h then some l else none
  | none => none

/-- Tile `k` of head `h` lies inside the keep-clear rectangle. -/
def State.tileLegal (s : State) (h k : Nat) : Bool :=
  match s.legalOf h with
  | some l =>
    let x := k % s.tilesW h * 32
    let y := k / s.tilesW h * 32
    decide (l.x0 ≤ x) && decide (x < l.x1) && decide (l.y0 ≤ y) && decide (y < l.y1)
  | none => false

/-- Tiles of the keep-clear rectangle in raster order. -/
def State.legalTiles (s : State) (h : Nat) : List Nat := (List.range (s.tileCount h)).filter (s.tileLegal h)

/-! ### Banks and granules -/

/-- Physical bank that holds granule `g` (R271). -/
def State.physBank (s : State) (g : Nat) : Nat := s.rd F.TARN_BANK_MAP_PHYS (g % 256)

/-- Granules named by any map. -/
def State.namedGrans (s : State) : List Nat :=
  s.bas.heads.flatMap fun k => (k.disp ++ k.comp).flatMap fun e => if e.count = 0 then [] else e.grans

/-- Granules of the staging area, counted down from 131,071: one for each KiB of the image being loaded (R87). -/
def State.stagedGrans (s : State) : List Nat :=
  if s.chip.staged then (List.range (ceilDiv s.chip.imgldSize 1024)).map (131071 - ·) else []

/-- Granules that are not free: named, held for NVR tiles, retired, or in the staging area. -/
def State.takenGrans (s : State) : List Nat := s.namedGrans ++ s.tst.nvrGrans.flatten ++ s.tst.retired ++ s.stagedGrans

/-- Positions of a bank that are in `l`. -/
def bankIn (l : List Nat) (b : Nat) : List Nat := (l.filter fun g => g % 256 == b).eraseDups

/-- Granules of bank `b` named by any map (USED). -/
def State.bankUsed (s : State) (b : Nat) : Nat := (bankIn s.namedGrans b).length

/-- Bank `b` gives granules to the pool: it does not retire (R302), and its physical bank is not isolated (Table 01-4). -/
def State.bankOpen (s : State) (b : Nat) : Bool :=
  !s.on F.TARN_BANK_MAP_RETIRE b && !s.isIsolated { unit := 10, inst := Fin.ofNat 512 (s.rd F.TARN_BANK_MAP_PHYS b) }

/-- Free positions of bank `b`. -/
def freePos (taken : List Nat) (b : Nat) : List Nat :=
  (List.range 512).filter fun p => !taken.contains (p * 256 + b)

/-- TARN_STAT.FREE. -/
def State.freeGrans (s : State) : Nat :=
  (((List.range 256).filter s.bankOpen).map fun b => 512 - (bankIn s.takenGrans b).length).sum

/-- TARN_RESV.RESERVED. -/
def State.reserved (s : State) : Nat :=
  (s.bas.heads.map fun k => match k.cur with | some c => c.resv | none => 0).sum

/-! ### Entries -/

/-- The entry of tile `k` in the displayed map of head `h`. -/
def State.entry (s : State) (h k : Nat) : TileEntry := nth (s.hc h).disp k default

/-- Word `w` of an entry (Table 10-2). -/
def TileEntry.word (e : TileEntry) (w : Nat) : Nat :=
  if w = 0 then b2n e.lost * 2 ^ 21 + e.count * 2 ^ 17 + (if e.count = 0 then 0 else e.grans.getD 0 0)
  else if e.count = 0 then (if w = 1 then e.colour else 0)
  else if w < e.count then e.grans.getD w 0 else 0

/-- Word `k` of the owner map window of head `h` (Table 09-10). -/
def State.ownWord (s : State) (h k : Nat) : Nat := nth (s.hc h).own (2 * k) 0 + nth (s.hc h).own (2 * k + 1) 0 * 65536

/-- Word of the tile map window of head `h` at byte offset `o` (Table 10-7). -/
def State.mapWord (s : State) (h o : Nat) : Nat :=
  if o / 16 < (s.hc h).disp.length then (s.entry h (o / 16)).word (o % 16 / 4) else 0

end Sys2Proof.Machine
end

