-- ==== Sys2Proof/Machine/PoolBase.lean ====
section
/-!
DEFINITION. Pool's ports, processing slots and stream bindings (15.1, 15.2, 15.4, R442): what the registers and the other
files of Pool are read from.
-/
namespace Sys2Proof.Machine

/-- Sample rate of an FS code of the AUDIO record (Table 04-7). -/
def rateHz : Nat → Nat
  | 0 => 8000 | 1 => 16000 | 2 => 32000 | 3 => 44100 | 4 => 48000 | 5 => 88200 | 6 => 96000 | 7 => 176400
  | _ => 192000

/-- Processing slot `p` as its record gives it. -/
def State.pslot (s : State) (p : Nat) : PSlotCfg := s.img.pslots.getD p default

/-- CLASS of output `o` (R423). -/
def State.outClass (s : State) (o : Nat) : Nat := (s.img.outs.getD o default).cls

/-- First biquad of processing slot `p` (R436): the chains follow each other in slot order. -/
def State.bqFirst (s : State) (p : Nat) : Nat := ((s.img.pslots.take p).map (·.biquads)).sum

/-- Biquads for each channel of slot `p` (R436). -/
def State.bqPerCh (s : State) (p : Nat) : Nat :=
  if (s.pslot p).slots = 0 then 0 else (s.pslot p).biquads / (s.pslot p).slots

/-- SLOTS and FS of TDM port `n`: of its receive slot, or of its transmit slot where that alone is used (R424, R427). -/
def State.tdmSlot (s : State) (n : Nat) : PSlotCfg :=
  if (s.pslot n).slots = 0 then s.pslot (n + 4) else s.pslot n

/-- Pool works: its domain has power, and the shutdown has not passed step 4 (R422, Table 15-7). -/
def State.poolOn (s : State) : Bool :=
  s.domainUp 9 && (s.runOrDip || (s.chip.phase == .drain && decide (s.chip.drainStep < 4)))

/-- TDM port `n` is enabled and used (R427). -/
def State.tdmOn (s : State) (n : Nat) : Bool :=
  s.poolOn && s.on F.POOL_TDM_CFG_EN n && (s.tdmSlot n).slots != 0

/-- Frames move on TDM port `n`: a master whenever it is enabled, a slave while FSYNC comes (R425). -/
def State.tdmRunning (s : State) (n : Nat) : Bool :=
  s.tdmOn n && (!s.on F.POOL_TDM_CFG_ROLE n || s.on F.POOL_TDM_STAT_RUNNING n)

/-- A master is LOCKED whenever it runs (R425). -/
def State.tdmLocked (s : State) (n : Nat) : Bool :=
  s.tdmRunning n && (!s.on F.POOL_TDM_CFG_ROLE n || s.on F.POOL_TDM_STAT_LOCKED n)

/-- Playback or capture channels bound to local queue `q` of cove `c` (R442). -/
def State.boundTo (s : State) (capture : Bool) (c q : Nat) : List Nat :=
  if capture then (List.range 32).filter fun k =>
    s.on F.POOL_CCH_EN k && s.rd F.POOL_CCH_COVE k == c && s.rd F.POOL_CCH_LOCAL_Q k == q
  else (List.range 64).filter fun k =>
    s.on F.POOL_PCH_EN k && s.rd F.POOL_PCH_COVE k == c && s.rd F.POOL_PCH_LOCAL_Q k == q

/-- Channels bound to the queue: CHANNELS of R442. -/
def State.strChannels (s : State) (c q : Nat) : Nat :=
  (s.boundTo (s.rd F.COVE_Q_CFG_ENGINE c q == 5) c q).length

/-- The stream of queue `q` of cove `c`, once it has accepted a descriptor. -/
def State.str (s : State) (c q : Nat) : Option PStream := s.pool.streams.find? fun x => x.cove == c && x.q == q

def State.modStr (s : State) (c q : Nat) (f : PStream → PStream) : State :=
  s.modPool fun p => { p with streams := p.streams.map fun x => if x.cove = c ∧ x.q = q then f x else x }

def State.dropStr (s : State) (c q : Nat) : State :=
  s.modPool fun p => { p with streams := p.streams.filter fun x => !(x.cove == c && x.q == q) }

def State.port (s : State) (n : Nat) : TdmPort :=
  s.pool.ports.getD n { rx := [], tx := [], last := [], good := 0, lowAt := none, underAt := none, dropAt := none, fsyncAt := none }

def State.modPort (s : State) (n : Nat) (f : TdmPort → TdmPort) : State :=
  s.modPool fun p => { p with ports := p.ports.modify n f }

/-- At least `ns` have passed since `t`: an event limited in its rate may be raised. -/
def State.quietFor (s : State) (t : Option Nat) (ns : Nat) : Bool :=
  match t with
  | none => true
  | some u => decide (u + ns ≤ s.elapsed)

/-- The timebase instant of tick `n` of the mix clock (R431). -/
def tickAt (n : Nat) : Nat := ceilDiv (n * 31250) 3

/-- The last tick at or before an instant. -/
def tickBy (t : Nat) : Nat := t * 3 / 31250

/-- Limit to 24 bits (R432). -/
def sat24 (x : Int) : Int := clampI (-8388608) 8388607 x

/-- Round a rational to the nearest integer, halves upward. -/
def roundHalfUp (x : Rat) : Int := (x + 1 / 2).floor

/-- What a line holds after `j` of its `n` ticks. -/
def PLine.val (l : PLine) (n : Nat) : Int := l.from_ + (l.to_ - l.from_) * (min l.j n : Nat) / (n : Int)

/-- A tick of a line of `n` ticks toward `target`: a new target starts a new line from the present value (R434, R450). -/
def PLine.toward (l : PLine) (n : Nat) (target : Int) : PLine :=
  if l.to_ = target then { l with j := min (l.j + 1) n } else { from_ := l.val n, to_ := target, j := 1 }

/-- LOW of port `n` (Table 15-3). -/
def State.tdmLow (s : State) (n : Nat) : Nat := max 8 (s.rd F.POOL_TDM_FIFO_LOW n)

/-- RELEASE of port `n` (Table 15-3). -/
def State.tdmRelease (s : State) (n : Nat) : Nat :=
  let r := s.rd F.POOL_TDM_FIFO_RELEASE n
  if r ≤ s.tdmLow n then s.tdmLow n + 4 else r

end Sys2Proof.Machine
end

