-- ==== Sys2Proof/Machine/Views.lean ====
section
/-!
DEFINITION. Fields that show a state held elsewhere: phase and kind, the fault log's head, the timebase, the current
generation, Sluice locks and holdings, and the run state of a queue. Every other field shows what it holds.
-/
namespace Sys2Proof.Machine

/-- Milliseconds remaining before the DIP limit (Table 03-3), rounded up; 0 outside DIP. -/
def State.dipLeft (s : State) : Nat :=
  if s.chip.phase = .dip then ceilDiv (s.chip.dipEnd - s.elapsed) 1000000 else 0

/-- A cap outside 15 to 45 W is taken as the nearer limit (Table 03-19). -/
def capOf (v : Nat) : Nat := clampN 15 45 v

/-- The rate offset in units of 2^-32, clamped to ±500 ppm (R154); TBS_RATE shows it. -/
def State.tbsRate (s : State) : Int := clampI (-2147483) 2147483 (sx 32 (s.rd F.TBS_RATE_RATE))

/-- CHIP_PCAP.EFFECTIVE. -/
def State.pcapEffective (s : State) : Nat :=
  min (capOf (s.rd F.CHIP_PCAP_CAP_SEC)) (capOf (s.rd F.CHIP_PCAP_CAP_NS))

/-- What R104 gives Loch and the cores of an effective cap of `e` watts, in milliwatts. -/
def lochAllot (e : Nat) : Nat := 1000 * max 2 (e - 17)
def coresAllot (e : Nat) : Nat := 1000 * min 6 (e - 13)

/-- What Loch and the cores may use while the fixed regions use `fixedMw` (R105): the excess over 11 W comes off Loch's allotment down
to its floor of 2 W, then off the cores' (DESIGN CHOICE: the spec gives no split). -/
def lochLimit (e fixedMw : Nat) : Nat := max 2000 (lochAllot e - (fixedMw - 11000))
def coresLimit (e fixedMw : Nat) : Nat := max 2000 (coresAllot e - (fixedMw - 11000 - (lochAllot e - 2000)))

/-- How placement is limited (R399): 0 not at all; 1 to ranks 1 to 3; 2 ranks 1 to 3 alone exceed the limit, and nothing is placed
while the estimate exceeds it. -/
def State.placeLimit (s : State) : Nat :=
  let l := lochLimit s.pcapEffective s.loch.fixedMw
  if s.loch.estMw ≤ l then 0 else if s.loch.rankMw ≤ l then 1 else 2

/-- World and cove of a Sluice port: 16c + p for cove c, 512 + p for the secure world (R182). -/
def portSecure (p : Nat) : Bool := decide (512 ≤ p)
def portCove (p : Nat) : Nat := if 512 ≤ p then 0 else p / 16
def portLocal (p : Nat) : Nat := if 512 ≤ p then p - 512 else p % 16

/-- Locks held through port `p`. -/
def State.heldBy (s : State) (p : Nat) : List Nat :=
  (List.range 256).filter fun n => (s.lock n).state == 1 && (s.lock n).holder == p

/-- SLU_PORT_HELD.CLASSES. -/
def State.heldClasses (s : State) (p : Nat) : Nat :=
  (s.heldBy p).foldl (fun m n => m ||| 2 ^ s.rd F.SLU_LOCK_CFG_CLASS n) 0

/-- COVE_Qq_STAT.RUNNING: EN is set, no fault is pending and the cove is READY (Table 07-1). -/
def State.queueRunning (s : State) (c q : Nat) : Bool :=
  s.on F.COVE_Q_CFG_EN c q && !s.on F.COVE_Q_STAT_FAULT c q && s.rd F.COVE_STATE_STATE c == 1

/-- Fields of Pool, Plash and Shallows that show a record of the image or a state held elsewhere. -/
def State.viewSense (s : State) (f : Fld) (i j : Nat) : Option Nat :=
  if f.off = 0x6001000 && f.lo = 30 then some (s.outClass i)
  else if f.off = 0x6001400 && f.lo = 10 then some (s.bqFirst i)
  else if f.off = 0x6001400 && f.lo = 0 then some (s.bqPerCh i)
  else if f.off = 0x6000104 then
    if f.lo = 31 then some (b2n (s.tdmLocked i))
    else if f.lo = 30 then some (b2n (s.tdmRunning i))
    else if s.on F.POOL_TDM_CFG_ROLE i then none
    else some (if s.tdmRunning i then rateHz (s.tdmSlot i).fs else 0)
  else if f.off = 0x8140004 && f.lo ≠ 30 then
    let n := s.strChannels i j
    some (if f.lo = 22 then b2n (n == 64) else n)
  else if f.off = 0x6800000 then
    let r := s.img.haptics.getD i default
    some (if f.lo = 30 then r.kind else if f.lo = 28 then r.bridge else if f.lo = 16 then r.accCs else r.limit)
  else if f.off = 0x6800020 && f.lo ≠ 28 && f.lo ≠ 0 then
    let h := s.hch i
    some (if f.lo = 20 then h.queue.length
      else match h.cur with
        | some x => if f.lo = 24 then x.prio else x.cove
        | none => 0)
  else if f.off = 0x6C00000 then
    let r := s.img.sensors.getD i default
    some (if f.lo = 24 then r.txFirst else if f.lo = 16 then r.txCount else if f.lo = 8 then r.rxFirst else r.rxCount)
  else if f.off = 0x6C00004 then
    let r := s.img.sensors.getD i default
    some (if f.lo = 31 then b2n r.en else if f.lo = 30 then b2n r.hasMutual else if f.lo = 29 then b2n r.hasSelf
      else if f.lo = 24 then r.head else if f.lo = 16 then r.drive else if f.lo = 8 then r.rate else r.glove)
  else if f.off = 0x6C00024 && f.lo = 16 then
    some (match s.sha.sensors[i]? with
      | some x => (x.contacts.filter fun c => c.state != 0).length
      | none => 0)
  else none

/-- A frame starts on a head in this stage. -/
def HeadStage.frames : HeadStage → Bool
  | .first => true | .dark => true | .lit => true | .closing => true | _ => false

/-- The port is of type eDP or DP. -/
def State.portDp (s : State) (n : Nat) : Bool :=
  let t := s.rd F.OUT_PORT_STAT_TYPE n
  t == 1 || t == 2

/-- The link of head `n`'s port is down (R328): an LVDS port has none. -/
def State.linkIsDown (s : State) (n : Nat) : Bool := s.portDp n && !s.on F.OUT_PORT_STAT_UP n && (s.oh n).stage != .off

/-- Whole lines since the frame start of head `h` (R310). -/
def State.lineNow (s : State) (h : Nat) : Nat :=
  let c := s.head h
  if (s.oh h).stage.frames then (s.elapsed - (s.oh h).fsAt) * c.pclk / ((c.hActive + c.hFront + c.hSync + c.hBack) * 1000000) else 0

/-- The line is one of the V_ACTIVE lines; a frame that an abort started has no front porch (R310, R318). -/
def State.lineActive (s : State) (h : Nat) : Bool :=
  let c := s.head h
  let blank := (if s.on F.OUT_HEAD_STAT_ABORT h then 0 else c.vFront) + c.vSync + c.vBack + (s.oh h).extra
  (s.oh h).stage.frames && decide (blank ≤ s.lineNow h) && decide (s.lineNow h < blank + c.vActive)

/-- Fields of Outlet heads and Sounding display units that show a record of the image or a state held elsewhere. -/
def State.viewHeads (s : State) (f : Fld) (i j : Nat) : Option Nat :=
  if f.off = 0x4000000 && f.lo = 29 then some (b2n (s.head i).lead)
  else if f.off = 0x4000000 && f.lo = 26 then some (b2n (s.linkIsDown i))
  else if f.off = 0x4000010 then some (if f.lo = 31 then b2n (s.lineActive i) else s.lineNow i)
  else if f.off = 0x4000040 then some (if f.lo = 16 then (s.head i).hFront else (s.head i).hActive)
  else if f.off = 0x4000044 then some (if f.lo = 16 then (s.head i).hBack else (s.head i).hSync)
  else if f.off = 0x4000048 then some (if f.lo = 16 then (s.head i).vFront else (s.head i).vActive)
  else if f.off = 0x400004C then some (if f.lo = 16 then (s.head i).vBack else (s.head i).vSync)
  else if f.off = 0x4000050 then some (s.head i).pclk
  else if f.off = 0x4000054 then some (s.head i).bg
  else if f.off = 0x4800000 && 28 ≤ f.lo then
    let c := s.img.seals.getD i default
    some (if f.lo = 31 then b2n c.en else if f.lo = 30 then b2n c.static_
      else if f.lo = 29 then b2n (s.img.legal.map (fun l => 8 * l.head + l.window) == some i) else b2n (s.head (i / 8)).depth30)
  else if f.off = 0x4800004 then some (if f.lo = 16 then (s.img.seals.getD i default).y0 else (s.img.seals.getD i default).x0)
  else if f.off = 0x4800008 then some (if f.lo = 16 then (s.img.seals.getD i default).y1 else (s.img.seals.getD i default).x1)
  else if f.off = 0x480001C && f.lo = 16 then some (s.unit i).entries.length
  else s.viewSense f i j

/-! ### Arbiter sidebands (Table 05-3, R17, R136) -/

/-- Inputs of an arbiter (Table 05-3). -/
def arbInputs (n : Nat) : Nat := if n < 264 then 24 else if n < 268 then 4 else 5

/-- The input of arbiter `n` that a requester drives (Table 05-3). -/
def arbInput (n : Nat) (q : Requester) : Option Nat :=
  let bank := decide (n < 264)
  let chan := decide (264 ≤ n) && decide (n < 268)
  match q with
  | .dredge => some (if bank || chan then 0 else 3)
  | .debugWindow => if bank then some 1 else none
  | .portage => if bank then some 2 else if chan then none else some 1
  | .composer k => if bank then some (3 + k.val) else none
  | .outlet k => if bank then some (12 + k.val) else none
  | .scrub => if chan then some 1 else none
  | .coveTraffic => if chan then some 2 else none
  | .secureTraffic => if chan then some 3 else none
  | .pcie => if bank || chan then none else some 0
  | .cores => if bank || chan then none else some 2
  | .safety => if bank || chan then none else some 4

/-- A requester is in reset or powered down (R17): the PCIe endpoint, both Portage links, both core clusters or both safety-core
pairs. Every other requester stays powered in BOOT to TEST. -/
def State.requesterDown (s : State) : Requester → Bool
  | .pcie => !s.domainUp 6
  | .portage => !s.domainUp 7 && !s.domainUp 8
  | .cores => !s.domainUp 0 && !s.domainUp 1
  | .safety => s.pairHeld 0 && s.pairHeld 1
  | _ => false

/-- The inputs of arbiter `n` that some requesters drive, as bits. -/
def arbMask (n : Nat) (l : List Requester) : Nat := l.foldl (fun m q => match arbInput n q with | some i => m ||| 2 ^ i | none => m) 0

/-- Inputs whose requester is down. -/
def State.sideMask (s : State) (n : Nat) : Nat := arbMask n ([.pcie, .portage, .cores, .safety].filter s.requesterDown)

/-- RIP_ARBn_STAT.MASKED. -/
def State.arbMasked (s : State) (n : Nat) : Nat := s.rd F.RIP_ARB_STAT_MASKED n ||| s.sideMask n

/-- The value of a field that shows a state held elsewhere. -/
def State.view (s : State) (f : Fld) (i j : Nat) : Option Nat :=
  if f.off = 0x10 then
    some (if f.lo = 16 then s.dipLeft
      else if f.lo = 5 then (if s.chip.phase == .drain || s.chip.phase == .test then kindCode s.chip.kind else 0)
      else if f.lo = 4 then b2n s.safe else phaseCode s.chip.phase)
  else if f.off = 0x30 && f.lo = 16 then some s.pcapEffective
  else if f.off = 0x5000204 && f.lo = 31 then some (b2n (s.placeLimit != 0))
  else if f.off = 0x100040 && f.lo = 0 then some s.fab.flog.length
  else if f.off = 0x100044 then some (bits (s.fab.flog.headD { w0 := 0, w1 := 0, ts := 0 }).w0 f.hi f.lo)
  else if f.off = 0x100048 then some (bits (s.fab.flog.headD { w0 := 0, w1 := 0, ts := 0 }).w1 f.hi f.lo)
  else if f.off = 0x100050 then some (s.fab.flog.headD { w0 := 0, w1 := 0, ts := 0 }).ts
  else if f.off = 0x7E00004 && f.lo = 31 then some (s.rd F.CHIP_IMG_CACHE_WRITING)
  else if f.off = 0x110004 && f.lo = 0 then some (s.arbMasked i)
  else if f.off = 0x200400 && f.lo = 31 then some (b2n (s.cove i).ext)
  else if f.off = 0x300000 then some s.tbs.now
  else if f.off = 0x300014 then some (toTwos 32 s.tbsRate)
  else if f.off = 0x300018 then some (toTwos 32 s.tbs.slew)
  else if f.off = 0x300030 && f.lo = 1 then some (b2n (s.tbs.slew != 0))
  else if f.off = 0x40010C && f.lo = 16 then some (s.gen (s.rd F.WEIR_HART_COVE_COVE i))
  else if f.off = 0x500024 then some (s.shorEntry (s.rd F.SHOR_QUERY_PAGE i))
  else if f.off = 0x20000000C then some (s.heldClasses i)
  else if f.off = 0x605000 && f.lo ≠ 6 then
    let l := s.lock i
    some (if f.lo = 24 then min l.waiters.length 255
      else if f.lo = 16 then portLocal l.holder
      else if f.lo = 8 then portCove l.holder
      else if f.lo = 7 then b2n (l.state != 0 && portSecure l.holder) else l.state)
  else if f.off = 0x2000008 then
    some (if f.lo = 31 then b2n (s.pagesLeft == 0 && s.pageCount != 0) else s.pagesLeft)
  else if f.off = 0x2000028 && f.lo = 5 then
    some (((List.range 4).map fun n => (s.chan n).repairs.length * 2 ^ (5 * n)).sum)
  else if f.off = 0x2010000 && f.lo < 14 then
    some (if f.lo = 7 then (s.chan i).wq.length else (s.chan i).rq.length)
  else if f.off = 0x2010024 then some (spGet (s.chan i).phy (s.rd F.RES_CH_PHY_IDX_IDX i) 0)
  else if f.off = 0x3001004 then
    some (match (s.hc i).cur with
      | none => if f.lo = 0 then (s.head i).latchLine else 0
      | some c => if f.lo = 31 then b2n !c.complete else if f.lo = 30 then b2n (!c.granted && !c.restart) else if f.lo = 29 then b2n c.complete
        else (s.head i).latchLine)
  else if f.off = 0x3040104 then
    let l := s.layer i
    some (if f.lo = 31 then b2n l.en else if f.lo = 30 then b2n l.secure else if f.lo = 24 then l.owner
      else if f.lo = 16 then l.coefSet else if f.lo = 12 then l.bpp else if f.lo = 8 then l.vTaps else l.scaler)
  else if f.off = 0x3040108 then some (if f.lo = 16 then (s.layer i).srcH else (s.layer i).srcW)
  else if f.off = 0x304010C then some (if f.lo = 16 then (s.layer i).dstH else (s.layer i).dstW)
  else if f.off = 0x3800004 then some s.freeGrans
  else if f.off = 0x3800008 then some s.reserved
  else if f.off = 0x380001C then some s.tst.retired.length
  else if f.off = 0x3801000 && f.lo = 16 then some (s.bankUsed i)
  else if f.off = 0x8010028 then
    some (if f.lo = 29 then s.ctxState i j else if f.lo = 24 then s.ctxPhase i j
      else match s.job i j with | some k => k.disps.length | none => 0)
  else if f.off = 0x5000100 && f.lo ≠ 30 && f.lo ≠ 24 then
    let j := if s.clActive i then s.jobOn (s.rd F.LOCH_CLUSTER_STAT_LOGICAL i) else none
    some (match j with | some k => if f.lo = 16 then k.cove else if f.lo = 8 then k.q else 1 | none => 0)
  else if f.off = 0x5000204 && f.lo = 8 then some (s.urgentCount DispAt.isRunning)
  else if f.off = 0x5000204 && f.lo = 0 then some (min 31 (s.urgentCount DispAt.isWaiting))
  else if f.off = 0x8001014 && f.lo = 30 then some (b2n (s.queueRunning i j))
  else s.viewHeads f i j

/-- What field `f` of instance (i, j) reads as. -/
def State.fld (s : State) (f : Fld) (i j : Nat) : Nat := ((s.view f i j).getD (s.rd f i j)) % 2 ^ f.width

end Sys2Proof.Machine
end

