-- ==== Sys2Proof/Machine/Access.lean ====
section
/-!
DEFINITION. How an access to the register space is resolved (R9, R36, R39, R40, R163, R579): which fields stand at an
offset, who may write them, what a reader sees and what a write does by access type (R5).
-/
namespace Sys2Proof.Machine

/-- One field's share of a register word: field, indices, and which word of the register. -/
structure Hit where
  f : Fld
  i : Nat
  j : Nat
  w : Nat

/-- Bytes that the register of a field takes. -/
def Fld.span (f : Fld) : Nat := if 96 ≤ f.hi then 16 else if 64 ≤ f.hi then 12 else if 32 ≤ f.hi then 8 else 4

/-- The bits of word `w` that belong to the field. -/
def Fld.wmask (f : Fld) (w : Nat) : Nat := (2 ^ f.width - 1) * 2 ^ f.lo / 2 ^ (32 * w) % 2 ^ 32

/-- The instance and word of field `f` at address `a`; a banked field takes the world's copy `bank`. -/
def Fld.at (f : Fld) (a bank : Nat) : Option Hit :=
  if a < f.off then none else
  let d := a - f.off
  let i := if f.st1 = bankStep then bank else if f.n1 ≤ 1 then 0 else d / f.st1
  let r := if f.st1 = bankStep then d else d - f.st1 * i
  let j := if f.n2 ≤ 1 then 0 else r / f.st2
  let r2 := r - f.st2 * j
  let ok := decide (i < f.n1) && decide (j < f.n2) && decide (r2 < f.span) && decide (r2 % 4 = 0)
  if ok && decide (f.wmask (r2 / 4) ≠ 0) then some { f := f, i := i, j := j, w := r2 / 4 } else none

/-- Where an offset leads. -/
inductive Place where
  /-- Fields at the model's address of the register. `page` when reached through a cove page. -/
  | regs (addr : Nat) (page : Bool)
  /-- On-chip memory shown at that offset. -/
  | ram (off : Nat) (secureOnly : Bool)
  /-- The MSI-X pending-bit array of cove `c`, word `w` (Table 07-2). -/
  | pba (c w : Nat)
  /-- The owner map window or the tile map window of head `h`, at byte `o` (Tables 09-10 and 10-7). -/
  | ownMap (h o : Nat)
  | tileMap (h o : Nat)
  /-- The COLOUR record in force on head `h`, at byte `o` (Table 11-12). -/
  | colour (h o : Nat)
  /-- The MRAM aperture, at byte `o` (R108). -/
  | nvm (o : Nat)
  /-- Reads 0 and discards writes (R3). -/
  | void
  /-- Unassigned (R9). -/
  | none_
  deriving DecidableEq, Repr

/-- A layer slot's window exists: enabled, and its head is no pair follower (09.1). -/
def State.slotWindow (s : State) (i : Nat) : Bool := (s.layer i).en && !(s.head (i / 8)).follow

/-- Resolve an offset in cove `c`'s page (Table 07-2). -/
def State.pagePlace (s : State) (c po : Nat) : Place :=
  let here := Place.regs (0x8000000 + c * 0x200000 + po) true
  if po < 0x1000 then here
  else if po < 0x2000 then
    if (po - 0x1000) / 0x40 < s.rd F.COVE_QUEUES_COUNT c then here else .none_
  else if po < 0x10000 then .none_
  else if po < 0x1F000 then
    let q := (po - 0x10000) / 0x100
    let e := s.rd F.COVE_Q_CFG_ENGINE c q
    if q < s.rd F.COVE_QUEUES_COUNT c && (e == 1 || e == 2) then here else .none_
  else if po < 0x100000 then here
  else if po < 0x140000 then
    let i := (po - 0x100000) / 0x1000
    if s.slotWindow i && !(s.layer i).secure && (s.layer i).owner == c
    then .regs (0x3040000 + (po - 0x100000)) true else .none_
  else if po < 0x180000 then
    let q := (po - 0x140000) / 0x100
    let e := s.rd F.COVE_Q_CFG_ENGINE c q
    if q < s.rd F.COVE_QUEUES_COUNT c && (e == 4 || e == 5) then here else .none_
  else if po < 0x190000 then
    if po - 0x180000 < 0x100 then .regs (0x100000000 + 0x100 * c + (po - 0x180000)) true else .none_
  else if po < 0x1A0000 then here
  else if 0x1FD000 ≤ po && po < 0x1FD200 then
    if (s.cove c).ext then .ram (0x8000000 + c * 0x200000 + po) false else .none_
  else if 0x1FD800 ≤ po && po < 0x1FD808 then (if (s.cove c).ext then .pba c ((po - 0x1FD800) / 4) else .none_)
  else if 0x1FE000 ≤ po && po < 0x1FF000 then .regs (0x200000000 + 0x1000 * c + (po - 0x1FE000)) true
  else if 0x1FF000 ≤ po then (if c = 0 then .none_ else here)
  else .none_

/-- Resolve an offset from REGBASE. -/
def State.place (s : State) (off : Nat) : Place :=
  if 0xC000000 ≤ off then .none_
  else if 0x8000000 ≤ off then s.pagePlace ((off - 0x8000000) / 0x200000) ((off - 0x8000000) % 0x200000)
  else if 0x3040000 ≤ off && off < 0x3080000 then
    let i := (off - 0x3040000) / 0x1000
    if s.slotWindow i && (s.layer i).secure then .regs off false else .none_
  else if 0x3200000 ≤ off && off < 0x3220000 then .ownMap ((off - 0x3200000) / 0x4000) ((off - 0x3200000) % 0x4000)
  else if 0x3810000 ≤ off && off < 0x3910000 then .tileMap ((off - 0x3810000) / 0x20000) ((off - 0x3810000) % 0x20000)
  else if 0x4100000 ≤ off && off < 0x4120000 && (off - 0x4100000) % 0x4000 < 12312 then
    .colour ((off - 0x4100000) / 0x4000) ((off - 0x4100000) % 0x4000)
  else if 0x600000 ≤ off && off < 0x601800 then .regs (0x200000000 + 0x20000 + (off - 0x600000)) false
  else if 0x6803000 ≤ off && off < 0x6803200 then .regs (0x100000000 + 0x40 * 128 + (off - 0x6803000)) false
  else if 0x204000 ≤ off && off < 0x206000 then .ram off true
  else if 0x6C04000 ≤ off && off < 0x6C05000 then .ram off true
  else if 0x7000000 ≤ off && off < 0x7800000 && !s.isMA then .void
  else if 0x7F00000 ≤ off && off < 0x8000000 then .nvm (off - 0x7F00000)
  else if 0x4000000 ≤ off && off < 0x4008000 && (s.head ((off - 0x4000000) / 0x1000)).follow then .void
  else .regs off false

/-- MiB of the register map that holds an address. -/
def mibOf (a : Nat) : Nat :=
  if 0x200000000 ≤ a then 0x2000 else if 0x100000000 ≤ a then 0x1000
  else if 0x8000000 ≤ a then 0x80 + (a - 0x8000000) % 0x200000 / 0x100000 else a / 0x100000

/-- Every field with bits in the register word at address `a`. -/
def hitsAt (a bank : Nat) : List Hit := (fldsOfMiB (mibOf a)).filterMap fun f => f.at a bank

/-! ### Rights -/

/-- Head whose registers a field of class `head` belongs to (R330): PLL p belongs to the head it serves. -/
def State.headOf (s : State) (f : Fld) (i : Nat) : Nat := if f.off = 0x4030000 then s.rd F.OUT_PLL_STAT_HEAD i else i

/-- Processing slot that biquad `n` belongs to. -/
def State.bqSlot (s : State) (n : Nat) : Option Nat :=
  (List.range 16).find? fun p => decide (s.bqFirst p ≤ n) && decide (n < s.bqFirst (p + 1))

/-- A TDM port has an alert-class output. -/
def State.portAlert (s : State) (n : Nat) : Bool :=
  (List.range 16).any fun k => (s.img.outs.getD (16 * n + k) default).cls == 2

/-- Cove 0 may write biquad `n` (R459): receive and PDM slots, and transmit slots of ports without alert output. -/
def State.bqOpen (s : State) (n : Nat) : Bool :=
  match s.bqSlot n with
  | some p => p < 4 || 8 ≤ p || !s.portAlert (p - 4)
  | none => true

/-- The initiator may write field `f` of instance `i`; `page` when it comes through a cove page. -/
def State.mayWrite (s : State) (ini : Initiator) (f : Fld) (i : Nat) (page : Bool) : Bool :=
  let sec := s.isSec ini
  let c0 := s.isCove0 ini
  match f.restr with
  | .open_ => true
  | .sec => sec
  | .secWr => sec
  | .secAll => sec
  | .cove0 => c0
  | .secOrCove0 => c0
  | .secW => sec
  | .shorCmd => i == 1 || c0
  | .slu => if s.on F.SLU_LOCK_CFG_SECURE i then sec else c0
  | .slot => sec || page
  | .head => if (s.head (s.headOf f i)).safety then sec else c0
  | .gen => if s.on F.SND_GEN_CFG_SECURE i then sec else c0
  | .tone => if s.on F.POOL_TONE_CFG_SECURE i then sec else c0
  | .bq => sec || (c0 && s.bqOpen i)
  | .node => sec || (c0 && (s.img.outs.getD i default).cls == 1)
  | .plaCh => if s.on F.PLA_CH_SEC_SECURE i then sec else c0
  | .trig => if s.on F.PLA_TRIG_SECURE i then sec else c0
  | .shaSel => sec || (c0 && i < 64 && !(s.layer i).secure)
  | .imp => sec || (c0 && s.rd F.PTG_IMP_CFG_COVE i != 0)
  | .cpy => sec || (c0 && (i == 2 || i == 3))
  | .tbsWin => sec || 4 ≤ i || f.off == 0x300040

/-- Classes whose rule discards the whole write and raises event 64 whatever it holds (R330, R357, R459 ...). -/
def wholeDiscard : Restr → Bool
  | .slot => true | .head => true | .gen => true | .tone => true | .bq => true | .node => true | .plaCh => true
  | .trig => true | .shaSel => true | .imp => true | .cpy => true | .secW => true | .secOrCove0 => true
  | .shorCmd => true
  | _ => false

/-- The initiator sees field `f` (R163, R579); otherwise it reads 0 and the read has no side effect. -/
def State.maySee (s : State) (ini : Initiator) (f : Fld) (page : Bool) : Bool :=
  match f.restr with
  | .sec => s.isSec ini || f.acc == .rw
  | .secAll => s.isSec ini
  | .cove0 => s.isCove0 ini
  | .slot => s.isSec ini || page
  | _ => true

/-! ### Reads -/

/-- What a field shows in its word. -/
def State.hitWord (s : State) (h : Hit) : Nat :=
  if h.f.acc = .wo then 0 else s.fld h.f h.i h.j * 2 ^ h.f.lo / 2 ^ (32 * h.w) % 2 ^ 32

/-- The register word at a place, as the initiator sees it. -/
def State.wordAt (s : State) (ini : Initiator) (p : Place) : Nat :=
  match p with
  | .regs a page =>
    ((hitsAt a (b2n (s.isSec ini))).map fun h => if s.maySee ini h.f page then s.hitWord h else 0).sum
  | .ram o secOnly => if secOnly && !s.isSec ini then 0 else ofLe (spRead (0 : Byte) s.ram o 4)
  | .ownMap h o => if s.isSec ini then s.ownWord h (o / 4) else 0
  | .tileMap h o => if s.isSec ini then s.mapWord h o else 0
  | .colour h o => ofLe (((s.oh h).lut.drop o).take 4)
  | .pba c w => if w = 0 then (s.cove c).pba else 0
  | .nvm _ => 0
  | .void => 0
  | .none_ => 0

/-- Staging windows: their offsets without a register are RSVD (Table 09-1). -/
def slotAddr (a : Nat) : Bool := decide (0x3040000 ≤ a) && decide (a < 0x3080000)

/-- An offset leads to something. -/
def State.assigned (s : State) (ini : Initiator) (off : Nat) : Bool :=
  match s.place off with
  | .regs a _ => !(hitsAt a (b2n (s.isSec ini))).isEmpty || slotAddr a
  | .none_ => false
  | _ => true

/-! ### Writes -/

/-- The new value of a field when word `h.w` of its register is written with `v` (R5). -/
def State.writtenValue (s : State) (h : Hit) (v : Nat) : Nat :=
  let m := h.f.wmask h.w
  let old := s.fld h.f h.i h.j
  let cur := old * 2 ^ h.f.lo / 2 ^ (32 * h.w) % 2 ^ 32
  let vb := v &&& m
  let new := match h.f.acc with
    | .rw => vb
    | .rw1c => cur &&& (cur ^^^ vb)
    | .rw1s => cur ||| vb
    | _ => cur
  (old * 2 ^ h.f.lo - cur * 2 ^ (32 * h.w) + new * 2 ^ (32 * h.w)) / 2 ^ h.f.lo

/-- Commands of CHIP_PHASE_CMD that Table 03-2 lists for the current phase (R73). -/
def State.phaseLists (s : State) (cmd : Nat) : Bool :=
  match cmd with
  | 1 => s.chip.phase == .run
  | 2 => s.chip.phase == .dip
  | 3 => s.runOrDip
  | 4 => s.runOrDip
  | 5 => s.powered
  | _ => false

/-- A write of `v` to a WO field acts: where the register's Meaning lists the values that do, only those; elsewhere a 1 does. -/
def State.woActs (s : State) (h : Hit) (v : Nat) : Bool :=
  if h.f.off = 0x14 then h.f.lo == 0 && s.phaseLists (v % 16)
  else if h.f.off = 0x74 then decide (1 ≤ v % 16) && decide (v % 16 ≤ 4)
  else if h.f.off = 0x100064 then
    h.f.lo == 8 && ((bits v 9 8 == 1 && bit (s.rd F.RIP_SPILL_STAT_PENDING) (bits v 2 0)) || bits v 9 8 == 2)
  else if h.f.off = 0x400104 then s.on F.WEIR_HART_STAT_SECURE h.i
  else if h.f.off = 0x603000 then (s.lock (v % 256)).state == 1
  else if h.f.off = 0x4800018 then decide (30 ≤ h.f.lo) && bit v h.f.lo
  else if h.f.off = 0x7C00040 then h.f.lo == 8 && bits v 9 8 == 1
  else v &&& h.f.wmask h.w != 0

/-- The write would act on the field (R163): it changes an RW field, or gives a field a value that its access type or Meaning acts
on. -/
def State.wouldAct (s : State) (h : Hit) (v : Nat) : Bool :=
  match h.f.acc with
  | .rw => s.writtenValue h v != s.fld h.f h.i h.j
  | .rw1c => v &&& h.f.wmask h.w != 0
  | .rw1s => v &&& h.f.wmask h.w != 0
  | .wo => s.woActs h v
  | _ => false

/-- Write one field by its access type. -/
def State.writeHit (s : State) (h : Hit) (v : Nat) : State :=
  match h.f.acc with
  | .rw => s.wr h.f (s.writtenValue h v) h.i h.j
  | .rw1c => s.wr h.f (s.writtenValue h v) h.i h.j
  | .rw1s => s.wr h.f (s.writtenValue h v) h.i h.j
  | _ => s

end Sys2Proof.Machine
end

