-- ==== Sys2Proof/Machine/Caches.lean ====
section
/-!
DEFINITION. Caches of the application cores (R170, R171): L1 and L2 lines tagged by the world and cove of the access that filled
them, and the L3 behind Shoreline with its way masks. The bytes of every copy are the coherent ones of `State.dram`. The spec
states no geometry for L1 and L2 and no replacement rule: which line a fill evicts is a free value.
-/
namespace Sys2Proof.Machine

/-- L1 lines of hart `h`, and lines of the L2 of its cluster. -/
def State.l1Of (s : State) (h : Nat) : List CacheLine := s.own.l1.getD h []
def State.l2Of (s : State) (h : Nat) : List CacheLine := s.own.l2.getD (h / 4) []

/-- A line hits for an access under tag `t`: world and cove match, and a write needs that one has been allowed before. -/
def CacheLine.hits (x : CacheLine) (t : WorkTag) (line : Nat) (write : Bool) : Bool :=
  x.line == line && x.secure == t.secure && x.cove == t.cove && (!write || x.written)

/-- Every line of an access by hart `h` hits in its L1 or L2. -/
def State.coreHit (s : State) (h : Nat) (t : WorkTag) (write : Bool) (lines : List Nat) : Bool :=
  lines.all fun l => (s.l1Of h).any (·.hits t l write) || (s.l2Of h).any (·.hits t l write)

/-- Every line of an access is in the L3, in whatever way. -/
def State.l3Hit (s : State) (lines : List Nat) : Bool := lines.all fun l => s.own.l3.any fun x => x.1 == l

/-- Ways that a miss under tag `t` may allocate in (R171). -/
def State.l3Ways (s : State) (t : WorkTag) : List Nat :=
  let sec := s.rd F.WEIR_L3_SEC_WAYS_WAYS
  let own := s.rd F.WEIR_L3_COVE_WAYS_WAYS t.cove
  (List.range 16).filter fun w => if t.secure then bit sec w else bit own w && !bit sec w

/-- A fill puts line `x` at the front in place of an older copy under its tag; replacement evicts line `r` of the rest, or none. -/
def fillLine (x : CacheLine) (r : Nat) (l : List CacheLine) : List CacheLine :=
  let rest := l.filter fun y => !(y.line == x.line && y.secure == x.secure && y.cove == x.cove)
  x :: rest.eraseIdx (r % (rest.length + 1))

/-- Sets of an L3 way: 512 KiB of 64-byte lines. -/
def l3Sets : Nat := 8192

/-- Line `x` enters way `w` of the L3, and the line that stood there leaves. -/
def l3Put (l : List (Nat × Nat)) (x w : Nat) : List (Nat × Nat) :=
  (x, w) :: l.filter fun y => y.2 != w || y.1 % l3Sets != x % l3Sets

/-- The L3 takes a line that it does not hold, in one of the ways allowed; with none allowed it is not allocated. -/
def State.l3Fill (s : State) (t : WorkTag) (x : Nat) : State :=
  match s.l3Ways t with
  | [] => s
  | w :: ws =>
    if s.l3Hit [x] then s
    else s.draw.2.modOwn fun o => { o with l3 := l3Put o.l3 x (nth (w :: ws) (s.draw.1 % (ws.length + 1)) w) }

/-- An access by hart `h` that Shoreline has allowed fills one line in L1, L2 and L3. -/
def State.cacheFill (s : State) (h : Nat) (t : WorkTag) (write : Bool) (x : Nat) : State :=
  let was := (s.l1Of h ++ s.l2Of h).any (·.hits t x true)
  let y : CacheLine := { line := x, secure := t.secure, cove := t.cove, hart := h, written := write || was }
  let s1 := s.draw.2.modOwn fun o =>
    { o with l1 := o.l1.modify h (fillLine y s.draw.1), l2 := o.l2.modify (h / 4) (fillLine y (s.draw.1 / 2 ^ 32)) }
  s1.l3Fill t x

/-- The L1 lines of hart `h` that were filled in the secure world are cleaned and invalidated, and, unless they are kept, the L2 lines
that it filled there (Tables 06-2, 06-3). -/
def State.cacheScrub (s : State) (h : Nat) (keepL2 : Bool) : State :=
  s.modOwn fun o =>
    { o with l1 := o.l1.modify h (·.filter fun x => !x.secure),
             l2 := if keepL2 then o.l2 else o.l2.modify (h / 4) (·.filter fun x => !(x.secure && x.hart == h)) }

/-- Every way in which two masks differ is cleaned and invalidated (R171). -/
def State.l3Clean (s : State) (old new : Nat) : State :=
  s.modOwn fun o => { o with l3 := o.l3.filter fun x => bit old x.2 == bit new x.2 }

/-- The power of core cluster `k` goes, and its lines with it. -/
def State.clusterOff (s : State) (k : Nat) : State :=
  s.modOwn fun o => { o with l1 := o.l1.mapIdx fun h l => if h / 4 == k then [] else l, l2 := o.l2.set k [] }

/-- The L3 holds what an allowed access needs: no channel and no poisoned line is met. -/
def State.physReadL3 (s : State) (t : WorkTag) (addr len : Nat) : State × Except Access1 (List Byte) :=
  match s.dramCheck t addr len false with
  | .isolated => if s.l3Hit (linesOf addr len) then (s, .ok (memRead s.dram addr len)) else s.physRead t addr len
  | .poison _ => if s.l3Hit (linesOf addr len) then (s, .ok (memRead s.dram addr len)) else s.physRead t addr len
  | _ => s.physRead t addr len

/-- A read by hart `h` (R33, R170): a hit in L1 or L2 does not leave the cluster; every other access goes through Shoreline, then to
the L3 or to DRAM, and fills. The debug window of the Tarn store is not cached. -/
def State.hartRead (s : State) (h : Nat) (t : WorkTag) (addr len : Nat) : State :=
  if s.coreHit h t false (linesOf addr len) && decide (0 < len) then s.answer (ofLe (memRead s.dram addr len))
  else match s.physReadL3 t addr len with
    | (s1, .error _) => s1.answer 0 true
    | (s1, .ok l) =>
      let s2 := if inTarn addr len then s1 else s1.each (linesOf addr len) fun s x => s.cacheFill h t false x
      s2.answer (ofLe l)

/-- A write by hart `h` (R33, R170). -/
def State.hartWrite (s : State) (h : Nat) (t : WorkTag) (addr : Nat) (l : List Byte) : State :=
  if s.coreHit h t true (linesOf addr l.length) && !l.isEmpty then (s.dramPut addr l).answer 0
  else match s.physWrite t addr l with
    | (s1, some _) => s1.answer 0 true
    | (s1, none) =>
      let s2 := if inTarn addr l.length then s1 else s1.each (linesOf addr l.length) fun s x => s.cacheFill h t true x
      s2.answer 0

end Sys2Proof.Machine
end

