-- ==== Sys2Proof/WellFormed.lean ====
section
/-!
DEFINITION. Commands as a bus, a link or a pin can bring them: what an operand's width in the spec allows. `exec` gives every
command a meaning, well formed or not; these are the terms that stand for something outside.
-/
namespace Sys2Proof

/-- Bytes of the register space (R36). -/
def regSpace : Nat := 0x10000000

/-- Bytes of a cove page (R40). -/
def pageSize : Nat := 0x200000

/-- An offset that a 32-bit register access can name (R7, R36). -/
def wordOffset (off : Nat) : Bool := off % 4 == 0 && decide (off < regSpace)

/-- Bytes of a register read. -/
def RegSize.bytes : RegSize → Nat
  | .byte => 1 | .half => 2 | .word => 4

/-- An address of the 40-bit physical space (R36). -/
def physical (a : Nat) : Bool := decide (a < 2 ^ 40)

/-- An access of at least one byte below 2^50, whose data are as long as it says. -/
def access (a len : Nat) (write : Option (List Byte)) : Bool :=
  decide (0 < len) && decide (a + len ≤ 2 ^ 50) && write.all fun l => l.length == len

/-- A naturally aligned access to the NVM aperture (R107, R108). -/
def apertureAligned (off : Nat) (size : AccSize) : Bool :=
  decide (off < 0x800000) && off % (match size with | .b1 => 1 | .b2 => 2 | .b4 => 4 | .b8 => 8) == 0

/-- A line and column of a raster (Table 04-5). -/
def pixelPlace (line col : Nat) : Bool := decide (line < 8192) && decide (col < 8192)

/-- The command is one that the outside can bring. -/
def Instr.wf : Instr → Bool
  | .registerWrite _ off _ => wordOffset off
  | .readToClear _ off size => decide (off < regSpace) && off % size.bytes == 0
  | .narrowRegisterWrite _ off half _ => decide (off < regSpace) && (!half || off % 2 == 0)
  | .lowWordRead _ off => wordOffset off
  | .highWordRead _ off => wordOffset off
  | .unassignedAccess _ addr _ => physical addr
  | .dramAccess _ addr len write _ => access addr len write
  | .requestTimeout _ addr _ _ => decide (addr < 2 ^ 50)
  | .govMargin _ fill _ => decide (fill < 65536)
  | .imgldDataWrite off data => decide (off.val + data.length ≤ 32768)
  | .flashTransferDone data => decide (data.length ≤ 256)
  | .nvmApertureRead _ off size _ => apertureAligned off size
  | .nvmApertureWrite _ off size _ => apertureAligned off size
  | .deltaSectionApply type => decide (type < 65536)
  | .weirEnter _ _ _ bank => bank.x.length == 32
  | .weirReturn _ _ _ a _ => decide (a.length ≤ 8)
  | .covePageDenied _ _ off _ => decide (off < pageSize)
  | .vfBar2Request _ off len write => access off len write && write.all fun l => decide (l.length ≤ 512)
  | .resRequestEnter _ _ pa len write => access pa len write
  | .trnDone errs counts _ => errs.length == 4 && decide (counts.length ≤ 64)
  | .tileComposed _ tile _ _ => decide (tile < 8192)
  | .frameStart _ mapEcc => mapEcc.all fun k => decide (k < 8192)
  | .tarnDebugWrite _ off data _ => decide (1 ≤ data.length) && decide (off.val + data.length ≤ 134217728)
  | .stripDecode _ strip _ _ _ _ => decide (strip < 256)
  | .scanUnderrun _ line col => pixelPlace line col
  | .frameAbort _ line col => pixelPlace line col
  | .lockstepMismatch _ line col => pixelPlace line col
  | .auxReply _ _ data => decide (data.length ≤ 16)
  | .alsSample _ data => decide (data.length ≤ 16)
  | .rayTraverse _ _ ray => decide (ray.length ≤ 64)
  | .tdmRxFrame _ slots => decide (slots.length ≤ 32)
  | .planeData _ _ data => decide (data.length ≤ 1024)
  | .ident payload => decide (payload.length ≤ 1032)
  | .flitReceive _ flit _ => decide (flit.length ≤ 256)
  | .arbitrationPhase _ _ _ | .requesterMasked _ _ | .regionVisit _ _ _ | .regionSlotRelease _ _ _ | .cellStall _ _ _
  | .transferError _ _ _ _ | .blockFaulted _ _ _ _ | .lateResponse _ | .arbiterFreezeWrite _ _ _ | .flogPop _
  | .spillRaised _ _ _ _ | .spillClear _ _ | .spillConfirm _ | .spillTimeout _ | .govRaiseStep _ | .govLowerStep _
  | .speedMonitorSlow _ | .chipDebugWrite _ _ | .debugLock _ _ | .jtagInstruction _ | .genlockPulse _ | .markPulse _
  | .invalidPulse _ | .markPulseSend _ | .heartbeatLost | .turnContention _ | .vbatRise _ | .vbatFall _ | .wakeEdge _ _ _
  | .seepAlarm | .porstFall | .porstRise _ | .warmReset _ | .wrstRise | .internalResetEnd | .vcoreFault _ | .brownOut _
  | .vcoreOkRise | .bootStepDone _ | .imgldComplete | .imgldAbort | .imgldCheckDone | .enterDip _ _ | .endDip _ | .dipLimit
  | .dipEndComplete | .flashCommand _ _ | .shutdownOff _ | .shutdownRestart _ | .chipReset _ | .drainStepDone _
  | .drainComplete | .testComplete _ | .powerFailWarning _ _ _ | .thermWarn _ | .thermRelease _ | .thermalLimit _ _
  | .pdVoteWrite _ _ _ | .pdSwitchDone _ | .pcapWindow _ _ _ _ | .deltaSubmit _ | .deltaCheckDone | .keyProgramSlot0 _
  | .keyProgramSlot1 _ | .keyRevokeSlot0 _ | .keyRevokeSlot1 _ | .minverWrite _ _ | .imageCacheInvalidate _
  | .imageCacheRewrite | .eventCapture | .routeWrite _ _ _ | .ringConsWrite _ _ _ | .doorbellHoldoff _ | .slewWrite _ _
  | .slewDone | .timebaseStep _ _ | .ppsCapture _ | .ppsLost | .refclkLost | .refclkReturn | .tbsWindow _ | .weirTimeout _ _
  | .l3SecWaysWrite _ _ | .l3RepartDone | .iotInval _ _ _ | .shorAssign _ _ _ | .shorShare _ _ _ | .shorUnshare _ _ _
  | .shorRelease _ _ _ | .shorTakeSecure _ _ _ | .shorReleaseSecure _ _ _ | .shorAssignKeep _ _ _ | .shorCmdStart | .shorCmdDone
  | .shorQuery _ _ | .sluAcquire _ _ _ _ _ | .sluRelease _ _ _ | .sluCancel _ _ | .sluForce _ _ | .sluLockConfigWrite _ _ _ _
  | .queueProdWrite _ _ _ _ | .descriptorFetch _ _ | .queueCfgWrite _ _ _ _ | .queueFaultClear _ _ _ | .vfFlr _ | .pfFlr _
  | .pcieStarved | .pcieLink _ _ _ _ _ | .pcieAerError _ _ _ | .shareWrite _ _ _ _ | .coveReset _ _ | .coveFreeze _ _
  | .coveThaw _ _ | .coveSave _ _ | .coveRestore _ _ | .coveConfine _ _ | .coveQuiesced _ | .coveResetDone _ | .coveSaved _
  | .coveRestored _ | .resCommandIssue _ _ _ _ | .resReadData _ _ _ | .mr4Poll _ _ _ _ | .refreshDue _ _ _ | .patrolScrub _ _ _
  | .pageInit | .pprStart _ _ | .pprDone _ _ | .trnWritePattern _ _ _ _ | .trnReadCompare _ _ _ _
  | .trnWriteReadCompare _ _ _ _ | .trnCmdBusCompare _ _ _ _ | .trnWckSample _ _ _ _ | .modeRegisterWrite _ _ _ _ _ _
  | .modeRegisterRead _ _ _ _ _ | .trainingFail _ | .slotCommit _ _ _ | .queueCommitAccept _ _ | .latchPoint _
  | .reservationGrant _ | .layerJobDone _ _ | .compositionComplete _ | .layerFault _ _ | .tarnPatrolRead _ _ _
  | .bankRetire _ _ _ | .bankRemap _ _ _ | .pllUnlock _ | .pllSpareIn | .portRetrain _ _ | .linkTrainingEnd _ _
  | .hpdUnplug _ _ | .hpdIrq _ _ _ | .hpdPlug _ | .auxNativeWrite _ _ _ | .auxNativeRead _ _ _ _ | .auxI2cWrite _ _ _
  | .auxI2cRead _ _ _ | .auxI2cWriteMot _ _ _ | .auxI2cReadMot _ _ _ | .auxDeferRetry _ | .auxTimeout _
  | .panelDelayElapsed _ | .hpdWaitTimeout _ | .headDisable _ | .blPwmPeriod _ | .alsErr _ | .genlockReference _ _ _
  | .genlockLost _ | .fifoMinClr _ _ _ | .sealExpPush _ _ _ _ | .sealExpFlush _ _ | .sealResult _ _ _
  | .genCheckStart _ _ _ _ | .genDone _ | .lochJobStart _ _ | .lochJobEnd _ _ | .fencePoll | .fenceKick _ _
  | .waitTimeout _ _ _ | .dispatchPlace _ | .dispatchComplete _ _ _ | .partialRender _ _ _ | .poolAdd _ _ _ _
  | .jobTimeout _ _ | .jobUrgent _ _ | .preemptStart | .preemptSaveDone _ _ _ _ | .preemptMaxClear _
  | .sparseFetch _ _ _ _ _ _ _ | .rayResume _ _ _ _ | .mixTick _ | .tdmTxFrame _ | .tdmFsync _ _ | .tdmFsyncLost _
  | .xpNodeWrite _ _ _ _ | .xpSwap _ | .xpSwapDone | .biquadCommit _ _ | .streamDescAccept _ _ | .streamStalled _ _
  | .toneStart _ _ _ | .toneStop _ _ | .toneStopNow _ _ | .toneSegmentEnd _ | .recBlock | .controlSample _ | .effectGo _ _ _
  | .effectStop _ _ | .waveEnd _ | .settled _ | .sequencerTimer _ | .touchTrigger | .senseGap _ _ _ | .driveFault _ _ _
  | .faultClear _ _ _ | .accRead _ _ _ | .accRetry _ | .boostIdleTimeout | .scanFrameStart _ _ | .scanFrameEnd _ _ _ _
  | .touchFrameDropped _ _ | .hello | .keepalive | .welSendTimer _ | .welLinkDown | .welMsgErr | .planeBegin _ _ _ _ _
  | .planeEnd _ _ | .refresh _ _ | .showNvr | .expect _ _ _ | .flush | .reading _ _ _ _ _ _ | .nvrExpired
  | .forceNvrWrite _ _ | .paletteWrite _ _ _ | .bind _ _ _ _ _ _ _ _ | .planeAck _ _ _ _ _ | .result _ _ _ | .time _
  | .resultTimeout | .whReset | .sealSwitch _ | .checksumCheck _ | .idCmd | .audit _ | .read _ _ _ _ _ _ | .param _
  | .setCmd _ _ | .showid | .drgTest _ _ | .drgSwapIn _ _ | .drgFuse _ _ | .testDone _ | .swapDone | .fuseProgramDone _
  | .portageLinkUp _ _ _ _ _ | .portageLinkDown _ _ _ | .ptgStarved _ | .mark _ _ | .dipTokenRequest _ | .dipAnnounce _
  | .failoverWaitEnd | .role _ | .masterStartupTimeout | .releaseTo _ _ | .sbAlert _ | .remoteRead _ _ | .remoteWrite _ _
  | .copyStart _ _ _ | .copyDone _ _ | .mirrorBind _ _ _ _ _ | .swapEnd _ _ | .lockstepCompareFailure _ | .endMessage
  | .dipTokenGrant | .dipTokenReturn _ => true

end Sys2Proof
end

