-- ==== Sys2Proof/Machine/Registers.lean ====
section
/-!
DEFINITION. Generic register accesses and DRAM accesses (R5, R7, R8, R9, R33, R163, R579): rows NARROW_REGISTER_WRITE to
UNASSIGNED_ACCESS and DRAM_ACCESS. Rows REGISTER_WRITE and READ_TO_CLEAR are in Writes.lean.
-/
namespace Sys2Proof.Machine

/-- Cove whose page an offset lies in. -/
def pageCove (off : Nat) : Option Nat :=
  if 0x8000000 ≤ off && off < 0xC000000 then some ((off - 0x8000000) / 0x200000) else none

/-- Writes that a rule discards without an event: queue registers while EN is 1 (R189), stream bindings of a
running queue and its format (R442, R460). -/
def State.writeBlocked (s : State) (h : Hit) (v : Nat) : Bool :=
  if h.f.off = 0x8001000 then s.on F.COVE_Q_CFG_EN h.i h.j
  else if h.f.off = 0x8140000 then s.on F.COVE_Q_CFG_EN h.i h.j
  else if h.f.off = 0x8010008 || h.f.off = 0x8010020 then s.fld F.LOCH_CTX_STAT_STATE h.i h.j != 0
  else if h.f.off = 0x6040000 then
    s.on F.COVE_Q_CFG_EN (s.rd F.POOL_PCH_COVE h.i) (s.rd F.POOL_PCH_LOCAL_Q h.i)
      || s.on F.COVE_Q_CFG_EN (bits v 20 16) (bits v 13 8)
  else if h.f.off = 0x6040100 then
    s.on F.COVE_Q_CFG_EN (s.rd F.POOL_CCH_COVE h.i) (s.rd F.POOL_CCH_LOCAL_Q h.i)
      || s.on F.COVE_Q_CFG_EN (bits v 20 16) (bits v 13 8)
  else false

/-- A window whose edges lie behind the timebase does not reach them again (R160). -/
def State.winRefresh (s : State) (n : Nat) : State :=
  s.modTbs fun t => { t with wins := t.wins.modify n fun w =>
    { w with startDone := decide (s.rd F.TBS_WIN_START_START n ≤ t.now),
             endDone := decide (s.rd F.TBS_WIN_END_END n ≤ t.now), skipStart := false, skipEnd := false } }

/-- A write to a window register (R158): the low word is held until the high word is written. -/
def State.writeWin (s : State) (h : Hit) (v : Nat) : State :=
  let isStart := h.f.off == 0x300100
  if h.w = 0 then
    s.modTbs fun t => { t with wins := t.wins.modify h.i fun w =>
      if isStart then { w with heldStart := v } else { w with heldEnd := v } }
  else
    let w := s.tbs.wins.getD h.i { startDone := false, endDone := false, skipStart := false, skipEnd := false,
                                   heldStart := 0, heldEnd := 0 }
    (s.wr h.f ((if isStart then w.heldStart else w.heldEnd) + v * 2 ^ 32) h.i).winRefresh h.i

/-- The bits of TBS_WIN_CTRL that a normal-world write reaches: windows 4 to 7 (Table 05-17). -/
def State.winCtrlValue (s : State) (sec : Bool) (v : Nat) : Nat :=
  let cur := s.rd F.TBS_WIN_CTRL_EN
  if sec then v % 256 else v / 16 % 16 * 16 + cur % 16

/-- Write TBS_WIN_CTRL; a window that becomes enabled reaches only edges still ahead. -/
def State.writeWinCtrl (s : State) (sec : Bool) (v : Nat) : State :=
  let cur := s.rd F.TBS_WIN_CTRL_EN
  let new := s.winCtrlValue sec v
  (s.wr F.TBS_WIN_CTRL_EN new).each (List.range 8) fun s n =>
    if bit new n && !bit cur n then s.winRefresh n else s

/-- Indices that Table 08-9 gives a setting. -/
def phyIndex (x : Nat) : Bool :=
  let i := x % 256
  decide (i < 36) || (decide (64 ≤ i) && decide (i < 100)) || (decide (128 ≤ i) && decide (i < 132))
    || (decide (160 ≤ i) && decide (i < 162)) || (decide (192 ≤ i) && decide (i < 208)) || i == 224

/-- Write the PHY setting at IDX. -/
def State.writePhy (s : State) (ch v : Nat) : State :=
  let i := s.rd F.RES_CH_PHY_IDX_IDX ch
  if phyIndex i then s.modChan ch fun c => { c with phy := spSet 0 c.phy i (v % 256) } else s

/-- A write of RES_SCRUB_CFG: a pass whose period was 0 begins its period now (R230). -/
def State.writeHours (s : State) (h : Hit) (v : Nat) : State :=
  (s.writeHit h v).when (s.rd F.RES_SCRUB_CFG_HOURS == 0) fun s => s.modRes fun r => { r with scrubStart := s.elapsed }

/-- One field of a register write, with its denial: the state and whether a restricted field would have acted. -/
def State.writeField (s : State) (ini : Initiator) (page : Bool) (h : Hit) (v : Nat) : State × Bool :=
  let sec := s.isSec ini
  if h.f.off = 0x300020 then
    if sec then (s.modTbs fun t => { t with stepLow := v }, false) else (s, v != 0)
  else if h.f.off = 0x300040 then
    (s.writeWinCtrl sec v, !sec && v % 16 != s.rd F.TBS_WIN_CTRL_EN % 16)
  else if !s.mayWrite ini h.f h.i page then (s, s.wouldAct h v)
  else if h.f.own || s.writeBlocked h v then (s, false)
  else if h.f.off = 0x2010024 then (s.writePhy h.i v, false)
  else if h.f.off = 0x2000010 then (s.writeHours h v, false)
  else if h.f.off = 0x300100 || h.f.off = 0x300108 then (s.writeWin h v, false)
  else (s.writeHit h v, false)

/-- A write without a field at its place: the RSVD offsets of a staging window ignore it, and refuse it to the normal world in a
SECURE slot's (R240, R241); any other offset is unassigned (R9). -/
def State.bareWrite (s : State) (ini : Initiator) (off a : Nat) (page : Bool) : State :=
  if slotAddr a then (if page || s.isSec ini then s else s.denied ini off)
  else s.accessErr (s.tag ini) (regBase + off) 0 true

/-- What a write does to the fields at its place (R5, R163, R579). -/
def State.fieldsWrite (s : State) (ini : Initiator) (off a : Nat) (page : Bool) (v : Nat) : State :=
  let hs := hitsAt a (b2n (s.isSec ini))
  if hs.isEmpty then s.bareWrite ini off a page
  else if hs.any fun h => h.f.own && a != 0x300020 && s.mayWrite ini h.f h.i page && s.wouldAct h v then s
  else if hs.any fun h => wholeDiscard h.f.restr && !s.mayWrite ini h.f h.i page then s.denied ini off
  else
    let (s1, d) := hs.foldl (fun (acc : State × Bool) h =>
      let (s', d') := acc.1.writeField ini page h v
      (s', acc.2 || d')) (s, false)
    if d then s1.denied ini off else s1

/-- A write at the place of an offset. -/
def State.placeWrite (s : State) (ini : Initiator) (off v : Nat) : State :=
  match s.place off with
  | .none_ => s.accessErr (s.tag ini) (regBase + off) 0 true
  | .ram o _ => if 0x8000000 ≤ o then { s with ram := memWrite s.ram o (leBytes 4 v) } else s
  | .regs a page => s.fieldsWrite ini off a page v
  | _ => s

/-- An access to an offset that its initiator does not reach: none; the answer of R192 and R194 in a cove page; Unsupported Request to
a PCIe function elsewhere. -/
def State.unreached (s : State) (ini : Initiator) (off : Nat) (write : Bool) : Option State :=
  match pageCove off with
  | some c => if s.pageOk ini c then none else some (s.pageDenied ini c off write)
  | none => if noWay ini then some (s.answer 0 true) else none

/-- A register write of 32 bits that no other row describes (R5, R9, R163, R192, R579); its response follows (R125). -/
def State.regWrite (s : State) (ini : Initiator) (off v : Nat) : State :=
  match s.unreached ini off true with
  | some t => t
  | none => (s.placeWrite ini off v).answer 0

/-! ### Reads (R5, R7, R8) -/

/-- The fields at a place that the initiator sees. -/
def State.seenAt (s : State) (ini : Initiator) (off : Nat) : List Hit :=
  match s.place off with
  | .regs a page => (hitsAt a (b2n (s.isSec ini))).filter fun h => s.maySee ini h.f page
  | _ => []

/-- Bits of the word at an offset that the initiator sees. -/
def State.seenMask (s : State) (ini : Initiator) (off : Nat) : Nat :=
  (s.seenAt ini off).foldl (fun m h => m ||| h.f.wmask h.w) 0

/-- The register at a place has a second word (R8). -/
def State.isWide (s : State) (ini : Initiator) (off w : Nat) : Bool :=
  match s.place off with
  | .regs a _ => (hitsAt a (b2n (s.isSec ini))).any fun h => h.w == w && decide (32 ≤ h.f.hi) && decide (h.f.hi < 64)
  | _ => false

/-- The bytes of a word that a read of `n` bytes at byte `o` addresses (R7). -/
def byteSel (o n : Nat) : Nat := (2 ^ (8 * n) - 1) * 2 ^ (8 * o)

/-- The capture that the initiator holds of the register whose high word lies at `off`. -/
def State.captureOf (s : State) (ini : Initiator) (off : Nat) : Option Nat :=
  (s.hold.find? fun e => e.1 == ini && e.2.1 + 4 == off).map (·.2.2)

/-- Drop the initiator's capture. -/
def State.dropCapture (s : State) (ini : Initiator) : State := { s with hold := s.hold.filter fun e => e.1 != ini }

/-- A read of the low word captures the high word (R8). -/
def State.captureHigh (s : State) (ini : Initiator) (off : Nat) : State :=
  if s.isWide ini (off + 4) 1 && s.seenMask ini off != 0 then
    { s with hold := (ini, off, s.wordAt ini (s.place (off + 4))) :: s.hold.filter fun e => e.1 != ini }
  else s

/-- The word that a read of `off` returns: of a high word the pending capture, as far as the initiator still sees it (R8). -/
def State.readWord (s : State) (ini : Initiator) (off : Nat) : Nat :=
  match if s.isWide ini off 1 then s.captureOf ini off else none with
  | some v => v &&& s.seenMask ini off
  | none => s.wordAt ini (s.place off)

/-- What a read of the word at `off` leaves: RC fields of the bytes `m` cleared (R5), a capture made or consumed (R8). -/
def State.readEffect (s : State) (ini : Initiator) (off m : Nat) : State :=
  let s1 := s.captureHigh ini off
  let s2 := if s.isWide ini off 1 && (s.captureOf ini off).isSome && s.seenMask ini off != 0 then s1.dropCapture ini else s1
  s2.each ((s.seenAt ini off).filter fun h => h.f.acc == .rc && h.f.wmask h.w &&& m != 0) fun s h => s.wr h.f 0 h.i h.j

/-- A read of a register (R5, R7, R8, R192): the addressed bytes of its word. -/
def State.regRead (s : State) (ini : Initiator) (off : Nat) (size : RegSize) : State :=
  match s.unreached ini off false with
  | some t => t
  | none =>
    let w := off / 4 * 4
    (s.readEffect ini w (byteSel (off % 4) size.bytes)).answer (s.readWord ini w / 2 ^ (8 * (off % 4)) % 2 ^ (8 * size.bytes))

/-- NARROW_REGISTER_WRITE (R7): discarded, event 32 with KIND 1; in a cove page the page's rights come first (R192). -/
def execNarrowRegisterWrite (ini : Initiator) (off : Nat) (_half : Bool) (_v : Word) (s : State) : Ans :=
  s.by ini fun s =>
  match s.unreached ini off true with
  | some t => .next t
  | none => .next (s.accessErr (s.tag ini) (regBase + off) 1 true)

/-- An access to an unassigned register offset (R9): reads 0, or is discarded with event 32, KIND 0. -/
def State.unassignedReg (s : State) (ini : Initiator) (off : Nat) (write : Bool) : State :=
  match s.unreached ini off write with
  | some t => t
  | none => if s.assigned ini off || !write then s else s.accessErr (s.tag ini) (regBase + off) 0 true

/-- UNASSIGNED_ACCESS (R9, R37): an access to an unassigned address outside the registers has an error response and raises event 32
with KIND 0. -/
def execUnassignedAccess (ini : Initiator) (addr : Nat) (write : Bool) (s : State) : Ans :=
  s.by ini fun s =>
  if regBase ≤ addr && addr < regBase + 0x10000000 then .next (s.unassignedReg ini (addr - regBase) write)
  else if addr < s.dramBytes || inTarn addr 1 then .next s
  else .next ((s.accessErr (s.tag ini) addr 0 write).answer 0 true)

/-- An uncorrectable owner-table word sets its four entries to SCRUBBING and raises event 69 (R177). -/
def State.shorUe (s : State) (p : Nat) : State :=
  let s1 := s.each [0, 1, 2, 3] fun s k =>
    s.setEntry (p / 4 * 4 + k) (mkEntry 4 0 0)
  (s1.flogAdd 1 0 2 { unit := 5, inst := 0 } (secTag s)).raise 69

/-- The source works in cove-physical addresses (06.4): work of a queue, a PCIe function, a general unit. -/
def usesCpa : Source → Bool
  | .ini (.pcie _) => true
  | .queue _ _ => true
  | .genUnit _ => true
  | _ => false

/-- Shoreline finds the owner-table word of the access's first page uncorrectable (R177). -/
def State.tableError (s : State) (src : Source) (t : WorkTag) (addr : Nat) (write : Bool) : State :=
  let (s1, x) := if usesCpa src && !t.secure then s.xlate t.cove addr write else (s, Xlate.ok addr)
  match x with
  | .ok pa => if pa < s1.dramBytes then s1.shorUe (pa / 65536) else s1
  | .fault _ => s1

/-- A read by a source: through its caches, by cove-physical address, or by physical address. -/
def State.srcRead (s : State) (src : Source) (t : WorkTag) (addr len : Nat) : State :=
  match src with
  | .ini (.hart h) => s.hartRead h.val t addr len
  | _ =>
    if usesCpa src then
      match s.engRead t addr len with
      | (s1, .ok l) => s1.answer (ofLe l)
      | (s1, .error _) => s1.answer 0 true
    else match s.dramRead t addr len with
      | (s1, some l) => s1.answer (ofLe l)
      | (s1, none) => s1.answer 0 true

/-- A write by a source. -/
def State.srcWrite (s : State) (src : Source) (t : WorkTag) (addr : Nat) (l : List Byte) : State :=
  match src with
  | .ini (.hart h) => s.hartWrite h.val t addr l
  | _ =>
    if usesCpa src then
      match s.engWrite t addr l with
      | (s1, none) => s1.answer 0
      | (s1, some _) => s1.answer 0 true
    else match s.dramWrite t addr l with
      | (s1, true) => s1.answer 0
      | (s1, false) => s1.answer 0 true

/-- DRAM_ACCESS (R32, R33, R37, R38, R170, R172, R174, R176, R177): under the tag that its source gives it. -/
def execDramAccess (src : Source) (addr len : Nat) (write : Option (List Byte)) (tableUe : Bool) (s : State) : Ans :=
  if !s.srcIssues src then .next s
  else
    let t := s.srcTag src
    let s1 := if tableUe then s.tableError src t addr write.isSome else s
    match write with
    | some l => .next (s1.srcWrite src t addr l)
    | none => .next (s1.srcRead src t addr len)

end Sys2Proof.Machine
end

