-- ==== Sys2Proof/Machine/Queues.lean ====
section
/-!
DEFINITION. Queue contexts (07.1): faults (R190), the completion of a queue's work under its generation (R203), and the
rows QUEUE_PROD_WRITE, QUEUE_CFG_WRITE and QUEUE_FAULT_CLEAR.
-/
namespace Sys2Proof.Machine

/-- Queue `q` of cove `c` stops on a fault with a code: FAULT, CODE and event 101 (R190). -/
def State.queueStop (s : State) (c q code : Nat) : State :=
  (((s.wr F.COVE_Q_STAT_FAULT 1 c q).wr F.COVE_Q_STAT_CODE code c q)).raise 101 (q + code * 256) c

/-- The next descriptor is accepted: CONS advances (R188). -/
def State.queueAccept (s : State) (c q : Nat) : State := s.inc F.COVE_Q_CONS_CONS 1 c q

/-- A descriptor is at fault: it counts as accepted, and the queue stops (R190). -/
def State.queueFault (s : State) (c q code : Nat) : State := (s.queueAccept c q).queueStop c q code

/-- CODE of a failed access (Table 07-1). -/
def EngErr.code : EngErr → Nat
  | .xlate => 2
  | .denied => 3
  | .isolated => 4

/-- Write a completion or a record of generation `gen` under cove `c`'s tag: an older generation's is discarded and
counted (R34, R203); a failure is a queue fault (R190). -/
def State.queueRecord (s : State) (c q gen cpa : Nat) (l : List Byte) : State :=
  if gen ≠ s.gen c then s.inc F.COVE_DISCARD_COUNT 1 c
  else match s.engWrite (s.coveTag c) cpa l with
    | (s1, none) => s1
    | (s1, some e) => s1.queueStop c q e.code

end Sys2Proof.Machine
end

