-- ==== Sys2Proof/Machine/Regions.lean ====
section
/-!
DEFINITION. Region arbitration among coves (R137), the slots of a region (R197, R198, R200) and the OVER_SHARE
mark. The rows of the region arbiters are in Visits.lean.
-/
namespace Sys2Proof.Machine

/-- Number of a share region: its bit of OVER_SHARE (Table 07-3). -/
def srIx : ShareRegion → Nat
  | .memory => 0 | .graphics => 1 | .display => 2 | .sense => 3

/-- Number of a share region among the seven regions (R138). -/
def srRegion (r : ShareRegion) : Nat := srIx r + 3

/-- The cove pool of a region (Table 07-5). -/
def srPool : ShareRegion → Nat
  | .memory => 248 | .graphics => 128 | .display => 64 | .sense => 64

/-- The secure slots of every region (Table 07-5). -/
def secureSlots : Nat := 8

/-- The share field of a region (Table 07-6). -/
def srShare : ShareRegion → Fld
  | .memory => F.COVE_SHAREA_RES_SHARE | .graphics => F.COVE_SHAREA_LOCH_SHARE
  | .display => F.COVE_SHAREB_BAS_SHARE | .sense => F.COVE_SHAREB_POOL_SHARE

/-- The field of COVE_HOLDc of a region. -/
def srHold : ShareRegion → Fld
  | .memory => F.COVE_HOLD_MEM | .graphics => F.COVE_HOLD_GFX | .display => F.COVE_HOLD_DISP | .sense => F.COVE_HOLD_SENSE

/-- Share of cove `c`: values above 1,024 are taken as 1,024. -/
def State.share (s : State) (r : ShareRegion) (c : Nat) : Nat := min (s.rd (srShare r) c) 1024

/-- Slots held by cove `c`. -/
def State.held (s : State) (r : ShareRegion) (c : Nat) : Nat := s.rd (srHold r) c

/-- Entitlement of a share (R197). -/
def entitlementOf (r : ShareRegion) (share : Nat) : Nat := srPool r * share / 1024

/-- Entitlement E_c of cove `c` (R197). -/
def State.entitled (s : State) (r : ShareRegion) (c : Nat) : Nat := entitlementOf r (s.share r c)

/-- The coves that are enabled. -/
def State.enabledCoves (s : State) : List Nat := (List.range 32).filter s.coveEnabled

/-- Free pool slots. -/
def State.freeSlots (s : State) (r : ShareRegion) : Nat :=
  srPool r - ((List.range 32).map (s.held r)).sum - nth s.fab.secPool (srIx r) 0

/-- The free pool slots outnumber what the other enabled coves may still claim (R198); `c` is left out of the sum. -/
def State.poolBeyond (s : State) (r : ShareRegion) (c : Option Nat) : Bool :=
  decide (((s.enabledCoves.filter fun d => c != some d).map fun d => s.entitled r d - s.held r d).sum < s.freeSlots r)

/-- A request of cove `c` can take a slot (R198). -/
def State.slotFor (s : State) (r : ShareRegion) (c : Nat) : Bool :=
  decide (0 < s.freeSlots r) && (decide (s.held r c < s.entitled r c) || s.poolBeyond r (some c))

/-- Deficit D_c. -/
def State.deficit (s : State) (r : ShareRegion) (c : Nat) : Int := nth (nth s.fab.deficit (srIx r) []) c 0

def State.setDeficit (s : State) (r : ShareRegion) (c : Nat) (d : Int) : State :=
  s.modFab fun f => { f with deficit := f.deficit.modify (srIx r) fun l => l.set c d }

/-- Take a slot for cove `c`. -/
def State.takeSlot (s : State) (r : ShareRegion) (c : Nat) : State := s.inc (srHold r) 1 c

/-- Admit a piece of secure-world work (R198): a secure slot, else a pool slot under the second condition. -/
def State.admitSecure (s : State) (r : ShareRegion) : State × Bool :=
  if nth s.fab.secSlots (srIx r) 0 < secureSlots then
    (s.modFab fun f => { f with secSlots := f.secSlots.modify (srIx r) (· + 1) }, true)
  else if decide (0 < s.freeSlots r) && s.poolBeyond r none then
    (s.modFab fun f => { f with secPool := f.secPool.modify (srIx r) (· + 1) }, true)
  else (s, false)

/-! ### Requests that wait (R137, R221) -/

/-- Cost of a request in its region's unit: 64 bytes moved (Table 05-5). -/
def reqCost (q : RegionReq) : Nat := ceilDiv q.bytes 64

/-- Reservoir's queue that a request of the Memory region goes to is full (R221). -/
def State.memFull (s : State) (r : ShareRegion) (q : RegionReq) : Bool :=
  r == .memory && (if q.write then decide (64 ≤ (s.chan q.ch).wq.length) else decide (64 ≤ (s.chan q.ch).rq.length))

/-- Costs of requests, up to the first whose queue is full: a visit ends there with D_c kept (R221). -/
def openCosts (s : State) (r : ShareRegion) : List RegionReq → List Nat
  | [] => []
  | q :: l => if s.memFull r q then [] else reqCost q :: openCosts s r l

/-- Requests that wait for cove `c`, and for the secure world, in a region. -/
def State.waitingFor (s : State) (r : ShareRegion) (c : Nat) : List RegionReq :=
  (s.fab.waiting.filter fun e => e.1 == srIx r && e.2.1 == c).map (·.2.2)

def State.secureWaiting (s : State) (r : ShareRegion) : List RegionReq :=
  (s.fab.secWaiting.filter fun e => e.1 == srIx r).map (·.2)

/-- The first `n` entries of a list that `p` selects leave it. -/
def dropFirst {α : Type} (p : α → Bool) : Nat → List α → List α
  | 0, l => l
  | _, [] => []
  | n + 1, x :: l => if p x then dropFirst p n l else x :: dropFirst p (n + 1) l

/-- Cove `c`'s first `n` waiting requests have been admitted. -/
def State.dropWaiting (s : State) (r : ShareRegion) (c n : Nat) : State :=
  s.modFab fun f => { f with waiting := dropFirst (fun e => e.1 == srIx r && e.2.1 == c) n f.waiting }

/-- Requests of cove `c` that wait are discarded. -/
def State.clearWaiting (s : State) (c : Nat) : State :=
  s.modFab fun f => { f with waiting := f.waiting.filter fun e => e.2.1 != c }

/-- Secure requests are admitted ahead of the coves (R18), in order, while a slot is free and none meets a full queue. -/
def admitSecureWaiting (r : ShareRegion) : List RegionReq → State → State
  | [], s => s
  | q :: l, s =>
    if s.memFull r q then s
    else match s.admitSecure r with
      | (s1, true) =>
        admitSecureWaiting r l (s1.modFab fun f => { f with secWaiting := dropFirst (fun e => e.1 == srIx r) 1 f.secWaiting })
      | (s1, false) => s1

/-- Admit queued requests in order while the deficit covers the next cost and a slot is free (R137, R198). An uncharged
visit takes the requests as far as slots allow. Answers the deficit, the requests admitted and those left. -/
def admitCosts (r : ShareRegion) (c : Nat) (charged : Bool) : List Nat → Int → State → State × Int × Nat × Nat
  | [], d, s => (s, d, 0, 0)
  | k :: ks, d, s =>
    if (!charged || decide ((k : Int) ≤ d)) && s.slotFor r c then
      match admitCosts r c charged ks (if charged then d - k else d) (s.takeSlot r c) with
      | (s', d', n, left) => (s', d', n + 1, left)
    else (s, d, 0, ks.length + 1)

/-- Cove `c` is marked OVER_SHARE in region `r`. -/
def State.overShare (s : State) (r : ShareRegion) (c : Nat) : Bool :=
  bit (s.rd F.COVE_STATE_OVER_SHARE c) (srIx r)

/-- QUANTUM of a region; 0 is taken as 1 (Table 05-6). -/
def State.quantum (s : State) (r : ShareRegion) : Nat := max (s.rd F.RIP_RGN_CFG_QUANTUM (srRegion r)) 1

/-- Queues admit: the cove is READY and chip safe state is not declared (R21, R201). -/
def State.admits (s : State) (c : Nat) : Bool := s.coveReady c && !s.safe && s.runOrDip

/-- A visit of R137 to cove `c`: `costs` of its requests up to the first that cannot be taken, `more` requests behind that one. -/
def State.visit (s : State) (r : ShareRegion) (c : Nat) (costs : List Nat) (more : Nat) (others : Bool) : State × Nat :=
  if !s.admits c then (s, 0)
  else if s.overShare r c then (s.setDeficit r c 0, 0)
  else if costs.isEmpty && more == 0 then (s.setDeficit r c (min (s.deficit r c) 0), 0)
  else if s.share r c = 0 then
    if others then (s, 0)
    else match admitCosts r c false costs (s.deficit r c) s with | (s', _, n, _) => (s', n)
  else
    match admitCosts r c true costs (s.deficit r c + s.share r c * s.quantum r) s with
    | (s', d, n, left) => (s'.setDeficit r c (if left + more = 0 then 0 else d), n)

/-- The cove that the round visits next (R137): from the region's place in the round on, in ascending number, the first with work
pending; a cove without a share only where no cove with one has work. -/
def State.nextCove (s : State) (r : ShareRegion) (pending : Nat → Bool) : Option Nat :=
  let k := nth s.fab.round (srIx r) 0
  let order := (List.range 32).map fun i => (k + i) % 32
  let ready := fun c => pending c && s.admits c && !s.overShare r c
  match order.find? fun c => ready c && s.share r c != 0 with
  | some c => some c
  | none => order.find? ready

/-- The round goes on behind cove `c`. -/
def State.roundOn (s : State) (r : ShareRegion) (c : Nat) : State :=
  s.modFab fun f => { f with round := f.round.set (srIx r) ((c + 1) % 32) }

/-- Coves whose queue is empty have no deficit left to spend (R137), nor have those marked OVER_SHARE (R200). -/
def State.idleDeficits (s : State) (r : ShareRegion) (pending : Nat → Bool) : State :=
  s.each (List.range 32) fun s c =>
    if s.overShare r c then s.setDeficit r c 0
    else if pending c then s else s.setDeficit r c (min (s.deficit r c) 0)

/-- OVER_SHARE clears once H_c < E_c, or H_c = 0 when E_c = 0 (R200). -/
def State.overShareClear (s : State) (r : ShareRegion) (c : Nat) : State :=
  if s.overShare r c && (decide (s.held r c < s.entitled r c) || (s.entitled r c == 0 && s.held r c == 0)) then
    (s.wr F.COVE_STATE_OVER_SHARE (s.rd F.COVE_STATE_OVER_SHARE c - 2 ^ srIx r) c).raise 99 (srIx r) c
  else s

/-- A change of cove `c`'s share in region `r` from `old` leaves H_c above E_c: mark it (R200). A raise marks nothing. -/
def State.overShareSet (s : State) (r : ShareRegion) (c old : Nat) : State :=
  if s.overShare r c then s.overShareClear r c
  else if s.share r c < old && decide (s.entitled r c < s.held r c) then
    ((s.wr F.COVE_STATE_OVER_SHARE (s.rd F.COVE_STATE_OVER_SHARE c + 2 ^ srIx r) c).setDeficit r c 0).raise 98 (srIx r) c
  else s

/-- Completed work frees the kind of slot that it took (R198). -/
def State.slotRelease (s : State) (r : ShareRegion) (c : Nat) (k : SlotKind) : State :=
  match k with
  | .cove => if s.held r c = 0 then s else (s.wr (srHold r) (s.held r c - 1) c).overShareClear r c
  | .secure => s.modFab fun f => { f with secSlots := f.secSlots.modify (srIx r) (· - 1) }
  | .securePool => s.modFab fun f => { f with secPool := f.secPool.modify (srIx r) (· - 1) }

end Sys2Proof.Machine
end

