-- ==== Sys2Proof/Machine/Fences.lean ====
section
/-!
DEFINITION. Loch fences and the end of a job (R363 to R367, R385, R386): the reading of waiting fences, the signals, the
completion record, and the waits that end because a fence cannot be read.
-/
namespace Sys2Proof.Machine

/-! ### Charging and slots -/

/-- Units of cluster time due beyond the first microsecond (R360). -/
def clusterUnits (ns : Nat) : Nat := ceilDiv (ns - 1000) 1000

/-- Charge a dispatch for `ns` more of cluster time (R360). -/
def State.chargeDisp (s : State) (c : Nat) (d : Dispatch) (ns : Nat) : State :=
  let due := clusterUnits (d.ran + ns) - d.charged
  if due = 0 then s else s.setDeficit .graphics c (s.deficit .graphics c - (due : Int))

/-- The dispatches of a job give their region slots back. -/
def State.freeDisps (s : State) (j : LJob) : State := s.each j.disps fun s _ => s.slotRelease .graphics j.cove .cove

/-! ### Reading fences -/

/-- Read the fence of one wait: what it says now. -/
def State.readWait (s : State) (t : WorkTag) (w : LWait) : State × LWait :=
  if w.ok || w.failed then (s, w)
  else match s.engRead t w.addr 8 with
    | (s1, .error _) => (s1, { w with failed := true })
    | (s1, .ok l) => (s1, { w with ok := decide (w.value ≤ ofLe l) })

/-- Read the fences of a list of waits. -/
def readWaits (t : WorkTag) : List LWait → State → State × List LWait
  | [], s => (s, [])
  | w :: ws, s =>
    match s.readWait t w with
    | (s1, w1) => match readWaits t ws s1 with | (s2, l) => (s2, w1 :: l)

/-- Re-read the waiting fences of context (c, q). -/
def State.rereadJob (s : State) (c q : Nat) : State :=
  match s.job c q with
  | none => s
  | some j =>
    if j.started then s
    else match readWaits (s.coveTag c) j.waits s with
      | (s1, l) => s1.modJob c q fun j => { j with waits := l }

/-- Re-read the waiting fences of the contexts that `p` selects (R367). -/
def State.reread (s : State) (p : LJob → Bool) : State :=
  s.each ((s.loch.jobs.filter p).map fun j => (j.cove, j.q)) fun s (k : Nat × Nat) => s.rereadJob k.1 k.2

/-! ### The end of a job -/

/-- Write the signals of a job in list order; a write that fails is lost (R365). Answers whether one failed. -/
def writeSignals (t : WorkTag) : List (Nat × Nat) → State → State × Bool
  | [], s => (s, false)
  | (a, v) :: l, s =>
    match s.engWrite t a (leBytes 8 v) with
    | (s1, e) => match writeSignals t l s1 with | (s2, b) => (s2, e.isSome || b)

/-- The completion record of a job (R363). -/
def LJob.recordBytes (j : LJob) (status reason : Nat) (late : Bool) (now : Nat) : List Byte :=
  leBytes 1 status ++ leBytes 1 (b2n j.replayed + 2 * b2n j.partial_ + 4 * b2n j.ordered + 8 * b2n late) ++ leBytes 2 reason
    ++ leBytes 2 j.partials ++ leBytes 2 0 ++ leBytes 8 now

/-- Release the chunks of a context's pass: USED becomes 0, and the pool is no longer low. -/
def State.releaseChunks (s : State) (c q : Nat) : State :=
  (s.wr F.LOCH_CTX_POOL_STAT_USED 0 c q).wr F.LOCH_CTX_POOL_STAT_LOW 0 c q

/-- The events of an ended job, and the stop of its queue (R363, R385, R386). -/
def State.jobEvents (s : State) (j : LJob) (status reason : Nat) (late : Bool) : State :=
  let s1 := if bit j.flags 1 then s.raise 352 (j.q + 256 * status) j.cove else s
  let s2 := if status = 3 then s1.raise 354 j.q j.cove else s1
  let s3 := if 1 ≤ status && status ≤ 3 then s2.raise 353 (reason + 256 * status) j.cove else s2
  let s4 := if late then s3.raise 359 j.q j.cove else s3
  if 1 ≤ status && status ≤ 3 then s4.queueStop j.cove j.q 4 else s4

/-- A job ends with a status and a reason (R363, R365): slots and chunks are given back, signals are written in order, then
the record. Work of an older generation writes neither (R34, R388). Fences that it has written are re-read (R367). -/
def State.jobEnd (s : State) (j : LJob) (status reason : Nat) : State :=
  let s1 := ((s.freeDisps j).dropJob j.cove j.q).releaseChunks j.cove j.q
  if j.gen ≠ s.gen j.cove then s1.inc F.COVE_DISCARD_COUNT 1 j.cove
  else
    match writeSignals (s.coveTag j.cove) j.signals s1 with
    | (s2, lost) =>
      let st := if lost && status = 0 then 2 else status
      let rs := if lost && status = 0 then 11 else reason
      let late := j.engine == 1 && j.deadline != 0 && decide (j.deadline < s2.tbs.now)
      let s3 := if bit j.flags 0 then s2.queueRecord j.cove j.q j.gen j.record (j.recordBytes st rs late s2.tbs.now) else s2
      let s4 := s3.jobEvents j st rs late
      if j.signals.isEmpty then s4 else s4.reread fun k => !k.started

/-- A wait ends unsatisfied (R366): event 355 and WAIT_TIMEOUT. -/
def State.waitEnd (s : State) (j : LJob) (k reason : Nat) : State :=
  (s.raise 355 (j.q + 256 * k) j.cove).jobEnd j 4 reason

/-- End, one after another, the jobs whose fence could not be read (R366); each end may read other fences. -/
def settleFences : Nat → State → State
  | 0, s => s
  | n + 1, s =>
    match s.loch.jobs.find? fun j => !j.started && j.waits.any (·.failed) with
    | none => s
    | some j => settleFences n (s.waitEnd j (j.waits.findIdx (·.failed)) 11)

/-- A fence has been written by Loch or Basin, or the poll period is over: every waiting fence is re-read (R367). -/
def State.fencesAgain (s : State) (p : LJob → Bool) : State :=
  let s1 := s.reread p
  settleFences s1.loch.jobs.length s1

end Sys2Proof.Machine
end

