-- ==== Sys2Proof/Machine/Stillwater.lean ====
section
/-!
DEFINITION. Stillwater tile coding (10.2): channel layouts (Table 10-1), the coder (R275, R276) and the decoder with its
failures (R277). A block is 1,024 pixel words in raster order.
-/
namespace Sys2Proof.Machine

/-- A channel of a layout: its width, and the bit of the pixel word at which it lies. -/
structure SwChan where
  w : Nat
  lo : Nat
  deriving DecidableEq, Repr

/-- Channels of a layout in stream order (Table 10-1). Layouts 0 and 1 code the stored words of R279; layouts 2 and 3
code ARGB8888 and ARGB2101010 words. The boolean tells whether the first channel is A. -/
def swLayout : Nat → Bool × List SwChan
  | 0 => (false, [⟨8, 10⟩, ⟨8, 20⟩, ⟨8, 0⟩])
  | 1 => (false, [⟨10, 10⟩, ⟨10, 20⟩, ⟨10, 0⟩])
  | 2 => (true, [⟨8, 24⟩, ⟨8, 8⟩, ⟨8, 16⟩, ⟨8, 0⟩])
  | _ => (true, [⟨2, 30⟩, ⟨10, 10⟩, ⟨10, 20⟩, ⟨10, 0⟩])

/-- Bits of a channel of a pixel word. -/
def SwChan.get (c : SwChan) (v : Nat) : Nat := v / 2 ^ c.lo % 2 ^ c.w

/-- The channel planes after the colour transform: R and B less G (R276.1). -/
def swPlanes (layout : Nat) (px : List Nat) : List (Nat × List Nat) :=
  match swLayout layout with
  | (true, [a, g, r, b]) =>
    [(a.w, px.map a.get), (g.w, px.map g.get), (r.w, px.map fun v => (r.get v + 2 ^ r.w - g.get v) % 2 ^ r.w),
     (b.w, px.map fun v => (b.get v + 2 ^ b.w - g.get v) % 2 ^ b.w)]
  | (false, [g, r, b]) =>
    [(g.w, px.map g.get), (r.w, px.map fun v => (r.get v + 2 ^ r.w - g.get v) % 2 ^ r.w),
     (b.w, px.map fun v => (b.get v + 2 ^ b.w - g.get v) % 2 ^ b.w)]
  | _ => []

/-- Median of three. -/
def median3 (a b c : Int) : Int := max (min a b) (min (max a b) c)

/-- The prediction of pixel `n` of a 32 by 32 plane from its left, upper and upper-left neighbours (R276.2). -/
def swPred (n a b c : Nat) : Int :=
  if n = 0 then 0 else if n < 32 then a else if n % 32 = 0 then b
  else median3 a b ((a : Int) + b - c)

/-- The coded value of a pixel (R276.3, R276.4). -/
def swZ (w x : Nat) (pred : Int) : Nat :=
  let d := toTwos w ((x : Int) - pred)
  if d < 2 ^ (w - 1) then 2 * d else 2 * (2 ^ w - d) - 1

/-- The value that a coded value stands for. -/
def swX (w z : Nat) (pred : Int) : Nat :=
  toTwos w (pred + (if z % 2 = 0 then ((z / 2 : Nat) : Int) else -(((z + 1) / 2 : Nat) : Int)))

/-- Coded values of a plane. -/
def swZs (w : Nat) (x : List Nat) : List Nat :=
  (List.range 1024).map fun n =>
    swZ w (x.getD n 0) (swPred n (x.getD (n - 1) 0) (x.getD (n - 32) 0) (x.getD (n - 33) 0))

/-- Pixel numbers of sub-block `b`, in raster order. -/
def swSub (b : Nat) : List Nat :=
  (List.range 64).map fun i => (8 * (b / 4) + i / 8) * 32 + 8 * (b % 4) + i % 8

/-- Bits needed to hold `v`. -/
def bitsFor (v : Nat) : Nat := if v = 0 then 0 else Nat.log2 v + 1

/-- Bits appended to a stream held as a number and a length. -/
def pushBits (acc : Nat × Nat) (n v : Nat) : Nat × Nat := (acc.1 + v % 2 ^ n * 2 ^ acc.2, acc.2 + n)

/-- Append the channel of a sub-block: k, then its 64 values. -/
def pushSub (acc : Nat × Nat) (zs : List Nat) (b : Nat) : Nat × Nat :=
  let vs := (swSub b).map fun n => zs.getD n 0
  let k := bitsFor (vs.foldl max 0)
  vs.foldl (fun a v => pushBits a k v) (pushBits acc 4 k)

/-- The coded stream of a block (R275). -/
def swEncode (layout : Nat) (px : List Nat) : List Byte :=
  let zs := (swPlanes layout px).map fun p => swZs p.1 p.2
  let acc := (List.range 16).foldl (fun a b => zs.foldl (fun a z => pushSub a z b) a) (0, 0)
  leBytes 1 layout ++ leBytes 1 0 ++ leBytes (ceilDiv acc.2 8) acc.1

/-- Read 64 values of `k` bits. -/
def takeVals (bitsN k : Nat) : Nat → Nat → List Nat
  | 0, _ => []
  | m + 1, pos => bitsN / 2 ^ pos % 2 ^ k :: takeVals bitsN k m (pos + k)

/-- Read one channel of a sub-block at a position: its values and the next position, or a failure (R277). -/
def takeSub (bitsN total w pos : Nat) : Option (List Nat × Nat) :=
  let k := bitsN / 2 ^ pos % 16
  if total < pos + 4 || decide (w < k) || decide (total < pos + 4 + 64 * k) then none
  else some (takeVals bitsN k 64 (pos + 4), pos + 4 + 64 * k)

/-- Read every channel of a sub-block. -/
def takeChans (bitsN total : Nat) : List Nat → Nat → Option (List (List Nat) × Nat)
  | [], pos => some ([], pos)
  | w :: ws, pos =>
    match takeSub bitsN total w pos with
    | none => none
    | some (vs, p) => match takeChans bitsN total ws p with
      | none => none
      | some (r, p') => some (vs :: r, p')

/-- Read `n` sub-blocks. -/
def takeSubs (bitsN total : Nat) (ws : List Nat) : Nat → Nat → Option (List (List (List Nat)))
  | 0, _ => some []
  | n + 1, pos =>
    match takeChans bitsN total ws pos with
    | none => none
    | some (c, p) => match takeSubs bitsN total ws n p with
      | none => none
      | some r => some (c :: r)

/-- Rebuild a plane from its coded values: `rev` holds the pixels so far, newest first. -/
def swRebuild (w : Nat) : List Nat → Nat → List Nat → List Nat
  | [], _, rev => rev.reverse
  | z :: zs, n, rev =>
    swRebuild w zs (n + 1) (swX w z (swPred n (rev.getD 0 0) (rev.getD 31 0) (rev.getD 32 0)) :: rev)

/-- The coded values of channel `c` in raster order. -/
def swPlaneZ (subs : List (List (List Nat))) (c : Nat) : List Nat :=
  (List.range 1024).map fun n =>
    let y := n / 32
    let x := n % 32
    ((subs.getD (4 * (y / 8) + x / 8) []).getD c []).getD (8 * (y % 8) + x % 8) 0

/-- Put the channels of a pixel back into its word. -/
def swWord (layout : Nat) (vals : List Nat) : Nat :=
  match swLayout layout, vals with
  | (true, [a, g, r, b]), [va, vg, vr, vb] =>
    va * 2 ^ a.lo + vg * 2 ^ g.lo + (vr + vg) % 2 ^ r.w * 2 ^ r.lo + (vb + vg) % 2 ^ b.w * 2 ^ b.lo
  | (false, [g, r, b]), [vg, vr, vb] =>
    vg * 2 ^ g.lo + (vr + vg) % 2 ^ r.w * 2 ^ r.lo + (vb + vg) % 2 ^ b.w * 2 ^ b.lo
  | _, _ => 0

/-- Decode a coded block from the bytes allotted to it; nothing where R277 fails it. -/
def swDecode (layout : Nat) (l : List Byte) : Option (List Nat) :=
  if l.length < 2 || leAt l 0 1 ≠ layout || leAt l 1 1 ≠ 0 then none
  else
    let ws := (swLayout layout).2.map (·.w)
    match takeSubs (ofLe (l.drop 2)) (8 * (l.length - 2)) ws 16 0 with
    | none => none
    | some subs =>
      let planes := ws.zipIdx.map fun e => swRebuild e.1 (swPlaneZ subs e.2) 0 []
      some ((List.range 1024).map fun n => swWord layout (planes.map fun p => p.getD n 0))

end Sys2Proof.Machine
end

