-- ==== Sys2Proof/Machine/Pixels.lean ====
section
/-!
DEFINITION. Layer descriptors (Table 09-2), pixel formats (Table 09-3), the checks of a commit (Table 09-4) and the pixel
path (Table 09-5): expansion, chroma upsampling, colour matrix, scaling, blending and quantisation.
-/
namespace Sys2Proof.Machine

/-- Fields of a layer descriptor (Table 09-2). -/
structure Desc where
  format : Nat
  flags : Nat
  blend : Nat
  siting : Nat
  alpha : Nat
  vtaps : Nat
  /-- The bytes that the table gives as 0, taken together. -/
  rsv : Nat
  srcX : Nat
  srcY : Nat
  srcW : Nat
  srcH : Nat
  dstX : Int
  dstY : Int
  dstW : Nat
  dstH : Nat
  bufW : Nat
  bufH : Nat
  planes : List Nat
  pitches : List Nat
  mtx : List Int
  acqAddr : Nat
  acqValue : Nat
  relAddr : Nat
  relValue : Nat
  deriving DecidableEq, Repr

/-- Parse 128 bytes (Table 09-2). -/
def parseDesc (l : List Byte) : Desc :=
  { format := leAt l 0 1, flags := leAt l 1 1, blend := leAt l 2 1, siting := leAt l 3 1, alpha := leAt l 4 2,
    vtaps := leAt l 6 1, rsv := leAt l 7 1 + leAt l 0x1C 4 + leAt l 0x44 4,
    srcX := leAt l 8 2, srcY := leAt l 0xA 2, srcW := leAt l 0xC 2, srcH := leAt l 0xE 2,
    dstX := sx 16 (leAt l 0x10 2), dstY := sx 16 (leAt l 0x12 2), dstW := leAt l 0x14 2, dstH := leAt l 0x16 2,
    bufW := leAt l 0x18 2, bufH := leAt l 0x1A 2,
    planes := [leAt l 0x20 8, leAt l 0x28 8, leAt l 0x30 8], pitches := [leAt l 0x38 4, leAt l 0x3C 4, leAt l 0x40 4],
    mtx := (List.range 12).map fun k => sx 16 (leAt l (0x48 + 2 * k) 2),
    acqAddr := leAt l 0x60 8, acqValue := leAt l 0x68 8, relAddr := leAt l 0x70 8, relValue := leAt l 0x78 8 }

def Desc.en (d : Desc) : Bool := bit d.flags 0
def Desc.comp (d : Desc) : Bool := bit d.flags 1
def Desc.hFlip (d : Desc) : Bool := bit d.flags 2
def Desc.vFlip (d : Desc) : Bool := bit d.flags 3
def Desc.matrixEn (d : Desc) : Bool := bit d.flags 4
def Desc.nearest (d : Desc) : Bool := bit d.flags 5
def Desc.plane (d : Desc) (p : Nat) : Nat := d.planes.getD p 0
def Desc.pitch (d : Desc) (p : Nat) : Nat := d.pitches.getD p 0

/-- A row of Table 09-3: element sizes per plane, subsampling, budget BPP, COMP allowed, YUV. -/
structure Fmt where
  es : List Nat
  subX : Bool
  subY : Bool
  bpp : Nat
  comp : Bool
  yuv : Bool
  deriving DecidableEq, Repr

/-- Table 09-3. -/
def fmtOf : Nat → Option Fmt
  | 0x01 => some ⟨[4], false, false, 4, true, false⟩
  | 0x02 => some ⟨[4], false, false, 4, true, false⟩
  | 0x03 => some ⟨[2], false, false, 2, false, false⟩
  | 0x04 => some ⟨[4], false, false, 4, true, false⟩
  | 0x05 => some ⟨[8], false, false, 8, false, false⟩
  | 0x10 => some ⟨[1, 2], true, true, 2, false, true⟩
  | 0x11 => some ⟨[1, 2], true, true, 2, false, true⟩
  | 0x12 => some ⟨[1, 2], true, false, 2, false, true⟩
  | 0x13 => some ⟨[2, 4], true, true, 3, false, true⟩
  | 0x14 => some ⟨[1, 1, 1], true, true, 2, false, true⟩
  | 0x15 => some ⟨[1, 1, 1], false, false, 3, false, true⟩
  | _ => none

/-- Width of plane `p` in elements, and its height in lines (09.3). -/
def Desc.planeW (d : Desc) (f : Fmt) (p : Nat) : Nat := if p ≠ 0 && f.subX then ceilDiv d.bufW 2 else d.bufW
def Desc.planeH (d : Desc) (f : Fmt) (p : Nat) : Nat := if p ≠ 0 && f.subY then ceilDiv d.bufH 2 else d.bufH

/-! ### Checks of a commit (Table 09-4) -/

/-- Check 1: format. -/
def Desc.okFormat (d : Desc) (c : LayerCfg) : Bool :=
  match fmtOf d.format with
  | none => false
  | some f =>
    decide (f.bpp ≤ c.bpp) && (!d.comp || f.comp) && (!f.yuv || d.matrixEn) && decide (d.blend ≤ 2)
      && decide (d.alpha ≤ 1023) && (f.subX || d.siting == 0) && decide (d.siting < 4) && decide (d.flags < 64) && d.rsv == 0
      && [1, 2].all fun p => decide (p < f.es.length) || (p == 2 && d.comp) || (d.plane p == 0 && d.pitch p == 0)

/-- R245 for plane `p`. -/
def Desc.planeOk (d : Desc) (f : Fmt) (p : Nat) : Bool :=
  d.plane p % 256 == 0 && d.pitch p % 64 == 0 && decide (d.pitch p ≤ 262144)
    && decide (d.planeW f p * f.es.getD p 1 ≤ d.pitch p)

/-- R248 and R382 for a coded surface. -/
def Desc.compOk (d : Desc) : Bool :=
  d.plane 0 % 4096 == 0 && d.pitch 0 % 128 == 0 && decide (ceilDiv d.bufW 32 * 128 ≤ d.pitch 0)
    && d.plane 2 % 64 == 0 && d.pitch 2 % 64 == 0 && decide (ceilDiv d.bufW 32 * 8 ≤ d.pitch 2)
    && d.plane 1 == 0 && d.pitch 1 == 0

/-- Check 2: alignment. -/
def Desc.okAlign (d : Desc) : Bool :=
  match fmtOf d.format with
  | none => false
  | some f =>
    (List.range f.es.length).all (d.planeOk f) && (!f.subX || d.bufW % 2 == 0) && (!f.subY || d.bufH % 2 == 0)
      && (!d.comp || d.compOk) && d.acqAddr % 8 == 0 && d.relAddr % 8 == 0
      && (d.acqAddr :: d.relAddr :: d.planes).all fun a => decide (a < 2 ^ 50)

/-- Check 3: geometry (R250, R251). -/
def Desc.okGeometry (d : Desc) : Bool :=
  match fmtOf d.format with
  | none => false
  | some f =>
    decide (1 ≤ d.bufW) && decide (d.bufW ≤ 8192) && decide (1 ≤ d.bufH) && decide (d.bufH ≤ 8192)
      && decide (1 ≤ d.srcW) && decide (1 ≤ d.srcH) && decide (d.srcX + d.srcW ≤ d.bufW) && decide (d.srcY + d.srcH ≤ d.bufH)
      && (!f.subX || (d.srcX % 2 == 0 && d.srcW % 2 == 0)) && (!f.subY || (d.srcY % 2 == 0 && d.srcH % 2 == 0))
      && decide (-8192 ≤ d.dstX) && decide (d.dstX ≤ 8191) && decide (-8192 ≤ d.dstY) && decide (d.dstY ≤ 8191)
      && decide (1 ≤ d.dstW) && decide (1 ≤ d.dstH)

/-- Check 4: limits. -/
def Desc.okLimits (d : Desc) (c : LayerCfg) : Bool :=
  decide (d.srcW ≤ c.srcW) && decide (d.srcH ≤ c.srcH) && decide (d.dstW ≤ c.dstW) && decide (d.dstH ≤ c.dstH)

/-- Check 5: scale. -/
def Desc.okScale (d : Desc) (c : LayerCfg) : Bool :=
  if c.scaler = 0xFF then d.srcW == d.dstW && d.srcH == d.dstH
  else decide (d.srcW ≤ 4 * d.dstW) && decide (d.dstW ≤ 16 * d.srcW) && decide (d.srcH ≤ 4 * d.dstH)
    && decide (d.dstH ≤ 16 * d.srcH)

/-- Check 6: line buffer. -/
def Desc.okLineBuf (d : Desc) (c : LayerCfg) : Bool :=
  c.scaler == 0xFF || d.nearest || (decide (1 ≤ d.vtaps) && decide (d.vtaps ≤ 8) && decide (d.srcW * d.vtaps ≤ 32768))

/-- The first check that fails, as its code; 0 when all pass (R252). -/
def Desc.check (d : Desc) (c : LayerCfg) : Nat :=
  if !d.okFormat c then 1 else if !d.okAlign then 2 else if !d.okGeometry then 3 else if !d.okLimits c then 4
  else if !d.okScale c then 5 else if !d.okLineBuf c then 6 else 0

/-! ### Expansion to 10 bits (R246) -/

/-- Alpha and three channels. -/
structure Px where
  a : Nat
  c0 : Nat
  c1 : Nat
  c2 : Nat
  deriving DecidableEq, Repr

def ex8 (v : Nat) : Nat := v * 4 + v / 64
def ex5 (v : Nat) : Nat := v * 32 + v
def ex6 (v : Nat) : Nat := v * 16 + v / 4

/-- A binary16 value clamped to [0, 1] and scaled to 1,023 (R246). -/
def exHalf (v : Nat) : Nat :=
  let e := bits v 14 10
  let m := bits v 9 0
  if e = 31 then (if m ≠ 0 || bit v 15 then 0 else 1023)
  else if bit v 15 then 0
  else if 15 ≤ e then 1023
  else
    let k := 25 - max e 1
    let num := if e = 0 then m else 1024 + m
    (num * 1023 * 2 + 2 ^ k) / 2 ^ (k + 1)

/-- Expand a word of an RGB format. -/
def exWord (fmt v : Nat) : Px :=
  match fmt with
  | 0x01 => ⟨ex8 (bits v 31 24), ex8 (bits v 23 16), ex8 (bits v 15 8), ex8 (bits v 7 0)⟩
  | 0x02 => ⟨1023, ex8 (bits v 23 16), ex8 (bits v 15 8), ex8 (bits v 7 0)⟩
  | 0x03 => ⟨1023, ex5 (bits v 15 11), ex6 (bits v 10 5), ex5 (bits v 4 0)⟩
  | 0x04 => ⟨bits v 31 30 * 341, bits v 29 20, bits v 19 10, bits v 9 0⟩
  | _ => ⟨exHalf (bits v 15 0), exHalf (bits v 63 48), exHalf (bits v 47 32), exHalf (bits v 31 16)⟩

/-- A 10-bit colour laid out as BG_COLOUR, opaque. -/
def pxOf (c : Nat) : Px := ⟨1023, bits c 29 20, bits c 19 10, bits c 9 0⟩

/-! ### Source pixels in buffer orientation -/

/-- The number of `n` bytes that a reader gives from address `a`. -/
def rdN (rd : Nat → Nat) (a : Nat) : Nat → Nat
  | 0 => 0
  | n + 1 => rd a + 256 * rdN rd (a + 1) n

/-- Element x of line y of plane p (R245). -/
def Desc.elem (d : Desc) (f : Fmt) (rd : Nat → Nat) (p x y : Nat) : Nat :=
  rdN rd (d.plane p + y * d.pitch p + x * f.es.getD p 1) (f.es.getD p 1)

/-- Luma code of a pixel. -/
def Desc.lumaAt (d : Desc) (f : Fmt) (rd : Nat → Nat) (x y : Nat) : Nat :=
  let v := d.elem f rd 0 x y
  if d.format = 0x13 then bits v 15 6 else v * 4

/-- Chroma sample k of chroma line m: Cb, or Cr. -/
def Desc.chroma (d : Desc) (f : Fmt) (rd : Nat → Nat) (cr : Bool) (k m : Nat) : Nat :=
  match d.format with
  | 0x13 => let v := d.elem f rd 1 k m; if cr then bits v 31 22 else bits v 15 6
  | 0x14 => d.elem f rd (if cr then 2 else 1) k m * 4
  | 0x15 => d.elem f rd (if cr then 2 else 1) k m * 4
  | 0x11 => let v := d.elem f rd 1 k m; (if cr then bits v 7 0 else bits v 15 8) * 4
  | _ => let v := d.elem f rd 1 k m; (if cr then bits v 15 8 else bits v 7 0) * 4

/-- Upsampling along one axis at luma position `n` of an axis of `w` samples (Table 09-6). -/
def upsample (centre : Bool) (w n : Nat) (c : Nat → Nat) : Nat :=
  let k := n / 2
  let hi := min (k + 1) (w - 1)
  if centre then (if n % 2 = 0 then (3 * c k + c (k - 1) + 2) / 4 else (3 * c k + c hi + 2) / 4)
  else if n % 2 = 0 then c k else (c k + c hi + 1) / 2

/-- Chroma at a luma position: horizontal first, then vertical (R254). -/
def Desc.chromaAt (d : Desc) (f : Fmt) (rd : Nat → Nat) (cr : Bool) (x y : Nat) : Nat :=
  let row := fun m => if f.subX then upsample (bit d.siting 0) (d.planeW f 1) x (fun k => d.chroma f rd cr k m)
    else d.chroma f rd cr x m
  if f.subY then upsample (bit d.siting 1) (d.planeH f 1) y row else row y

/-- Layout in which a coded surface of a format is coded (Table 13-6). -/
def swLayoutOf (fmt : Nat) : Nat := if fmt = 0x04 then 3 else 2

/-- Pixel words of block (bx, by) of a coded surface (R382, R383): nothing where it fails to decode. -/
def Desc.block (d : Desc) (rd : Nat → Nat) (bx by_ : Nat) : Option (List Nat) :=
  let m := d.plane 2 + by_ * d.pitch 2 + 8 * bx
  let w0 := rdN rd m 4
  let kind := bits w0 31 30
  let len := bits w0 12 0
  if bits w0 29 13 ≠ 0 || kind = 3 then none
  else if kind = 2 then some (List.replicate 1024 (rdN rd (m + 4) 4))
  else if kind = 1 then
    some ((List.range 1024).map fun n =>
      rdN rd (d.plane 0 + (32 * by_ + n / 32) * d.pitch 0 + 128 * bx + 4 * (n % 32)) 4)
  else if len = 0 || 4095 < len then none
  else swDecode (swLayoutOf d.format) ((List.range len).map fun k =>
    BitVec.ofNat 8 (rd (d.plane 0 + (32 * by_ + k / 128) * d.pitch 0 + 128 * bx + k % 128)))

/-- A pixel after stages 1 to 3 of Table 09-5, before mirroring: buffer position (x, y), expanded and at 4:4:4. -/
def Desc.source (d : Desc) (rd : Nat → Nat) (ph x y : Nat) : Px :=
  match fmtOf d.format with
  | none => pxOf ph
  | some f =>
    if d.comp then
      match d.block rd (x / 32) (y / 32) with
      | none => pxOf ph
      | some l => exWord d.format (l.getD (y % 32 * 32 + x % 32) 0)
    else if f.yuv then ⟨1023, d.lumaAt f rd x y, d.chromaAt f rd false x y, d.chromaAt f rd true x y⟩
    else exWord d.format (d.elem f rd 0 x y)

/-- Clamp an integer to a 10-bit code. -/
def clamp10 (x : Int) : Nat := (clampI 0 1023 x).toNat

/-- Colour matrix (R255). -/
def Desc.matrix (d : Desc) (p : Px) : Px :=
  if d.matrixEn then
    let o := fun i => clamp10 ((nth d.mtx (4 * i) 0 * p.c0 + nth d.mtx (4 * i + 1) 0 * p.c1
      + nth d.mtx (4 * i + 2) 0 * p.c2 + nth d.mtx (4 * i + 3) 0 * 1023 + 2048) / 4096)
    ⟨p.a, o 0, o 1, o 2⟩
  else p

/-- Crop pixel (x, y) after stage 4, with mirroring (R250, R253). -/
def Desc.cropPx (d : Desc) (rd : Nat → Nat) (ph x y : Nat) : Px :=
  let cx := if d.hFlip then d.srcW - 1 - x else x
  let cy := if d.vFlip then d.srcH - 1 - y else y
  d.matrix (d.source rd ph (d.srcX + cx) (d.srcY + cy))

/-! ### Scaling (R257 to R260) -/

/-- Nearest integer of x / 32, halves away from zero. -/
def round32 (x : Int) : Int := if 0 ≤ x then (x + 16) / 32 else -((-x + 16) / 32)

/-- Built-in coefficient of a tap (R260). -/
def builtinCoef (ph tap : Nat) : Int :=
  let f : Int := ph
  let t2 := round32 (-(f * f * f) + 128 * f * f - 4096 * f)
  let t4 := round32 (-3 * (f * f * f) + 256 * f * f + 4096 * f)
  let t5 := round32 (f * f * f - 64 * f * f)
  match tap with
  | 2 => t2
  | 3 => 16384 - t2 - t4 - t5
  | 4 => t4
  | 5 => t5
  | _ => 0

/-- Coefficient of phase `ph` and tap `tap`: built in, or of set `set` of the image's section (R259). -/
def coefOf (tab : List Byte) (set : Nat) (vert : Bool) (ph tap : Nat) : Int :=
  if set = 0xFF then builtinCoef ph tap
  else sx 16 (leAt tab (2048 * set + 1024 * b2n vert + 16 * ph + 2 * tap) 2)

/-- Coefficients folded onto n vertical taps (R258). -/
def foldCoef (n : Nat) (c : Nat → Int) (tap : Nat) : Int :=
  let f := 3 - (n - 1) / 2
  let l := f + n - 1
  if tap < f || l < tap then 0
  else
    let lo := if tap = f then ((List.range f).map c).sum else 0
    let hi := if tap = l then (((List.range 8).filter fun k => decide (l < k)).map c).sum else 0
    c tap + lo + hi

/-- Position of output pixel j (R257): integer index and phase. -/
def scalePos (src dst j : Nat) : Int :=
  let step := (src * 2 ^ 20 + dst / 2) / dst
  ((step * j + step / 2 : Nat) : Int) - 2 ^ 19

def clampIx (n : Nat) (i : Int) : Nat := (clampI 0 ((n : Int) - 1) i).toNat

/-- Filter one axis: `get` gives the source value at a clamped index (R257). -/
def scaleAxis (src dst j : Nat) (coef : Nat → Nat → Int) (get : Nat → Nat) : Nat :=
  let p := (scalePos src dst j + 2 ^ 13) / 2 ^ 14
  let i := p / 64
  let ph := (p % 64).toNat
  let acc := ((List.range 8).map fun k => coef ph k * (get (clampIx src (i - 3 + k)) : Int)).sum
  clamp10 ((acc + 8192) / 16384)

/-- The nearest source index (R258). -/
def nearestIx (src dst j : Nat) : Nat := clampIx src ((scalePos src dst j + 2 ^ 19) / 2 ^ 20)

/-- A channel of a pixel. -/
def Px.ch (p : Px) : Nat → Nat
  | 0 => p.a
  | 1 => p.c0
  | 2 => p.c1
  | _ => p.c2

/-- Layer pixel at unclipped destination column i and line j, after stage 5. -/
def Desc.layerPx (d : Desc) (c : LayerCfg) (tab : List Byte) (rd : Nat → Nat) (i j : Nat) : Px :=
  let px := fun x y => d.cropPx rd c.placeholder x y
  if c.scaler = 0xFF then px i j
  else if d.nearest then px (nearestIx d.srcW d.dstW i) (nearestIx d.srcH d.dstH j)
  else
    let vc := fun ph k => foldCoef d.vtaps (coefOf tab c.coefSet true ph) k
    let hc := fun ph k => coefOf tab c.coefSet false ph k
    let ch := fun n => scaleAxis d.srcW d.dstW i hc fun x => scaleAxis d.srcH d.dstH j vc fun y => (px x y).ch n
    ⟨ch 0, ch 1, ch 2, ch 3⟩

/-! ### Blending and quantisation (R261) -/

def mul10 (x y : Nat) : Nat := (x * y + 511) / 1023

/-- Effective alpha (Table 09-8). -/
def effAlpha (blend p a : Nat) : Nat := if blend = 0 then p else mul10 p a

/-- One channel of the blend (Table 09-8). -/
def blend1 (blend p q s d : Nat) : Nat :=
  min 1023 (match blend with
    | 0 => (s * p + d * (1023 - p) + 511) / 1023
    | 1 => (s * p + d * (1023 - q) + 511) / 1023
    | _ => (s * q + d * (1023 - q) + 511) / 1023)

/-- A layer pixel over what lies below it. -/
def blendPx (blend p : Nat) (s d : Px) : Px :=
  let q := effAlpha blend p s.a
  ⟨1023, blend1 blend p q s.c0 d.c0, blend1 blend p q s.c1 d.c1, blend1 blend p q s.c2 d.c2⟩

/-- Stage 8: one channel as stored (R261). -/
def quant (deep : Bool) (v : Nat) : Nat := if deep then v else min 255 ((v + 2) / 4)

/-- The stored pixel value of R279. -/
def storedPx (deep : Bool) (p : Px) : Nat :=
  quant deep p.c0 * 2 ^ 20 + quant deep p.c1 * 2 ^ 10 + quant deep p.c2

/-- Raw bytes of a tile (R272). -/
def rawTile (deep : Bool) (px : List Nat) : List Byte :=
  px.flatMap fun v => if deep then leBytes 4 v else leBytes 1 (bits v 27 20) ++ leBytes 1 (bits v 17 10) ++ leBytes 1 (bits v 7 0)

/-- Pixel values of a raw tile. -/
def unrawTile (deep : Bool) (l : List Byte) : List Nat :=
  (List.range 1024).map fun n =>
    if deep then leAt l (4 * n) 4 % 2 ^ 30
    else leAt l (3 * n) 1 * 2 ^ 20 + leAt l (3 * n + 1) 1 * 2 ^ 10 + leAt l (3 * n + 2) 1

/-- Spans of memory that a layer's fetch reads: address and length (stage 1 of Table 09-5). -/
def Desc.spans (d : Desc) : List (Nat × Nat) :=
  match fmtOf d.format with
  | none => []
  | some f =>
    if d.comp then
      let bx0 := d.srcX / 32
      let bx1 := (d.srcX + d.srcW - 1) / 32
      ((List.range ((d.srcY + d.srcH - 1) / 32 + 1 - d.srcY / 32)).flatMap fun k =>
        let by_ := d.srcY / 32 + k
        (d.plane 2 + by_ * d.pitch 2 + 8 * bx0, 8 * (bx1 + 1 - bx0))
          :: (List.range 32).map fun l => (d.plane 0 + (32 * by_ + l) * d.pitch 0 + 128 * bx0, 128 * (bx1 + 1 - bx0)))
    else
      (List.range f.es.length).flatMap fun p =>
        let sx := p ≠ 0 && f.subX
        let sy := p ≠ 0 && f.subY
        let x0 := if sx then d.srcX / 2 - 1 else d.srcX
        let x1 := if sx then min (d.planeW f p - 1) ((d.srcX + d.srcW - 1) / 2 + 1) else d.srcX + d.srcW - 1
        let y0 := if sy then d.srcY / 2 - 1 else d.srcY
        let y1 := if sy then min (d.planeH f p - 1) ((d.srcY + d.srcH - 1) / 2 + 1) else d.srcY + d.srcH - 1
        (List.range (y1 + 1 - y0)).map fun k =>
          (d.plane p + (y0 + k) * d.pitch p + x0 * f.es.getD p 1, (x1 + 1 - x0) * f.es.getD p 1)

/-- Blocks that the crop of a coded source touches (R248). -/
def Desc.blocks (d : Desc) : List (Nat × Nat) :=
  if d.comp then
    (List.range ((d.srcY + d.srcH - 1) / 32 + 1 - d.srcY / 32)).flatMap fun j =>
      (List.range ((d.srcX + d.srcW - 1) / 32 + 1 - d.srcX / 32)).map fun i => (d.srcX / 32 + i, d.srcY / 32 + j)
  else []

end Sys2Proof.Machine
end

