-- ==== Sys2Proof/Machine/Tarn.lean ====
section
/-!
DEFINITION. Tarn store (chapter 10): granules, banks and the free pool (R271, R293, R302, R303), tile forms (R272, R278),
tile maps (R279 to R282), integrity (R299 to R301) and the rows TARN_DEBUG_WRITE, TARN_PATROL_READ, BANK_RETIRE,
BANK_REMAP and ARBITER_FREEZE_WRITE.
-/
namespace Sys2Proof.Machine

/-! ### Allocation -/

/-- A free granule of bank `b`, if it has one; the position in the bank is left to the device: `r` chooses it. -/
@[irreducible] def pickGran (taken : List Nat) (b r : Nat) : Option Nat :=
  (freePos taken b).head?.map fun f => nth (freePos taken b) (r % (freePos taken b).length) f * 256 + b

/-- Take one granule of each of the first `n` open banks, from bank `b` on, that have one free (R293). The position in a
bank is a free value. -/
def takeGrans (s : State) (taken : List Nat) : List Nat → Nat → State × List Nat
  | _, 0 => (s, [])
  | [], _ + 1 => (s, [])
  | b :: bs, n + 1 =>
    match pickGran taken b s.draw.1 with
    | none => takeGrans s taken bs (n + 1)
    | some g => ((takeGrans s.draw.2 taken bs n).1, g :: (takeGrans s.draw.2 taken bs n).2)

/-- Allocate the granules of one tile, starting in the bank after the one that the previous tile started in (R293). -/
def State.alloc (s : State) (n : Nat) : State × List Nat :=
  let order := ((List.range 256).map fun k => (s.tst.lastBank + 1 + k) % 256).filter s.bankOpen
  match takeGrans s s.takenGrans order n with
  | (s1, []) => (s1, [])
  | (s1, g :: l) => (s1.modTst fun t => { t with lastBank := g % 256 }, g :: l)

/-- Write tile bytes into granules, 1,024 bytes each (R272). -/
def State.storeGrans (s : State) : List Nat → List Byte → State
  | [], _ => s
  | g :: gs, l => (s.tarnStore (1024 * g) (l.take 1024)).storeGrans gs (l.drop 1024)

/-- The bytes of a tile in the store. -/
def State.tileBytes (s : State) (e : TileEntry) : List Byte :=
  e.grans.flatMap fun g => memRead s.tarn (1024 * g) 1024

/-- The stored form of a tile (R278): its bytes, none for a solid tile. -/
def tileForm (deep : Bool) (px : List Nat) : Option (List Byte) :=
  if px.all (· == px.headD 0) then none
  else
    let c := swEncode (b2n deep) px
    let g := if deep then 4 else 3
    if c.length ≤ (g - 1) * 1024 then some c else some (rawTile deep px)

/-- Store a composed tile into new granules: its entry. -/
def State.storeTile (s : State) (deep : Bool) (px : List Nat) : State × TileEntry :=
  match tileForm deep px with
  | none => (s, { count := 0, grans := [], colour := px.headD 0, lost := false })
  | some l =>
    match s.alloc (ceilDiv l.length 1024) with
    | (s1, gs) => (s1.storeGrans gs l, { count := gs.length, grans := gs, colour := 0, lost := false })

/-- Pixel values of a tile (R274, R277): nothing when it is LOST or fails to decode. -/
def State.tilePx (s : State) (deep : Bool) (e : TileEntry) : Option (List Nat) :=
  if e.lost then none
  else if e.count = 0 then some (List.replicate 1024 e.colour)
  else if e.count = (if deep then 4 else 3) then some (unrawTile deep (s.tileBytes e))
  else swDecode (b2n deep) (s.tileBytes e)

/-! ### Maps -/

/-- Force tile `k` of head `h` (R291). -/
def State.force (s : State) (h k : Nat) : State :=
  s.modHc h fun c => if c.forced.contains k then c else { c with forced := c.forced ++ [k] }

/-- Mark tile `k` LOST in every map of head `h` whose entry holds granule `g`, or in both maps when none is given. -/
def State.loseTile (s : State) (h k : Nat) (g : Option Nat) : State :=
  let lose := fun (e : TileEntry) =>
    match g with
    | some g => if e.grans.contains g then { e with lost := true } else e
    | none => { e with lost := true }
  s.modHc h fun c => { c with disp := c.disp.modify k lose, comp := c.comp.modify k lose }

/-- EMPTY sets for every retiring bank that no map names any longer, with event 184 (R302). -/
def State.bankCheck (s : State) : State :=
  s.each (List.range 256) fun s b =>
    if s.on F.TARN_BANK_MAP_RETIRE b && !s.on F.TARN_BANK_MAP_EMPTY b && s.bankUsed b == 0
    then (s.wr F.TARN_BANK_MAP_EMPTY 1 b).raise 184 b else s

/-! ### Integrity (R299, R301) -/

/-- Count a corrected word; at THR event 182 and the count restarts. -/
def State.tarnCe (s : State) : State :=
  let s1 := s.inc F.TARN_CE_COUNT 1
  if s.rd F.TARN_CE_THR_THR ≤ s1.rd F.TARN_CE_COUNT then (s1.wr F.TARN_CE_COUNT 0).raise 182 else s1

/-- Tiles whose entry in some map names granule `g`: head and tile. -/
def State.tilesOf (s : State) (g : Nat) : List (Nat × Nat) :=
  (List.range 8).flatMap fun h =>
    ((List.range (max (s.hc h).disp.length (s.hc h).comp.length)).filter fun k =>
      (nth (s.hc h).disp k default).grans.contains g || (nth (s.hc h).comp k default).grans.contains g).map fun k => (h, k)

/-- Granules of an entry. -/
def State.gransOf (s : State) (h k : Nat) : List Nat := (s.entry h k).grans

/-- A tile's content is unavailable: LOST, its granules retired, event 183 and the record of TARN_UE_INFO, forced. -/
def State.tarnUe (s : State) (h k g : Nat) : State :=
  let gs := ((s.entry h k).grans ++ (nth (s.hc h).comp k default).grans).eraseDups
  let gs := if (s.entry h k).grans.contains g then (s.entry h k).grans else gs
  let s1 := s.loseTile h k (some g)
  let s2 := s1.modTst fun t => { t with retired := t.retired ++ gs.filter fun x => !t.retired.contains x }
  let s3 := if s2.on F.TARN_UE_INFO_VALID then s2
    else ((s2.wr F.TARN_UE_INFO_VALID 1).wr F.TARN_UE_INFO_BANK (s.physBank g)).wr F.TARN_UE_INFO_GRANULE g
  (s3.force h k).raise 183 (s.physBank g)

/-- An uncorrectable word of the entry of tile `k` of head `h` (R301): LOST and forced, event 185. Its granules are not
retired. -/
def State.mapEcc (s : State) (h k : Nat) : State := ((s.loseTile h k none).force h k).raise 185 h

/-- A read of granule `g` with an ECC outcome (R299). -/
def State.granuleRead (s : State) (g : Nat) (ecc : EccResult) : State :=
  match ecc with
  | .ok => s
  | .corrected => (s.tarnCe).each (s.tilesOf g) fun s (t : Nat × Nat) => s.force t.1 t.2
  | .uncorrectable => s.each (s.tilesOf g) fun s (t : Nat × Nat) => s.tarnUe t.1 t.2 g

/-- Outcome of reading word `w` of granule `g`: as the check says, or uncorrectable where a merged word was stored so. -/
def State.wordEcc (s : State) (g w : Nat) (ecc : EccResult) : EccResult :=
  if s.tst.bad.contains (128 * g + w) then .uncorrectable else ecc

/-- TARN_PATROL_READ (R300, R299, R301): the next granule, in ascending order, that any map names. `mapEcc` names a head
whose map entry, found while the patrol looks up the granule's tile, holds an uncorrectable word. -/
def execTarnPatrolRead (word : Fin 128) (ecc : EccResult) (mapEcc : Option (Fin 8)) (s : State) : Ans :=
  let named := s.namedGrans
  if s.rd F.TARN_CFG_PATROL_MS = 0 || named.isEmpty then .next s
  else
    let ahead := named.filter fun g => decide (s.tst.patrolPos ≤ g)
    let g := (if ahead.isEmpty then named else ahead).foldl min (131071)
    let s1 := s.modTst fun t => { t with patrolPos := g + 1 }
    let s2 := match mapEcc with
      | some h => s1.each ((s1.tilesOf g).filter fun (t : Nat × Nat) => t.1 == h.val) fun s (t : Nat × Nat) => s.mapEcc t.1 t.2
      | none => s1
    .next (s2.granuleRead g (s2.wordEcc g word.val ecc))

/-! ### The debug window (R273) -/

/-- TARN_DEBUG_WRITE (R38, R273). -/
def execTarnDebugWrite (ini : Initiator) (off : Fin 134217728) (data : List Byte) (ecc : EccResult) (s : State) : Ans :=
  let t := s.tag ini
  s.by ini fun s =>
  if data.isEmpty || decide (134217728 < off.val + data.length) then .next s
  else if t.secure then .next ((s.debugWrite off.val data ecc).answer 0)
  else .next ((s.tarnDenied t (tarnBase + off.val) true).answer 0)

/-! ### Bank retirement and remapping (R302, R303) -/

/-- A write of TARN_BANKb_MAP. -/
def State.bankWrite (s : State) (ini : Initiator) (b v : Nat) : State :=
  let retire := bit v 31
  let phys := v % 512
  if !s.isSec ini then
    (if retire != s.on F.TARN_BANK_MAP_RETIRE b || phys != s.rd F.TARN_BANK_MAP_PHYS b
      then s.denied ini (0x3801000 + 4 * b) else s)
  else
    let s1 := if s.on F.TARN_BANK_MAP_EMPTY b && decide (phys < 264) then s.wr F.TARN_BANK_MAP_PHYS phys b else s
    if retire then (s1.wr F.TARN_BANK_MAP_RETIRE 1 b).bankCheck
    else (s1.wr F.TARN_BANK_MAP_RETIRE 0 b).wr F.TARN_BANK_MAP_EMPTY 0 b

/-- BANK_RETIRE (R302). -/
def execBankRetire (ini : Initiator) (b : Fin 256) (v : Word) (s : State) : Ans := s.busBy ini fun s => .next (s.bankWrite ini b.val v.toNat)

/-- BANK_REMAP (R303). -/
def execBankRemap (ini : Initiator) (b : Fin 256) (v : Word) (s : State) : Ans := s.busBy ini fun s => .next (s.bankWrite ini b.val v.toNat)

/-- The physical bank of an arbiter still holds granules that a map names (R135). -/
def State.bankHeld (s : State) (n : Nat) : Bool :=
  decide (n < 264) && s.namedGrans.any fun g => s.physBank g == n

/-- ARBITER_FREEZE_WRITE (R134, R135). -/
def execArbiterFreezeWrite (ini : Initiator) (n : Fin 289) (v : Word) (s : State) : Ans :=
  s.busBy ini fun s =>
  let f := bit v.toNat 0
  if !s.isSec ini then
    .next (if f != s.on F.RIP_ARB_CTRL_FREEZE n.val then s.denied ini (0x110000 + 8 * n.val) else s)
  else if f && s.bankHeld n.val then .next (s.wr F.RIP_ARB_STAT_FREEZE_REFUSED 1 n.val)
  else .next (s.wrB F.RIP_ARB_CTRL_FREEZE f n.val)

end Sys2Proof.Machine
end

