-- ==== Sys2Proof/Machine/Basin.lean ====
section
/-!
DEFINITION. Basin (chapters 09 and 10): commits (R252, R283 to R287), compositions from their latch point to their swap
(R262 to R264, R291 to R298), the painting of a tile (Table 09-5), the owner map (R267) and the rows SLOT_COMMIT,
QUEUE_COMMIT_ACCEPT, RESERVATION_GRANT, TILE_COMPOSED, LAYER_JOB_DONE, COMPOSITION_COMPLETE and LAYER_FAULT.
-/
namespace Sys2Proof.Machine

/-! ### Slots -/

/-- Tag under which a slot's memory is reached (R243, R266). -/
def State.slotTag (s : State) (i : Nat) : WorkTag :=
  if (s.layer i).secure then secTag s else s.coveTag (s.layer i).owner

/-- Raise a slot's event: COVE is the owner, or 0 with SECURE_ORIGIN (R270). -/
def State.slotRaise (s : State) (src i info : Nat) : State :=
  if (s.layer i).secure then s.raise src info 0 true else s.raise src info (s.layer i).owner

/-- A fence access failed (R264): FENCE_FAULT, CODE 7 and event 161. -/
def State.fenceFault (s : State) (i : Nat) (rel : Bool) : State :=
  ((s.wr F.BAS_SLOT_STAT_FENCE_FAULT 1 i).wr F.BAS_SLOT_STAT_CODE 7 i).slotRaise 161 i (i + 256 * b2n rel)

/-- Write a descriptor's release fence (R263, R264); an older generation's is discarded and counted (R34). -/
def State.release (s : State) (i : Nat) (raw : List Byte) (gen : Nat) : State :=
  let d := parseDesc raw
  if d.relAddr = 0 then s
  else if !(s.layer i).secure && gen != s.gen (s.layer i).owner then s.inc F.COVE_DISCARD_COUNT 1 (s.layer i).owner
  else match s.engWrite (s.slotTag i) d.relAddr (leBytes 8 d.relValue) with
    | (s1, none) => s1.fencesAgain fun _ => true
    | (s1, some _) => s1.fenceFault i true

/-! ### Commits -/

/-- A completion record (R287). -/
def commitRecord (status rejected target shown : Nat) : List Byte :=
  leBytes 1 status ++ leBytes 1 rejected ++ leBytes 2 0 ++ leBytes 4 target ++ leBytes 4 shown ++ leBytes 4 0

/-- The last accepted slot of a commit has been shown or superseded: its record is written and event 180 raised. -/
def State.commitEnd (s : State) (c : Commit) : State :=
  let status := if c.superseded then 3 else 2
  let s1 := match c.queue with
    | some (cv, q) =>
      if c.wantRecord then s.queueRecord cv q c.gen c.record (commitRecord status c.rejected c.target c.shown) else s
    | none => s
  if c.event && c.anyShown then s1.slotRaise 180 c.low c.low else s1

/-- Slot `i` of commit `id` is done with: shown at a frame, or superseded. -/
def State.commitSlot (s : State) (id i : Nat) (shown : Option Nat) : State :=
  match s.bas.commits.find? fun c => c.id == id && c.left.contains i with
  | none => s
  | some c =>
    let c1 := match shown with
      | some f => { c with left := c.left.erase i, shown := f, anyShown := true }
      | none => { c with left := c.left.erase i, superseded := true }
    let others := s.bas.commits.filter fun x => x.id != id
    if c1.left.isEmpty then (s.modBas fun b => { b with commits := others }).commitEnd c1
    else s.modBas fun b => { b with commits := others ++ [c1] }

/-- The frame in which a commit accepted now appears (R289). -/
def State.targetOf (s : State) (h : Nat) : Nat := (s.rd F.OUT_HEAD_SEQ_SEQ h + 1 + b2n (s.hc h).latched) % 2 ^ 32

/-- Drop the descriptor that slot `i` waits with: its release fence is written at once and its commit is superseded
(R262, R286). -/
def State.supersede (s : State) (i : Nat) : State :=
  match (s.slot i).pend with
  | none => s
  | some p =>
    ((((s.modSlot i fun k => { k with pend := none }).wr F.BAS_SLOT_STAT_PENDING 0 i).release i p.raw p.gen).commitSlot
      p.commit i none)

/-- Accept a descriptor for slot `i` (R262, R286, R287). -/
def State.acceptDesc (s : State) (cid i : Nat) (raw : List Byte) : State :=
  let gen := s.gen (s.layer i).owner
  let s1 := (s.supersede i).modSlot i fun k => { k with pend := some { raw := raw, gen := gen, commit := cid, taken := false } }
  let s2 := (s1.wr F.BAS_SLOT_STAT_CODE 0 i).wrB F.BAS_SLOT_STAT_PENDING ((parseDesc raw).acqAddr != 0) i
  s2.wr F.BAS_SLOT_COMMIT_SEQ_TARGET (s2.targetOf (i / 8)) i

/-- Reject a descriptor (R252). -/
def State.rejectDesc (s : State) (i : Nat) (raw : List Byte) (code : Nat) : State :=
  let s1 := ((s.wr F.BAS_SLOT_STAT_REJECTED 1 i).wr F.BAS_SLOT_STAT_CODE code i).release i raw (s.gen (s.layer i).owner)
  s1.slotRaise 160 i (i + code * 256)

/-- Accept or reject each slot's descriptor: the state, the mask rejected and the slots accepted. -/
def commitDescs (cid : Nat) : List (Nat × List Byte) → State → State × Nat × List Nat
  | [], s => (s, 0, [])
  | (i, raw) :: l, s =>
    let code := (parseDesc raw).check (s.layer i)
    if code = 0 then
      match commitDescs cid l (s.acceptDesc cid i raw) with
      | (s', m, acc) => (s', m, i :: acc)
    else
      match commitDescs cid l (s.rejectDesc i raw code) with
      | (s', m, acc) => (s', m + 2 ^ (i % 8), acc)

/-- Commit checks (Table 10-4): 0, or the status on failure. -/
def State.commitCheck (s : State) (named : List Nat) : Nat :=
  let a := s.layer (named.headD 0)
  if s.safe then 5
  else if s.chip.phase = .drain then 6
  else if !s.runOrDip then 7
  else if !named.all fun i => (s.layer i).secure || s.coveReady (s.layer i).owner then 8
  else if !named.all fun i => (s.layer i).en && !(s.head (i / 8)).follow && (s.layer i).owner == a.owner
      && (s.layer i).secure == a.secure then 9
  else 0

/-- Slots of head `h` named by a mask. -/
def slotsOf (h mask : Nat) : List Nat := (setBitsList 8 mask).map (8 * h + ·)

/-- The staged descriptor of slot `i` (R242). -/
def State.staged (s : State) (i : Nat) : List Byte :=
  (List.range 32).flatMap fun k => leBytes 4 (s.rd F.BAS_SLOT_DESC_DESC i k)

/-- Open a commit and hand its descriptors on: the state and the mask rejected. -/
def State.openCommit (s : State) (descs : List (Nat × List Byte)) (c : Commit) : State × Nat × Bool :=
  let id := s.bas.nextCommit
  let s0 := s.modBas fun b => { b with nextCommit := id + 1 }
  match commitDescs id descs s0 with
  | (s1, m, acc) =>
    if acc.isEmpty then (s1, m, false)
    else
      let h := acc.headD 0 / 8
      let t := s1.rd F.BAS_SLOT_COMMIT_SEQ_TARGET (8 * h + acc.headD 0 % 8)
      let c1 := { c with id := id, left := acc, rejected := m, target := t }
      (s1.modBas fun b => { b with commits := b.commits ++ [c1] }, m, true)

/-- A commit that came through a register, and its parts that do not matter there. -/
def plainCommit : Commit :=
  { id := 0, queue := none, gen := 0, record := 0, wantRecord := false, event := false, low := 0, left := [], rejected := 0,
    target := 0, shown := 0, anyShown := false, superseded := false }

/-- Set BAS_SLOTi_COMMIT_STAT. -/
def State.commitStat (s : State) (i status rejected : Nat) : State :=
  ((s.wr F.BAS_SLOT_COMMIT_STAT_DECIDED 1 i).wr F.BAS_SLOT_COMMIT_STAT_STATUS status i).wr
    F.BAS_SLOT_COMMIT_STAT_REJECTED rejected i

/-- A register commit of slot `i` with those of a mask (R283, R285). -/
def State.regCommit (s : State) (i mask : Nat) : State :=
  let h := i / 8
  let named := slotsOf h (mask ||| 2 ^ (i % 8))
  let st := s.commitCheck named
  if st ≠ 0 then (s.commitStat i st 0).slotRaise 179 i (i + st * 256)
  else
    match s.openCommit (named.map fun k => (k, s.staged k)) plainCommit with
    | (s1, m, ok) => s1.commitStat i (if ok then 1 else 4) m

/-- SLOT_COMMIT (R240, R283): a write of BAS_SLOTi_COMMIT through the slot's staging window. -/
def execSlotCommit (ini : Initiator) (i : Fin 64) (v : Word) (s : State) : Ans :=
  s.by ini fun s =>
  let off := 0x3040200 + 0x1000 * i.val
  let c := (s.layer i.val).owner
  let page := 0x8000000 + c * 0x200000 + 0x100200 + 0x1000 * i.val
  let go := bit v.toNat 31
  if !s.slotWindow i.val then .next (s.accessErr (s.tag ini) (regBase + off) 0 true)
  else if (s.layer i.val).secure then
    if s.isSec ini then .next (if go then s.regCommit i.val (v.toNat % 256) else s) else .next (s.denied ini off)
  else if !s.pageOk ini c then .next (s.pageDenied ini c page true)
  else .next (if go then s.regCommit i.val (v.toNat % 256) else s)

/-- Table 10-3 holds for a queue commit descriptor. -/
def queueCommitOk (l : List Byte) : Bool :=
  decide (leAt l 0 1 ≤ 1) && decide (leAt l 1 1 < 8) && leAt l 2 1 != 0 && decide (leAt l 3 1 < 4) && leAt l 4 4 == 0
    && leAt l 8 8 % 128 == 0 && leAt l 16 8 % 16 == 0 && (l.drop 24).all (· == 0)

/-- Read the layer descriptors of a queue commit, one after another. -/
def readDescs (t : WorkTag) : List Nat → Nat → State → State × Except EngErr (List (Nat × List Byte))
  | [], _, s => (s, .ok [])
  | i :: is, a, s =>
    match s.engRead t a 128 with
    | (s1, .error e) => (s1, .error e)
    | (s1, .ok l) => match readDescs t is (a + 128) s1 with
      | (s2, .ok r) => (s2, .ok ((i, l) :: r))
      | r => r

/-- Status of a queue commit: Table 10-4, and the slots are the queue's own cove's (01.3: each cove submits layer
configurations for the layer slots it owns; DEDUCED). -/
def State.queueCheck (s : State) (c : Nat) (named : List Nat) : Nat :=
  let st := s.commitCheck named
  if st ≠ 0 then st
  else if named.all fun i => !(s.layer i).secure && (s.layer i).owner == c then 0 else 9

/-- Decide a queue commit whose reads have completed (R284, R285, R287). -/
def State.queueDecide (s : State) (c q gen : Nat) (l : List Byte) (descs : List (Nat × List Byte)) : State :=
  let named := descs.map (·.1)
  let low := named.headD 0
  let rec? := bit (leAt l 3 1) 0
  let cpa := leAt l 16 8
  let st := s.queueCheck c named
  if st ≠ 0 then
    let s1 := s.slotRaise 179 low (low + st * 256)
    if rec? then s1.queueRecord c q gen cpa (commitRecord st 0 0 0) else s1
  else
    let cm := { plainCommit with queue := some (c, q), gen := gen, record := cpa, wantRecord := rec?,
                                 event := bit (leAt l 3 1) 1, low := low }
    match s.openCommit descs cm with
    | (s1, m, true) => let _ := m; s1
    | (s1, m, false) => if rec? then s1.queueRecord c q gen cpa (commitRecord 4 m 0 0) else s1

/-- QUEUE_COMMIT_ACCEPT (R284): the reads of the descriptor fetched from queue `q` of cove `c` complete. -/
def execQueueCommitAccept (c : Fin 32) (q : Fin 64) (s : State) : Ans :=
  match s.bas.queue.find? fun d => d.cove == c.val && d.q == q.val with
  | none => .next s
  | some d =>
    let s1 := s.modBas fun b => { b with queue := b.queue.erase d }
    if !queueCommitOk d.bytes then .next (s1.queueFault c.val q.val 1)
    else if leAt d.bytes 0 1 = 0 then
      let s2 := s1.queueAccept c.val q.val
      .next (if bit (leAt d.bytes 3 1) 0 then s2.queueRecord c.val q.val d.gen (leAt d.bytes 16 8) (commitRecord 1 0 0 0) else s2)
    else
      match readDescs (s1.coveTag c.val) (slotsOf (leAt d.bytes 1 1) (leAt d.bytes 2 1)) (leAt d.bytes 8 8) s1 with
      | (s2, .error e) => .next (s2.queueFault c.val q.val e.code)
      | (s2, .ok descs) => .next ((s2.queueAccept c.val q.val).queueDecide c.val q.val d.gen d.bytes descs)

/-! ### Latch point: what each slot does -/

/-- A waiting descriptor is not taken at a latch point: its cove is marked OVER_SHARE in the Display region (R576). -/
def State.heldBack (s : State) (i : Nat) (p : PendDesc) : Bool :=
  !p.taken && !(s.layer i).secure && s.overShare .display (s.layer i).owner

/-- An acquire fence: reached, not reached, or its read failed (R262, R264). -/
inductive Fence where
  | reached | waiting | failed
  deriving DecidableEq, Repr

/-- Test an acquire fence under the slot's tag. -/
def State.fenceTest (s : State) (i : Nat) (d : Desc) : State × Fence :=
  if d.acqAddr = 0 then (s, .reached)
  else match s.engRead (s.slotTag i) d.acqAddr 8 with
    | (s1, .ok l) => (s1, if d.acqValue ≤ ofLe l then .reached else .waiting)
    | (s1, .error _) => (s1.fenceFault i false, .failed)

/-- A latch point takes the waiting descriptor: TARGET is rewritten (R289, R294). -/
def State.takeDesc (s : State) (i seq : Nat) (p : PendDesc) : State :=
  if p.taken then s
  else
    let t := (seq + 1) % 2 ^ 32
    let s1 := (s.modSlot i fun k => { k with pend := some { p with taken := true } }).wr F.BAS_SLOT_COMMIT_SEQ_TARGET t i
    s1.modBas fun b => { b with commits := b.commits.map fun c => if c.id = p.commit then { c with target := t } else c }

/-- A stale slot (R295): STALE_FRAMES rises, and at STALE_LIMIT the slot falls back to its placeholder. Answers whether it
has just done so. -/
def State.staleSlot (s : State) (i : Nat) : State × Bool :=
  let n := s.rd F.BAS_SLOT_STAT_STALE_FRAMES i
  let falls := decide ((s.layer i).staleLimit ≤ n) && !(s.slot i).holder
  let s1 := s.incSat F.BAS_SLOT_STAT_STALE_FRAMES 1 i
  if falls then
    (((s1.modSlot i fun k => { k with holder := true }).wr F.BAS_SLOT_STAT_PLACEHOLDER 1 i).slotRaise 177 i i, true)
  else (s1, false)

/-- The descriptor of slot `i` takes effect (R262, R296, R298). -/
def State.effectDesc (s : State) (i : Nat) (p : PendDesc) : State :=
  let s1 := s.modSlot i fun k => { k with pend := none, act := p.raw, actGen := p.gen, holder := false, faulted := false }
  ((s1.wr F.BAS_SLOT_STAT_PENDING 0 i).wr F.BAS_SLOT_STAT_STALE_FRAMES 0 i).wr F.BAS_SLOT_STAT_PLACEHOLDER 0 i

/-- What slot `i` contributes as it stands; `old` is the descriptor in effect before the latch point. -/
def State.planOf (s : State) (i : Nat) (old : List Byte) (taking : Bool) (commit gen : Nat) (allDirty : Bool) : Plan :=
  let k := s.slot i
  let ph := (k.holder || k.faulted) && !taking
  let raw := if k.act.isEmpty && ph then (match k.pend with | some p => p.raw | none => []) else k.act
  { slot := i, raw := raw, old := old, taking := taking, commit := commit, gen := gen, placeholder := ph,
    allDirty := allDirty || k.faulted, released := false }

/-- Slot `i` at a latch point of frame `seq` (R262, R291, R295). -/
def State.latchSlot (s : State) (i seq : Nat) : State × Plan :=
  let k := s.slot i
  let s0 := s.modSlot i fun k => { k with recompose := false }
  match k.pend with
  | none => (s0, s0.planOf i k.act false 0 k.actGen k.recompose)
  | some p =>
    if s0.heldBack i p then (s0, s0.planOf i k.act false 0 k.actGen k.recompose)
    else
      let s1 := s0.takeDesc i seq p
      match s1.fenceTest i (parseDesc p.raw) with
      | (s2, .reached) =>
        let s3 := s2.effectDesc i p
        (s3, s3.planOf i k.act true p.commit p.gen k.recompose)
      | (s2, .waiting) =>
        match s2.staleSlot i with
        | (s3, fell) => (s3, s3.planOf i k.act false 0 k.actGen (k.recompose || fell))
      | (s2, .failed) =>
        let s3 := s2.supersede i
        (s3, s3.planOf i k.act false 0 k.actGen k.recompose)

/-- The slots of a head at its latch point, ascending. -/
def latchSlots (seq : Nat) : List Nat → State → State × List Plan
  | [], s => (s, [])
  | i :: is, s =>
    match s.latchSlot i seq with
    | (s1, p) => match latchSlots seq is s1 with | (s2, ps) => (s2, p :: ps)

/-! ### Starting a composition (R292, R293) -/

/-- A destination rectangle clipped to the head's active area: x0, y0, x1, y1 (R251). -/
def State.clipRect (s : State) (h : Nat) (raw : List Byte) : Option (Nat × Nat × Nat × Nat) :=
  if raw.isEmpty then none
  else
    let d := parseDesc raw
    let x0 := d.dstX.toNat
    let y0 := d.dstY.toNat
    let x1 := min (d.dstX + d.dstW).toNat (s.head h).hActive
    let y1 := min (d.dstY + d.dstH).toNat (s.head h).vActive
    if x0 < x1 && y0 < y1 then some (x0, y0, x1, y1) else none

/-- Pixel (x, y) lies in a clipped rectangle. -/
def inRect (r : Option (Nat × Nat × Nat × Nat)) (x y : Nat) : Bool :=
  match r with
  | some (x0, y0, x1, y1) => decide (x0 ≤ x) && decide (x < x1) && decide (y0 ≤ y) && decide (y < y1)
  | none => false

/-- Tile `k` intersects a clipped rectangle outside the keep-clear rectangle. -/
def State.tileIn (s : State) (h : Nat) (r : Option (Nat × Nat × Nat × Nat)) (k : Nat) : Bool :=
  match r with
  | some (x0, y0, x1, y1) =>
    let x := k % s.tilesW h * 32
    let y := k / s.tilesW h * 32
    decide (x < x1) && decide (x0 < x + 32) && decide (y < y1) && decide (y0 < y + 32) && !s.tileLegal h k
  | none => false

/-- A plan is composed: its slot is enabled, and it shows a placeholder or a descriptor with EN set (R261). -/
def State.composed (s : State) (p : Plan) : Bool :=
  (s.layer p.slot).en && !p.raw.isEmpty && (p.placeholder || (parseDesc p.raw).en)

/-- Tile `k` is dirty through a plan (R269, R292). -/
def State.planDirty (s : State) (h : Nat) (p : Plan) (k : Nat) : Bool :=
  (p.taking || p.allDirty) && (s.tileIn h (s.clipRect h p.old) k || s.tileIn h (s.clipRect h p.raw) k)

/-- Tiles forced by the evacuation of retiring banks, at most EVAC (R302). -/
def State.evacTiles (s : State) (h : Nat) : List Nat :=
  (((List.range (s.hc h).disp.length).filter fun k =>
    (s.entry h k).grans.any fun g => s.on F.TARN_BANK_MAP_RETIRE (g % 256))).take (max (s.rd F.TARN_CFG_EVAC) 1)

/-- A request ranked above head `h` is waiting (R293). -/
def State.rankedAbove (s : State) (h : Nat) : Bool :=
  (List.range 8).any fun g =>
    (match (s.hc g).cur with | some c => !c.granted && !c.restart | none => false)
      && (((s.head g).safety && !(s.head h).safety) || ((s.head g).safety == (s.head h).safety && decide (g < h)))

/-- The granules that head `h`'s composition needs: D × g_h. -/
def State.needOf (s : State) (h : Nat) (c : Comp) : Nat := c.dirty.length * s.gOf h

/-- The reservation of head `h` can be granted now (R293). -/
def State.canReserve (s : State) (h : Nat) (c : Comp) : Bool :=
  !c.restart && decide (s.reserved + s.needOf h c ≤ s.freeGrans) && !s.rankedAbove h

/-- Grant the reservation of head `h`. -/
def State.grantComp (s : State) (h : Nat) (c : Comp) : State :=
  s.modComp h fun x => { x with granted := true, resv := s.needOf h c }

/-- The layer jobs of a composition (R266, R580): one for each plan composed on a dirty tile. -/
def State.layerJobs (s : State) (h : Nat) (plans : List Plan) (dirty : List Nat) : List LayerJob :=
  (plans.filter fun p => s.composed p && dirty.any fun k => s.tileIn h (s.clipRect h p.raw) k).map fun p =>
    let d := parseDesc p.raw
    { slot := p.slot, cove := if (s.layer p.slot).secure then none else some (s.layer p.slot).owner,
      cost := if p.placeholder then 0 else ceilDiv (d.srcW * d.srcH) 1024, kind := none, done := false, decoded := false }

/-- Start a composition from captured plans: dirty tiles, jobs, reservation; event 181 where it must wait. -/
def State.beginComp (s : State) (h : Nat) (c : Comp) : State :=
  let all := List.range (s.hc h).disp.length
  let dirty := all.filter fun k => c.forced.contains k || c.plans.any fun p => s.planDirty h p k
  let c1 := { c with dirty := dirty, left := dirty, jobs := s.layerJobs h c.plans dirty, granted := false, resv := 0,
                     complete := false, restart := false }
  let s1 := (s.modHc h fun k => { k with comp := k.disp, ownNew := k.own, cur := some c1 }).wr F.BAS_HEAD_DIRTY_TILES dirty.length h
  if s1.canReserve h c1 then s1.grantComp h c1 else s1.raise 181 h

/-- RESERVATION_GRANT (R293). -/
def execReservationGrant (h : Fin 8) (s : State) : Ans :=
  match (s.hc h.val).cur with
  | some c => if !c.granted && s.canReserve h.val c then .next (s.grantComp h.val c) else .next s
  | none => .next s

/-! ### Painting a tile -/

/-- One byte of a slot's source as Basin reads it now (R297); a line that reads as uncorrectable gives 0 (R217). -/
def State.peek (s : State) (t : WorkTag) (a : Nat) : Nat :=
  let look := fun pa => if s.res.poison.contains (pa / 64) then 0 else (spGet s.dram pa memDflt).toNat
  if t.secure then look a
  else match (s.xlate t.cove a false).2 with
    | .ok pa => look pa
    | .fault _ => 0

/-- Read a span of a source page by page: the state, and whether the read is blocked. An uncorrectable line is recorded
and its data is 0. -/
def State.touch (s : State) (t : WorkTag) (a : Nat) : Nat → Nat → State × Bool
  | 0, _ => (s, false)
  | fuel + 1, len =>
    if len = 0 then (s, false) else
    let n := inPage a len
    let (s1, x) := if t.secure then (s, Xlate.ok a) else s.xlate t.cove a false
    match x with
    | .fault why => (s1.iotFault t.cove a false why, true)
    | .ok pa =>
      match s1.dramCheck t pa n false with
      | .ok => State.touch s1 t (a + n) fuel (len - n)
      | .tarn => if t.secure then State.touch s1 t (a + n) fuel (len - n) else (s1.tarnDenied t pa false, true)
      | .poison _ =>
        let s2 := s1.each ((linesOf pa n).filter fun l => s1.res.poison.contains l) fun s l => s.eccUe t (max pa (l * 64))
        State.touch s2 t (a + n) fuel (len - n)
      | r => (s1.accessFail t pa false r, true)

/-- Read spans until one is blocked. -/
def touchAll (t : WorkTag) : List (Nat × Nat) → State → State × Bool
  | [], s => (s, false)
  | (a, n) :: l, s =>
    match s.touch t a (n / 4096 + 2) n with
    | (s1, true) => (s1, true)
    | (s1, false) => touchAll t l s1

/-- Fetch the crop of a plan's source (stage 1 of Table 09-5). -/
def State.fetch (s : State) (p : Plan) : State × Bool :=
  if p.placeholder then (s, false) else touchAll (s.slotTag p.slot) (parseDesc p.raw).spans s

/-- The pixel of a plan at head pixel (x, y) over what lies below. -/
def State.planPx (s : State) (p : Plan) (x y : Nat) (below : Px) : Px :=
  let c := s.layer p.slot
  if p.placeholder then pxOf c.placeholder
  else
    let d := parseDesc p.raw
    let i := ((x : Int) - d.dstX).toNat
    let j := ((y : Int) - d.dstY).toNat
    blendPx d.blend d.alpha (d.layerPx c (s.coefOf (p.slot / 8)) (s.peek (s.slotTag p.slot)) i j) below

/-- Effective alpha of a plan's pixel. -/
def State.planAlpha (s : State) (p : Plan) (x y : Nat) : Nat :=
  if p.placeholder then 1023
  else
    let d := parseDesc p.raw
    let i := ((x : Int) - d.dstX).toNat
    let j := ((y : Int) - d.dstY).toNat
    effAlpha d.blend d.alpha (d.layerPx (s.layer p.slot) (s.coefOf (p.slot / 8)) (s.peek (s.slotTag p.slot)) i j).a

/-- Plans that reach tile `k`, ascending slots. -/
def State.plansAt (s : State) (h k : Nat) (c : Comp) : List Plan :=
  c.plans.filter fun p => s.composed p && s.tileIn h (s.clipRect h p.raw) k

/-- Head pixel of position `n` of tile `k`. -/
def State.tileXY (s : State) (h k n : Nat) : Nat × Nat := (k % s.tilesW h * 32 + n % 32, k / s.tilesW h * 32 + n / 32)

/-- The 2-bit index of pixel (x, y) of a plane of width `w` (R506). -/
def planeIx (data : List Byte) (w x y : Nat) : Nat := leAt data ((y * w + x) / 4) 1 / 4 ^ ((y * w + x) % 4) % 4

/-- Stored value of a palette index (R507). -/
def State.palPx (s : State) (deep : Bool) (k : Nat) : Nat := storedPx deep (pxOf (s.rd F.WEL_PAL_COLOUR k))

/-- Pixels of keep-clear tile `k` from a plane; BG_COLOUR while none has been accepted. -/
def State.legalPx (s : State) (h k : Nat) (bg : Nat) (data : List Byte) : List Nat :=
  let deep := (s.head h).depth30
  (List.range 1024).map fun n =>
    let p := s.tileXY h k n
    match s.legalOf h with
    | some l =>
      if data.isEmpty then storedPx deep (pxOf bg)
      else s.palPx deep (planeIx data (l.x1 - l.x0) (p.1 - l.x0) (p.2 - l.y0))
    | none => storedPx deep (pxOf bg)

/-- The pixels of tile `k` as stage 8 of Table 09-5 stores them. -/
def State.paintTile (s : State) (h k : Nat) (c : Comp) : List Nat :=
  if s.tileLegal h k then s.legalPx h k c.bg c.plane
  else
    let ps := s.plansAt h k c
    (List.range 1024).map fun n =>
      let q := s.tileXY h k n
      storedPx (s.head h).depth30 (ps.foldl (fun below p =>
        if inRect (s.clipRect h p.raw) q.1 q.2 then s.planPx p q.1 q.2 below else below) (pxOf c.bg))

/-- Pixels of tile `k` inside the active area. -/
def State.insidePx (s : State) (h k : Nat) : List (Nat × Nat) :=
  ((List.range 1024).map (s.tileXY h k)).filter fun p => decide (p.1 < (s.head h).hActive) && decide (p.2 < (s.head h).vActive)

/-- The slot of a plan qualifies as a tile's owner (R267). -/
def State.qualifies (s : State) (h k : Nat) (p : Plan) : Bool :=
  let px := s.insidePx h k
  let n := (px.filter fun q => inRect (s.clipRect h p.raw) q.1 q.2
    && decide (s.rd F.BAS_HEAD_OWNCFG_HIT_ALPHA h ≤ s.planAlpha p q.1 q.2)).length
  decide (clampN 1 1024 (s.rd F.BAS_HEAD_OWNCFG_MIN_COVER h) * px.length ≤ n * 1024)

/-- The owner map entry of tile `k` (R267, Table 09-9). -/
def State.ownerEntry (s : State) (h k : Nat) (c : Comp) : Nat :=
  if s.tileLegal h k then 0xE000
  else match (s.plansAt h k c).reverse.find? (s.qualifies h k) with
    | some p =>
      let l := s.layer p.slot
      0x8000 + (if l.secure then 0x4000 else l.owner) + p.slot % 8 * 32
    | none => 0

/-- Report the coded blocks of a plan that fail to decode, once per job (R249). -/
def State.reportBlocks (s : State) (h : Nat) (p : Plan) : State :=
  match (s.hc h).cur with
  | none => s
  | some c =>
    if p.placeholder || c.jobs.any (fun j => j.slot == p.slot && j.decoded) then s
    else
      let d := parseDesc p.raw
      let bad := d.blocks.filter fun b => (d.block (s.peek (s.slotTag p.slot)) b.1 b.2).isNone
      let s1 := s.modComp h fun c => { c with jobs := c.jobs.map fun j => if j.slot = p.slot then { j with decoded := true } else j }
      s1.each bad fun s _ =>
        ((s.wr F.BAS_SLOT_STAT_DECODE_ERR 1 p.slot).wr F.BAS_SLOT_STAT_CODE 9 p.slot).slotRaise 162 p.slot p.slot

/-- Fetch the sources of several plans until one is blocked. -/
def fetchAll : List Plan → State → State × Bool
  | [], s => (s, false)
  | p :: ps, s =>
    match s.fetch p with
    | (s1, true) => (s1, true)
    | (s1, false) => fetchAll ps s1

/-- Write tile `k` of a composition: the form of R278, the map entry, the owner entry, and the return of the part of the
reservation that it did not use (R293). -/
def State.writeTile (s : State) (h k : Nat) (c : Comp) : State :=
  let px := s.paintTile h k c
  let own := s.ownerEntry h k c
  match s.storeTile (s.head h).depth30 px with
  | (s1, e) =>
    (s1.modHc h fun x => { x with comp := x.comp.set k e, ownNew := x.ownNew.set k own }).modComp h fun x =>
      { x with left := x.left.erase k, resv := x.resv - s.gOf h }

/-- Compose NVR tile `k` into the granules held for it (R508). -/
def State.writeNvr (s : State) (h k : Nat) (c : Comp) : State :=
  let ix := (s.legalTiles h).idxOf k
  let deep := (s.head h).depth30
  let px := if c.nvrPlane.isEmpty then List.replicate 1024 (s.palPx deep 0) else s.legalPx h k c.bg c.nvrPlane
  let gs := nth s.tst.nvrGrans ix []
  let s1 := match tileForm deep px with
    | none => s.modTst fun t => { t with nvr := t.nvr.set ix { count := 0, grans := [], colour := px.headD 0, lost := false } }
    | some l =>
      let n := ceilDiv l.length 1024
      (s.storeGrans (gs.take n) l).modTst fun t =>
        { t with nvr := t.nvr.set ix { count := n, grans := gs.take n, colour := 0, lost := false } }
  s1.modComp h fun x => { x with nvrLeft := x.nvrLeft.erase k }

/-- TILE_COMPOSED (R249, R267, R278, R293, R301, R508): tile `tile` of head `h`, or its NVR tile. `mapEcc`: Basin carries
the entry of a clean tile over and finds an uncorrectable word in it. -/
def execTileComposed (h : Fin 8) (tile : Nat) (nvr mapEcc : Bool) (s : State) : Ans :=
  match (s.hc h.val).cur with
  | none => .next s
  | some c =>
    if !c.granted then .next s
    else if mapEcc then .next (if c.left.contains tile || (s.hc h.val).disp.length ≤ tile then s else s.mapEcc h.val tile)
    else if nvr then .next (if c.nvrLeft.contains tile then s.writeNvr h.val tile c else s)
    else if !c.left.contains tile then .next s
    else
      let ps := s.plansAt h.val tile c
      if ps.any fun p => c.jobs.any fun j => j.slot == p.slot && j.kind.isNone then .next s
      else match fetchAll ps s with
        | (_, true) => .next s
        | (s1, false) => .next ((s1.each ps fun s p => s.reportBlocks h.val p).writeTile h.val tile c)

/-! ### The end of jobs and compositions -/

/-- Free the region slots of jobs that run. -/
def State.freeJobs (s : State) (jobs : List LayerJob) : State :=
  s.each jobs fun s (j : LayerJob) =>
    match j.kind with
    | some k => if j.done then s else s.slotRelease .display (j.cove.getD 0) k
    | none => s

/-- Write the release fence of a slot's descriptor that took effect in the composition, once (R263). -/
def State.releasePlan (s : State) (h i : Nat) : State :=
  match (s.hc h).cur with
  | none => s
  | some c =>
    match c.plans.find? fun p => p.slot == i && p.taking && !p.released with
    | none => s
    | some p =>
      (s.modComp h fun c => { c with plans := c.plans.map fun x => if x.slot = i then { x with released := true } else x }).release
        i p.raw p.gen

/-- LAYER_JOB_DONE (R263, R580): no tile under the slot is left to compose. -/
def execLayerJobDone (h : Fin 8) (i : Fin 64) (s : State) : Ans :=
  match (s.hc h.val).cur with
  | none => .next s
  | some c =>
    match c.jobs.find? fun j => j.slot == i.val && j.kind.isSome && !j.done with
    | none => .next s
    | some j =>
      if c.left.any fun k => (s.plansAt h.val k c).any fun p => p.slot == i.val then .next s
      else
        let s1 := s.freeJobs [j]
        let s2 := s1.modComp h.val fun c => { c with jobs := c.jobs.map fun x => if x.slot = i.val then { x with done := true } else x }
        .next (s2.releasePlan h.val i.val)

/-- COMPOSITION_COMPLETE (R294): every tile and owner entry is written and every job has ended. -/
def execCompositionComplete (h : Fin 8) (s : State) : Ans :=
  match (s.hc h.val).cur with
  | none => .next s
  | some c =>
    if !c.granted || c.complete || !c.left.isEmpty || !c.nvrLeft.isEmpty || c.jobs.any fun j => !j.done then .next s
    else
      let s1 := s.each (c.plans.map (·.slot)) fun s i => s.releasePlan h.val i
      .next (s1.modComp h.val fun c => { c with complete := true, resv := 0 })

/-- End the composition of head `h` and free its granules and its slots (R298, R305). -/
def State.abandonComp (s : State) (h : Nat) : State :=
  match (s.hc h).cur with
  | none => s
  | some c =>
    ((s.freeJobs c.jobs).modHc h fun k => { k with comp := k.disp, ownNew := k.own, cur := none }).bankCheck

/-- LAYER_FAULT (R298): a read of the source of slot `i` is blocked; the composition ends and starts again with the slot
shown as its placeholder. -/
def execLayerFault (h : Fin 8) (i : Fin 64) (s : State) : Ans :=
  match (s.hc h.val).cur with
  | none => .next s
  | some c =>
    match c.plans.find? fun p => p.slot == i.val && !p.placeholder with
    | none => .next s
    | some p =>
      if !(c.jobs.any fun j => j.slot == i.val && j.kind.isSome && !j.done) then .next s
      else match s.fetch p with
        | (_, false) => .next s
        | (s1, true) =>
          let s2 := (s1.releasePlan h.val i.val)
          let plans := match (s2.hc h.val).cur with | some c => c.plans | none => c.plans
          let s3 := (s2.abandonComp h.val).modSlot i.val fun k => { k with faulted := true }
          let s4 := ((s3.wr F.BAS_SLOT_STAT_LAYER_FAULT 1 i.val).wr F.BAS_SLOT_STAT_CODE 8 i.val).slotRaise 178 i.val i.val
          let plans' := plans.map fun (x : Plan) =>
            if x.slot = i.val then { x with placeholder := true, allDirty := true } else x
          .next (s4.beginComp h.val { c with plans := plans' })

/-! ### Frame start and coves -/

/-- Words of a descriptor. -/
def descWord (raw : List Byte) (k : Nat) : Nat := leAt raw (4 * k) 4

/-- A descriptor is first shown (R287). -/
def State.showPlan (s : State) (seq : Nat) (p : Plan) : State :=
  if !p.taking then s
  else
    let s1 := s.each (List.range 32) fun s k => s.wr F.BAS_SLOT_ACTIVE_ACTIVE (descWord p.raw k) p.slot k
    (s1.wr F.BAS_SLOT_SHOWN_SEQ_SHOWN seq p.slot).commitSlot p.commit p.slot (some seq)

/-- Basin at the frame start of frame `seq` (R268, R287, R294): the swap, or a late frame. -/
def State.basFrame (s : State) (h seq : Nat) : State :=
  let s0 := s.modHc h fun k => { k with latched := false }
  match (s.hc h).cur with
  | none => s0
  | some c =>
    if c.complete then
      let s1 := s0.modHc h fun k => { k with disp := k.comp, own := k.ownNew, cur := none }
      (s1.each c.plans fun s p => s.showPlan seq p).bankCheck
    else (s0.inc F.BAS_HEAD_LATE_COUNT 1 h).raise 176 h

/-- Chip safe state: running compositions are abandoned (R305). -/
def State.basSafe (s : State) : State := s.each (List.range 8) State.abandonComp

/-- Layer slots that cove `c` owns. -/
def State.slotsOwned (s : State) (c : Nat) : List Nat :=
  (List.range 64).filter fun i => (s.layer i).en && !(s.layer i).secure && (s.layer i).owner == c

/-- Cove `c` enters FREEZING: every PENDING descriptor of its slots is superseded (R572). -/
def State.basFreeze (s : State) (c : Nat) : State :=
  s.each (s.slotsOwned c) fun s i => if s.on F.BAS_SLOT_STAT_PENDING i then s.supersede i else s

/-- Instance reset, step 2, in Basin: commits not yet in effect are purged, each counted once, with no record and no
release (R571). -/
def State.basPurge (s : State) (c : Nat) : State :=
  let mine := s.slotsOwned c
  let ids := (mine.filterMap fun i => (s.slot i).pend.map (·.commit)).eraseDups
  let fetched := (s.bas.queue.filter fun d => d.cove == c).length
  let s1 := s.each mine fun s i => (s.modSlot i fun k => { k with pend := none }).wr F.BAS_SLOT_STAT_PENDING 0 i
  let s2 := s1.modBas fun b => { b with commits := b.commits.filter fun x => !ids.contains x.id,
                                        queue := b.queue.filter fun d => d.cove != c }
  s2.inc F.COVE_PURGED_COUNT (ids.length + fetched) c

end Sys2Proof.Machine
end

