-- ==== Sys2Proof/Machine/Plash.lean ====
section
/-!
DEFINITION. Plash (chapter 16): effects, sequencers and their state tables, control loop, drive faults, accelerometers, boost,
and what coves and the chip do to them.
-/
namespace Sys2Proof.Machine

/-! ### State tables (Table 16-3, Table 04-8) -/

/-- Row `k` of a state table's rows. -/
def srow (l : List Byte) (k : Nat) : SRow :=
  { state := leAt l (8 * k) 1, event := leAt l (8 * k + 1) 1, cond := leAt l (8 * k + 2) 1, next := leAt l (8 * k + 3) 1,
    action := leAt l (8 * k + 4) 2, arg := leAt l (8 * k + 6) 2 }

/-- Walk the packed tables of STATE_TABLES to table `id` of an engine. -/
def findTable (eng id : Nat) : Nat → List Byte → Option (List SRow)
  | 0, _ => none
  | n + 1, l =>
    if l.length < 4 then none
    else
      let rows := leAt l 2 2
      if leAt l 0 1 = eng ∧ leAt l 1 1 = id then some ((List.range rows).map (srow (l.drop 4)))
      else findTable eng id n (l.drop (4 + 8 * rows))

def State.stateTable (s : State) (eng id : Nat) : Option (List SRow) :=
  if id = 255 then none else findTable eng id 32 s.img.stables

/-- The built-in channel table (Table 16-4) without its FAULT rows, which hold for every table (R473). -/
def plashTable : List SRow :=
  [⟨0, 0, 0, 1, 276, 0xFFFE⟩,
   ⟨1, 0, 1, 1, 277, 0xFFFE⟩, ⟨2, 0, 1, 1, 277, 0xFFFE⟩,
   ⟨1, 0, 2, 1, 8, 0⟩, ⟨2, 0, 2, 2, 8, 0⟩,
   ⟨1, 1, 0, 2, 32, 0⟩, ⟨1, 5, 0, 2, 32, 0⟩,
   ⟨1, 2, 0, 3, 320, 0xFFFF⟩, ⟨1, 3, 0, 3, 320, 0xFFFF⟩, ⟨2, 2, 0, 3, 320, 0xFFFF⟩, ⟨2, 3, 0, 3, 320, 0xFFFF⟩,
   ⟨3, 0, 1, 1, 278, 0xFFFE⟩, ⟨3, 0, 2, 3, 8, 0⟩,
   ⟨3, 4, 3, 1, 278, 0xFFFE⟩, ⟨3, 5, 3, 1, 278, 0xFFFE⟩,
   ⟨3, 4, 4, 0, 130, 0⟩, ⟨3, 5, 4, 0, 130, 0⟩]

/-! ### Channels and boost -/

/-- HAPTICS record of channel `c` in effect. -/
def State.haptic (s : State) (c : Nat) : HapticCfg := s.img.haptics.getD c default

def State.plaState (s : State) (c : Nat) : Nat := s.rd F.PLA_CH_STAT_STATE c

/-- Plash works: its domain has power. -/
def State.plaOn (s : State) : Bool := s.domainUp 10 && (s.runOrDip || s.chip.phase == .drain)

/-- IDLE_V of the boost (Table 16-7). -/
def State.idleV (s : State) : Nat := clampN 20 100 (s.rd F.PLA_BOOST_CFG_IDLE_V)

/-- LIMITs of the piezo channels that are not IDLE. -/
def State.piezoLimits (s : State) : List Nat :=
  ((List.range 16).filter fun c => (s.haptic c).kind == 1 && s.plaState c != 0).map fun c => (s.haptic c).limit

/-- The boost runs: D10 or D11 has power (R98), no fault has stopped it (Table 16-6), and no shutdown has stopped it (R75, step 3 of Table 03-13, step 1 of Table 03-14). -/
def State.boostRuns (s : State) : Bool :=
  (s.domainUp 10 || s.domainUp 11) && s.chip.phase != .test && !s.pla.boostStopped
    && !(s.chip.phase == .drain && (s.chip.kind == .powerFail || decide (3 ≤ s.chip.drainStep)))

/-- The boost's target after a channel's state has changed (R463): the idle rail comes 100 ms after the last piezo channel has
become IDLE. -/
def State.boostUpdate (s : State) : State :=
  if !s.boostRuns then s.wr F.PLA_BOOST_STAT_V_B 0
  else match s.piezoLimits with
  | [] =>
    if s.rd F.PLA_BOOST_STAT_V_B ≤ s.idleV then s.wr F.PLA_BOOST_STAT_V_B s.idleV
    else match s.pla.boostIdle with
      | some _ => s
      | none => s.modPla fun p => { p with boostIdle := some (s.elapsed + 100000000) }
  | l =>
    let v := min 100 (max s.idleV (5 + l.foldl max 0))
    (s.wr F.PLA_BOOST_STAT_V_B v).modPla fun p => { p with boostIdle := none }

/-- BOOST_IDLE_TIMEOUT (R463). -/
def execBoostIdleTimeout (s : State) : Ans :=
  match s.pla.boostIdle with
  | none => .next s
  | some t =>
    if s.elapsed < t || !s.piezoLimits.isEmpty || !s.boostRuns then .next s
    else .next ((s.wr F.PLA_BOOST_STAT_V_B s.idleV).modPla fun p => { p with boostIdle := none })

/-! ### How an effect ends (R464) -/

/-- Rank of a result: DROPPED, FAULT, PREEMPTED, STOPPED, DONE. -/
def resultRank (r : Nat) : Nat := if r = 4 then 5 else if r = 9 then 4 else if r = 2 then 3 else if r = 3 then 2 else 1

def State.fxPort (s : State) (p : Nat) : PlaPort :=
  s.pla.ports.getD p { open_ := 0, worst := 0, tag := 0, gen := 0 }

def State.modFxPort (s : State) (p : Nat) (f : PlaPort → PlaPort) : State :=
  s.modPla fun a => { a with ports := a.ports.modify p f }

/-- The effect of port `p` has ended on every channel: DONE and event 448. -/
def State.fxDone (s : State) (p : Nat) : State :=
  let x := s.fxPort p
  let s := ((s.wr F.PLA_FX_STAT_BUSY 0 p).wr F.PLA_FX_STAT_DONE 1 p).wr F.PLA_FX_STAT_RESULT x.worst p
  let local_ := if p < 128 then p % 4 else p - 128
  s.raiseGen 448 (x.tag + 256 * local_ + 4096 * x.worst) (if p < 128 then p / 4 else 0) x.gen (decide (128 ≤ p))

/-- An effect ends on channel `c` with a result. -/
def State.fxEnd (s : State) (c : Nat) (x : PlaFx) (r : Nat) : State :=
  match x.port with
  | none => s
  | some p =>
    let a := s.fxPort p
    if !bit a.open_ c then s
    else
      let s := s.modFxPort p fun a =>
        { a with open_ := a.open_ - 2 ^ c, worst := if a.worst = 0 || resultRank a.worst < resultRank r then r else a.worst }
      if a.open_ = 2 ^ c then s.fxDone p else s

/-- An effect that NEW could neither start nor queue on channel `c`, since no row of the table takes it: the channel is none of
those that BUSY waits for (R464, R10). -/
def State.fxGone (s : State) (c : Nat) (x : PlaFx) : State :=
  match x.port with
  | none => s
  | some p =>
    let a := s.fxPort p
    if !bit a.open_ c then s
    else
      let s := (s.wr F.PLA_FX_STAT_STARTED (clearMask 16 (s.rd F.PLA_FX_STAT_STARTED p) (2 ^ c)) p).modFxPort p fun a =>
        { a with open_ := a.open_ - 2 ^ c }
      if a.open_ = 2 ^ c then s.fxDone p else s

def State.fxEndAll (s : State) (c r : Nat) (l : List PlaFx) : State := s.each l fun s x => s.fxEnd c x r

/-! ### The sequencer (16.4) -/

/-- The queued effect of highest priority, then oldest. -/
def bestFx : List PlaFx → Option PlaFx
  | [] => none
  | x :: l => match bestFx l with
    | none => some x
    | some y => if x.prio < y.prio || (x.prio == y.prio && decide (y.order < x.order)) then some y else some x

/-- The rows that channel `c` runs. -/
def State.plaRows (s : State) (c : Nat) : List SRow :=
  (s.stateTable 1 (s.rd F.PLA_CH_STAT_TABLE c)).getD plashTable

/-- A condition of Table 16-3. -/
def State.plaCond (s : State) (c cond : Nat) (new : Option PlaFx) : Bool :=
  let h := s.hch c
  let cur := match h.cur with
    | some x => x.prio
    | none => 0
  match cond with
  | 0 => true
  | 1 => match new with | some x => decide (cur ≤ x.prio) | none => false
  | 2 => match new with | some x => decide (x.prio < cur) | none => false
  | 3 => !h.queue.isEmpty
  | 4 => h.queue.isEmpty
  | _ => false

/-- The current effect ends with a result. -/
def State.endCur (s : State) (c r : Nat) : State :=
  match (s.hch c).cur with
  | none => s
  | some x => (s.fxEnd c x r).modHch c fun h => { h with cur := none }

/-- LOAD (R470, Table 16-3). -/
def State.loadFx (s : State) (c : Nat) (new : Option PlaFx) : State :=
  let put (s : State) (x : PlaFx) : State := s.modHch c fun h =>
    { h with cur := some { x with pos := 0, left := x.rep, stopped := false }, joined := true, reached := false,
             waveDone := false, settle := 0 }
  match new with
  | some x => put s x
  | none =>
    match bestFx (s.hch c).queue with
    | some x => put (s.modHch c fun h => { h with queue := h.queue.erase x }) x
    | none => s

/-- ENQUEUE (R472). -/
def State.enqueueFx (s : State) (c : Nat) (x : PlaFx) : State :=
  let s := match (s.hch c).queue with
    | y :: l =>
      if l.length < 3 then s
      else ((s.modHch c fun h => { h with queue := l }).fxEnd c y 4).raiseGen 450 c y.cove y.gen y.secure
    | [] => s
  s.modHch c fun h => { h with queue := h.queue ++ [x] }

def State.setMode (s : State) (c : Nat) (m : PlaMode) : State := s.modHch c fun h => { h with mode := m }

/-- OFF: output high-impedance, loop reset. -/
def State.plaOff1 (s : State) (c : Nat) : State :=
  s.modHch c fun h => { h with mode := .off, u := 0, i := 0, timer := none, settle := 0, joined := false, waveDone := false }

/-- BRAKE.MAX_MS and ATTACK.MS; 0 is taken as 1. -/
def State.brakeMs (s : State) (c : Nat) : Nat := max 1 (s.rd F.PLA_CH_BRAKE_MAX_MS c)
def State.attackMs (s : State) (c : Nat) : Nat := max 1 (s.rd F.PLA_CH_ATTACK_MS c)

/-- The actions of a row, from bit 0 upward (Table 16-3). -/
def State.plaAct (s : State) (c act arg : Nat) (new : Option PlaFx) : State :=
  let s := s.when (bit act 0) fun s => s.endCur c 2
  let s := s.when (bit act 1) fun s =>
    s.endCur c (match (s.hch c).cur with | some x => if x.stopped then 3 else 1 | none => 1)
  let s := s.when (bit act 2) fun s => s.loadFx c new
  let s := s.when (bit act 3) fun s => match new with | some x => s.enqueueFx c x | none => s
  let s := s.when (bit act 4) fun s => s.setMode c .attack
  let s := s.when (bit act 5) fun s => s.setMode c .sustain
  let s := s.when (bit act 6) fun s => s.setMode c .brake
  let s := s.when (bit act 7) fun s => s.plaOff1 c
  let s := s.when (bit act 8) fun s =>
    let ms := if arg = 0xFFFE then s.attackMs c else if arg = 0xFFFF then s.brakeMs c else arg
    s.modHch c fun h => { h with timer := some (s.elapsed + ms * 1000000) }
  s.when (bit act 9) fun s =>
    let l := (s.hch c).queue
    ((s.endCur c 9).fxEndAll c 9 l).modHch c fun h => { h with queue := [] }

/-- The row that an event other than FAULT and FAULT_CLEAR finds. -/
def State.plaRow (s : State) (c ev : Nat) (new : Option PlaFx) : Option SRow :=
  (s.plaRows c).find? fun r => r.state == s.plaState c && r.event == ev && s.plaCond c r.cond new

/-- An event reaches the sequencer of channel `c` (R471, R473); without a row it changes nothing (R10). -/
def State.plaEvent (s : State) (c ev : Nat) (new : Option PlaFx := none) : State :=
  let st := s.plaState c
  if ev = 6 then
    (if st = 4 then s
     else (((s.plaAct c 640 0 none).modHch c fun h => { h with forced := false }).wr F.PLA_CH_STAT_STATE 4 c).boostUpdate)
  else if ev = 7 then (if st = 4 then (s.wr F.PLA_CH_STAT_STATE 0 c).boostUpdate else s)
  else
    match s.plaRow c ev new with
    | some r => ((s.plaAct c r.action r.arg new).wr F.PLA_CH_STAT_STATE r.next c).boostUpdate
    | none => match new with
      | some x => s.fxGone c x
      | none => s

/-- An IDLE channel takes the table that PLA_CHc_TABLE names (Table 16-7). -/
def State.takeTable (s : State) (c : Nat) : State :=
  let id := s.rd F.PLA_CH_TABLE_TABLE_ID c
  if s.plaState c = 0 then s.wr F.PLA_CH_STAT_TABLE (if (s.stateTable 1 id).isSome then id else 255) c else s

/-- NEW. -/
def State.plaNew (s : State) (c : Nat) (x : PlaFx) : State := (s.takeTable c).plaEvent c 0 (some x)

/-- The channel brakes for at most min(BRAKE.MAX_MS, 10 ms), then goes OFF and IDLE (R473). -/
def State.forceBrake (s : State) (c : Nat) : State :=
  if s.plaState c = 0 || s.plaState c = 4 then s
  else
    (s.modHch c fun h =>
      { h with cur := h.cur.map fun x => { x with stopped := true }, mode := .brake, forced := true, settle := 0,
               timer := some (s.elapsed + min (s.brakeMs c) 10 * 1000000) }).wr F.PLA_CH_STAT_STATE 3 c

/-- The forced braking ends. Effects of other coves that are still queued then start as new ones. -/
def State.forcedEnd (s : State) (c : Nat) : State :=
  let s := (((s.endCur c 3).plaOff1 c).modHch c fun h => { h with forced := false }).wr F.PLA_CH_STAT_STATE 0 c
  match bestFx (s.hch c).queue with
  | none => s.boostUpdate
  | some x => (s.modHch c fun h => { h with queue := h.queue.erase x }).plaNew c x

/-- SETTLED or TIMER. -/
def State.plaTimed (s : State) (c ev : Nat) : State := if (s.hch c).forced then s.forcedEnd c else s.plaEvent c ev

/-- WAVE_END (R466). -/
def execWaveEnd (c : Fin 16) (s : State) : Ans :=
  let h := s.hch c.val
  if !h.waveDone || h.forced then .next s
  else .next ((s.modHch c.val fun h => { h with waveDone := false }).plaEvent c.val 2)

/-- SETTLED (R470): 96 control samples below THRESH. -/
def execSettled (c : Fin 16) (s : State) : Ans :=
  let h := s.hch c.val
  if h.mode = .off || h.settle < 96 then .next s
  else .next ((s.modHch c.val fun h => { h with settle := 0 }).plaTimed c.val 4)

/-- SEQUENCER_TIMER (R471). -/
def execSequencerTimer (c : Fin 16) (s : State) : Ans :=
  match (s.hch c.val).timer with
  | none => .next s
  | some t =>
    if s.elapsed < t then .next s
    else .next ((s.modHch c.val fun h => { h with timer := none }).plaTimed c.val 5)

/-! ### Submission (R464, R465, R474) -/

/-- Record of waveform table `w`. -/
def State.waveRec (s : State) (w : Nat) : List Byte := slice s.img.waves (2056 * w) 2056

/-- The table exists and has EN set. -/
def State.waveOk (s : State) (w : Nat) : Bool :=
  decide (2056 * w + 2056 ≤ s.img.waves.length) && bit (leAt (s.waveRec w) 0 1) 0

/-- Checks of Table 16-2; 0 when the channel passes. -/
def State.fxCheck (s : State) (c cove wave : Nat) (secure : Bool) : Nat :=
  if s.safe || !s.runOrDip || !s.domainOn 10 then 5
  else if !secure && (!s.coveReady cove || !bit (s.rd F.PLA_CH_COVES_COVES c) cove || s.on F.PLA_CH_SEC_SECURE c) then 6
  else if (s.haptic c).kind = 0 || (s.hch c).pend.isSome then 6
  else if !s.waveOk wave then 7
  else if s.plaState c = 4 then 8
  else 0

/-- Submit an effect on the channels of `mask`; answers the channels that pass and the first refusal. -/
def State.fxSubmit (s : State) (x : PlaFx) (mask : Nat) : State × Nat × Nat :=
  let s := s.modPla fun p => { p with order := p.order + 1 }
  (List.range 16).foldl (fun (a : State × Nat × Nat) c =>
    if !bit mask c then a
    else
      let r := a.1.fxCheck c x.cove x.wave x.secure
      if r = 0 then (a.1.modHch c fun h => { h with news := h.news ++ [x] }, a.2.1 + 2 ^ c, a.2.2)
      else (a.1.raise 449 (c + 16 * r), a.2.1, if a.2.2 = 0 then r else a.2.2)) (s, 0, 0)

/-- Rights on an effect port: a cove port through its page, a secure port by the secure world. -/
def State.fxMay (s : State) (ini : Initiator) (p : Nat) : Bool := if p < 128 then s.pageOk ini (p / 4) else s.isSec ini

/-- A port write that is not allowed. -/
def State.fxDenied (s : State) (ini : Initiator) (p : Nat) : State :=
  if p < 128 then s.pageDenied ini (p / 4) (0x8000000 + 0x200000 * (p / 4) + 0x180010 + 0x40 * (p % 4)) true
  else s.denied ini (0x6803010 + 0x40 * (p - 128))

/-- EFFECT_GO (R464): ignored while BUSY. An effect that every channel refuses ends at once. -/
def execEffectGo (ini : Initiator) (port : Fin 136) (tag : BitVec 8) (s : State) : Ans :=
  s.by ini fun s =>
  let p := port.val
  if !s.fxMay ini p then .next (s.fxDenied ini p)
  else if s.on F.PLA_FX_STAT_BUSY p then .next s
  else
    let cove := if p < 128 then p / 4 else 0
    let sec := decide (128 ≤ p)
    let mask := s.rd F.PLA_FX_CFG_CHMASK p
    let x : PlaFx :=
      { port := some p, cove := cove, gen := s.gen cove, secure := sec,
        prio := s.rd F.PLA_FX_CFG_PRIO p + if sec then 8 else 0, carrier := s.on F.PLA_FX_CFG_MODE p,
        wave := s.rd F.PLA_FX_CFG_WAVE p, amp := min 32768 (s.rd F.PLA_FX_AMP_AMP p), rep := s.rd F.PLA_FX_AMP_REPEAT p,
        at_ := s.rd F.PLA_FX_AT_AT p, order := s.pla.order, pos := 0, left := 0, stopped := false }
    let r := s.fxSubmit x mask
    let s := (r.1.wr F.PLA_FX_STAT_STARTED r.2.1 p).wr F.PLA_FX_REFUSED_CHMASK (mask - r.2.1) p
    let s := s.modFxPort p fun a =>
      { a with open_ := r.2.1, worst := if r.2.1 = 0 then r.2.2 else 0, tag := tag.toNat, gen := x.gen }
    .next (if r.2.1 = 0 then s.fxDone p else (s.wr F.PLA_FX_STAT_BUSY 1 p).wr F.PLA_FX_STAT_RESULT 0 p)

/-- Effects of some kind that wait on channel `c` end with a result. -/
def State.fxRemove (s : State) (c r : Nat) (sel : PlaFx → Bool) : State :=
  let h := s.hch c
  ((s.modHch c fun h => { h with news := h.news.filter (!sel ·), queue := h.queue.filter (!sel ·) }).fxEndAll c r
    (h.queue.filter sel)).fxEndAll c r (h.news.filter sel)

/-- STOP on channel `c`, if its current effect is of that kind and the table has a row for it (R10). -/
def State.fxStop (s : State) (c : Nat) (sel : PlaFx → Bool) : State :=
  match (s.hch c).cur with
  | none => s
  | some x =>
    if !sel x || (s.plaRow c 3 none).isNone then s
    else (s.modHch c fun h => { h with cur := h.cur.map fun y => { y with stopped := true } }).plaEvent c 3

/-- EFFECT_STOP (R465). -/
def execEffectStop (ini : Initiator) (port : Fin 136) (s : State) : Ans :=
  s.by ini fun s =>
  if !s.fxMay ini port.val then .next (s.fxDenied ini port.val)
  else
    let sel : PlaFx → Bool := fun x => x.port == some port.val
    .next (s.each (List.range 16) fun s c => (s.fxRemove c 3 sel).fxStop c sel)

/-- TOUCH_TRIGGER (R474): the oldest trigger of Shallows. -/
def execTouchTrigger (s : State) : Ans :=
  match s.pla.trigs with
  | [] => .next s
  | (t, sec, cove, _) :: l =>
    let s := s.modPla fun p => { p with trigs := l }
    let own := s.on F.PLA_TRIG_SECURE t
    if s.on F.PLA_TRIG_EN t && own == sec && (sec || s.rd F.PLA_TRIG_OWNER t == cove) then
      let x : PlaFx :=
        { port := none, cove := if sec then 0 else cove, gen := s.gen (if sec then 0 else cove), secure := sec,
          prio := s.rd F.PLA_TRIG_PRIO t + if sec then 8 else 0, carrier := s.on F.PLA_TRIG_MODE t,
          wave := s.rd F.PLA_TRIG_FX_WAVE t, amp := min 32768 (s.rd F.PLA_TRIG_FX_AMP t), rep := 0, at_ := 0,
          order := s.pla.order, pos := 0, left := 0, stopped := false }
      .next (s.fxSubmit x (s.rd F.PLA_TRIG_CHMASK t)).1
    else .next (s.inc F.PLA_TRIG_MISS_COUNT 1)

/-! ### The control loop (16.3) -/

/-- The target value of an effect at its position (R466): ⌊AMP x P x PEAK / (32,768 x 32,767)⌋ with P interpolated. -/
def waveValue (r : List Byte) (amp pos : Nat) : Int :=
  let d := leAt r 2 2 + 1
  let k := min (pos / d) 1023
  let f := if pos / d < 1023 then pos % d else 0
  let p := sx 16 (leAt r (8 + 2 * k) 2) * ((d - f : Nat) : Int) + sx 16 (leAt r (8 + 2 * (k + 1)) 2) * (f : Int)
  (amp : Int) * p * (leAt r 4 2 : Nat) / ((d : Int) * 32768 * 32767)

/-- The accelerometer that channel `c` uses (R468, R478). -/
def State.accOf (s : State) (c : Nat) : Option Nat :=
  let k := (s.haptic c).accCs
  if k < 8 && !(s.pla.accs.getD k { bad := 0, faulty := false }).faulty then some k else none

/-- Advance the position; the last pass of the effect completes (R466). -/
def PlaFx.step (x : PlaFx) (d : Nat) : PlaFx × Bool :=
  if (x.pos + 1) / d < 1023 then ({ x with pos := x.pos + 1 }, false)
  else if 0 < x.left then ({ x with pos := 0, left := x.left - 1 }, false)
  else ({ x with pos := 1023 * d }, decide (x.pos < 1023 * d))

/-- Count a clamped sample; event 457 when more than 4,800 fall into one second. -/
def State.countSat (s : State) (c : Nat) : State :=
  let h := s.hch c
  let fresh := h.satCount == 0 || decide (h.satAt + 1000000000 ≤ s.elapsed)
  let n := if fresh then 1 else h.satCount + 1
  let raised := !fresh && h.satRaised
  let s := (s.inc F.PLA_CH_SAT_COUNT 1 c).modHch c fun h =>
    { h with satAt := if fresh then s.elapsed else h.satAt, satCount := n, satRaised := raised || decide (4800 < n) }
  s.when (decide (4800 < n) && !raised) fun s => s.raise 457 c

/-- What a control sample computes for a channel that drives: measured acceleration, integrator, drive before its clamp. -/
def State.loopStep (s : State) (c : Nat) (aT : Int) (carrier : Bool) : Int × Int × Int :=
  let h := s.hch c
  let aM := match s.accOf c with
    | some _ => h.acc
    | none => if carrier || h.mode == .brake then (s.rd F.PLA_CH_SENSE_K_EMF c : Nat) * h.vs / 256 else aT
  if h.mode = .brake then (aM, h.i, -((s.rd F.PLA_CH_LOOP_KB c : Nat) * aM / 256))
  else
    let g : Nat := if h.mode = .attack then clampN 16 64 (s.rd F.PLA_CH_ATTACK_OVERDRIVE c) else 16
    let e := aT - aM
    let ff := (s.rd F.PLA_CH_LOOP_FF c : Nat) * (g : Int) * aT / 4096
    let kp := (s.rd F.PLA_CH_LOOP_KP c : Nat) * e / 256
    let i := if h.joined then h.u - ff - kp
      else clampI (-32767) 32767 (h.i + (s.rd F.PLA_CH_LOOP_KI_HI c * 256 : Nat) * e / 65536)
    (aM, i, ff + kp + i)

/-- A control sample of channel `c` (R466 to R470). -/
def State.controlChan (s : State) (c : Nat) (slew : Bool) : State :=
  let h := s.hch c
  if h.mode = .off then s
  else
    let a := match h.cur with
      | some x => waveValue (s.waveRec x.wave) x.amp x.pos
      | none => 0
    let carrier := match h.cur with
      | some x => x.carrier
      | none => false
    let m : Nat := a.natAbs
    let aT : Int := if carrier then clampI (-(m : Int)) (m : Int) (Config.carrier m h.phi) else a
    let r := s.loopStep c aT carrier
    let u := clampI (-32767) 32767 r.2.2
    let d := match h.cur with
      | some x => leAt (s.waveRec x.wave) 2 2 + 1
      | none => 1
    let fx := if h.mode = .brake then none else h.cur.map fun x => x.step d
    let fr := s.rd F.PLA_CH_MEAS_RES c
    let thresh := s.rd F.PLA_CH_BRAKE_THRESH c
    let s1 := s.modHch c fun h =>
      { h with u := u, i := r.2.1, am := r.1, joined := false
               phi := if carrier then (h.phi + fr) % 480000 else h.phi
               settle := if r.1.natAbs < thresh then min (h.settle + 1) 96 else 0
               cur := match fx with
                 | some y => some y.1
                 | none => h.cur
               waveDone := match fx with
                 | some y => h.waveDone || y.2
                 | none => h.waveDone }
    let s1 := (s1.wr F.PLA_CH_MEAS_ACC (min r.1.natAbs 65535) c).send (.drive c (u * (s.haptic c).limit / 32767))
    let s1 := s1.when (u != r.2.2 || slew) fun s => s.countSat c
    if h.mode = .attack && !h.reached && m != 0 && decide (7 * m ≤ 8 * r.1.natAbs) then
      (s1.modHch c fun h => { h with reached := true }).plaEvent c 1
    else s1

/-- Effects whose instant has come receive NEW (R464), once a braking under R473 is over; a HAPTICS record applies to an idle channel
(Table 04-10), and so does a new PLA_CHc_TABLE. -/
def State.controlNews (s : State) (c : Nat) : State :=
  let s := match (s.hch c).pend with
    | some r =>
      if s.plaState c = 0 && (s.hch c).queue.isEmpty && (s.hch c).news.isEmpty then
        ((s.modImg fun m => { m with haptics := m.haptics.set c r }).modHch c fun h => { h with pend := none }).deltaTake 0x14 (2 ^ c)
      else s
    | none => s
  let s := s.takeTable c
  if (s.hch c).forced then s else
  let due := (s.hch c).news.filter fun x => decide (x.at_ ≤ s.tbs.now)
  (s.modHch c fun h => { h with news := h.news.filter fun x => decide (s.tbs.now < x.at_) }).each due fun s x => s.plaNew c x

/-- CONTROL_SAMPLE (R467): `slew` names piezo channels whose waveform is slew-limited (R462). -/
def execControlSample (slew : BitVec 16) (s : State) : Ans :=
  if !s.plaOn then .next s
  else .next (s.each (List.range 16) fun s c =>
    (s.controlNews c).controlChan c (slew.getLsbD c && (s.haptic c).kind == 1))

/-- SENSE_GAP (R468, R469): the sense amplifier's reading; `cross`: the phase error that the zero crossing shows, in units of
f_r, if one was found. -/
def execSenseGap (c : Fin 16) (vs : Int) (cross : Option Int) (s : State) : Ans :=
  let h := s.hch c.val
  let carrier := match h.cur with
    | some x => x.carrier
    | none => false
  if !s.plaOn || h.mode = .off || !(carrier || (h.mode == .brake && (s.accOf c.val).isNone)) then .next s
  else
    let s := s.modHch c.val fun h => { h with vs := vs }
    if !s.on F.PLA_CH_RES_TRACK_EN c.val then .next s
    else
      match cross with
      | some e =>
        let f0 := s.rd F.PLA_CH_RES_F0 c.val
        let band := clampN 1 50 (s.rd F.PLA_CH_RES_BAND c.val)
        let f := (s.rd F.PLA_CH_MEAS_RES c.val : Int) + (s.rd F.PLA_CH_RES_GAIN c.val : Nat) * e / 256
        let f := clampI ((f0 * (100 - band) / 100 : Nat) : Int) ((f0 * (100 + band) / 100 : Nat) : Int) f
        .next ((s.wr F.PLA_CH_MEAS_RES f.toNat c.val).modHch c.val fun h => { h with gaps := 0, resLost := false })
      | none =>
        let n := min 8 (h.gaps + 1)
        let lost := n == 8
        let s := s.modHch c.val fun h => { h with gaps := n, resLost := h.resLost || lost }
        .next (s.when (lost && !h.resLost) fun s => s.raise 452 c.val)

/-! ### Faults (16.6) -/

/-- Channels of a fault (Table 16-6). -/
def State.faultChans (s : State) (code c : Nat) (vg5 : Bool) : List Nat :=
  if code < 4 then [c]
  else if code = 4 then (List.range 16).filter fun k => (s.haptic k).kind == 1
  else if code = 5 && !vg5 then (List.range 16).filter fun k => (s.haptic k).kind == 2
  else List.range 16

/-- DRIVE_FAULT (R476). -/
def execDriveFault (code : Fin 8) (c : Fin 16) (vg5 : Bool) (s : State) : Ans :=
  if !s.domainUp 10 || code.val = 0 then .next s
  else
    let s := s.when (code.val == 4 || code.val == 6) fun s => (s.modPla fun p => { p with boostStopped := true }).boostUpdate
    let s := s.each (s.faultChans code.val c.val vg5) fun s k =>
      ((s.wr F.PLA_CH_FAULT_CODE code.val k).plaEvent k 6).raise 454 (k + 16 * code.val)
    .next (if code.val = 4 then s.raise 455 else if code.val = 6 then s.raise 456 else if code.val = 7 then s.raise 458 else s)

/-- FAULT_CLEAR (R477): `ended` tells whether a cause of code 4 to 7 has ended; those of codes 1 to 3 have at once. -/
def execFaultClear (ini : Initiator) (c : Fin 16) (ended : Bool) (s : State) : Ans :=
  s.busBy ini fun s =>
  if !s.mayWrite ini F.PLA_CH_FAULT_CLEAR c.val false then .next (s.denied ini (0x6800028 + 0x100 * c.val))
  else if s.plaState c.val ≠ 4 then .next s
  else if 4 ≤ s.rd F.PLA_CH_FAULT_CODE c.val && !ended then .next (s.wr F.PLA_CH_FAULT_STILL_SET 1 c.val)
  else
    let s0 := s.rd F.PLA_CH_FAULT_CODE c.val
    let s := (s.wr F.PLA_CH_FAULT_STILL_SET 0 c.val).wr F.PLA_CH_FAULT_CODE 0 c.val
    let s := s.when (s0 == 4 || s0 == 6) fun s => s.modPla fun p => { p with boostStopped := false }
    .next (s.plaEvent c.val 7)

/-- ACC_READ (R468, R478): the two bytes that accelerometer `k` answers. -/
def execAccRead (k : Fin 8) (b0 b1 : Byte) (s : State) : Ans :=
  let a := s.pla.accs.getD k.val { bad := 0, faulty := false }
  if !s.plaOn || a.faulty then .next s
  else
    let s := s.send (.accSpi k.val (s.rd F.PLA_ACCK_CFG_READ_BIT k.val * 128 + s.rd F.PLA_ACCK_CFG_REG k.val))
    let bad := (b0 == 0 && b1 == 0) || (b0 == 0xFF && b1 == 0xFF)
    let n := if bad then a.bad + 1 else 0
    let s := s.modPla fun p => { p with accs := p.accs.set k.val { bad := min n 3, faulty := decide (3 ≤ n) } }
    if 3 ≤ n then .next (s.raise 453 k.val)
    else
      let raw := if s.on F.PLA_ACCK_CFG_BIG_END k.val then b0.toNat * 256 + b1.toNat else b1.toNat * 256 + b0.toNat
      let v := sx 16 raw * (s.rd F.PLA_ACCK_CFG_SCALE k.val : Nat) / 256
      .next (s.each (List.range 16) fun s c =>
        if (s.haptic c).accCs = k.val then s.modHch c fun h => { h with acc := v } else s)

/-- ACC_RETRY (R478). -/
def execAccRetry (ini : Initiator) (s : State) : Ans :=
  s.busBy ini fun s =>
  if !s.mayWrite ini F.PLA_ACC_CFG_ACC_RETRY 0 false then .next (s.denied ini 0x6801100)
  else .next (s.modPla fun p => { p with accs := p.accs.map fun _ => { bad := 0, faulty := false } })

/-! ### Chip and coves (R473) -/

/-- Chip safe state and entry to DRAIN: queued effects end STOPPED, current ones brake. -/
def State.plaStopAll (s : State) : State :=
  s.each (List.range 16) fun s c => (s.fxRemove c 3 fun _ => true).forceBrake c

/-- An instance reset of cove `c`: queued effects are purged, the current effect brakes. -/
def State.plaCoveReset (s : State) (c : Nat) : State :=
  let sel : PlaFx → Bool := fun x => !x.secure && x.cove == c
  let s := s.each (List.range 16) fun s k =>
    let h := s.hch k
    let n := (h.queue.filter sel).length + (h.news.filter sel).length
    let s := (s.inc F.COVE_PURGED_COUNT n c).modHch k fun h =>
      { h with news := h.news.filter (!sel ·), queue := h.queue.filter (!sel ·) }
    match h.cur with
    | some x => if sel x then s.forceBrake k else s
    | none => s
  s.each (List.range 4) fun s p => (s.modFxPort (4 * c + p) fun a => { a with open_ := 0 }).wr F.PLA_FX_STAT_BUSY 0 (4 * c + p)

/-- FREEZE of cove `c`: queued effects end DROPPED. -/
def State.plaFreeze (s : State) (c : Nat) : State :=
  s.each (List.range 16) fun s k => s.fxRemove k 4 fun x => !x.secure && x.cove == c

/-- Power-fail warning, or D10 off: drive stops without braking. -/
def State.plaDead (s : State) : State :=
  (s.each (List.range 16) fun s c =>
    ((((s.fxRemove c 3 fun _ => true).endCur c 3).plaOff1 c).modHch c fun h => { h with forced := false }).wr
      F.PLA_CH_STAT_STATE (if s.plaState c = 4 then 4 else 0) c).modPla fun p => { p with boostIdle := none }

end Sys2Proof.Machine
end

