-- ==== Sys2Proof/Machine/Seals.lean ====
section
/-!
DEFINITION. Frames of the Wellhead link as the main die sends them (R503), the no-valid-reading reasons (R508, R509), and
the result of a sealed window: what is recorded, counted and raised (R346, R347, R351).
-/
namespace Sys2Proof.Machine

/-! ### Wellhead link frames -/

/-- A link frame: header, payload and CHECK (R503). -/
def welBytes (seq type : Nat) (body : List Byte) : List Byte :=
  let f := leBytes 1 type ++ leBytes 1 0 ++ leBytes 2 body.length ++ leBytes 2 seq ++ leBytes 2 0 ++ body
  f ++ leBytes 4 (crc32c f)

/-- The main die sends a frame. -/
def State.welPut (s : State) (type : Nat) (body : List Byte) : State :=
  (s.send (.welFrame true (welBytes (s.wel.linkSeq % 65536) type body))).modWel fun w =>
    { w with linkSeq := w.linkSeq + 1, lastTx := s.elapsed }

/-- The main die sends a frame while the link is up. -/
def State.welSend (s : State) (type : Nat) (body : List Byte) : State :=
  if s.on F.WEL_STAT_LINK_UP then s.welPut type body else s

/-- Head and unit of the legal window (R351). -/
def State.legalHead (s : State) : Option Nat := s.img.legal.map (·.head)
def State.legalUnit (s : State) : Option Nat := s.img.legal.map fun l => 8 * l.head + l.window

/-- The set of no-valid-reading reasons becomes `r`: a change raises event 483 and sends NVR_STATE with the first frame under
the new state (R509). -/
def State.setReasons (s : State) (r seq : Nat) : State :=
  if r = s.rd F.WEL_STAT_REASONS then s
  else
    let s1 := (s.wr F.WEL_STAT_REASONS r).raise 483 r
    s1.welSend 0x92 (leBytes 2 r ++ leBytes 2 0 ++ leBytes 4 seq)

/-- Sequence of the legal head's next frame. -/
def State.legalNextSeq (s : State) : Nat :=
  match s.legalHead with
  | some h => (s.rd F.OUT_HEAD_SEQ_SEQ h + 1) % 2 ^ 32
  | none => 0

/-- Set or clear one reason between frame starts. -/
def State.reason (s : State) (k : Nat) (b : Bool) : State :=
  s.setReasons (setBits (s.rd F.WEL_STAT_REASONS) k k (b2n b)) s.legalNextSeq

/-! ### Results -/

/-- Sequence `a` is newer than `b` (R345). -/
def newer (a b : Nat) : Bool :=
  let d := (a + 2 ^ 32 - b) % 2 ^ 32
  decide (1 ≤ d) && decide (d < 2 ^ 31)

/-- Entries that stay after a result of sequence `seq`: those for it only when the result is INCOMPLETE (Table 12-2), and
none that is older (R346). -/
def keptEntries (l : List SndEntry) (seq status : Nat) : List SndEntry :=
  l.filter fun e => !newer seq e.seq && (status == 4 || e.seq != seq)

/-- Count and raise what Table 12-3 says of a result of unit `u`; `prev` is the status of the result before it. -/
def State.sealAct (s : State) (u status cause prev : Nat) : State :=
  match status with
  | 1 => (s.wr F.SND_UNIT_RES_STAT_CONSEC_BAD 0 u).inc F.SND_UNIT_MATCHES_COUNT 1 u
  | 2 => ((s.incSat F.SND_UNIT_RES_STAT_CONSEC_BAD 1 u).inc F.SND_UNIT_BAD_COUNT 1 u).raise 320 u
  | 3 => (s.incSat F.SND_UNIT_RES_STAT_CONSEC_BAD 1 u).raise 321 u
  | 4 => s.raise 322 (u + 256 * cause)
  | _ => if prev = 5 then s else s.raise 324 u

/-- The result of unit `u` for the current frame (R346, R347); the legal window's goes to Wellhead too (R351). -/
def State.sealDone (s : State) (u status crc tag cause : Nat) : State :=
  let seq := s.rd F.OUT_HEAD_SEQ_SEQ (u / 8)
  let prev := s.rd F.SND_UNIT_RES_STAT_STATUS u
  let old := ((s.unit u).entries.filter fun e => newer seq e.seq).length
  let s1 := s.modUnit u fun k => { k with done := true, entries := keptEntries k.entries seq status }
  let s2 := ((s1.wr F.SND_UNIT_RES_SEQ_SEQ seq u).wr F.SND_UNIT_RES_CRC_CRC crc u).wr F.SND_UNIT_RES_STAT_NEW 1 u
  let s3 := ((s2.wr F.SND_UNIT_RES_STAT_STATUS status u).wr F.SND_UNIT_RES_STAT_TAG tag u).wr F.SND_UNIT_RES_STAT_CAUSE cause u
  let s4 := ((s3.wr F.SND_UNIT_RES_TS_TS s.tbs.now u).inc F.SND_UNIT_EXPIRED_COUNT old u).sealAct u status cause prev
  if s.legalUnit = some u then
    s4.welSend 0xA0 (leBytes 4 seq ++ leBytes 4 crc ++ leBytes 1 status ++ leBytes 1 tag ++ leBytes 1 cause ++ leBytes 1 0)
  else s4

/-- An INCOMPLETE result of unit `u` with a cause, unless the frame's result is already out (R346). -/
def State.sealIncomplete (s : State) (u cause : Nat) : State :=
  if !(s.unit u).cfg.en || (s.unit u).done then s else s.sealDone u 4 0 0 cause

/-- Windows of head `h` that have no result yet end INCOMPLETE. -/
def State.sealsCut (s : State) (h cause : Nat) : State :=
  s.each ((List.range 8).map (8 * h + ·)) fun s u => s.sealIncomplete u cause

end Sys2Proof.Machine
end

