-- ==== Sys2Proof/Machine/Outlet.lean ====
section
/-!
DEFINITION. Outlet (chapter 11): engines and PLLs (R307, R309, R323, R324), strips and missing pixels (R313 to R315), the
colour stage (R316), underruns and aborts (R317 to R322), ports and AUX (R325 to R329), panels, backlights and ambient
light (R331 to R334) and genlock (R335 to R337).
-/
namespace Sys2Proof.Machine

/-! ### Heads and engines -/

/-- A head scans: from its first frame start until the end of its panel-off delay. -/
def HeadStage.scans : HeadStage → Bool
  | .dark => true | .lit => true | .closing => true | _ => false

/-- Head `h` scans. -/
def State.scanning (s : State) (h : Nat) : Bool := (s.oh h).stage.scans

/-- Halves of a head: two for a pair lead. -/
def State.halves (s : State) (h : Nat) : Nat := if (s.head h).lead then 2 else 1

/-- Half of a column. -/
def State.halfOf (s : State) (h col : Nat) : Nat := if (s.head h).lead && decide (1920 ≤ col) then 1 else 0

/-- Set an engine's role (Table 11-6): 0 idle, 1 primary, 2 checker, 3 spare, 4 isolated. -/
def State.setEng (s : State) (e role h half : Nat) : State :=
  ((s.wr F.OUT_ENG_STAT_ROLE role e).wr F.OUT_ENG_STAT_HEAD h e).wr F.OUT_ENG_STAT_HALF half e

/-- Role of engine `e`. -/
def State.role (s : State) (e : Nat) : Nat := s.rd F.OUT_ENG_STAT_ROLE e

/-- The engine of a role that serves half `k` of head `h`. -/
def State.engFor (s : State) (role h k : Nat) : Option Nat :=
  (List.range 12).find? fun e => s.role e == role && s.rd F.OUT_ENG_STAT_HEAD e == h && s.rd F.OUT_ENG_STAT_HALF e == k

/-- Isolated engines stay isolated. -/
def State.offerEng (s : State) (e role h half : Nat) : State :=
  if s.role e = 4 then
    (if role = 1 || role = 2 then s.modOut fun o => { o with lost := o.lost ++ [(e, h, half)] } else s)
  else s.setEng e role h half

/-- Assign the checkers of the safety heads, ascending, to the lowest-numbered free checkers; the rest are spares (R307). -/
def giveCheckers : List (Nat × Nat) → List Nat → State → State
  | _, [], s => s
  | [], e :: es, s => giveCheckers [] es (s.offerEng e 3 0 0)
  | (h, k) :: l, e :: es, s => giveCheckers l es (s.offerEng e 2 h k)

/-- Assign engines to heads at an application of the HEADS section (R307, Table 11-1). -/
def State.assignEngines (s : State) : State :=
  let s0 := s.modOut fun o => { o with lost := [] }
  let s1 := s0.each (List.range 8) fun s h =>
    let hd := s.head h
    if hd.follow then (if (s.head (h - 1)).en then s.offerEng h 1 (h - 1) 1 else s.offerEng h 0 h 0)
    else if hd.en then s.offerEng h 1 h 0 else s.offerEng h 0 h 0
  let need := ((List.range 8).filter fun h => (s.head h).en && (s.head h).safety).flatMap fun h =>
    (List.range (s.halves h)).map fun k => (h, k)
  giveCheckers need (((List.range 12).drop 8).filter fun e => s1.role e != 4) s1

/-- The lowest-numbered spare engine. -/
def State.spareEng (s : State) : Option Nat := (List.range 12).find? fun e => s.role e == 3

/-- The Display region raises the Spillway for a fault of an Outlet unit (R320, R323, R324). -/
def State.displaySpill (s : State) (inst : Nat) : State :=
  s.spillRaise 5 (s.flogEntry 3 5 3 5 { unit := 11, inst := Fin.ofNat 512 inst } (secTag s))

/-! ### Colour stage (R316) -/

/-- Entry `i` of LUT `n` of a COLOUR record: 0 to 2 degamma, 3 to 5 gamma (Table 04-8). -/
def lutAt (l : List Byte) (n i : Nat) : Nat := leAt l (if n < 3 then 2048 * n + 2 * i else 6164 + 2048 * (n - 3) + 2 * i) 2

/-- Gamut coefficient. -/
def gamutAt (l : List Byte) (i j : Nat) : Int := sx 16 (leAt l (6144 + 2 * (3 * i + j)) 2)

/-- Step 4 of Table 11-4. -/
def gammaOf (l : List Byte) (n w : Nat) : Nat :=
  let p := (w * 1023 + 512) / 1024
  let i := p / 64
  let f := p % 64
  let a : Int := lutAt l (3 + n) (min i 1023)
  let b : Int := lutAt l (3 + n) (min (i + 1) 1023)
  (a + ((b - a) * f + 32) / 64).toNat

/-- The colour stage: a stored pixel value to the value at the pins, packed as it is stored. -/
def colourPx (deep : Bool) (l : List Byte) (v : Nat) : Nat :=
  let ix := fun c => if deep then c else ex8 (c % 256)
  let u := fun n c => (lutAt l n (ix c) : Int)
  let r := u 0 (bits v 29 20)
  let g := u 1 (bits v 19 10)
  let b := u 2 (bits v 9 0)
  let w := fun i => (clampI 0 65535 ((gamutAt l i 0 * r + gamutAt l i 1 * g + gamutAt l i 2 * b + 2048) / 4096)).toNat
  let o := fun i =>
    let x := gammaOf l i (w i)
    if deep then (x * 1023 + 32767) / 65535 else (x * 255 + 32767) / 65535
  o 0 * 2 ^ 20 + o 1 * 2 ^ 10 + o 2

/-- BG_COLOUR of a head as it is stored (R317). -/
def State.bgStored (s : State) (h : Nat) : Nat := storedPx (s.head h).depth30 (pxOf (s.head h).bg)

/-! ### Missing pixels -/

/-- The decoded content of tile `k` in the current frame. -/
def OutHead.tile (o : OutHead) (k : Nat) : Option (Option (List Nat)) := (o.scan.find? fun t => t.1 == k).map (·.2)

/-- The half of a pixel has an engine that supplies it. -/
def State.supplied (s : State) (h col : Nat) : Bool := (s.engFor 1 h (s.halfOf h col)).isSome

/-- Pixel (line, column) of head `h` is missing (R313 to R315, R323): its engine is gone, its tile or an earlier tile of the
strip in its half is unavailable, or its scan-buffer word is lost. -/
def State.missing (s : State) (h line col : Nat) : Bool :=
  let o := s.oh h
  let w := s.tilesW h
  let first := if s.halfOf h col = 1 then 60 else 0
  !s.supplied h col || o.lostPx.contains (line, col) || (o.tile (line / 32 * w + col / 32)).isNone
    || ((List.range (col / 32 + 1 - first)).any fun k => o.tile (line / 32 * w + first + k) == some none)

/-- Pixel (line, column) lies in the active area. -/
def State.inActive (s : State) (h line col : Nat) : Bool :=
  decide (line < (s.head h).vActive) && decide (col < (s.head h).hActive)

/-- The value that the port encodes for a pixel: from the first missing pixel of a line on, BG_COLOUR (R317, R341). -/
def State.pinPx (s : State) (h x y : Nat) : Option Nat :=
  let o := s.oh h
  let deep := (s.head h).depth30
  if o.under.any fun u => u.1 == y && decide (u.2 ≤ x) then some (colourPx deep o.lut (s.bgStored h))
  else if s.missing h y x then none
  else match o.tile (y / 32 * s.tilesW h + x / 32) with
    | some (some px) => some (colourPx deep o.lut (px.getD (y % 32 * 32 + x % 32) 0))
    | _ => none

/-! ### Strips (R313 to R315) -/

/-- The entry that an engine reads for tile `k`: the NVR tile while the override is in force (R508). -/
def State.scanEntry (s : State) (h k : Nat) : TileEntry :=
  if s.on F.WEL_STAT_NVR && s.tileLegal h k then nth s.tst.nvr ((s.legalTiles h).idxOf k) default else s.entry h k

/-- Tiles of a strip that an engine decodes: its half's columns. -/
def State.stripTiles (s : State) (h half strip : Nat) : List Nat :=
  let w := s.tilesW h
  ((List.range w).filter fun x => !(s.head h).lead || (decide (60 ≤ x)) == (half == 1)).map fun x => strip * w + x

/-- Governor threshold of a head (Table 11-3). -/
def State.fifoLow (s : State) (h : Nat) : Nat := max (s.rd F.OUT_HEAD_FIFO_LOW h) 16

/-- The fill of a head: the lowest among its engines (R313). -/
def State.fillOf (s : State) (h : Nat) : Nat :=
  (((List.range 12).filter fun e => (s.role e == 1 || s.role e == 2) && s.rd F.OUT_ENG_STAT_HEAD e == h).map
    fun e => s.out.fills.getD e 0).foldl min 95

/-- FILL and MIN of head `h`. -/
def State.showFill (s : State) (h n : Nat) : State :=
  (s.wr F.OUT_HEAD_FIFO_FILL n h).wr F.OUT_HEAD_FIFO_MIN (min n (s.rd F.OUT_HEAD_FIFO_MIN h)) h

/-- Engine `e` of head `h` has `fill` lines ahead: FILL and MIN of the head follow. -/
def State.setFill (s : State) (h e fill : Nat) : State :=
  let s1 := s.modOut fun o => { o with fills := o.fills.set e fill }
  s1.showFill h (s1.fillOf h)

/-- The margin governor is told that a watched FIFO is short (R24): event 1, once while it is. -/
def State.govAlert (s : State) (f : Watched) : State :=
  if s.gov.below.contains f then s.modGov fun g => { g with raising := true }
  else (s.modGov fun g => { g with below := g.below ++ [f], raising := true }).raise 1

/-- Release threshold of a head (Table 11-3). -/
def State.fifoRelease (s : State) (h : Nat) : Nat :=
  let r := s.rd F.OUT_HEAD_FIFO_RELEASE h
  if r ≤ s.fifoLow h then s.fifoLow h + 8 else r

/-- Release threshold of a watched FIFO (R25, R196, R226, R313, R428, R541). -/
def State.releaseOf (s : State) (f : Watched) : Nat :=
  match f with
  | .head h => s.fifoRelease h.val
  | .tdmTx n => s.tdmRelease n.val
  | .wdata _ => 8
  | .pcieTx => 2048
  | .portageTx _ => 4096

/-- The governor reads a fill while the FIFO's consumer is active: short of its release threshold, it holds VCORE up, and the 100 ms of R25
begin anew. -/
def State.govSeen (s : State) (f : Watched) (fill : Nat) (active : Bool) : State :=
  let short := active && decide (fill < s.releaseOf f)
  s.modGov fun g =>
    { g with under := if short then f :: g.under.filter (· != f) else g.under.filter (· != f),
             clearAt := if short || g.under.contains f then s.elapsed else g.clearAt }

/-- The fill is watched in the active lines (R313); below LOW (Table 11-3): event 260 once per frame, and the governor. -/
def State.scanLow (s0 : State) (h : Nat) : State :=
  let fill := s0.fillOf h
  let s := s0.govSeen (.head (Fin.ofNat 8 h)) fill (s0.lineActive h)
  if s.fifoLow h ≤ fill || !s.lineActive h then s
  else
    let s1 := s.govAlert (.head (Fin.ofNat 8 h))
    if (s.oh h).lowRaised then s1
    else (s1.modOh h fun o => { o with lowRaised := true }).raise 260 (h + 256 * fill)

/-- Decode one tile: a coded tile that fails R277 is handled as an uncorrectable word (R299). -/
def State.decodeTile (s : State) (h k : Nat) : State :=
  let e := s.scanEntry h k
  let deep := (s.head h).depth30
  match s.tilePx deep e with
  | some px => s.modOh h fun o => { o with scan := (k, some px) :: o.scan.filter fun t => t.1 != k }
  | none =>
    let s1 := if e.lost || s.on F.WEL_STAT_NVR && s.tileLegal h k then s else s.tarnUe h k (e.grans.getD 0 0)
    s1.modOh h fun o => { o with scan := (k, none) :: o.scan.filter fun t => t.1 != k }

/-- Any stored-bad word of a granule makes its read uncorrectable. -/
def State.granEcc (s : State) (g : Nat) (ecc : EccResult) : EccResult :=
  if s.tst.bad.any fun w => w / 128 == g then .uncorrectable else ecc

/-- Granules that a strip reads, with the outcomes given for some of them. -/
def State.stripReads (s : State) (h : Nat) (tiles : List Nat) (reads : List (Nat × EccResult)) : List (Nat × EccResult) :=
  (tiles.flatMap fun k => (s.scanEntry h k).grans).map fun g =>
    (g, s.granEcc g (match reads.find? fun r => r.1 == g with | some r => r.2 | none => .ok))

/-- Uncorrectable scan-buffer words: counted, their pixels missing; the fourth of a frame faults the engine (R315). -/
def State.bufWords (s : State) (e h : Nat) (l : List (Nat × Nat)) : State :=
  if l.isEmpty then s
  else
    let s1 := (s.incSat F.OUT_ENG_STAT_UE l.length e).modOh h fun o => { o with lostPx := o.lostPx ++ l }
    if 4 ≤ s1.rd F.OUT_ENG_STAT_UE e then
      (if s1.fab.faulted.contains { unit := 11, inst := Fin.ofNat 512 e } then s1
       else s1.modFab fun f => { f with faulted := f.faulted ++ [{ unit := 11, inst := Fin.ofNat 512 e }] })
    else s1

/-- STRIP_DECODE (R299, R301, R313 to R315): `fill` is what the engine then has ahead of the scan. -/
def execStripDecode (e : Fin 12) (strip : Nat) (fill : Fin 96) (reads : List (Nat × EccResult)) (mapEcc : List Nat)
    (bufUe : List (Nat × Nat)) (s : State) : Ans :=
  let h := s.rd F.OUT_ENG_STAT_HEAD e.val
  let half := s.rd F.OUT_ENG_STAT_HALF e.val
  if !(s.role e.val == 1 || s.role e.val == 2) || !s.scanning h || decide (s.tilesH h ≤ strip) then .next s
  else
    let tiles := s.stripTiles h half strip
    let s1 := s.each (mapEcc.filter tiles.contains) fun s k => s.mapEcc h k
    let s2 := s1.each (s1.stripReads h tiles reads) fun s (r : Nat × EccResult) => s.granuleRead r.1 r.2
    let s3 := if s.role e.val = 1 then s2.each tiles fun s k => s.decodeTile h k else s2
    let s4 := s3.bufWords e.val h bufUe
    .next ((s4.setFill h e.val fill.val).scanLow h)

/-- FIFO_MIN_CLR (R313): a write of OUT_HEADh_FIFO. RELEASE and LOW take the secure world. -/
def execFifoMinClr (ini : Initiator) (h : Fin 8) (v : Word) (s : State) : Ans :=
  s.busBy ini fun s =>
  let n := h.val
  let off := 0x4000014 + 0x1000 * n
  let rel := bits v.toNat 22 16
  let low := bits v.toNat 14 8
  if (s.head n).follow then .next s
  else if !(if (s.head n).safety then s.isSec ini else s.isCove0 ini) then .next (s.denied ini off)
  else
    let changes := rel != s.rd F.OUT_HEAD_FIFO_RELEASE n || low != s.rd F.OUT_HEAD_FIFO_LOW n
    let s1 := if s.isSec ini then (s.wr F.OUT_HEAD_FIFO_RELEASE rel n).wr F.OUT_HEAD_FIFO_LOW low n else s
    let s2 := if bit v.toNat 31 then s1.wr F.OUT_HEAD_FIFO_MIN (s1.rd F.OUT_HEAD_FIFO_FILL n) n else s1
    .next (if !s.isSec ini && changes then s2.denied ini off else s2)

/-! ### Underrun, abort and mismatch -/

/-- SCAN_UNDERRUN (R317). -/
def execScanUnderrun (h : Fin 8) (line col : Nat) (s : State) : Ans :=
  let n := h.val
  if !s.scanning n || (s.head n).safety || !s.inActive n line col || !s.missing n line col
    || ((s.oh n).under.any fun u => u.1 == line && decide (u.2 ≤ col)) then .next s
  else
    let s1 := (s.modOh n fun o => { o with under := (line, col) :: o.under }).inc F.OUT_HEAD_UNDER_COUNT 1 n
    let s2 := s1.send (.background n)
    .next (if (s.oh n).underRaised then s2 else (s2.modOh n fun o => { o with underRaised := true }).raise 257 n)

/-- A safety head's frame is aborted (R318, R320): cause 0 underrun, 1 mismatch, 2 engine fault, 3 PLL. -/
def State.abortFrame (s : State) (h cause : Nat) : State :=
  if (s.oh h).aborting then s
  else
    let s1 := (s.sealsCut h 0).modOh h fun o => { o with aborting := true }
    let s2 := (s1.inc F.OUT_HEAD_ABORT_TOTAL 1 h).inc F.OUT_HEAD_UNDER_COUNT 1 h
    let n := s2.rd F.OUT_HEAD_ABORT_CONSEC h
    let s3 := (s2.wr F.OUT_HEAD_ABORT_CONSEC (min 3 (n + 1)) h).raise 258 (h + 16 * cause)
    if n = 2 then ((s3.wr F.OUT_HEAD_STAT_FAULT 1 h).raise 259 h).displaySpill h else s3

/-- FRAME_ABORT (R318): a safety head reaches a missing pixel. -/
def execFrameAbort (h : Fin 8) (line col : Nat) (s : State) : Ans :=
  let n := h.val
  if !s.scanning n || !(s.head n).safety || !s.inActive n line col || !s.missing n line col then .next s
  else .next (s.abortFrame n 0)

/-- LOCKSTEP_MISMATCH (R322): primary and checker of a half differ on a pixel. -/
def execLockstepMismatch (h : Fin 8) (line col : Nat) (s : State) : Ans :=
  let n := h.val
  match s.engFor 1 n (s.halfOf n col), s.engFor 2 n (s.halfOf n col) with
  | some e, some _ =>
    if !s.scanning n || !(s.head n).safety || !s.inActive n line col || (s.oh n).aborting then .next s
    else
      let s1 := (s.flogAdd 1 0 4 { unit := 11, inst := Fin.ofNat 512 e } (secTag s)).raise 261 (n + 16 * line)
      .next (s1.abortFrame n 1)
  | _, _ => .next s

/-- Engine `e` is isolated (R323, Table 11-5). `ahead`: active pixels of its half are still to come in this frame. -/
def State.engineOut (s : State) (e : Nat) (ahead : Bool) : State :=
  let r := s.role e
  let h := s.rd F.OUT_ENG_STAT_HEAD e
  let k := s.rd F.OUT_ENG_STAT_HALF e
  let s1 := s.wr F.OUT_ENG_STAT_ROLE 4 e
  if !(r == 1 || r == 2) then s1
  else
    let s2 := s1.modOut fun o => { o with lost := o.lost ++ [(e, h, k)] }
    let spare := s2.spareEng.isSome
    if !(s.head h).safety then (if spare then s2 else s2.displaySpill e)
    else
      let s3 := if r = 1 then
          (match s2.engFor 2 h k with | some c => s2.wr F.OUT_ENG_STAT_ROLE 1 c | none => s2)
        else s2
      let s4 := if r = 1 && ahead then s3.abortFrame h 2 else s3
      let s5 := if spare then s4 else (s4.wr F.OUT_HEAD_STAT_SINGLE 1 h).raise 263 h
      s5.displaySpill e

/-! ### Pixel PLLs (R309, R324) -/

/-- Program PLL `p` for head `h`: it locks. -/
def State.pllOn (s : State) (p h : Nat) : State :=
  (((s.wr F.OUT_PLL_STAT_LOCKED 1 p).wr F.OUT_PLL_STAT_IN_USE 1 p).wr F.OUT_PLL_STAT_HEAD h p).wr F.OUT_HEAD_STAT_PLL p h

/-- Switch PLL `p` off. -/
def State.pllOff (s : State) (p : Nat) : State :=
  ((s.wr F.OUT_PLL_STAT_LOCKED 0 p).wr F.OUT_PLL_STAT_IN_USE 0 p).wr F.OUT_PLL_STAT_TRIM 0 p

/-- The head stops: no valid pixels leave, and its open windows end INCOMPLETE with cause 2 (R346). -/
def State.headStop (s : State) (h : Nat) : State :=
  ((s.sealsCut h 2).modOh h fun o => { o with stage := .stopped }).wr F.OUT_HEAD_STAT_ON 0 h

/-- PLL_UNLOCK (R324). -/
def execPllUnlock (p : Fin 9) (s : State) : Ans :=
  if !s.on F.OUT_PLL_STAT_LOCKED p.val then .next s
  else
    let h := s.rd F.OUT_PLL_STAT_HEAD p.val
    let used := s.on F.OUT_PLL_STAT_IN_USE p.val
    let s1 := (s.wr F.OUT_PLL_STAT_LOCKED 0 p.val).raise 264 p.val
    if !used then .next s1
    else
      let s2 := s1.headStop h
      if p.val ≠ 8 && !s.on F.OUT_PLL_STAT_IN_USE 8 then
        .next (((s2.wr F.OUT_PLL_STAT_IN_USE 1 8).wr F.OUT_PLL_STAT_HEAD h 8).modOut fun o => { o with pllSpare := some p.val })
      else .next ((s2.wr F.OUT_HEAD_STAT_FAULT 1 h).displaySpill h)

/-! ### Links (R326 to R328) -/

/-- Ten times the lane rate in units of 10^8 bit/s times 0.8 for RATE (Table 11-2): 1.62, 2.7, 5.4, 8.1. -/
def laneRate : Nat → Nat
  | 0 => 1296000000 | 1 => 2160000000 | 2 => 4320000000 | _ => 6480000000

/-- A rate meets the capacity condition of Table 11-2. -/
def State.rateOk (s : State) (n r : Nat) : Bool :=
  let hd := s.head n
  let lanes := (s.img.ports.getD n default).lanes
  decide (hd.pclk * 1000 * (if hd.depth30 then 30 else 24) ≤ lanes * laneRate r)

/-- Put a transaction on AUX. -/
def State.auxSend (s : State) (n : Nat) (a : Aux) : State := s.send (.aux n a.cmd a.addr a.len a.data)

def State.setAux (s : State) (n : Nat) (a : Option Aux) : State := s.modOut fun o => { o with aux := o.aux.set n a }

/-- A transaction that waits for the end of training, or of a DEFER interval, goes out (R329). -/
def State.auxResume (s : State) (n : Nat) : State :=
  match s.out.aux.getD n none with
  | some a => if a.waiting then (s.setAux n (some { a with waiting := false })).auxSend n a else s
  | none => s

/-- Link training starts. -/
def State.trainStart (s : State) (n : Nat) : State := (s.wr F.OUT_PORT_STAT_UP 0 n).wr F.OUT_PORT_STAT_TRAINING 1 n

/-- LINK_DOWN was 1 during the frame (R346). -/
def State.linkMark (s : State) (n : Nat) : State := s.modOh n fun o => { o with linkSeen := true }

/-- The link goes down with a cause: event 267. -/
def State.linkDown (s : State) (n cause : Nat) : State :=
  (((s.wr F.OUT_PORT_STAT_UP 0 n).wr F.OUT_PORT_STAT_TRAINING 0 n).linkMark n).raise 267 (n + 16 * cause)

/-- PORT_RETRAIN (R330): ignored on LVDS and on a port whose head is off. -/
def execPortRetrain (ini : Initiator) (n : Fin 8) (s : State) : Ans :=
  s.busBy ini fun s =>
  if !(if (s.head n.val).safety then s.isSec ini else s.isCove0 ini) then .next (s.denied ini (0x4010014 + 0x1000 * n.val))
  else if !s.portDp n.val || (s.oh n.val).stage == .off then .next s
  else .next ((s.trainStart n.val).linkMark n.val)

/-- The rates tried: RATE, then each lower one. -/
def ratesFrom (r : Nat) : List Nat := (List.range (r + 1)).reverse

/-- LINK_TRAINING_END (R326): `ok` are the rates at which the sink trains with the image's lanes. An AUX transaction that waited for it
follows (R329). -/
def execLinkTrainingEnd (n : Fin 8) (ok : BitVec 4) (s : State) : Ans :=
  let cfg := s.img.ports.getD n.val default
  if !s.on F.OUT_PORT_STAT_TRAINING n.val then .next s
  else
    let s0 := if (s.oh n.val).stage == .training then s.modOh n.val fun o => { o with stage := .first } else s
    match (ratesFrom cfg.rate).find? fun r => bit ok.toNat r && (r == cfg.rate || s.rateOk n.val r) with
    | none => .next ((s0.linkDown n.val 1).auxResume n.val)
    | some r =>
      let s1 := ((s0.wr F.OUT_PORT_STAT_TRAINING 0 n.val).wr F.OUT_PORT_STAT_UP 1 n.val).wr F.OUT_PORT_STAT_RATE r n.val
      let s2 := (s1.wr F.OUT_PORT_STAT_LANES cfg.lanes n.val).raise 266 (n.val + 16 * r + 256 * cfg.lanes)
      .next ((if r < cfg.rate then s2.raise 268 (n.val + 16 * r) else s2).auxResume n.val)

/-- HPD_UNPLUG (R327): low for more than 2 ms. -/
def execHpdUnplug (n : Fin 8) (us : Nat) (s : State) : Ans :=
  if us ≤ 2000 then .next s
  else
    let s1 := s.wr F.OUT_PORT_STAT_HPD 0 n.val
    if s.on F.OUT_PORT_STAT_UP n.val || s.on F.OUT_PORT_STAT_TRAINING n.val then .next (s1.linkDown n.val 0) else .next s1

/-- HPD_IRQ (R327): a low pulse of 0.5 to 2 ms; `loss` is what the sink's lane status reports. -/
def execHpdIrq (n : Fin 8) (us : Nat) (loss : Bool) (s : State) : Ans :=
  if us < 500 || 2000 < us || !s.portDp n.val then .next s
  else
    let s1 := s.raise 269 n.val
    if s.on F.OUT_PORT_CFG_AUTO_TRAIN n.val && loss && s.on F.OUT_PORT_STAT_UP n.val
    then .next ((s1.linkDown n.val 2).trainStart n.val) else .next s1

/-- HPD_PLUG (R327, Table 11-9): HPD, read in the eDP and DP types only (R62), rises. -/
def execHpdPlug (n : Fin 8) (s : State) : Ans :=
  let s1 := s.wr F.OUT_PORT_STAT_HPD 1 n.val
  if !s.powered || !s.portDp n.val then .next s
  else if s.on F.OUT_PORT_STAT_HPD n.val then .next s1
  else match (s.oh n.val).stage with
    | .hpdWait => .next ((s1.modOh n.val fun o => { o with stage := .training }).trainStart n.val)
    | .off => .next s1
    | .panelDelay => .next s1
    | _ => .next (if s.on F.OUT_PORT_CFG_AUTO_TRAIN n.val then s1.trainStart n.val else s1)

/-! ### AUX (R329) -/


/-- The data bytes staged in OUT_PORTn_AUX_DATA. -/
def State.auxData (s : State) (n len : Nat) : List Byte :=
  ((List.range 4).flatMap fun k => leBytes 4 (s.rd F.OUT_PORT_AUX_DATA_DATA n k)).take len

/-- A write of OUT_PORTn_AUX_CMD with GO: CMD as written, the command it is taken as, and LEN. During training the transaction waits. -/
def State.auxGo (s : State) (ini : Initiator) (n code cmd len : Nat) : State :=
  if !(if (s.head n).safety then s.isSec ini else s.isCove0 ini) then s.denied ini (0x4010008 + 0x1000 * n)
  else if s.on F.OUT_PORT_AUX_STAT_BUSY n then s
  else
    let s1 := (s.wr F.OUT_PORT_AUX_CMD_CMD code n).wr F.OUT_PORT_AUX_CMD_LEN len n
    let wr := cmd = 0 || cmd = 2 || cmd = 4
    let a : Aux := { cmd := cmd, addr := s.rd F.OUT_PORT_AUX_ADDR_ADDR n, len := len + 1,
                     data := if wr then s.auxData n (len + 1) else [], defers := 0, silent := 0, waiting := true }
    let s2 := (s1.setAux n (some a)).wr F.OUT_PORT_AUX_STAT_BUSY 1 n
    if s.on F.OUT_PORT_STAT_TRAINING n then s2 else s2.auxResume n

/-- AUX_NATIVE_WRITE (R329). -/
def execAuxNativeWrite (ini : Initiator) (n : Fin 8) (len : Fin 16) (s : State) : Ans := s.busBy ini fun s => .next (s.auxGo ini n.val 0 0 len.val)

/-- AUX_NATIVE_READ (R329): CMD 1, or 6 or 7, which are taken as 1. -/
def execAuxNativeRead (ini : Initiator) (n : Fin 8) (len : Fin 16) (code : Fin 3) (s : State) : Ans :=
  s.busBy ini fun s =>
  .next (s.auxGo ini n.val (if code.val = 0 then 1 else 5 + code.val) 1 len.val)

/-- AUX_I2C_WRITE (R329). -/
def execAuxI2cWrite (ini : Initiator) (n : Fin 8) (len : Fin 16) (s : State) : Ans := s.busBy ini fun s => .next (s.auxGo ini n.val 2 2 len.val)

/-- AUX_I2C_READ (R329). -/
def execAuxI2cRead (ini : Initiator) (n : Fin 8) (len : Fin 16) (s : State) : Ans := s.busBy ini fun s => .next (s.auxGo ini n.val 3 3 len.val)

/-- AUX_I2C_WRITE_MOT (R329). -/
def execAuxI2cWriteMot (ini : Initiator) (n : Fin 8) (len : Fin 16) (s : State) : Ans := s.busBy ini fun s => .next (s.auxGo ini n.val 4 4 len.val)

/-- AUX_I2C_READ_MOT (R329). -/
def execAuxI2cReadMot (ini : Initiator) (n : Fin 8) (len : Fin 16) (s : State) : Ans := s.busBy ini fun s => .next (s.auxGo ini n.val 5 5 len.val)

/-- The transaction ends with a reply: DONE, FAIL and event 270. -/
def State.auxEnd (s : State) (n reply : Nat) : State :=
  let fail := reply != 0
  let s1 := ((s.setAux n none).wr F.OUT_PORT_AUX_STAT_BUSY 0 n).wr F.OUT_PORT_AUX_STAT_DONE 1 n
  let s2 := (if fail then s1.wr F.OUT_PORT_AUX_STAT_FAIL 1 n else s1).wr F.OUT_PORT_AUX_STAT_REPLY reply n
  s2.raise 270 (n + 256 * b2n fail)

/-- Put the bytes of a read into OUT_PORTn_AUX_DATA. -/
def State.auxStore (s : State) (n : Nat) (l : List Byte) : State :=
  let all := l ++ (s.auxData n 16).drop l.length
  s.each (List.range 4) fun s k => s.wr F.OUT_PORT_AUX_DATA_DATA (leAt all (4 * k) 4) n k

/-- AUX_REPLY (R329): 0 ACK, 1 NACK, 2 DEFER. -/
def execAuxReply (n : Fin 8) (reply : Fin 3) (data : List Byte) (s : State) : Ans :=
  match s.out.aux.getD n.val none with
  | none => .next s
  | some a =>
    if a.waiting then .next s
    else if reply.val = 2 && decide (a.defers < 7) then
      .next (s.setAux n.val (some { a with defers := a.defers + 1, silent := 0, waiting := true }))
    else
      let rd := a.cmd = 1 || a.cmd = 3 || a.cmd = 5
      let s1 := if reply.val = 0 && rd then s.auxStore n.val (data.take a.len) else s
      .next (s1.auxEnd n.val reply.val)

/-- AUX_DEFER_RETRY (R329): 400 µs after a DEFER, unless training has the channel. -/
def execAuxDeferRetry (n : Fin 8) (s : State) : Ans :=
  if s.on F.OUT_PORT_STAT_TRAINING n.val then .next s else .next (s.auxResume n.val)

/-- AUX_TIMEOUT (R329). -/
def execAuxTimeout (n : Fin 8) (s : State) : Ans :=
  match s.out.aux.getD n.val none with
  | some a =>
    if a.waiting then .next s
    else if a.silent < 2 then
      .next ((s.setAux n.val (some { a with silent := a.silent + 1 })).auxSend n.val a)
    else .next (s.auxEnd n.val 3)
  | none => .next s

/-! ### Panels (R331, R332) -/

/-- A head that is enabled comes up: steps 1 and 2 of Table 11-9. -/
def State.headUp (s : State) (h : Nat) : State :=
  let t := (s.img.ports.getD h default).type
  let s1 := ((s.pllOn h h).wr F.OUT_PORT_STAT_TYPE t h).modPins fun p =>
    { p with panelEn := p.panelEn ||| 2 ^ h
             portHiZ := if (p.portHold.getD h none).isSome then p.portHiZ else clearMask 8 p.portHiZ (2 ^ h) }
  let s2 := if (s.head h).lead then s1.pllOff (h + 1) else s1
  (s2.modOh h fun o => { o with stage := .panelDelay, disabling := false }).wrB F.OUT_HEAD_STAT_SAFETY (s.head h).safety h

/-- A head is powered off: step 3 and 4 of R332. A head that a delta disables gives up its engines (R307). -/
def State.headDown (s : State) (h : Nat) : State :=
  let s1 := ((s.headStop h).pllOff (s.rd F.OUT_HEAD_STAT_PLL h)).modPins fun p =>
    { p with panelEn := clearMask 8 p.panelEn (2 ^ h), portHiZ := p.portHiZ ||| 2 ^ h }
  let s2 := ((s1.wr F.OUT_PORT_STAT_UP 0 h).wr F.OUT_PORT_STAT_TRAINING 0 h).wr F.OUT_PORT_STAT_TYPE 0 h
  let s3 := s2.modOh h fun o => { o with stage := .off, disabling := false, scan := [], under := [], lostPx := [] }
  if (s.oh h).disabling && s.chip.phase != .drain then
    (s3.modImg fun m => { m with heads := m.heads.modify h fun c => { c with en := false } }).assignEngines
  else s3

/-- PANEL_DELAY_ELAPSED (R331, R332). -/
def execPanelDelayElapsed (h : Fin 8) (s : State) : Ans :=
  let n := h.val
  match (s.oh n).stage with
  | .panelDelay =>
    if !s.portDp n then .next (s.modOh n fun o => { o with stage := .first })
    else if s.on F.OUT_PORT_STAT_HPD n then .next ((s.modOh n fun o => { o with stage := .training }).trainStart n)
    else .next (s.modOh n fun o => { o with stage := .hpdWait })
  | .closing => .next ((s.headDown n).raise 275 n)
  | _ => .next s

/-- HPD_WAIT_TIMEOUT (R331). -/
def execHpdWaitTimeout (h : Fin 8) (s : State) : Ans :=
  match (s.oh h.val).stage with
  | .hpdWait => .next ((s.modOh h.val fun o => { o with stage := .first }).linkDown h.val 0)
  | _ => .next s

/-- In DRAIN the safety heads are switched off last (Table 03-13): head `h` waits for an ordinary head. -/
def State.offLast (s : State) (h : Nat) : Bool :=
  s.chip.phase == .drain && (s.head h).safety && (List.range 8).any fun k => !(s.head k).safety && (s.oh k).stage != .off

/-- HEAD_DISABLE (R332): at the next frame start of a head to be disabled the backlight goes off; scan goes on for
PANEL_OFF_MS. -/
def execHeadDisable (h : Fin 8) (s : State) : Ans :=
  let n := h.val
  if !(s.oh n).disabling || s.offLast n then .next s
  else
    let s1 := (s.modPins fun p => { p with blEn := clearMask 8 p.blEn (2 ^ n) }).wr F.OUT_HEAD_BL_STAT_DUTY 0 n
    match (s.oh n).stage with
    | .off => .next s
    | .closing => .next s
    | .dark => .next (s1.modOh n fun o => { o with stage := .closing })
    | .lit => .next (s1.modOh n fun o => { o with stage := .closing })
    | _ => .next ((s1.headDown n).raise 275 n)

/-! ### Backlight and ambient light (R333, R334) -/

/-- Point `i` of a head's BACKLIGHT record: lux and duty. -/
def State.blPoint (s : State) (h i : Nat) : Nat × Nat :=
  (leAt s.img.backlight (256 * h + 8 * i) 4, leAt s.img.backlight (256 * h + 8 * i + 4) 2)

/-- Used points of the record. -/
def State.blPoints (s : State) (h : Nat) : List (Nat × Nat) :=
  ((List.range 32).map (s.blPoint h)).takeWhile fun p => p.1 != 0xFFFFFFFF

/-- The curve between points (R333). -/
def curveAt (x : Nat) : List (Nat × Nat) → Nat
  | [] => 0
  | [(_, d)] => d
  | (x0, d0) :: (x1, d1) :: l =>
    if x < x0 then d0
    else if x < x1 then ((d0 : Int) + ((d1 : Int) - d0) * ((x : Int) - x0) / ((x1 : Int) - x0)).toNat
    else curveAt x ((x1, d1) :: l)

/-- The head follows its curve: MODE 1, a record, and an ALS bus. -/
def State.curveMode (s : State) (h : Nat) : Bool :=
  s.on F.OUT_HEAD_BL_MODE h && !s.img.backlight.isEmpty && !(s.blPoints h).isEmpty && (s.img.ports.getD h default).als != 255

/-- The duty of a head before GAIN. -/
def State.dutyRaw (s : State) (h : Nat) : Nat :=
  if s.curveMode h then
    (if s.rd F.OUT_HEAD_BL_SLEW h = 0 then curveAt (s.rd F.OUT_HEAD_LUX_LUX h) (s.blPoints h) else (s.oh h).curve)
  else s.rd F.OUT_HEAD_BL_DUTY_MANUAL h

/-- The duty of a head (R333). -/
def State.duty (s : State) (h : Nat) : Nat := min 65535 (s.dutyRaw h * min (s.rd F.OUT_HEAD_BL_GAIN_GAIN h) 65536 / 65536)

/-- Ticks of 40 ns of a PWM period, and those in which BL_PWMh is high (R333). -/
def State.pwmPeriod (s : State) (h : Nat) : Nat := clampN 500 62500 (s.rd F.OUT_HEAD_BL_PWM_PERIOD h)
def State.pwmHigh (s : State) (h : Nat) : Nat := s.rd F.OUT_HEAD_BL_STAT_DUTY h * s.pwmPeriod h / 65535

/-- BL_PWM_PERIOD (R333): a PWM period starts with the duty as it is now. -/
def execBlPwmPeriod (h : Fin 8) (s : State) : Ans :=
  if (s.oh h.val).stage == .lit then .next (s.wr F.OUT_HEAD_BL_STAT_DUTY (s.duty h.val) h.val) else .next s

/-- One head's filter step at a sample (R334), and the slewed duty (R333). -/
def State.luxStep (s : State) (h lux : Nat) : State :=
  let x := s.rd F.OUT_HEAD_LUX_LUX h
  let x' := ((x : Int) + ((lux : Int) - x) / 2 ^ s.rd F.OUT_HEAD_BL_FILTER h).toNat
  let s1 := s.wr F.OUT_HEAD_LUX_LUX x' h
  let aim := curveAt x' (s1.blPoints h)
  let lim := s.rd F.OUT_HEAD_BL_SLEW h * 256
  s1.modOh h fun o =>
    { o with curve := if lim = 0 then aim else if o.curve < aim then min aim (o.curve + lim) else max aim (o.curve - lim) }

/-- ALS_SAMPLE (R334): the bytes that the sensor on bus `b` returned. -/
def execAlsSample (b : Fin 4) (data : List Byte) (s : State) : Ans :=
  let n := b.val
  if s.rd F.OUT_ALS_CFG_PERIOD_MS n = 0 then .next s
  else
    let len := if s.on F.OUT_ALS_CFG_LEN3 n then 3 else 2
    let l := slice data 0 len
    let count := if s.on F.OUT_ALS_CFG_BIG_END n then ofBe l else ofLe l
    let lux := count * s.rd F.OUT_ALS_SCALE_SCALE n / 65536
    let s1 := s.send (.alsRead n (s.rd F.OUT_ALS_CFG_ADDR n) (s.rd F.OUT_ALS_CFG_REG n) len)
    let s2 := (s1.wr F.OUT_ALS_RAW_VALID 1 n).wr F.OUT_ALS_RAW_COUNT count n
    .next (s2.each ((List.range 8).filter fun h => (s.head h).en && (s.img.ports.getD h default).als == n) fun s h => s.luxStep h lux)

/-- ALS_ERR (R334). -/
def execAlsErr (b : Fin 4) (s : State) : Ans :=
  if s.rd F.OUT_ALS_CFG_PERIOD_MS b.val = 0 then .next s
  else .next ((s.wr F.OUT_ALS_RAW_ERR 1 b.val).raise 273 b.val)

/-! ### Genlock (R335 to R337) -/

/-- The reference head (R335). -/
def State.refHead (s : State) : Option Nat := (List.range 8).find? fun h => (s.head h).en && (s.head h).genlockRef

/-- This device is the cascade master: Table 20-4. -/
def State.isMaster (s : State) : Bool := s.on F.PTG_CFG_MASTER

/-- The mode that steers a head: 0 free, 1 local, 2 cascade (R335). -/
def State.glMode (s : State) (h : Nat) : Nat :=
  let m := s.rd F.OUT_HEAD_GENLOCK_MODE h
  let m1 := if m = 3 then 0 else if m = 2 && s.isMaster then 1 else m
  if (s.head h).follow then 0 else if m1 = 1 && s.refHead == some h then 0 else m1

/-- Pixels of a nominal frame. -/
def HeadCfg.pixels (c : HeadCfg) : Nat :=
  (c.hActive + c.hFront + c.hSync + c.hBack) * (c.vActive + c.vFront + c.vSync + c.vBack)

/-- Nominal frame period and line period in picoseconds. -/
def HeadCfg.framePs (c : HeadCfg) : Nat := c.pixels * 1000000000 / max c.pclk 1
def HeadCfg.linePs (c : HeadCfg) : Nat := (c.hActive + c.hFront + c.hSync + c.hBack) * 1000000000 / max c.pclk 1

/-- Reference period in picoseconds: the reference head's, or as measured on SB_SYNC. -/
def State.refPs (s : State) (h refNs : Nat) : Nat :=
  if s.glMode h = 1 then (match s.refHead with | some r => (s.head r).framePs | none => refNs * 1000) else refNs * 1000

/-- A head that cannot be steered (R337). -/
def State.glIncompatible (s : State) (h refNs : Nat) : Bool :=
  let own := (s.head h).framePs * (1 + s.rd F.OUT_HEAD_GENLOCK_RATIO h)
  let r := s.refPs h refNs
  decide (r < 1000 * (max own r - min own r))

/-- A MODE 2 head holds its trim while the cascade master, or this device, is in DIP (R336, R577). -/
def State.glHolds (s : State) (h : Nat) : Bool := s.glMode h == 2 && (s.chip.phase == .dip || (s.ptg.masterDip && decide (s.elapsed < s.ptg.dipUntil)))

/-- Last e, signed and saturating at 24 bits. -/
def errNs (e : Int) : Nat := toTwos 24 (clampI (-8388608) 8388607 e)

/-- Whole lines by which one V_BACK is lengthened to bring the error below a line (R336). -/
def State.jumpLines (s : State) (h : Nat) (e : Int) : Nat :=
  let f : Int := (s.head h).framePs
  let l : Int := max 1 (s.head h).linePs
  (((-e * 1000) % max 1 f) / l).toNat

/-- A new trim: left to the device within 500 ppm. -/
def State.steer (s : State) (h : Nat) : State :=
  let d := s.draw
  d.2.wr F.OUT_PLL_STAT_TRIM (toTwos 16 (((d.1 % 16777 : Nat) : Int) - 8388)) (s.rd F.OUT_HEAD_STAT_PLL h)

/-- LOCKED clears (R336). -/
def State.glLost (s : State) (h : Nat) : State :=
  let s1 := s.modOh h fun o => { o with good := 0 }
  if s.on F.OUT_HEAD_GL_STAT_LOCKED h then (s1.wr F.OUT_HEAD_GL_STAT_LOCKED 0 h).raise 272 h else s1

/-- GENLOCK_REFERENCE (R336, R337): `err` is the head's nearest frame start minus the instant steered to, in ns. -/
def execGenlockReference (h : Fin 8) (err : Int) (refNs : Nat) (s : State) : Ans :=
  let n := h.val
  if s.glMode n = 0 || !s.scanning n then .next s
  else if s.glIncompatible n refNs then .next (s.wr F.OUT_HEAD_GL_STAT_INCOMPATIBLE 1 n)
  else
    let s1 := (s.wr F.OUT_HEAD_GL_STAT_INCOMPATIBLE 0 n).wr F.OUT_HEAD_GL_STAT_ERR_NS (errNs err) n
    if s.glHolds n then .next s1
    else if 10000 < err.natAbs then
      let s2 := s1.glLost n
      .next (if s.on F.OUT_HEAD_GENLOCK_JUMP n && decide (100000 < err.natAbs)
        then s2.modOh n fun o => { o with extra := s.jumpLines n err }
        else if s.on F.OUT_HEAD_GL_STAT_LOCKED n then s2 else s2.steer n)
    else
      let s2 := s1.steer n
      if 2000 < err.natAbs then .next (s2.modOh n fun o => { o with good := 0 })
      else
        let g := (s.oh n).good + 1
        let s3 := s2.modOh n fun o => { o with good := min g 8 }
        .next (if 8 ≤ g && !s.on F.OUT_HEAD_GL_STAT_LOCKED n then (s3.wr F.OUT_HEAD_GL_STAT_LOCKED 1 n).raise 271 n else s3)

/-- GENLOCK_LOST (R336): no reference instant for three reference periods. -/
def execGenlockLost (h : Fin 8) (s : State) : Ans :=
  if s.glMode h.val = 0 || s.glHolds h.val then .next s else .next (s.glLost h.val)

end Sys2Proof.Machine
end

