-- ==== Sys2Proof/Machine/Timebase.lean ====
section
/-!
DEFINITION. The timebase (R152 to R158) and the edges of time windows (R160): rows SLEW_WRITE to TBS_WINDOW, and what
one reference nanosecond does.
-/
namespace Sys2Proof.Machine

/-- TBS_CFG.SRC; 3 is taken as 0 (Table 05-17). -/
def State.tbsSrc (s : State) : Nat := s.rd F.TBS_CFG_SRC % 3

/-- One nanosecond of slew is due: 1,000 ppm of the reference (R154). -/
def Tbs.slewDue (t : Tbs) : Bool := t.slew != 0 && decide (999 ≤ t.slewFrac)

/-- What the rate offset adds to this reference nanosecond: -1, 0 or 1. -/
def Tbs.carry (t : Tbs) (rate : Int) : Int := (t.frac + rate) / 2 ^ 32

/-- The slew applied in this reference nanosecond: -1, 0 or 1. One that would carry the timebase back waits (R152). -/
def Tbs.slewStep (t : Tbs) (rate : Int) : Int :=
  if !t.slewDue then 0 else if 0 < t.slew then 1 else if t.carry rate < 0 then 0 else -1

/-- The timebase after one reference nanosecond at rate offset `rate` (R152, R154): it never decreases, and stays at 2^64 - 1 once there
(DESIGN CHOICE: the spec gives its 64 bits no wrap). -/
def Tbs.tick (t : Tbs) (rate : Int) : Tbs :=
  if !t.running then t
  else
    let d := t.slewStep rate
    { t with now := min (2 ^ 64 - 1) ((t.now : Int) + 1 + t.carry rate + d).toNat, frac := (t.frac + rate) % 2 ^ 32,
             slew := t.slew - d,
             slewFrac := if t.slew = 0 || d != 0 then 0 else min 999 (t.slewFrac + 1) }

/-- Three marks, which are due at least every millisecond (R58), have been missed (R542). -/
def State.marksMissed (s : State) : Bool :=
  s.on F.TBS_STAT_MARK_VALID && (match s.ptg.markAt with | some t => decide (t + 3000000 ≤ s.elapsed) | none => false)

/-- One nanosecond of the 32.768 kHz count of the seep domain (R97). -/
def State.seepTick (s : State) : State :=
  if s.chip.phase = .off then s
  else
    let f := s.chip.seepFrac + 32768
    let s1 := s.modChip fun c => { c with seepFrac := f % 1000000000 }
    if 1000000000 ≤ f then s1.inc F.CHIP_SEEP_CNT_COUNT 1 else s1

/-- Ports whose 10 ms between two types are over leave high impedance, unless they are disabled (R65). -/
def State.holdTick (s : State) : State :=
  s.each (List.range 8) fun s n =>
    match s.pins.portHold.getD n none with
    | none => s
    | some t =>
      if s.elapsed < t then s
      else s.modPins fun p =>
        { p with portHold := p.portHold.set n none
                 portHiZ := if (s.img.ports.getD n default).type = 0 then p.portHiZ else clearMask 8 p.portHiZ (2 ^ n) }

/-- A nanosecond of a job's running time: one of its dispatches runs (R386). -/
def LJob.tick (j : LJob) : LJob := if j.started && j.disps.any fun d => d.at_.isRunning then { j with runNs := j.runNs + 1 } else j

/-- One nanosecond of the reference passes. -/
def State.tick (s : State) : State :=
  let s0 := s.seepTick
  let s1 := ({ s0 with elapsed := s0.elapsed + 1, tbs := if s0.powered then s0.tbs.tick s0.tbsRate else s0.tbs,
                         loch := { s0.loch with jobs := s0.loch.jobs.map LJob.tick } } : State).holdTick
  if s1.marksMissed then (s1.wr F.TBS_STAT_MARK_VALID 0).modPtg fun p => { p with paired := 0 } else s1

/-- SLEW_WRITE (R154). -/
def execSlewWrite (ini : Initiator) (v : Word) (s : State) : Ans :=
  s.busBy ini fun s =>
  if s.isSec ini then
    .next (s.modTbs fun t => { t with slew := sx 32 v.toNat, slewFrac := 0, slewing := v.toNat != 0 })
  else if v.toNat != toTwos 32 s.tbs.slew then .next (s.denied ini 0x300018)
  else .next s

/-- SLEW_DONE (R154): the remainder has reached 0. -/
def execSlewDone (s : State) : Ans :=
  if s.tbs.slewing && s.tbs.slew == 0 then .next ((s.modTbs fun t => { t with slewing := false }).raise 510) else .next s

/-- What a step to `new` does to the edges of window `n` (R160): an edge carried past is SKIPPED; of both, the end edge
alone is reported. -/
def WinState.step (w : WinState) (start end_ old new : Nat) : WinState :=
  let ps := !w.startDone && decide (old < start) && decide (start ≤ new)
  let pe := !w.endDone && decide (old < end_) && decide (end_ ≤ new)
  if pe then { w with startDone := w.startDone || ps, skipEnd := true } else if ps then { w with skipStart := true } else w

/-- TIMEBASE_STEP (R154, R158, R160): the high word's write adds the amount at once, up to 2^64 - 1. -/
def execTimebaseStep (ini : Initiator) (hi : Word) (s : State) : Ans :=
  s.busBy ini fun s =>
  let amount := hi.toNat * 2 ^ 32 + s.tbs.stepLow
  if !s.isSec ini then .next (if hi.toNat = 0 then s else s.denied ini 0x300024)
  else if !s.tbs.running then .next s
  else
    let old := s.tbs.now
    let new := min (2 ^ 64 - 1) (old + amount)
    let en := s.rd F.TBS_WIN_CTRL_EN
    .next (s.modTbs fun t =>
      { t with now := new, stepLow := 0,
               wins := t.wins.mapIdx fun n w =>
                 if bit en n then w.step (s.rd F.TBS_WIN_START_START n) (s.rd F.TBS_WIN_END_END n) old new else w })

/-- The interval between two 1PPS captures is within R155. -/
def ppsOk (d : Nat) : Bool := decide (999900000 ≤ d) && decide (d ≤ 1000100000)

/-- PPS_CAPTURE (R155): an edge of the selected polarity in SRC 1. -/
def execPpsCapture (falling : Bool) (s : State) : Ans :=
  if s.tbsSrc ≠ 1 || falling != s.on F.TBS_CFG_PPS_FALL then .next s
  else
    let t := s.tbs.now
    let d := t - s.rd F.TBS_PPS_CAP_CAP
    let s1 := (s.wr F.TBS_PPS_CAP_CAP t).modTbs fun b => { b with ppsSeen := true, ppsLost := false }
    let s2 := (s1.wrB F.TBS_STAT_PPS_VALID (s.tbs.ppsSeen && ppsOk d)).raise 504
    .next (if s.tbs.ppsSeen && !ppsOk d then s2.raise 506 else s2)

/-- PPS_LOST (R155): 1.1 s after the last capture. -/
def execPpsLost (s : State) : Ans :=
  if s.tbsSrc = 1 && s.tbs.ppsSeen && !s.tbs.ppsLost && decide (s.rd F.TBS_PPS_CAP_CAP + 1100000000 ≤ s.tbs.now) then
    .next (((s.wr F.TBS_STAT_PPS_VALID 0).modTbs fun b => { b with ppsLost := true }).raise 505)
  else .next s

/-- REFCLK_LOST (R156): REFCLK is watched while the device is powered (R46). -/
def execRefclkLost (s : State) : Ans :=
  if s.on F.TBS_STAT_REF_LOST || !s.powered then .next s else .next ((s.wr F.TBS_STAT_REF_LOST 1).raise 511)

/-- REFCLK_RETURN (R156): without a step. That REF_LOST clears is the model's choice. -/
def execRefclkReturn (s : State) : Ans := .next (s.wr F.TBS_STAT_REF_LOST 0)

/-- Window `n`'s edge state. -/
def State.win (s : State) (n : Nat) : WinState :=
  s.tbs.wins.getD n { startDone := false, endDone := false, skipStart := false, skipEnd := false, heldStart := 0, heldEnd := 0 }

def State.modWin (s : State) (n : Nat) (f : WinState → WinState) : State :=
  s.modTbs fun t => { t with wins := t.wins.modify n f }

/-- TBS_WINDOW (R160): the edge reached, start before end; event 507 with window, edge and SKIPPED. -/
def execTbsWindow (n : Fin 8) (s : State) : Ans :=
  let w := s.win n.val
  if !bit (s.rd F.TBS_WIN_CTRL_EN) n.val then .next s
  else if !w.startDone && decide (s.rd F.TBS_WIN_START_START n.val ≤ s.tbs.now) then
    .next ((s.modWin n.val fun w => { w with startDone := true }).raise 507 (n.val + 16 * b2n w.skipStart))
  else if !w.endDone && decide (s.rd F.TBS_WIN_END_END n.val ≤ s.tbs.now) then
    .next ((s.modWin n.val fun w => { w with endDone := true }).raise 507 (n.val + 8 + 16 * b2n w.skipEnd))
  else .next s

end Sys2Proof.Machine
end

