-- ==== Sys2Proof/Machine/Portage.lean ====
section
/-!
DEFINITION. Portage (chapter 20) and the cascade sideband of chapter 02: roles, pulses and marks, the DIP token, links, remote
accesses, copies and mirror bindings. Flits are in Flits.lean.
-/
namespace Sys2Proof.Machine

/-! ### Roles and the sideband (R53, R58, R59, R536, R543) -/

/-- A cascade member: MODE 011 or above (Table 02-6). -/
def State.cascade (s : State) : Bool := decide (3 ≤ s.rd F.CHIP_STRAP_MODE)

/-- This device's position, and the master's. -/
def State.pos (s : State) : Nat := s.rd F.PTG_CFG_POSITION
def State.masterPos (s : State) : Nat := s.rd F.PTG_CFG_MASTER_POS

/-- Position `q` can be reached (R535). -/
def State.present (s : State) (q : Nat) : Bool := bit (s.rd F.PTG_CFG_PRESENT) q

/-- Send a control message to a position. Types: 1 MARK, 2 ROLE, 3 DIP_ANNOUNCE, 4 END, 5 token request, 6 grant, 7 return,
8 mirror request, 9 SWAP_END, 10 remote access, 11 its answer, 12 copy data, 13 a copy's fence,
14 a tile of a stream, 15 a mirror declined, 16 copy data not written, 17 the positions reached through the sender. -/
def State.msgTo (s : State) (q type : Nat) (body : List Nat) : State := s.send (.ptgMsg q type body)

/-- Send it to every device that can be reached. -/
def State.msgAll (s : State) (type : Nat) (body : List Nat) : State :=
  s.each (setBitsList 4 (s.rd F.PTG_CFG_PRESENT)) fun s q => s.msgTo q type body

/-- TURN12 and TURN13 have their RUN function (Table 02-5). -/
def State.sbPhase (s : State) : Bool := s.chip.phase == .run

/-- What SB_ALERT_n is driven to (R59, R543): released outside RUN and while the heartbeat is lost. -/
def State.alertOn (s : State) : Bool :=
  s.sbPhase && s.ptg.failover.isNone && (s.on F.PTG_ALERT_DRIVE || (s.on F.PTG_ALERT_AUTO_SAFE && s.safe))

/-- The sideband balls follow phase, role and alert. -/
def State.sideband (s : State) : State :=
  s.modPins fun p => { p with sbDrive := s.sbPhase && s.isMaster && !p.sbContended, alertDrive := s.alertOn }

/-- The device takes the master role (R545, R546). -/
def State.takeMaster (s : State) : State :=
  let s1 := (s.wr F.PTG_CFG_MASTER 1).wr F.PTG_CFG_MASTER_POS s.pos
  let s2 := (s1.modPtg fun p => { p with failover := none, holder := if p.token then some s.pos else none }).modPins fun p =>
    { p with sbContended := false }
  ((s2.msgAll 2 [s.pos]).sideband).raise 498 s.pos

/-- Another device has the role. -/
def State.setMaster (s : State) (q : Nat) : State :=
  let s1 := (s.wrB F.PTG_CFG_MASTER (q == s.pos)).wr F.PTG_CFG_MASTER_POS q
  let s2 := (s1.modPtg fun p => { p with failover := none, holder := none }).modPins fun p => { p with sbContended := false }
  s2.sideband.raise 498 q

/-- The device reads SB_SYNC: BOOT and RUN, and it does not drive it. -/
def State.sbReads (s : State) : Bool := (s.chip.phase == .boot || s.chip.phase == .run) && !s.pins.sbDrive

/-- A valid pulse is received (R58). -/
def State.pulseIn (s : State) : State :=
  (s.modPtg fun p => { p with pulseAt := some s.elapsed, pulseSeen := true, failover := none }).sideband

/-- GENLOCK_PULSE (R58): 0.5 to 2 µs. -/
def execGenlockPulse (ns : Nat) (s : State) : Ans :=
  if s.sbReads && decide (500 ≤ ns) && decide (ns ≤ 2000) then
    .next (s.pulseIn.modTbs fun t => { t with genCap := some s.tbs.now })
  else .next s

/-- A mark was not paired before the next pulse (R542). -/
def State.markMissed (s : State) : State :=
  let n := s.ptg.missed + 1
  let s1 := s.modPtg fun p => { p with missed := min n 3, paired := 0 }
  if 3 ≤ n then s1.wr F.TBS_STAT_MARK_VALID 0 else s1

/-- MARK_PULSE (R58, R542): 3 to 5 µs; its edge is captured. -/
def execMarkPulse (ns : Nat) (s : State) : Ans :=
  if s.sbReads && decide (3000 ≤ ns) && decide (ns ≤ 5000) then
    let s1 := if s.tbs.markCap.isSome && s.tbsSrc == 2 then s.markMissed else s
    .next ((s1.pulseIn.modTbs fun t => { t with markCap := some s.tbs.now }).modPtg fun p => { p with markAt := some s.elapsed })
  else .next s

/-- INVALID_PULSE (R58): any other width is ignored and counted. -/
def execInvalidPulse (ns : Nat) (s : State) : Ans :=
  if s.sbReads && (decide (ns < 500) || (decide (2000 < ns) && decide (ns < 3000)) || decide (5000 < ns)) then
    .next (s.modTbs fun t => { t with badPulses := t.badPulses + 1 })
  else .next s

/-- An instant not less than 5 µs from the genlock rising edge at `g`: an earlier one, or one past the edge. -/
def pastGenlock (t : Nat) : Option Nat → Nat
  | some g => if t < g + 5000 && decide (g < t + 5000) then g + 5000 else t
  | none => t

/-- Instant of a mark pulse that is due now: not within 5 µs of a genlock rising edge, the last one or the next, which comes in `next` ns
where it is known (R58). -/
def State.markInstant (s : State) (next : Option Nat) : Nat :=
  pastGenlock (pastGenlock s.tbs.now s.tbs.genCap) (next.map (s.tbs.now + ·))

/-- MARK_PULSE_SEND (R58, R542): the master sends a mark pulse and, to every member, its timebase value. -/
def execMarkPulseSend (next : Option Nat) (s : State) : Ans :=
  if s.isMaster && s.pins.sbDrive then .next ((s.send (.sbPulse true (s.markInstant next))).msgAll 1 [s.markInstant next]) else .next s

/-- MARK (R542): paired with the captured edge, it steers the timebase of a member in SRC 2. `late`: the pulse that it belongs to is
not the last one, so it is discarded. -/
def execMark (t : BitVec 64) (late : Bool) (s : State) : Ans :=
  match s.tbs.markCap with
  | none => .next s
  | some c =>
    if late || s.tbsSrc ≠ 2 || s.isMaster then .next s
    else
      let d := s.draw
      let n := s.ptg.paired + 1
      let off : Int := clampI (-2147483648) 2147483647 ((t.toNat : Int) - (c : Int))
      let s1 := (d.2.wr F.TBS_RATE_RATE d.1).modTbs fun b =>
        { b with markCap := none, slew := off, slewFrac := 0, slewing := off != 0 }
      let s2 := s1.modPtg fun p => { p with paired := min n 8, missed := 0 }
      .next (if 8 ≤ n then s2.wr F.TBS_STAT_MARK_VALID 1 else s2)

/-! ### Heartbeat and failover (R58, R545, R546) -/

/-- A missing heartbeat is no loss now: the master's announced DIP, or this device's own (R544, R577). -/
def State.heartbeatHeld (s : State) : Bool :=
  s.chip.phase == .dip || (s.ptg.masterDip && decide (s.elapsed < s.ptg.dipUntil))

/-- Position 0 has seen no pulse since BOOT was entered: R546 decides whether it takes the master role. -/
def State.startsUp (s : State) : Bool := s.pos == 0 && !s.ptg.pulseSeen

/-- HEARTBEAT_LOST (R58, R545): no valid pulse for 2 ms, counted from BOOT entry where none has been seen. -/
def execHeartbeatLost (s : State) : Ans :=
  let t := s.ptg.pulseAt.getD s.ptg.bootAt
  if s.isMaster || s.startsUp || !s.sbReads || s.heartbeatHeld || s.ptg.failover.isSome || decide (s.elapsed < t + 2000000) then .next s
  else
    let wait := 3 * ((s.pos + 3 - s.masterPos) % 4)
    .next (((s.modPtg fun p => { p with failover := some (s.elapsed + wait * 1000000), masterDip := false }).sideband).raise 499)

/-- FAILOVER_WAIT_END (R545). -/
def execFailoverWaitEnd (s : State) : Ans :=
  match s.ptg.failover with
  | some t => if t ≤ s.elapsed then .next s.takeMaster else .next s
  | none => .next s

/-- MASTER_STARTUP_TIMEOUT (R546): position 0 has seen no valid pulse 3 ms after BOOT entry. -/
def execMasterStartupTimeout (s : State) : Ans :=
  if s.pos = 0 && !s.isMaster && !s.ptg.pulseSeen && s.sbReads && decide (s.ptg.bootAt + 3000000 ≤ s.elapsed) then .next s.takeMaster
  else .next s

/-- ROLE (R545): a ROLE message names the master. -/
def execRole (pos : Fin 4) (s : State) : Ans := if s.powered then .next (s.setMaster pos.val) else .next s

/-- RELEASE_TO (R546): the master hands its role to a device that it can reach. -/
def execReleaseTo (ini : Initiator) (target : Fin 4) (s : State) : Ans :=
  s.busBy ini fun s =>
  if !s.isMaster then .next s
  else if !s.isSec ini then .next (s.denied ini 0x7C00040)
  else if s.present target.val && target.val != s.pos then .next ((s.msgAll 2 [target.val]).setMaster target.val)
  else .next s

/-- TURN_CONTENTION (R59): a mismatch of more than 100 ns on a driven SB_SYNC. -/
def execTurnContention (ns : Nat) (s : State) : Ans :=
  if s.pins.sbDrive && decide (100 < ns) then
    .next ((s.modPins fun p => { p with sbDrive := false, sbContended := true }).raise 509)
  else .next s

/-- SB_ALERT (R543): an edge of SB_ALERT_n is captured. -/
def execSbAlert (level : Bool) (s : State) : Ans :=
  if s.powered && level != s.on F.PTG_ALERT_LEVEL then
    .next (((s.wrB F.PTG_ALERT_LEVEL level).modPtg fun p => { p with alertCap := some s.tbs.now }).raise 503 (b2n !level))
  else .next s

/-! ### The DIP token (R544) -/

/-- The device holds the DIP token, or may take it as master. -/
def State.dipToken (s : State) : Bool :=
  !s.cascade || (if s.isMaster then s.ptg.holder.isNone || s.ptg.holder == some s.pos else s.ptg.token)

/-- The device takes the token for a DIP of `ms` milliseconds. -/
def State.dipTake (s : State) (ms : Nat) : State :=
  if !s.cascade then s
  else if s.isMaster then (s.modPtg fun p => { p with token := true, holder := some s.pos }).msgAll 3 [ms]
  else s

/-- The token returns at END_DIP or at the limit. -/
def State.dipReturn (s : State) : State :=
  if !s.cascade then s
  else
    let s1 := s.modPtg fun p => { p with token := false, holder := if s.isMaster then none else p.holder }
    if s.isMaster then s1.msgAll 4 [] else s1.msgTo s.masterPos 7 [s.pos]

/-- DIP_TOKEN_REQUEST (R544): this member asks the master that it can reach, or the master is asked by a member. -/
def execDipTokenRequest (pos : Fin 4) (s : State) : Ans :=
  if !s.cascade then .next s
  else if s.isMaster then
    if pos.val != s.pos && s.present pos.val && s.ptg.holder.isNone then
      .next ((s.modPtg fun p => { p with holder := some pos.val }).msgTo pos.val 6 [])
    else .next s
  else if pos.val = s.pos && s.present s.masterPos then .next (s.msgTo s.masterPos 5 [s.pos])
  else .next s

/-- DIP_TOKEN_GRANT (R544). -/
def execDipTokenGrant (s : State) : Ans :=
  if s.cascade && !s.isMaster then .next (s.modPtg fun p => { p with token := true }) else .next s

/-- DIP_TOKEN_RETURN (R544). -/
def execDipTokenReturn (pos : Fin 4) (s : State) : Ans :=
  if s.isMaster && s.ptg.holder == some pos.val then .next (s.modPtg fun p => { p with holder := none }) else .next s

/-- DIP_ANNOUNCE (R544): no heartbeat is lost until the END message or 1 ms after the limit. -/
def execDipAnnounce (limitMs : Nat) (s : State) : Ans :=
  if s.isMaster then .next s
  else .next (s.modPtg fun p => { p with masterDip := true, dipUntil := s.elapsed + (limitMs + 1) * 1000000 })

/-- END_MESSAGE (R544). -/
def execEndMessage (s : State) : Ans :=
  if s.ptg.masterDip then .next (s.modPtg fun p => { p with masterDip := false, pulseAt := some s.elapsed }) else .next s

/-! ### Links (R535, R540, R541) -/

def noLink : PtgLink := { tx := 0, rx := 0, retry := [], replays := 0, starvedAt := none }

def State.ptgLink (s : State) (l : Nat) : PtgLink := s.ptg.links.getD l noLink

def State.modLink (s : State) (l : Nat) (f : PtgLink → PtgLink) : State := s.modPtg fun p => { p with links := p.links.modify l f }

def State.linkUp (s : State) (l : Nat) : Bool := s.on F.PTG_LINK_STAT_UP l

/-- Links may train: from step 13 of Table 03-7, or step 3 for a device that boots over Portage (R535). -/
def State.linksMayTrain (s : State) : Bool :=
  s.powered && (decide (13 ≤ s.rd F.CHIP_BOOT_STAT_STEP) || (decide (4 ≤ s.rd F.CHIP_STRAP_MODE) && decide (3 ≤ s.rd F.CHIP_BOOT_STAT_STEP)))

/-- Positions other than this device's. -/
def State.others (s : State) (mask : Nat) : Nat := clearMask 4 mask (2 ^ s.pos)

/-- Streams towards the positions of a mask start over with a whole frame (R552). -/
def State.wholeStreams (s : State) (mask : Nat) : State :=
  s.modPtg fun p => { p with streams := p.streams.map fun e => if bit mask e.1 then (e.1, e.2.1, e.2.2.1, true) else e }

/-- Positions on the side of link `l` of a chain (R534): link 1 leads upward, link 0 downward. -/
def State.behind (s : State) (l : Nat) : Nat :=
  ((List.range 4).map fun q => if (l = 1 ∧ s.pos < q) ∨ (l = 0 ∧ q < s.pos) then 2 ^ q else 0).sum

/-- The partner on link `l` hears which positions it reaches through this device, and which of them await an image. -/
def State.tellReach (s : State) (l booting : Nat) : State :=
  s.when (s.linkUp l) fun s =>
    s.msgTo (s.rd F.PTG_LINK_STAT_PARTNER l) 17 [(s.rd F.PTG_CFG_PRESENT &&& s.behind (1 - l)) ||| 2 ^ s.pos, booting]

/-- Positions of `m` come within reach through link `l`; the master notes those that await an image (R535, R546). -/
def State.reachGain (s : State) (l m booting : Nat) : State :=
  let s1 := s.wr F.PTG_CFG_PRESENT (s.rd F.PTG_CFG_PRESENT ||| m)
  let s2 := if s.isMaster then s1.wr F.PTG_CFG_BOOTING (s.rd F.PTG_CFG_BOOTING ||| (booting &&& m)) else s1
  (s2.wholeStreams m).tellReach (1 - l) booting

/-- A copy ends: status of Table 20-3, event 500 with the writer's cove. -/
def State.copyEnd (s : State) (k status : Nat) (t : WorkTag) : State :=
  let s1 := ((s.wr F.PTG_CPY_STAT_BUSY 0 k).wr F.PTG_CPY_STAT_DONE 1 k).wr F.PTG_CPY_STAT_STATUS status k
  (s1.modPtg fun p => { p with copies := p.copies.set k none }).raiseGen 500 (k + 16 * status) t.cove t.gen t.secure

/-- PORTAGE_LINK_UP (R535): the partners have exchanged identity, position and the positions behind them. -/
def execPortageLinkUp (l : Fin 2) (partner : Fin 4) (_chipId : Word) (reach booting : BitVec 4) (s : State) : Ans :=
  if !s.linksMayTrain || s.linkUp l.val || !s.domainOn (7 + l.val) then .next s
  else
    let m := s.others (reach.toNat ||| 2 ^ partner.val)
    let s1 := (s.wr F.PTG_LINK_STAT_UP 1 l.val).wr F.PTG_LINK_STAT_PARTNER partner.val l.val
    let s2 := s1.modLink l.val fun _ => noLink
    .next ((s2.reachGain l.val m booting.toNat).raise 496 l.val)

/-- A remote access to a position that is lost ends with ERR. -/
def State.raccLost (s : State) (mask : Nat) : State :=
  match s.ptg.racc with
  | some (q, _) => s.when (bit mask q) fun s =>
      ((s.wr F.PTG_RACC_CTRL_BUSY 0).wr F.PTG_RACC_CTRL_ERR 1).modPtg fun p => { p with racc := none }
  | none => s

/-- Copies to a position that is lost end with LINK; one whose source was denied keeps DENIED (R549). -/
def State.copiesLost (s : State) (mask : Nat) : State :=
  s.each (List.range 4) fun s k =>
    match s.ptg.copies.getD k none with
    | some c => s.when (bit mask c.dest) fun s => s.copyEnd k (if c.denied then 2 else 1) c.tag
    | none => s

/-- Positions that are no longer reached: what was under way to them ends (R540, R549, R552). -/
def State.reachLost (s : State) (mask : Nat) : State :=
  let s1 := s.wr F.PTG_CFG_PRESENT (clearMask 4 (s.rd F.PTG_CFG_PRESENT) mask)
  let s2 := s1.wr F.PTG_CFG_BOOTING (clearMask 4 (s.rd F.PTG_CFG_BOOTING) mask)
  let s3 := s2.modPtg fun p =>
    { p with mirrors := p.mirrors.map fun m => m.map fun b => if bit mask b.srcPos then { b with tiles := [] } else b }
  ((s3.raccLost mask).copiesLost mask).wholeStreams mask

/-- A link goes down (R540): what was in flight is lost. -/
def State.linkLost (s : State) (l cause mask : Nat) : State :=
  let s1 := (s.wr F.PTG_LINK_STAT_UP 0 l).modLink l fun _ => noLink
  ((s1.reachLost mask).tellReach (1 - l) 0).raise 497 (l + 4 * cause)

/-- The partner on link `l` reaches the positions of `mask` now. -/
def State.reachTold (s : State) (l mask booting : Nat) : State :=
  let m := s.others mask &&& s.behind l
  (s.reachLost (clearMask 4 (s.rd F.PTG_CFG_PRESENT &&& s.behind l) m)).reachGain l m booting

/-- PORTAGE_LINK_DOWN (R535, R540): cause 0 signal lost, 1 retries exhausted, 2 partner reset; `reach` were behind it. -/
def execPortageLinkDown (l : Fin 2) (cause : Fin 3) (reach : BitVec 4) (s : State) : Ans :=
  if s.linkUp l.val then .next (s.linkLost l.val cause.val reach.toNat) else .next s

/-- PTG_STARVED (R541): idle symbols; event 501 at most once per millisecond. -/
def execPtgStarved (l : Fin 2) (s : State) : Ans :=
  if !s.linkUp l.val then .next s
  else
    let s1 := s.send (.portageIdle l.val)
    if (match (s.ptgLink l.val).starvedAt with | none => true | some t => decide (t + 1000000 ≤ s.elapsed)) then
      .next ((s1.modLink l.val fun k => { k with starvedAt := some s.elapsed }).raise 501 l.val)
    else .next s1

/-! ### Remote register access (R553) -/

/-- A write of PTG_RACC_CTRL with GO: while an access is under way the fields are stored and nothing is issued. -/
def State.raccGo (s : State) (ini : Initiator) (dest : Nat) (write : Bool) : State :=
  if !s.isSec ini then s.denied ini 0x7C00068
  else
    let s1 := (s.wrB F.PTG_RACC_CTRL_WRITE write).wr F.PTG_RACC_CTRL_DEST dest
    if s.ptg.racc.isSome then s1
    else if !s.present dest then s1.wr F.PTG_RACC_CTRL_ERR 1
    else
      ((s1.wr F.PTG_RACC_CTRL_BUSY 1).modPtg fun p => { p with racc := some (dest, write) }).msgTo dest 10
        [4 * s.rd F.PTG_RACC_ADDR_OFFSET, b2n write, s.rd F.PTG_RACC_DATA_DATA]

/-- REMOTE_READ (R553). -/
def execRemoteRead (ini : Initiator) (dest : Fin 4) (s : State) : Ans := s.busBy ini fun s => .next (s.raccGo ini dest.val false)

/-- REMOTE_WRITE (R553). -/
def execRemoteWrite (ini : Initiator) (dest : Fin 4) (s : State) : Ans := s.busBy ini fun s => .next (s.raccGo ini dest.val true)

/-! ### Copy engines (R548, R549) -/

/-- The copy that a GO of engine `k` starts, and what its source read leaves. -/
def State.copyBegin (s : State) (t : WorkTag) (k : Nat) : State :=
  let dest := s.rd F.PTG_CPY_CTRL_DEST_POS k
  let len := s.rd F.PTG_CPY_LEN_LEN k
  let r := s.dramRead t (s.rd F.PTG_CPY_SRC_ADDR k) len
  let c : PtgCopy := { tag := t, src := s.rd F.PTG_CPY_SRC_ADDR k, dst := s.rd F.PTG_CPY_DST_ADDR k, len := len,
                       faddr := 8 * s.rd F.PTG_CPY_FADDR_ADDR k, fval := s.rd F.PTG_CPY_FVAL_VALUE k,
                       kind := s.rd F.PTG_CPY_CTRL_KIND k, last := s.on F.PTG_CPY_CTRL_LAST k, dest := dest, denied := r.2.isNone }
  let s1 := (r.1.wr F.PTG_CPY_STAT_BUSY 1 k).modPtg fun p => { p with copies := p.copies.set k (some c) }
  match r.2 with
  | some l => s1.msgTo dest 12 (c.dst :: b2n (c.kind == 1) :: b2n c.last :: l.map (·.toNat))
  | none => s1

/-- COPY_START (R548): a write of PTG_CPYk_CTRL with GO. -/
def execCopyStart (ini : Initiator) (k : Fin 4) (v : Word) (s : State) : Ans :=
  s.busBy ini fun s =>
  let w := v.toNat
  if !bit w 31 then .next s
  else if !s.mayWrite ini F.PTG_CPY_CTRL_GO k.val false then .next (s.denied ini (0x7C00128 + 0x40 * k.val))
  else
    let s1 := ((s.wr F.PTG_CPY_CTRL_LAST (bits w 9 9) k.val).wr F.PTG_CPY_CTRL_KIND (bits w 8 8) k.val).wr F.PTG_CPY_CTRL_DEST_POS
      (bits w 1 0) k.val
    if s.on F.PTG_CPY_STAT_BUSY k.val then .next s1
    else if !s.present (bits w 1 0) then .next (s1.copyEnd k.val 4 (s.tag ini))
    else .next (s1.copyBegin (s.tag ini) k.val)

/-- COPY_DONE (R548): the fence follows the last byte; a complete image no longer awaits. -/
def execCopyDone (k : Fin 4) (far : CopyEnd) (s : State) : Ans :=
  match s.ptg.copies.getD k.val none with
  | none => .next s
  | some c =>
    let status := if c.denied then 2 else match far with | .ok => 0 | .link => 1 | .noWindow => 3
    let s1 := if status = 0 then s.msgTo c.dest 13 [c.faddr, c.fval] else s
    let s2 := if status = 0 && c.kind == 1 && c.last then
        s1.wr F.PTG_CFG_BOOTING (clearMask 4 (s.rd F.PTG_CFG_BOOTING) (2 ^ c.dest)) else s1
    .next (s2.copyEnd k.val status c.tag)

/-! ### Head mirroring (R551, R552) -/

/-- Head `h` has an enabled layer slot. -/
def State.hasLayers (s : State) (h : Nat) : Bool := (List.range 8).any fun l => (s.layer (8 * h + l)).en

/-- Write the fields of PTG_MIRm_CFG. -/
def State.mirCfg (s : State) (m w : Nat) : State :=
  (((s.wr F.PTG_MIR_CFG_EN (bits w 31 31) m).wr F.PTG_MIR_CFG_SRC_POS (bits w 17 16) m).wr F.PTG_MIR_CFG_SRC_HEAD (bits w 10 8) m).wr
    F.PTG_MIR_CFG_HEAD (bits w 2 0) m

/-- MIRROR_BIND (R551, R570): `alike` and `srcSafety` are what the source position reports of its head; a binding that it
declines because the head is its legal head is reported as not alike. -/
def execMirrorBind (ini : Initiator) (m : Fin 8) (v : Word) (alike srcSafety : Bool) (s : State) : Ans :=
  s.busBy ini fun s =>
  let w := v.toNat
  let n := m.val
  let h := bits w 2 0
  let q := bits w 17 16
  let old := s.ptg.mirrors.getD n none
  if !s.isSec ini then .next (s.denied ini (0x7C00600 + 0x10 * n))
  else if !bit w 31 then
    let s1 := (s.mirCfg n w).modPtg fun p => { p with mirrors := p.mirrors.set n none }
    .next (match old with | some b => s1.msgTo b.srcPos 8 [n, b.srcHead, 0] | none => s1)
  else if s.hasLayers h || s.legalHead == some h || !alike || ((s.head h).safety && !srcSafety) || !s.present q then
    .next (s.wr F.PTG_MIR_STAT_REFUSED 1 n)
  else
    let b : PtgMirror := { srcPos := q, srcHead := bits w 10 8, head := h, frame := none, ready := [], tiles := [] }
    let s1 := match old with
      | some o => if o.srcPos = q then s else s.msgTo o.srcPos 8 [n, o.srcHead, 0]
      | none => s
    .next (((s1.mirCfg n w).modPtg fun p => { p with mirrors := p.mirrors.set n (some b) }).msgTo q 8 [n, b.srcHead, 1])

/-- Tiles of an arriving frame laid over those of a complete one. -/
def mergeTiles (old new : List (Nat × Nat × List Byte)) : List (Nat × Nat × List Byte) :=
  (old.filter fun t => !(new.any fun u => u.1 == t.1)) ++ new

/-- SWAP_END (R552): the frame is complete; it replaces one that was never shown, which raises event 502. -/
def execSwapEnd (m : Fin 8) (frame : Word) (s : State) : Ans :=
  match s.ptg.mirrors.getD m.val none with
  | none => .next s
  | some b =>
    let b' : PtgMirror := { b with frame := some frame.toNat, ready := mergeTiles b.ready b.tiles, tiles := [] }
    let s1 := s.modPtg fun p => { p with mirrors := p.mirrors.set m.val (some b') }
    .next (if b.frame.isSome then s1.raise 502 b.head else s1)

end Sys2Proof.Machine
end

