-- ==== Sys2Proof/Machine/Reservoir.lean ====
section
/-!
DEFINITION. Reservoir (chapter 08): request queues and scheduling (R221 to R226), ECC outcomes (R217, R219), refresh and
temperature (R228), page initialisation (R220), patrol scrub (R230), soft repair (R231 to R233) and training helpers
(R234, R235).
-/
namespace Sys2Proof.Machine

/-- Usable bytes of one channel, 7C/8. -/
def State.chanBytes (s : State) : Nat := s.dramBytes / 4

/-- The channel is READY. -/
def State.chanReady (s : State) (ch : Nat) : Bool := s.rd F.RES_CH_STAT_STATE ch == 1

/-- All byte-valid bits of a line. -/
def fullMask : Nat := 2 ^ 64 - 1

/-- Mask of `n` bytes from byte `o`. -/
def byteMask (o n : Nat) : Nat := (2 ^ n - 1) * 2 ^ o

/-! ### Requests enter (R221 to R224) -/

/-- Page hint of a request (Table 08-4; 3 is taken as 0); for Loch the hint that its job's descriptor states (Table 13-1). -/
def State.hintOf (s : State) (src : Source) (user : ResUser) : Nat :=
  match user with
  | .cores => 0
  | .safety => 0
  | .loch =>
    (match src with
      | .queue c q => (match s.job c.val q.val with | some j => bits j.flags 3 2 % 3 | none => 0)
      | _ => 0)
  | .basinFetch => 1
  | .shorScrub => 1
  | .pageInit => 1
  | .pool => 2
  | .eventRing => 2
  | .vfBar2 => 2
  | .dredge => 2
  | .training => 2
  | .other h => h.val % 3

/-- The youngest write entry of a line. -/
def youngest (q : List WriteEntry) (line : Nat) : Option WriteEntry := q.reverse.find? fun e => e.line == line

/-- A read enters (R220, R223, Table 08-3). -/
def State.readEnter (s : State) (t : WorkTag) (pa hint len : Nat) : State :=
  let ch := chanOf pa
  let r : ReadReq := { tag := t, line := pa / 64, off := pa % 64, data := memRead s.dram pa len, hint := hint, at_ := s.elapsed,
                       issued := false, shared := false }
  if !s.pageInit (pa / 65536) then s.answer 0
  else match youngest (s.chan ch).wq r.line with
    | some e => if e.mask = fullMask then s.answer (ofLe r.data) else s.modChan ch fun c => { c with rq := c.rq ++ [{ r with shared := true }] }
    | none => s.modChan ch fun c => { c with rq := c.rq ++ [r] }

/-- A new entry of a line: the bytes of an older entry that is already selected are copied (R222). -/
def newEntry (q : List WriteEntry) (t : WorkTag) (line m hint now : Nat) : WriteEntry :=
  let old := youngest q line
  { tag := t, line := line, mask := m ||| (old.map (·.mask)).getD 0, given := m ||| (old.map (·.given)).getD 0, hint := hint, at_ := now,
    selected := false, filling := false, sent := false }

/-- Put a write into the queue, merging with an entry of the line that is not selected (R222). -/
def wqEnter (q : List WriteEntry) (t : WorkTag) (line m hint now : Nat) : List WriteEntry :=
  if q.any fun e => e.line == line && !e.selected then
    q.map fun e =>
      if e.line == line && !e.selected then { e with tag := t, mask := e.mask ||| m, given := e.given ||| m, hint := hint } else e
  else q ++ [newEntry q t line m hint now]

/-- Reads that shared a completing read of a line are answered (R223). -/
def State.serveShared (s : State) (ch line : Nat) : State :=
  let here := fun (r : ReadReq) => r.shared && r.line == line
  ((s.chan ch).rq.filter here).foldl (fun s r => s.answer (ofLe r.data))
    (s.modChan ch fun c => { c with rq := c.rq.filter fun r => !here r })

/-- A line that writes have supplied whole goes out with fresh check bytes (R218, R222). -/
def State.freshLine (s : State) (ch line : Nat) : State :=
  match youngest (s.chan ch).wq line with
  | some e => if e.given = fullMask then (s.unpoison (line * 64) 64).serveShared ch line else s
  | none => s

/-- A write enters and takes effect (R221, R222). -/
def State.writeEnter (s : State) (t : WorkTag) (pa hint : Nat) (l : List Byte) : State :=
  let ch := chanOf pa
  let s1 := { s with dram := memWrite s.dram pa l }.markInit (pa / 65536)
  let s2 := s1.modChan ch fun c => { c with wq := wqEnter c.wq t (pa / 64) (byteMask (pa % 64) l.length) hint s.elapsed }
  (s2.freshLine ch (pa / 64)).answer 0

/-- A channel is off line: a training operation or a mode-register access works on it (R237). -/
def State.chanOff (s : State) (ch : Nat) : Bool :=
  match s.res.trn with
  | some (.op _ mask) => bit mask ch
  | some (.mrw c) => c == ch
  | some (.mrr c) => c == ch
  | none => false

/-- A channel takes no request: it is not READY or off line, or the request's queue is full (R221, R237). -/
def State.chanWaits (s : State) (ch : Nat) (write : Bool) : Bool :=
  !s.chanReady ch || s.chanOff ch || decide (64 ≤ if write then (s.chan ch).wq.length else (s.chan ch).rq.length)

/-- RES_REQUEST_ENTER (R127, R220 to R224): a request of one line that Shoreline has allowed, granted at its channel. One that cannot be
granted waits at the arbiter; an isolated channel answers with an error at once. -/
def execResRequestEnter (src : Source) (user : ResUser) (pa len : Nat) (write : Option (List Byte)) (s : State) : Ans :=
  let n := match write with | some l => l.length | none => len
  let t := s.srcTag src
  if !s.srcIssues src || n = 0 || decide (64 < pa % 64 + n) || inTarn pa n then .next s
  else match s.dramCheck t pa n write.isSome with
    | .absent => .next ((s.accessFail t pa write.isSome .absent).answer 0 true)
    | .denied a e => .next ((s.accessFail t pa write.isSome (.denied a e)).answer 0 true)
    | .isolated => .next (s.answer 0 true)
    | _ =>
      if s.chanWaits (chanOf pa) write.isSome then .next s
      else match write with
        | some l => .next (s.writeEnter t pa (s.hintOf src user) l)
        | none => .next (s.readEnter t pa (s.hintOf src user) len)

/-! ### Check lines (R216, R217) -/

/-- Channel address of the check line of the data line at channel address `a`, and the byte in it at which the line's check bytes lie
(R216). -/
def State.checkLine (s : State) (a : Nat) : Nat := s.chanBytes + a / 512 * 64
def checkByte (a : Nat) : Nat := a / 64 % 8 * 8

/-- Check lines that a channel's 16 KiB cache holds. -/
def checkLines : Nat := 256

/-- An access to a data line needs its check line: a second burst where the cache misses it. Which line the cache then gives up is a free
value. -/
def State.checkFetch (s : State) (ch line : Nat) : State :=
  let a := chanAddr (line * 64)
  let k := s.checkLine a
  if s.chanBytes ≤ a || (s.chan ch).checks.contains k then s
  else
    let (v, s1) := s.draw
    let c := s.coord k
    (s1.modChan ch fun x =>
      { x with checks := k :: (if x.checks.length < checkLines then x.checks else x.checks.eraseIdx (v % checkLines)) }).send
      (.dramCmd ch [8, c.key, c.row, chanPa ch k / 64, checkByte a])

/-- A corrected line is to be rewritten through the patrol-scrub input (R217); one that a queued write is about to store needs none. -/
def State.rewriteLine (s : State) (ch line : Nat) : State :=
  s.modChan ch fun c =>
    { c with rewrites := if c.rewrites.contains line || c.wq.any fun e => e.line == line && !e.sent then c.rewrites else c.rewrites ++ [line] }

/-- A rewrite enters the write queue while it has room, as normal-world work of cove 0 under hint 0. -/
def State.takeRewrite (s : State) (ch : Nat) : State :=
  match (s.chan ch).rewrites with
  | [] => s
  | line :: rest =>
    if 64 ≤ (s.chan ch).wq.length then s
    else s.modChan ch fun c => { c with rewrites := rest, wq := wqEnter c.wq s.wardenTag line fullMask 0 s.elapsed }

/-! ### Scheduling (R225) -/

/-- A request that the scheduler may choose: write or read, position in its queue, and what the rules compare. -/
structure Cand where
  write : Bool
  ix : Nat
  secure : Bool
  hit : Bool
  at_ : Nat
  line : Nat
  hint : Nat
  bank : Nat
  row : Nat

/-- The row of a bank that is open now: an ADAPTIVE row closes after IDLE_NS without a hit (R224). -/
def State.openRow (s : State) (ch bank : Nat) : Option Nat :=
  match (s.chan ch).rows.find? fun r => r.bank == bank with
  | some r => if r.hint = 0 && decide (r.last + 10 * s.rd F.RES_CH_SCHED_IDLE_NS ch ≤ s.elapsed) then none else some r.row
  | none => none

/-- A candidate for a line. -/
def State.cand (s : State) (ch : Nat) (write : Bool) (ix : Nat) (t : WorkTag) (line hint at_ : Nat) : Cand :=
  let c := s.coord (chanAddr (line * 64))
  { write := write, ix := ix, secure := t.secure, hit := s.openRow ch c.key == some c.row, at_ := at_, line := line,
    hint := hint, bank := c.key, row := c.row }

/-- Reads not yet issued. -/
def State.readCands (s : State) (ch : Nat) : List Cand :=
  ((s.chan ch).rq.zipIdx.filter fun e => !e.1.issued && !e.1.shared).map fun e => s.cand ch false e.2 e.1.tag e.1.line e.1.hint e.1.at_

/-- Writes queued, but for those whose completing read or DRAM write is under way. -/
def State.writeCands (s : State) (ch : Nat) : List Cand :=
  ((s.chan ch).wq.zipIdx.filter fun e => !e.1.filling && !e.1.sent).map fun e => s.cand ch true e.2 e.1.tag e.1.line e.1.hint e.1.at_

/-- Rule 2 of R225: secure work first, then row hits, then the older request. -/
def Cand.before (a b : Cand) : Bool :=
  if a.secure != b.secure then a.secure else if a.hit != b.hit then a.hit else decide (a.at_ ≤ b.at_)

/-- The first by rule 2. -/
def bestCand : List Cand → Option Cand
  | [] => none
  | c :: l => match bestCand l with
    | none => some c
    | some b => if c.before b then some c else some b

/-- The oldest. -/
def oldestCand : List Cand → Option Cand
  | [] => none
  | c :: l => match oldestCand l with
    | none => some c
    | some b => if c.at_ ≤ b.at_ then some c else some b

/-- Writes drain: from WQ_HIGH entries until WQ_LOW or fewer (R225). -/
def State.drains (s : State) (ch : Nat) : Bool :=
  let n := (s.chan ch).wq.length
  if s.rd F.RES_CH_SCHED_WQ_HIGH ch ≤ n then true
  else if n ≤ s.rd F.RES_CH_SCHED_WQ_LOW ch then false else (s.chan ch).draining

/-- The bank of a repair target: RES_PPR_TGT lies as RES_UE_INFO (Table 08-6). -/
def targetBank (t : Nat) : Nat := bits t 27 27 + 2 * bits t 26 26 + 4 * bits t 25 22

/-- The bank that the repair which runs holds on a channel (R231). -/
def State.heldBank (s : State) (ch : Nat) : Option Nat :=
  match s.res.ppr with
  | some t => if bits t 29 28 = ch then some (targetBank t) else none
  | none => none

/-- A write entry whose bytes are not all there. -/
def State.partialAt (s : State) (ch ix : Nat) : Bool := ((s.chan ch).wq.map (·.mask)).getD ix fullMask != fullMask

/-- The request is a READ, a completing one included: it needs space reserved in the read-data FIFO (R227). -/
def State.isRead (s : State) (ch : Nat) (c : Cand) : Bool := !c.write || s.partialAt ch c.ix

/-- The request chosen by rules 1 to 3 of R225. `busy` names the banks that cannot accept a command now. -/
def State.choose (s : State) (ch : Nat) (busy : List Nat) (readSpace : Bool) : Option Cand :=
  let rs := s.readCands ch
  let ws := s.writeCands ch
  let ok := fun (c : Cand) => !busy.contains c.bank && some c.bank != s.heldBank ch && (!s.isRead ch c || readSpace)
  let age := 10 * max (s.rd F.RES_CH_SCHED_AGE_NS ch) 1
  match oldestCand ((rs ++ ws).filter fun c => decide (c.at_ + age < s.elapsed)) with
  | some c => if ok c then some c else none
  | none =>
    let first := if s.drains ch then ws else rs
    let second := if s.drains ch then rs else ws
    match bestCand (first.filter ok) with
    | some c => some c
    | none => bestCand (second.filter ok)

/-- The row of a bank after an access with a hint (Table 08-4). -/
def rowsAfter (rows : List OpenRow) (bank row hint now : Nat) : List OpenRow :=
  let others := rows.filter fun r => r.bank != bank
  if hint = 2 then others else { bank := bank, row := row, hint := hint, last := now } :: others

/-- A row command where the row is not open: precharge another row, or activate (kinds 0 and 1). -/
def State.rowCommand (s : State) (ch : Nat) (c : Cand) : State :=
  let pre := (s.openRow ch c.bank).isSome
  let s1 := s.modChan ch fun k =>
    { k with rows := if pre then k.rows.filter fun r => r.bank != c.bank else rowsAfter k.rows c.bank c.row 1 s.elapsed }
  s1.send (.dramCmd ch [b2n (!pre), c.bank, c.row])

/-- A READ or WRITE command goes out for a candidate, with the burst that its check line may need. -/
def State.issue (s : State) (ch kind : Nat) (c : Cand) : State :=
  ((s.modChan ch fun k => { k with rows := rowsAfter k.rows c.bank c.row c.hint s.elapsed }).send
    (.dramCmd ch [kind, c.bank, c.row, c.line])).checkFetch ch c.line

/-- Issue a READ (kind 2) for a queued read. -/
def State.issueRead (s : State) (ch : Nat) (c : Cand) : State :=
  (s.modChan ch fun k => { k with rq := k.rq.modify c.ix fun r => { r with issued := true },
                                  flight := k.flight ++ [{ line := c.line, fill := false, tries := 0 }] }).issue ch 2 c

/-- The completing read of a partial write entry (R222). -/
def State.issueFill (s : State) (ch : Nat) (c : Cand) : State :=
  (s.modChan ch fun k => { k with wq := k.wq.modify c.ix fun e => { e with filling := true },
                                  flight := k.flight ++ [{ line := c.line, fill := true, tries := 0 }] }).issue ch 2 c

/-- Issue a WRITE (kind 3): its entry stays in the comparison until the DRAM write has completed (R223). -/
def State.issueWrite (s : State) (ch : Nat) (c : Cand) : State :=
  (s.modChan ch fun k => { k with wq := k.wq.modify c.ix fun e => { e with selected := true, sent := true } }).issue ch 3 c

/-- The selected line is not complete at its slot (R226): deferred and counted; a ready read is issued instead. -/
def State.deferWrite (s : State) (ch : Nat) (c : Cand) (busy : List Nat) (readSpace : Bool) : State :=
  let s1 := (s.modChan ch fun k => { k with wq := k.wq.modify c.ix fun e => { e with selected := true } }).inc
    F.RES_CH_STAT_WDEFER 1 ch
  let due := match (s.chan ch).lastLate with | none => true | some t => decide (t + 1000000 ≤ s.elapsed)
  let s2 := if due then (s1.modChan ch fun k => { k with lastLate := some s.elapsed }).raise 135 ch else s1
  if readSpace then
    match bestCand ((s.readCands ch).filter fun r => r.hit && !busy.contains r.bank && some r.bank != s.heldBank ch) with
    | some r => s2.issueRead ch r
    | none => s2
  else s2

/-- Writes issued before have completed by the channel's next command, and a rewrite that waits enters. -/
def State.chanTurn (s : State) (ch : Nat) : State :=
  (s.modChan ch fun k => { k with wq := k.wq.filter fun e => !e.sent }).takeRewrite ch

/-- RES_COMMAND_ISSUE (R217, R222 to R227, R231, R237): the next DRAM command of the channel. `wdataReady` tells whether the whole line is
in the write-data FIFO, `readSpace` whether the read-data FIFO has space. -/
def execResCommandIssue (ch : Fin 4) (busy : List Nat) (wdataReady readSpace : Bool) (s : State) : Ans :=
  let n := ch.val
  if !s.chanReady n || s.chanOff n || s.chanCut n then .next s
  else
    let s := s.chanTurn n
    let s := s.modChan n fun k => { k with draining := s.drains n }
    match s.choose n busy readSpace with
    | none => .next s
    | some c =>
      if !c.hit then .next (s.rowCommand n c)
      else if !c.write then .next (s.issueRead n c)
      else if s.partialAt n c.ix then .next (s.issueFill n c)
      else if !wdataReady then .next (s.deferWrite n c busy readSpace)
      else .next (s.issueWrite n c)

/-! ### Read data and ECC -/

/-- Count inline corrections (R217, R219): at THR, event 128 and the count restarts. -/
def State.countCe (s : State) (ch : Nat) : State :=
  let s1 := s.inc F.RES_CH_CE_DATA 1 ch
  if s.rd F.RES_CH_CE_THR_THR ch ≤ s1.rd F.RES_CH_CE_DATA ch then (s1.wr F.RES_CH_CE_DATA 0 ch).raise 128 ch else s1

/-- Count link-ECC corrections (R219): event 130. -/
def State.countLink (s : State) (ch n : Nat) : State :=
  if n = 0 then s
  else
    let s1 := s.incSat F.RES_CH_CE_LINK n ch
    if s.rd F.RES_CH_CE_THR_THR ch ≤ s1.rd F.RES_CH_CE_LINK ch then (s1.wr F.RES_CH_CE_LINK 0 ch).raise 130 ch else s1

/-- A line reads as uncorrectable: by this check, or because its check bytes are poisoned (R218). -/
def State.readsUe (s : State) (line : Nat) (ecc : EccResult) : Bool :=
  ecc == .uncorrectable || s.res.poison.contains line

/-- A line is stored with poisoned check bytes (R218). -/
def State.poisonLine (s : State) (line : Nat) : State :=
  if s.res.poison.contains line then s else s.modRes fun r => { r with poison := line :: r.poison }

/-- The request of a DRAM read under way: the tag, and what it asked for. -/
def State.flightTag (s : State) (ch : Nat) (f : Flight) : WorkTag :=
  if f.fill then ((youngest (s.chan ch).wq f.line).map (·.tag)).getD s.wardenTag
  else (((s.chan ch).rq.find? fun r => r.issued && r.line == f.line).map (·.tag)).getD s.wardenTag

/-- The read is over. -/
def State.flightDone (s : State) (ch : Nat) : State := s.modChan ch fun c => { c with flight := c.flight.tail }

/-- An error response ends reads of a line that `p` selects, each recorded for its own cove (R217). -/
def State.readsFail (s : State) (ch : Nat) (l : List ReadReq) : State :=
  (l.foldl (fun s (r : ReadReq) => (s.eccUe r.tag (r.line * 64 + r.off)).answer 0 true) s).modChan ch fun c =>
    { c with rq := c.rq.filter fun r => !l.contains r }

/-- A completing read has ended: its entry is whole (R222). -/
def State.fillDone (s : State) (ch line : Nat) : State :=
  s.modChan ch fun c =>
    { c with wq := c.wq.map fun e => if e.line == line && e.filling then { e with filling := false, mask := fullMask } else e }

/-- The fourth read of a line has failed: the request ends in an error (R217); a partial write is still written, poisoned (R218), and the
reads that shared its completing read fail. -/
def State.readFailed (s : State) (ch : Nat) (f : Flight) : State :=
  let s1 := s.flightDone ch
  if f.fill then
    (((s1.eccUe (s.flightTag ch f) (f.line * 64)).fillDone ch f.line).poisonLine f.line).readsFail ch
      ((s.chan ch).rq.filter fun r => r.shared && r.line == f.line)
  else s1.readsFail ch (((s.chan ch).rq.find? fun r => r.issued && r.line == f.line).toList)

/-- The data of a read are good, or corrected: then the line is rewritten and the error counted (R217). -/
def State.readGood (s : State) (ch : Nat) (f : Flight) (ecc : EccResult) : State :=
  let s1 := s.flightDone ch
  let s2 :=
    if f.fill then (s1.fillDone ch f.line).serveShared ch f.line
    else match (s.chan ch).rq.find? fun r => r.issued && r.line == f.line with
      | some r => (s1.modChan ch fun c => { c with rq := c.rq.erase r }).answer (ofLe r.data)
      | none => s1
  if ecc = .corrected then (s2.countCe ch).rewriteLine ch f.line else s2

/-- A line that failed is read again (R217, Table 01-4); the first retry adds an entry with ACTION 1 (R139). -/
def State.readAgain (s : State) (ch : Nat) (f : Flight) : State :=
  (s.modChan ch fun c => { c with flight := { f with tries := f.tries + 1 } :: c.flight.tail }).when (f.tries == 0) fun s =>
    s.flogAdd 1 1 2 { unit := 8, inst := Fin.ofNat 512 ch } (s.flightTag ch f)

/-- RES_READ_DATA (R217 to R219, R223): data of the oldest read under way return, completing reads included; an uncorrectable line is read
up to four times. -/
def execResReadData (ch : Fin 4) (ecc : EccResult) (link : Nat) (s : State) : Ans :=
  match (s.chan ch.val).flight with
  | [] => .next s
  | f :: _ =>
    let s1 := s.countLink ch.val link
    if !s.readsUe f.line ecc then .next (s1.readGood ch.val f ecc)
    else if f.tries < 3 then .next (s1.readAgain ch.val f)
    else .next (s1.readFailed ch.val f)

/-- The channel of an isolated Reservoir instance drains (R20, R206): what it held ends with an error response. -/
def State.chanDrain (s : State) (ch : Nat) : State :=
  ((s.chan ch).rq.foldl (fun s _ => s.answer 0 true) s).modChan ch fun c => { c with rq := [], wq := [], flight := [], rewrites := [] }

/-! ### Refresh and temperature (R228) -/

/-- The rank is fitted. -/
def State.hasRank (s : State) (rank : Nat) : Bool := rank == 0 || s.on F.RES_CFG_RANKS2

/-- MR4_POLL: the reported rate is applied; events 136 and 137. -/
def execMr4Poll (ch : Fin 4) (rank : Fin 2) (rate : BitVec 4) (hot : Bool) (s : State) : Ans :=
  if !s.hasRank rank.val then .next s
  else
    let old := nth (s.chan ch.val).mr4 rank.val 0
    let s1 := s.modChan ch.val fun c => { c with mr4 := c.mr4.set rank.val rate.toNat }
    let s2 := if old != rate.toNat then s1.raise 136 (ch.val + 16 * rate.toNat) else s1
    .next (if hot then s2.raise 137 ch.val else s2)

/-- Refreshes are per bank in bank-group mode, above 3200 MT/s, and of all banks in 16-bank mode (Table 08-1). -/
def State.perBank (s : State) : Bool := s.rd F.RES_CFG_RATE != 0

/-- Requests of the channel are ready. -/
def Chan.ready (c : Chan) : Bool := c.rq.any (fun r => !r.issued && !r.shared) || c.wq.any fun e => !e.sent

/-- `n` refreshes of a rank, from bank `b` on in ascending order where they are per bank: the rows of the banks close. -/
def State.refresh (s : State) (ch rank n b : Nat) : State :=
  let gone := fun (r : OpenRow) =>
    r.bank / 2 % 2 == rank && (!s.perBank || (List.range n).any fun k => r.bank / 4 == (b + k) % 16)
  ((s.modChan ch fun c => { c with rows := c.rows.filter fun r => !gone r }).modChan ch fun c =>
    { c with refBank := c.refBank.set rank ((b + n) % 16) }).send (.dramCmd ch [4, rank, n, if s.perBank then b else 16])

/-- Refresh management of a bank (Table 08-1). -/
def State.refreshMgmt (s : State) (ch rank b : Nat) : State :=
  (s.modChan ch fun c => { c with rows := c.rows.filter fun r => !(r.bank / 2 % 2 == rank && r.bank / 4 == b) }).send (.dramCmd ch [7, rank, b])

/-- A refresh of a rank is due: the interval of its MR4 rate has passed since the last (R228). -/
def State.refreshIs (s : State) (ch rank : Nat) : Bool :=
  decide (nth (s.chan ch).refAt rank 0 + Config.refreshNs (nth (s.chan ch).mr4 rank 0) ≤ s.elapsed)

/-- A refresh falls due: postponed while requests are ready, at most 8 times; otherwise issued with what was postponed. -/
def State.refreshTurn (s : State) (ch rank : Nat) : State :=
  let debt := nth (s.chan ch).refDebt rank 0
  let ready := (s.chan ch).ready
  let s1 := s.modChan ch fun c => { c with refAt := c.refAt.set rank s.elapsed }
  if ready && decide (debt < 8) then s1.modChan ch fun c => { c with refDebt := c.refDebt.set rank (debt + 1) }
  else
    let left := if ready then debt else 0
    (s1.modChan ch fun c => { c with refDebt := c.refDebt.set rank left }).refresh ch rank (debt + 1 - left) (nth (s.chan ch).refBank rank 0)

/-- REFRESH_DUE (R213, R228); `rfm`: the DRAM asks for refresh management of a bank. -/
def execRefreshDue (ch : Fin 4) (rank : Fin 2) (rfm : Option (Fin 16)) (s : State) : Ans :=
  if !s.chanReady ch.val || !s.hasRank rank.val then .next s
  else match rfm with
    | some b => .next (s.refreshMgmt ch.val rank.val b.val)
    | none => .next (if s.refreshIs ch.val rank.val then s.refreshTurn ch.val rank.val else s)

/-! ### Page initialisation and patrol -/

/-- Pages of `initExtra` that follow on the swept part join it. -/
def absorbInit : Nat → Nat → List Nat → Nat × List Nat
  | 0, u, l => (u, l)
  | k + 1, u, l => if l.contains u then absorbInit k (u + 1) (l.filter (· != u)) else (u, l)

/-- PAGE_INIT (R220): in RUN, the next page in ascending order; INIT_DONE after the last. -/
def execPageInit (s : State) : Ans :=
  if s.chip.phase ≠ .run || s.pageCount = 0 || s.res.initDone then .next s
  else
    let (u, l) := absorbInit (s.res.initExtra.length + 1) s.res.initUpTo s.res.initExtra
    let s1 := s.modRes fun r => { r with initUpTo := u, initExtra := l }
    let s2 := if u < s1.pageCount then s1.markInit u else s1
    .next (if s2.pagesLeft = 0 then (s2.modRes fun r => { r with initDone := true }).raise 138 else s2)

/-- Lines that a patrol pass of one channel reads: its data lines, then its check lines. -/
def State.scrubLines (s : State) : Nat := s.chanBytes / 64 + s.chanBytes / 512

/-- Channel address of the patrol's line `pos`: data lines, then check lines. -/
def State.scrubAddr (s : State) (pos : Nat) : Nat :=
  if pos < s.chanBytes / 64 then pos * 64 else s.chanBytes + (pos - s.chanBytes / 64) * 64

/-- The patrol skips a line: its page is not initialised, or its row is held by the repair (R230). -/
def State.scrubSkips (s : State) (ch pos : Nat) : Bool :=
  let a := s.scrubAddr pos
  (decide (pos < s.chanBytes / 64) && !s.pageInit (chanPa ch a / 65536))
    || (match s.res.ppr with
        | some t => (s.coord a).word ch / 32 == t / 32
        | none => false)

/-- What a patrol read finds (R230). -/
def State.scrubFind (s : State) (ch pos : Nat) (ecc : EccResult) : State :=
  let a := s.scrubAddr pos
  if s.readsUe (chanPa ch a / 64) ecc then (s.ueRecord true 0 ch a).raise 131 ch
  else if ecc = .corrected then (s.countCe ch).rewriteLine ch (chanPa ch a / 64)
  else s

/-- The pass ends once every channel has ended it: PASSES counts it, and SCRUB_LATE reports a late end. -/
def State.scrubPassEnd (s : State) : State :=
  if s.res.chans.all (·.scrubDone) then
    let late := decide (s.res.scrubStart + s.rd F.RES_SCRUB_CFG_HOURS * 3600000000000 < s.elapsed)
    let s1 := (s.inc F.RES_SCRUB_STAT_PASSES 1).modRes fun r =>
      { r with scrubStart := s.elapsed, chans := r.chans.map fun c => { c with scrubPos := 0, scrubDone := false } }
    if late then s1.raise 132 else s1
  else s

/-- PATROL_SCRUB (R230). -/
def execPatrolScrub (ch : Fin 4) (ecc : EccResult) (link : Nat) (s : State) : Ans :=
  let pos := (s.chan ch.val).scrubPos
  if s.rd F.RES_SCRUB_CFG_HOURS = 0 || !s.chanReady ch.val || s.chanOff ch.val || (s.chan ch.val).scrubDone then .next s
  else
    let s1 := if s.scrubSkips ch.val pos then s else (s.countLink ch.val link).scrubFind ch.val pos ecc
    let s2 := s1.modChan ch.val fun c => { c with scrubPos := pos + 1, scrubDone := decide (s.scrubLines ≤ pos + 1) }
    .next s2.scrubPassEnd

/-! ### Soft repair -/

/-- Two targets lie in one bank: RES_PPR_TGT above its row. -/
def sameBank (a b : Nat) : Bool := a / 2 ^ 22 == b / 2 ^ 22

/-- A repair list in MRAM (Table 03-23). -/
def pprListBytes (mr : List Nat) (targets : List Nat) : List Byte :=
  let body := (mr.flatMap (leBytes 1)) ++ leBytes 8 (targets.length)
    ++ ((targets ++ List.replicate (16 - targets.length) 0).flatMap (leBytes 4)) ++ List.replicate 172 0
  body ++ leBytes 4 (crc32c body)

/-- MR5 to MR8 of ranks 0 and 1. -/
def State.mrTags (s : State) (ch : Nat) : List Nat :=
  [0, 1].flatMap fun r => [5, 6, 7, 8].map fun a => spGet (s.chan ch).mr (128 * r + a) 0

/-- The device writes the channel's list to MRAM (Table 03-21). -/
def State.storePprList (s : State) (ch : Nat) : State :=
  { s with mram := memWrite s.mram (0x4000 + 0x100 * ch) (pprListBytes (s.mrTags ch) (s.chan ch).repairs) }

/-- A repair is refused or fails: event 134 (R232). -/
def State.pprFail (s : State) (reason : Nat) : State :=
  ((s.wr F.RES_PPR_STAT_FAIL 1).wr F.RES_PPR_STAT_REASON reason).raise 134 reason

/-- PPR_START (R231, R232). -/
def execPprStart (ini : Initiator) (noResource : Bool) (s : State) : Ans :=
  s.busBy ini fun s =>
  if !s.isSec ini then .next (s.denied ini 0x2000024)
  else
    let t := s.rd F.RES_PPR_TGT_TARGET
    let c := s.chan (bits t 29 28)
    if s.res.ppr.isSome then .next (s.pprFail 1)
    else if c.repairs.any (sameBank t) then .next (s.pprFail 2)
    else if noResource then .next (s.pprFail 3)
    else if 16 ≤ c.repairs.length then .next (s.pprFail 4)
    else
      let s1 := (s.modChan (bits t 29 28) fun c => { c with rows := c.rows.filter fun r => r.bank != targetBank t }).send
        (.dramCmd (bits t 29 28) [0, targetBank t, bits t 21 5])
      .next ((s1.modRes fun r => { r with ppr := some t }).wr F.RES_PPR_STAT_BUSY 1)

/-- The channel address that decodes to coordinates (R215). -/
def State.addrOf (s : State) (c : Coord) : Nat :=
  let low := c.sc * 2 ^ 6 + c.col * 2 ^ 7 + (c.bank ^^^ c.row % 16) * 2 ^ 12
  if s.on F.RES_CFG_RANKS2 then low + c.rank * 2 ^ 16 + c.row * 2 ^ 17 else low + c.row * 2 ^ 16

/-- Line `col` of the row that a repair target names, as PA / 64. -/
def State.rowLine (s : State) (t col : Nat) : Nat :=
  chanPa (bits t 29 28) (s.addrOf { sc := bits t 27 27, rank := bits t 26 26, bank := bits t 25 22, row := bits t 21 5, col := col }) / 64

/-- PPR_DONE (R231): the row is back, its uncorrectable lines `badCols` with poisoned check bytes, and the bank released; a failure of the
DRAM has REASON 5 (R232). -/
def execPprDone (ok : Bool) (badCols : List (Fin 32)) (s : State) : Ans :=
  match s.res.ppr with
  | none => .next s
  | some t =>
    let ch := bits t 29 28
    let s0 := s.each badCols fun s c => s.poisonLine (s.rowLine t c.val)
    let s1 := (s0.modRes fun r => { r with ppr := none }).wr F.RES_PPR_STAT_BUSY 0
    if ok then
      let s2 := (s1.modChan ch fun c => { c with repairs := c.repairs ++ [t] }).storePprList ch
      .next ((s2.wr F.RES_PPR_STAT_DONE 1).raise 133 ch)
    else .next (s1.pprFail 5)

/-! ### Training helpers (R234) -/

/-- A write of RES_TRN_CTRL with GO: the fields are stored and the operation starts unless one runs. -/
def State.trnStart (s : State) (ini : Initiator) (op chmask pat lines : Nat) : State :=
  if !s.isSec ini then s.denied ini 0x2000040
  else
    let s1 := ((s.wr F.RES_TRN_CTRL_CHMASK chmask).wr F.RES_TRN_CTRL_OP op).wr F.RES_TRN_CTRL_PAT pat
    let s2 := s1.wr F.RES_TRN_CTRL_LINES lines
    if s2.res.trn.isSome then s2
    else
      let s3 := (s2.modRes fun r => { r with trn := some (.op op chmask) }).wr F.RES_TRN_STAT_BUSY 1
      if op = 1 || op = 3 then
        s3.each (setBitsList 4 chmask) fun s n =>
          s.modChan n fun c => { c with trained := some (pat, max (s.rd F.RES_TRN_SEED_SEED) 1, lines) }
      else s3

/-- TRN_WRITE_PATTERN (OP 1). -/
def execTrnWritePattern (ini : Initiator) (chmask : BitVec 4) (pat : Fin 4) (lines : BitVec 11) (s : State) : Ans :=
  s.busBy ini fun s =>
  .next (s.trnStart ini 1 chmask.toNat pat.val lines.toNat)

/-- TRN_READ_COMPARE (OP 2). -/
def execTrnReadCompare (ini : Initiator) (chmask : BitVec 4) (pat : Fin 4) (lines : BitVec 11) (s : State) : Ans :=
  s.busBy ini fun s =>
  .next (s.trnStart ini 2 chmask.toNat pat.val lines.toNat)

/-- TRN_WRITE_READ_COMPARE (OP 3). -/
def execTrnWriteReadCompare (ini : Initiator) (chmask : BitVec 4) (pat : Fin 4) (lines : BitVec 11) (s : State) : Ans :=
  s.busBy ini fun s =>
  .next (s.trnStart ini 3 chmask.toNat pat.val lines.toNat)

/-- TRN_CMD_BUS_COMPARE (OP 4). -/
def execTrnCmdBusCompare (ini : Initiator) (chmask : BitVec 4) (pat : Fin 4) (lines : BitVec 11) (s : State) : Ans :=
  s.busBy ini fun s =>
  .next (s.trnStart ini 4 chmask.toNat pat.val lines.toNat)

/-- TRN_WCK_SAMPLE (OP 5). -/
def execTrnWckSample (ini : Initiator) (chmask : BitVec 4) (pat : Fin 4) (lines : BitVec 11) (s : State) : Ans :=
  s.busBy ini fun s =>
  .next (s.trnStart ini 5 chmask.toNat pat.val lines.toNat)

/-- A mode-register access starts (Table 08-8). -/
def State.mrStart (s : State) (ini : Initiator) (ch rank sc ma : Nat) (wr : Option Nat) : State :=
  if !s.isSec ini then s.denied ini (0x2010014 + 0x1000 * ch)
  else
    let s1 := ((s.wrB F.RES_CH_MR_WRITE wr.isSome ch).wr F.RES_CH_MR_RANK rank ch).wr F.RES_CH_MR_SC sc ch
    let s2 := s1.wr F.RES_CH_MR_MA ma ch
    let s3 := match wr with | some v => s2.wr F.RES_CH_MR_OP v ch | none => s2
    if s3.res.trn.isSome then s3
    else
      let s4 := (s3.modRes fun r => { r with trn := some (if wr.isSome then .mrw ch else .mrr ch) }).wr F.RES_TRN_STAT_BUSY 1
      match wr with
      | some v => (s4.modChan ch fun c => { c with mr := spSet 0 c.mr (128 * rank + ma) v }).send (.dramCmd ch [5, rank, ma, v])
      | none => s4.send (.dramCmd ch [6, rank, sc, ma])

/-- MODE_REGISTER_WRITE (R234). -/
def execModeRegisterWrite (ini : Initiator) (ch : Fin 4) (rank sc : Fin 2) (ma : BitVec 7) (op : BitVec 8) (s : State) :
    Ans :=
  s.busBy ini fun s =>
  .next (s.mrStart ini ch.val rank.val sc.val ma.toNat (some op.toNat))

/-- MODE_REGISTER_READ (R234). -/
def execModeRegisterRead (ini : Initiator) (ch : Fin 4) (rank sc : Fin 2) (ma : BitVec 7) (s : State) : Ans :=
  s.busBy ini fun s =>
  .next (s.mrStart ini ch.val rank.val sc.val ma.toNat none)

/-- What a compare found on a channel: TRN_ERR bits set and the failed bits counted. -/
def State.trnErrors (s : State) (ch err count : Nat) : State :=
  (s.wr F.RES_CH_TRN_ERR_DQ (s.rd F.RES_CH_TRN_ERR_DQ ch ||| err) ch).inc F.RES_CH_TRN_CNT_COUNT count ch

/-- TRN_DONE (R234): `errs` and `counts` are what the comparators of the channels found, `mrr` what an MRR returned. -/
def execTrnDone (errs counts : List Nat) (mrr : BitVec 8) (s : State) : Ans :=
  match s.res.trn with
  | none => .next s
  | some o =>
    let s1 := ((s.modRes fun r => { r with trn := none }).wr F.RES_TRN_STAT_BUSY 0).wr F.RES_TRN_STAT_DONE 1
    match o with
    | .mrw _ => .next s1
    | .mrr ch => .next (s1.wr F.RES_CH_MR_OP mrr.toNat ch)
    | .op op mask =>
      if op = 1 then .next s1
      else .next (s1.each (setBitsList 4 mask) fun s n => s.trnErrors n (nth errs n 0) (nth counts n 0))

/-- No page is initialised any longer (R220). -/
def State.clearInit (s : State) : State :=
  ({ s with dram := [] }).modRes fun r => { r with initUpTo := 0, initExtra := [], initDone := false, poison := [] }

/-- TRAINING_FAIL (R235, R236): before step 10 of the boot completes. -/
def execTrainingFail (ch : Fin 4) (s : State) : Ans :=
  if s.chip.phase ≠ .boot || s.chip.step10 || s.rd F.RES_CH_STAT_STATE ch.val = 3 then .next s
  else if s.res.warmTrain then
    .next ((s.modRes fun r => { r with warmTrain := false }).wr F.CHIP_RESET_CAUSE_DRAM_KEPT 0).clearInit
  else if s.res.tryRate = 0 then .next ((s.wr F.RES_CH_STAT_STATE 3 ch.val).raise 140 ch.val)
  else
    .next (((s.modRes fun r => { r with tryRate := r.tryRate - 1 }).each (List.range 4) fun s n =>
      s.wr F.RES_CH_STAT_STATE 0 n).raise 139 (s.res.tryRate - 1))

end Sys2Proof.Machine
end

