-- ==== Sys2Proof/Machine/Resets.lean ====
section
/-!
DEFINITION. Supplies, resets and the seep domain (03.1, 03.3, 03.8): what each reset of Table 03-5 keeps, how RESET is entered and
left (Table 03-2), the straps (R52 to R55) and wakes (R96).
-/
namespace Sys2Proof.Machine

/-! ### What a reset keeps -/

/-- Registers of the seep domain (R80, R97). -/
def seepFlds : List Fld :=
  [F.CHIP_RESET_CAUSE_BOOT_COUNT, F.CHIP_RESET_CAUSE_TEST_FAIL, F.CHIP_RESET_CAUSE_TEST_DONE, F.CHIP_RESET_CAUSE_DRAM_KEPT,
   F.CHIP_RESET_CAUSE_CAUSE, F.CHIP_SEEP_WAKE_ALARM_EN, F.CHIP_SEEP_WAKE_W1_FALL, F.CHIP_SEEP_WAKE_W1_EN, F.CHIP_SEEP_WAKE_W0_FALL,
   F.CHIP_SEEP_WAKE_W0_EN, F.CHIP_SEEP_CNT_COUNT, F.CHIP_SEEP_ALARM_ALARM, F.CHIP_SEEP_KEEP_KEEP]

/-- Registers held in MRAM, fixed in the part, and latched from the straps (R55, R84, R114, R115, R120). -/
def heldFlds : List Fld :=
  [F.CHIP_BOOT_CFG_NO_FALLBACK, F.CHIP_BOOT_CFG_PREFER_B, F.CHIP_IMG_MINVER_MINVER, F.CHIP_IMG_CACHE_VALID, F.RES_CFG_RATE_MAX,
   F.CHIP_ID_PART, F.CHIP_ID_VARIANT, F.CHIP_ID_STEP_MAJOR, F.CHIP_ID_STEP_MINOR, F.CHIP_KEY_STAT_UNKEYED, F.CHIP_KEY_STAT_REVOKED,
   F.CHIP_KEY_STAT_PROG, F.DRG_FUSE_STAT_USED, F.CHIP_STRAP_CLIPPED, F.CHIP_STRAP_RAW_MASK, F.CHIP_STRAP_SAFE_MASK,
   F.CHIP_STRAP_POSITION, F.CHIP_STRAP_MODE, F.PTG_CFG_POSITION]

/-- Keys of every instance of a field. -/
def Fld.keys (f : Fld) : List Nat := (List.range f.n1).flatMap fun i => (List.range f.n2).map fun j => f.key i j

/-- Register entries that a chip reset leaves (Table 03-5). -/
def keptRegs (l : List (Nat × Nat)) : List (Nat × Nat) :=
  let ks := (seepFlds ++ heldFlds).flatMap Fld.keys
  l.filter fun e => ks.contains e.1

/-- The seep domain is cleared. -/
def State.seepClear (s : State) : State :=
  let ks := seepFlds.flatMap Fld.keys
  { s with regs := s.regs.filter fun e => !ks.contains e.1 }

/-- The machine with everything cleared that Table 03-5 clears: MRAM, seep domain, fuses, straps, Wellhead's die and the levels
of the control inputs stay; DRAM stays where `keep` says so. -/
def State.cleared (s : State) (keep : Bool) : State :=
  let c : Chip :=
    { bootChip with wakeCause := s.chip.wakeCause, keyDigest := s.chip.keyDigest, seepFrac := s.chip.seepFrac, selfRefresh := keep }
  let p : Pins :=
    { bootPins with porst := s.pins.porst, wrst := s.pins.wrst, vcoreOk := s.pins.vcoreOk, turnFlash := false, pwrReq := s.pins.pwrReq }
  let poison := if keep then s.res.poison else []
  let r : Res := { resReset with poison := poison, tryRate := s.rd F.RES_CFG_RATE_MAX, trainedMax := s.res.trainedMax }
  { State.reset with
    pending := s.pending, regs := keptRegs s.regs, dram := if keep then s.dram else [], mram := s.mram, chip := c, pins := p, res := r,
    drg := { drgReset with fuses := s.drg.fuses }, whd := { s.whd with up := false }, fresh := s.fresh, sent := s.sent }

/-- Code of CHIP_RESET_CAUSE.CAUSE for a reset in BOOT to TEST (Table 03-6). -/
def ResetKind.cause : ResetKind → Nat
  | .powerOn => 8 | .warm => 5 | .command => 6 | .restart => 4 | .brownOut => 7

/-- Every LPDDR5 channel is in self-refresh with its write queue empty, or enters it now: the device empties the queues first (R79,
R229). Channels enter it in step 7 of a shutdown, and stay in it until step 10 of a boot. -/
def State.dramSurvives (s : State) (k : ResetKind) : Bool :=
  match k with
  | .warm => s.chip.selfRefresh || (List.range 4).all s.chanReady
  | .command => s.chip.selfRefresh || (List.range 4).all s.chanReady
  | .restart => s.chip.selfRefresh
  | _ => false

/-- RESET is entered (Tables 03-2, 03-5, 03-6). `endAt`: when the internal reset ends, in nanoseconds from now. -/
def State.enterReset (s : State) (k : ResetKind) (cause : Nat) (endAt : Option Nat) : State :=
  let keep := s.dramSurvives k
  let s1 := (s.cleared keep).modChip fun c => { c with phase := .reset, resetKind := k, internalReset := endAt }
  ((s1.modPins fun p => { p with pwrReq := true }).wrB F.CHIP_RESET_CAUSE_DRAM_KEPT keep).wr F.CHIP_RESET_CAUSE_CAUSE cause

/-- SEEP is entered: PWR_REQ goes low, and the rails go (R75, R76). `wake` is the cause that a later wake will report. -/
def State.enterSeep (s : State) (wake : Nat) : State :=
  ((s.cleared false).modChip fun c => { c with phase := .seep, wakeCause := wake }).modPins fun p => { p with pwrReq := false }

/-! ### BOOT is entered -/

/-- The boot sequencer starts: BOOT_COUNT counts, the Turnover balls take their flash function where the boot source is a flash
(Tables 02-5, 02-6), and training restores the saved values after a warm, command or restart reset (R236). -/
def State.bootStart (s : State) : State :=
  let m := s.rd F.CHIP_STRAP_MODE
  let k := s.chip.resetKind
  let s1 := (s.modChip fun c => { c with phase := .boot, internalReset := none }).incSat F.CHIP_RESET_CAUSE_BOOT_COUNT 1
  let s2 := s1.modPins fun p => { p with turnFlash := m == 0 || m == 1 || m == 3 }
  let s3 := s2.modRes fun r => { r with warmTrain := k == .warm || k == .command || k == .restart }
  s3.modPtg fun p => { p with bootAt := s.elapsed }

/-- RESET may end (Table 03-2, R53, R77): PORST_n high, VCORE_OK high, MODE not 111. -/
def State.mayBoot (s : State) : Bool :=
  s.chip.phase == .reset && s.pins.porst && s.pins.vcoreOk && s.rd F.CHIP_STRAP_MODE != 7

/-- The four lowest-numbered bits of SHM (R54). -/
def fourLowest (m : Nat) : Nat := (((setBitsList 8 m).take 4).map (2 ^ ·)).sum

/-- Position that MODE gives (Table 02-6). -/
def modePosition (m : Nat) : Nat := if m = 4 then 1 else if m = 5 then 2 else if m = 6 then 3 else 0

/-- The straps are latched (R52 to R55): bit i of `turn` is TURN(i + 1). More than four SHM bits raise event 508. -/
def State.strapLatch (s : State) (turn : Nat) : State :=
  let m := bits turn 2 0
  let shm := bits turn 10 3
  let clipped := decide (4 < popCount 8 shm)
  let s1 := ((s.wr F.CHIP_STRAP_MODE m).wr F.CHIP_STRAP_RAW_MASK shm).wr F.CHIP_STRAP_SAFE_MASK (fourLowest shm)
  let s2 := ((s1.wrB F.CHIP_STRAP_CLIPPED clipped).wr F.CHIP_STRAP_POSITION (modePosition m)).wr F.PTG_CFG_POSITION (modePosition m)
  if clipped then s2.raise 508 else s2

/-- PORST_RISE (R70, R52, R54). -/
def execPorstRise (turn : BitVec 11) (s : State) : Ans :=
  let s0 := s.modPins fun p => { p with porst := true }
  if s.pins.porst || s.chip.phase ≠ .reset then .next s0
  else
    let s1 := s0.strapLatch turn.toNat
    if s1.mayBoot then .next s1.bootStart
    else if s1.pins.vcoreOk then .next s1
    else .next (s1.modChip fun c => { c with internalReset := some s.elapsed })

/-- WRST_RISE (R70): straps kept. A wake leaves RESET only by PORST_n (R71). -/
def execWrstRise (s : State) : Ans :=
  let s1 := s.modPins fun p => { p with wrst := true }
  if s.pins.wrst || s.chip.resetKind = .powerOn then .next s1
  else if s1.mayBoot then .next s1.bootStart
  else if s1.chip.phase = .reset && !s1.pins.vcoreOk then .next (s1.modChip fun c => { c with internalReset := some s.elapsed })
  else .next s1

/-- INTERNAL_RESET_END (R70). -/
def execInternalResetEnd (s : State) : Ans :=
  match s.chip.internalReset with
  | some t => if t ≤ s.elapsed && s.mayBoot then .next s.bootStart else .next s
  | none => .next s

/-! ### Resets of BOOT to TEST -/

/-- PORST_FALL (R70, R78): a power-on reset in BOOT to TEST; in RESET the contents of DRAM are lost as well (Table 03-5). -/
def execPorstFall (s : State) : Ans :=
  let s1 := s.modPins fun p => { p with porst := false }
  if !s.pins.porst then .next s
  else if s.powered then .next (s1.enterReset .powerOn 8 none)
  else if s.chip.phase = .reset then
    .next (((({ s1 with dram := [] } : State).modRes fun r => { r with poison := [] }).modChip fun c =>
      { c with resetKind := .powerOn, internalReset := none }).wr F.CHIP_RESET_CAUSE_DRAM_KEPT 0)
  else .next s1

/-- WARM_RESET (R70): WRST_n low for 1 µs. -/
def execWarmReset (us : Nat) (s : State) : Ans :=
  if us < 1 then .next s
  else
    let s1 := s.modPins fun p => { p with wrst := false }
    if s.powered then .next (s1.enterReset .warm 5 none) else .next s1

/-- A command of CHIP_PHASE_CMD (R73): ignored where Table 03-2 does not list it for the phase; the secure world alone gives it. -/
def State.phaseCmd (s : State) (ini : Initiator) (listed : Bool) (f : State → State) : State :=
  if !listed then s else if !s.isSec ini then s.denied ini 0x14 else f s

/-- CHIP_RESET (R70): the internal reset ends 1 ms later. -/
def execChipReset (ini : Initiator) (s : State) : Ans :=
  s.busBy ini fun s =>
  .next (s.phaseCmd ini s.powered fun s => s.enterReset .command 6 (some 1000000))

/-- BROWN_OUT (R77): VCORE_OK has been low for `us`; after 50 µs the internal reset begins, and ends 1 ms after it returns. -/
def execBrownOut (us : Nat) (s : State) : Ans :=
  let s1 := s.modPins fun p => { p with vcoreOk := false }
  if us < 50 || !s.powered then .next s1 else .next (s1.enterReset .brownOut 7 none)

/-- VCORE_OK_RISE (R70, R77). -/
def execVcoreOkRise (s : State) : Ans :=
  let s1 := s.modPins fun p => { p with vcoreOk := true }
  if s.pins.vcoreOk then .next s
  else if s.chip.phase = .reset && s.chip.resetKind = .brownOut then
    .next (s1.modChip fun c => { c with internalReset := some (s.elapsed + 1000000) })
  else .next s1

/-! ### The seep domain -/

/-- A wake in SEEP (R96): RESET, PWR_REQ high. -/
def State.wake (s : State) : State := s.enterReset .powerOn s.chip.wakeCause none

/-- VBAT_RISE (R70, R96): above 2.4 V; the first entry to SEEP counts as a wake. -/
def execVbatRise (mV : Nat) (s : State) : Ans :=
  if mV ≤ 2400 || s.chip.phase ≠ .off then .next s
  else .next ((s.seepClear.modChip fun c => { c with phase := .seep, wakeCause := 0, seepFrac := 0 }).wake)

/-- VBAT_FALL (R70): below 2.0 V in SEEP; the seep contents are lost. -/
def execVbatFall (mV : Nat) (s : State) : Ans :=
  if 2000 ≤ mV || s.chip.phase ≠ .seep then .next s
  else .next (s.seepClear.modChip fun c => { c with phase := .off, wakeCause := 0, seepFrac := 0 })

/-- WAKE_EDGE (R96): an edge of the enabled polarity, held for 100 µs. -/
def execWakeEdge (w : Fin 2) (falling : Bool) (us : Nat) (s : State) : Ans :=
  let en := if w.val = 0 then s.on F.CHIP_SEEP_WAKE_W0_EN else s.on F.CHIP_SEEP_WAKE_W1_EN
  let fall := if w.val = 0 then s.on F.CHIP_SEEP_WAKE_W0_FALL else s.on F.CHIP_SEEP_WAKE_W1_FALL
  if s.chip.phase = .seep && en && fall == falling && decide (100 ≤ us) then .next s.wake else .next s

/-- SEEP_ALARM (R96): the count has reached the alarm. -/
def execSeepAlarm (s : State) : Ans :=
  if s.chip.phase = .seep && s.on F.CHIP_SEEP_WAKE_ALARM_EN && s.rd F.CHIP_SEEP_CNT_COUNT == s.rd F.CHIP_SEEP_ALARM_ALARM then
    .next s.wake
  else .next s

end Sys2Proof.Machine
end

