-- ==== Sys2Proof/Machine/Shallows.lean ====
section
/-!
DEFINITION. Shallows (chapter 17): the scan frame, candidates and their filters, contacts and their state tables, routing,
records and rings, frames cut short; rows SCAN_FRAME_START, SCAN_FRAME_END and TOUCH_FRAME_DROPPED.
-/
namespace Sys2Proof.Machine

def noSensor : ShaSensor :=
  { cfg := none, grid := 0, began := 0, rows := [], claims := [], baseM := [], baseTx := [], baseRx := [], contacts := [], cancel := false,
    cancelDrop := false }

def State.sns (s : State) (n : Nat) : ShaSensor := s.sha.sensors.getD n noSensor

def State.modSns (s : State) (n : Nat) (f : ShaSensor → ShaSensor) : State :=
  s.modSha fun a => { a with sensors := a.sensors.modify n f }

/-- TOUCH record of sensor `n` in effect. -/
def State.touchCfg (s : State) (n : Nat) : SensorCfg := s.img.sensors.getD n default

/-- The built-in contact table (Table 17-4) without its CANCEL row, which holds for every table (R490). -/
def shallowsTable : List SRow :=
  [⟨0, 0, 0, 1, 0, 0⟩, ⟨1, 0, 1, 2, 35, 1⟩, ⟨1, 1, 0, 0, 64, 0⟩, ⟨1, 2, 0, 0, 64, 0⟩,
   ⟨2, 0, 0, 2, 4, 0⟩, ⟨2, 1, 0, 3, 0, 0⟩, ⟨2, 2, 0, 0, 80, 0⟩, ⟨3, 2, 0, 0, 80, 0⟩,
   ⟨3, 0, 0, 2, 4, 0⟩, ⟨3, 1, 1, 0, 72, 1⟩]

/-! ### Frame start (R483, R485, R499) -/

/-- The sensor's registers as they stand. -/
def State.shaCfg (s : State) (n : Nat) : ShaCfg :=
  { thresh := s.rd F.SHA_SNS_DET_THRESH n, selfThr := s.rd F.SHA_SNS_DET_SELF_THR n, noise := s.rd F.SHA_SNS_DET_NOISE n,
    palm := s.rd F.SHA_SNS_REJ_PALM n, streak := s.rd F.SHA_SNS_REJ_STREAK n, match_ := s.rd F.SHA_SNS_REJ_MATCH n,
    sx := sx 32 (s.rd F.SHA_SNS_SX_SCALE n), sy := sx 32 (s.rd F.SHA_SNS_SY_SCALE n),
    ox := sx 16 (s.rd F.SHA_SNS_OFS_OX n), oy := sx 16 (s.rd F.SHA_SNS_OFS_OY n),
    flipU := s.on F.SHA_SNS_AXES_FLIP_U n, flipV := s.on F.SHA_SNS_AXES_FLIP_V n, swap := s.on F.SHA_SNS_AXES_SWAP n }

/-- The quietest of the four frequencies, the lowest on a tie. -/
def quietest (l : List Nat) : Nat :=
  (List.range 4).foldl (fun b k => if l.getD k 0 < l.getD b 0 then k else b) 0

/-- A TOUCH record that waits applies; where it changes the sensor, every contact in progress is cancelled (R498). -/
def State.shaApply (s : State) (n : Nat) : State :=
  match s.sha.pend.find? fun e => e.1 == n with
  | none => s
  | some e =>
    let s := s.modSha fun a => { a with pend := a.pend.filter fun x => x.1 != n }
    let s1 := if s.touchCfg n = e.2 then s
      else (s.modImg fun m => { m with sensors := m.sensors.set n e.2 }).modSns n fun x =>
        { x with cancel := true, baseM := [], baseTx := [], baseRx := [] }
    s1.deltaTake 0x15 (2 ^ n)

/-- Microseconds of a scan frame (Table 17-1). -/
def SensorCfg.frameUs (t : SensorCfg) : Nat :=
  400 + (if t.hasSelf then 400 else 0) + (if t.hasMutual then t.txCount * (16 + 4 * t.glove) else 0)

/-- The instant at which the frame after one that starts at `now` may start: n periods of ⌊10^9 / RATE⌋ ns after the grid's (R483). -/
def nextFrame (grid rate now : Nat) : Nat :=
  let p := max 1 (1000000000 / rate)
  grid + ((now - grid) / p + 1) * p

/-- SCAN_FRAME_START (R483, R485, R490, R498), once the frame's instant has come: `noise` measured at the four frequencies. The frame takes the sensor's registers, its
contact table and the claims as they stand; a new table cancels the contacts in progress. -/
def execScanFrameStart (sn : Fin 4) (noise : List Nat) (s : State) : Ans :=
  let n := sn.val
  let s1 := s.shaApply n
  if !s.domainOn 11 || !s.runOrDip || s.on F.SHA_SNS_STAT_RUNNING n
      || decide (s.tbs.now < (s.sns n).grid) then .next s
  else if !(s1.touchCfg n).en then .next s1
  else
    let cfg := s1.shaCfg n
    let rows := (s1.stateTable 0 (s1.rd F.SHA_SNS_TABLE_TABLE_ID n)).getD shallowsTable
    let s := s1.modSns n fun x =>
      { x with cfg := some cfg, grid := nextFrame x.grid (s1.touchCfg n).rate s1.tbs.now, began := s1.tbs.now, rows := rows, claims := s1.img.claims, cancel := x.cancel || x.rows != rows }
    let f := quietest noise
    let noisy := (List.range 4).all fun k => decide (cfg.noise < noise.getD k 0)
    let was := s.on F.SHA_SNS_STAT_NOISY n
    let s := ((s.wr F.SHA_SNS_STAT_RUNNING 1 n).wr F.SHA_SNS_STAT_FREQ f n).wrB F.SHA_SNS_STAT_NOISY noisy n
    let s := s.when (match s.deltaOf 0x35 with | some p => p.started | none => false) fun s => s.deltaTake 0x35 (2 ^ n)
    .next (s.when (noisy && !was) fun s => s.raise 471 n)

/-! ### Candidates (17.2) -/

/-- The nodes of a frame: counts and deltas, node (t, r) at t x rx + r. -/
structure ShaGrid where
  tx : Nat
  rx : Nat
  d : List Int
  selfTx : List Int
  selfRx : List Int

def ShaGrid.at_ (g : ShaGrid) (t r : Nat) : Int := if t < g.tx ∧ r < g.rx then g.d.getD (t * g.rx + r) 0 else 0

/-- Positions next to a node, itself included. -/
def ShaGrid.around (g : ShaGrid) (t r : Nat) : List (Nat × Nat) :=
  (List.range 9).filterMap fun k =>
    let a := t + k / 3
    let b := r + k % 3
    if 1 ≤ a ∧ 1 ≤ b ∧ a - 1 < g.tx ∧ b - 1 < g.rx then some (a - 1, b - 1) else none

/-- A peak: no neighbour is larger, and none before it in raster order is as large. -/
def ShaGrid.peak (g : ShaGrid) (thresh t r : Nat) : Bool :=
  let v := g.at_ t r
  decide ((thresh : Int) ≤ v) && (g.around t r).all fun p =>
    decide (g.at_ p.1 p.2 < v) || (g.at_ p.1 p.2 == v && decide (t * g.rx + r ≤ p.1 * g.rx + p.2))

/-- Grow a region by its neighbours at or above THRESH / 2, `n` times. -/
def ShaGrid.grow (g : ShaGrid) (thresh : Nat) : Nat → List (Nat × Nat) → List (Nat × Nat)
  | 0, l => l
  | n + 1, l =>
    let new := ((l.map fun p => g.around p.1 p.2).flatten.filter fun p =>
      decide ((thresh : Int) ≤ 2 * g.at_ p.1 p.2) && !l.contains p).eraseDups
    if new.isEmpty then l else g.grow thresh n (l ++ new)

/-- Electrodes that a list of positions spans. -/
def spanOf (l : List Nat) : Nat := match l with
  | [] => 0
  | a :: _ => l.foldl max a - l.foldl min a + 1

/-- A candidate: position, region extent, peak delta; kept by every filter or not, and whether filter 4 rejected it. -/
structure PeakCand where
  u : Nat
  v : Nat
  sizeU : Nat
  sizeV : Nat
  signal : Nat
  kept : Bool
  film : Bool
  region : List (Nat × Nat)
  deriving DecidableEq

/-- Weighted mean of 256 k + 128 over electrodes, deltas below 0 counting as 0 (R488). -/
def centroid (l : List (Nat × Int)) : Nat :=
  let w := (l.map fun e => e.2.toNat).sum
  if w = 0 then 0 else (l.map fun e => (256 * e.1 + 128) * e.2.toNat).sum / w

/-- The candidate at a peak (Table 17-2, R488). -/
def ShaGrid.cand (g : ShaGrid) (cfg : ShaCfg) (both : Bool) (t r : Nat) : PeakCand :=
  let reg := g.grow cfg.thresh (g.tx + g.rx + g.tx * g.rx) [(t, r)]
  let w := spanOf (reg.map (·.2))
  let h := spanOf (reg.map (·.1))
  let near := g.around t r
  let f2 := decide (reg.length ≤ cfg.palm)
  let f3 := !((decide (cfg.streak ≤ w) && decide (h ≤ 2)) || (decide (cfg.streak ≤ h) && decide (w ≤ 2)))
  let f4 := !both || (decide ((cfg.selfThr : Int) ≤ g.selfTx.getD t 0) && decide ((cfg.selfThr : Int) ≤ g.selfRx.getD r 0))
  let u := centroid (near.map fun p => (p.2, g.at_ p.1 p.2))
  let v := centroid (near.map fun p => (p.1, g.at_ p.1 p.2))
  { u := if cfg.swap then v else u, v := if cfg.swap then u else v
    sizeU := 16 * (if cfg.swap then h else w), sizeV := 16 * (if cfg.swap then w else h)
    signal := min 65535 (g.at_ t r).toNat, kept := f2 && f3 && f4, film := f2 && f3 && !f4, region := reg }

/-- The candidates of a frame in raster order. -/
def ShaGrid.cands (g : ShaGrid) (cfg : ShaCfg) (both : Bool) : List PeakCand :=
  (List.range (g.tx * g.rx)).filterMap fun k =>
    if g.peak cfg.thresh (k / g.rx) (k % g.rx) then some (g.cand cfg both (k / g.rx) (k % g.rx)) else none

/-- A delta against a baseline that has not been taken yet is 0. -/
def deltas (m base : List Int) (n : Nat) : List Int :=
  (List.range n).map fun k => m.getD k 0 - base.getD k (m.getD k 0)

/-- Baselines move by delta >> 6 but under accepted candidates (R486). -/
def moveBase (m base : List Int) (n : Nat) (held : Nat → Bool) : List Int :=
  (List.range n).map fun k =>
    let b := base.getD k (m.getD k 0)
    if held k then b else b + (m.getD k 0 - b) / 64

/-! ### Contacts (17.3) -/

/-- Squared distance of a candidate from a contact. -/
def dist2 (c : Contact) (k : PeakCand) : Nat :=
  ((c.u : Int) - k.u).natAbs ^ 2 + ((c.v : Int) - k.v).natAbs ^ 2

/-- The nearest pair of contact and candidate (indices) within reach. -/
def nearest (cs : List (Nat × Contact)) (ks : List (Nat × PeakCand)) (reach : Nat) : Option (Nat × Nat × Nat) :=
  (cs.map fun c => ks.map fun k => (dist2 c.2 k.2, c.1, k.1)).flatten.foldl (fun b p =>
    if reach * reach < p.1 then b
    else match b with
      | none => some p
      | some q => if p.1 < q.1 then some p else b) none

/-- Match contacts and candidates, nearest first (R489). -/
def matchAll (reach : Nat) : Nat → List (Nat × Contact) → List (Nat × PeakCand) → List (Nat × Nat)
  | 0, _, _ => []
  | n + 1, cs, ks =>
    match nearest cs ks reach with
    | none => []
    | some (_, c, k) => (c, k) :: matchAll reach n (cs.filter fun x => x.1 != c) (ks.filter fun x => x.1 != k)

/-- A record to be written (Table 17-6), with its receiver: 32 is the secure ring. -/
structure ShaRec where
  to_ : Nat
  kind : Nat
  c : Contact
  x8 : Nat
  y8 : Nat
  layer : Nat

/-- Head position in 1/8 pixel (R488). -/
def headPos (cfg : ShaCfg) (t : SensorCfg) (hd : HeadCfg) (c : Contact) : Nat × Nat :=
  let spanU := 256 * (if cfg.swap then t.txCount else t.rxCount)
  let spanV := 256 * (if cfg.swap then t.rxCount else t.txCount)
  let u := if cfg.flipU then spanU - c.u else c.u
  let v := if cfg.flipV then spanV - c.v else c.v
  let x := (u : Int) * cfg.sx / 65536 + cfg.ox
  let y := (v : Int) * cfg.sy / 65536 + cfg.oy
  ((clampI 0 ((8 * hd.hActive : Nat) - 1 : Int) x).toNat, (clampI 0 ((8 * hd.vActive : Nat) - 1 : Int) y).toNat)

/-- ROUTE (R492, Table 17-5): the receiver of a position on head `h`, under the claims that the frame has. -/
def State.routeAt (s : State) (claims : List ClaimCfg) (h x8 y8 : Nat) : ShaRoute :=
  let px := x8 / 8
  let py := y8 / 8
  match (List.range 16).find? fun k =>
    let c := claims.getD k default
    c.en && c.head == h && decide (c.x0 ≤ px) && decide (px < c.x1) && decide (c.y0 ≤ py) && decide (py < c.y1) with
  | some k => .secure (0x80 + k) (64 + k)
  | none =>
    let e := nth (s.hc h).own (py / 32 * s.tilesW h + px / 32) 0
    let layer := bits e 7 5
    if !bit e 15 then .none_
    else if bit e 14 then (if bit e 13 then .secure 0xFF 255 else .secure layer (8 * h + layer))
    else .cove (bits e 4 0) layer (8 * h + layer)

/-- Where a frame stands while its contacts run: state, records so far. -/
structure ShaRun where
  s : State
  recs : List ShaRec

/-- A record of contact `c` for its route; withheld records are counted (R493). -/
def ShaRun.report (r : ShaRun) (n kind : Nat) (c : Contact) : ShaRun :=
  match (r.s.sns n).cfg with
  | none => r
  | some cfg =>
    let p := headPos cfg (r.s.touchCfg n) (r.s.head (r.s.touchCfg n).head) c
    match c.route with
    | some (.secure layer _) => { r with recs := r.recs ++ [{ to_ := 32, kind := kind, c := c, x8 := p.1, y8 := p.2, layer := layer }] }
    | some (.cove k layer _) =>
      if c.muted then r
      else if r.s.safe || !r.s.coveReady k || !r.s.on F.SHA_RING_CFG_EN k then { r with s := r.s.inc F.SHA_RING_WITHHELD_COUNT 1 k }
      else { r with recs := r.recs ++ [{ to_ := k, kind := kind, c := c, x8 := p.1, y8 := p.2, layer := layer }] }
    | _ => r

/-- ROUTE for contact `c`. -/
def ShaRun.route (r : ShaRun) (n : Nat) (c : Contact) : ShaRun × Contact :=
  match (r.s.sns n).cfg with
  | none => (r, c)
  | some cfg =>
    let h := (r.s.touchCfg n).head
    let p := headPos cfg (r.s.touchCfg n) (r.s.head h) c
    let t := r.s.routeAt (r.s.sns n).claims h p.1 p.2
    let s := if t = .none_ then (r.s.inc F.SHA_UNROUTED_COUNT 1).raise 467 (n + 16 * c.id) else r.s
    ({ r with s := s }, { c with route := some t })

/-- TRIGGER (R494): the Plash trigger of the routed slot or claim, for the contact's route. -/
def ShaRun.trigger (r : ShaRun) (c : Contact) : ShaRun :=
  let go (sel : Nat) (sec : Bool) (cove : Nat) : ShaRun :=
    if sel < 80 && r.s.on F.SHA_TRIGSEL_EN sel then
      { r with s := r.s.modPla fun p =>
          { p with trigs := p.trigs ++ [(r.s.rd F.SHA_TRIGSEL_T sel, sec, cove, r.s.tbs.now)] } }
    else r
  match c.route with
  | some (.secure _ t) => go t true 0
  | some (.cove k _ t) => if r.s.safe then r else go t false k
  | _ => r

/-- The actions of a contact row, from bit 0 upward (Table 17-3). -/
def ShaRun.act (r : ShaRun) (n : Nat) (c : Contact) (a : Nat) : ShaRun × Contact :=
  let x := if bit a 0 then r.route n c else (r, c)
  let r := if bit a 1 then x.1.report n 1 x.2 else x.1
  let r := if bit a 2 then r.report n 2 x.2 else r
  let r := if bit a 3 then r.report n 3 x.2 else r
  let r := if bit a 4 then r.report n 4 x.2 else r
  (if bit a 5 then r.trigger x.2 else r, x.2)

/-- An event on a contact (R490): the contact afterwards, or none once it is freed. -/
def ShaRun.event (r : ShaRun) (n : Nat) (rows : List SRow) (c : Contact) (ev : Nat) : ShaRun × Option Contact :=
  let row : Option SRow :=
    if ev = 3 then (if c.state = 0 then none else some ⟨c.state, 3, 0, 0, 80, 0⟩)
    else rows.find? fun w => w.state == c.state && w.event == ev
      && (w.cond == 0 || (w.cond == 1 && decide (w.arg ≤ c.count)) || (w.cond == 2 && decide (c.count < w.arg)))
  match row with
  | none => (r, some { c with count := c.count + 1 })
  | some w =>
    let x := r.act n c w.action
    if bit w.action 6 then (x.1, none)
    else (x.1, some { x.2 with state := w.next, count := if w.next = c.state then c.count + 1 else 1 })

/-- The lowest free contact ID. -/
def freeId (l : List Contact) : Option Nat := (List.range 16).find? fun i => l.all fun c => c.id != i

/-! ### Records (17.5) -/

def State.shaRecord (s : State) (n : Nat) (x : ShaRec) (loss : Bool) : List Byte :=
  leBytes 8 s.tbs.now ++ leBytes 4 (s.rd F.SHA_SNS_FRAME_COUNT n) ++ leBytes 1 n ++ leBytes 1 x.c.id ++ leBytes 1 x.kind
    ++ leBytes 1 (b2n (s.on F.SHA_SNS_STAT_WET n) + 2 * b2n (s.on F.SHA_SNS_STAT_NOISY n) + 4 * b2n loss)
    ++ leBytes 2 x.x8 ++ leBytes 2 x.y8 ++ leBytes 2 x.c.sizeU ++ leBytes 2 x.c.sizeV ++ leBytes 2 x.c.signal
    ++ leBytes 1 (s.touchCfg n).head ++ leBytes 1 x.layer ++ leBytes 1 (if x.to_ = 32 then 0 else x.to_) ++ leBytes 3 0

/-- Counters and size of receiver `k`'s ring. -/
def State.shaProd (s : State) (k : Nat) : Nat :=
  if k = 32 then s.rd F.SHA_SRING_PROD_COUNT else s.rd F.SHA_RING_PROD_COUNT k

def State.shaCons (s : State) (k : Nat) : Nat :=
  if k = 32 then s.rd F.SHA_SRING_CONS_COUNT else s.rd F.SHA_RING_CONS_COUNT k

def State.shaSize (s : State) (k : Nat) : Nat := if k = 32 then 256 else 2 ^ (min (s.rd F.SHA_RING_CFG_SIZE k) 8 + 4)

/-- Records of receiver `k` are lost (R496). -/
def State.shaLose (s : State) (n k m : Nat) : State :=
  let s := if k = 32 then s.inc F.SHA_SRING_LOST_COUNT m else s.inc F.SHA_RING_LOST_COUNT m k
  let first := !s.sha.episodes.contains k
  let s := s.modSha fun a =>
    { a with afterLoss := (k :: a.afterLoss).eraseDups, episodes := (k :: a.episodes).eraseDups }
  s.when first fun s => if k = 32 then s.raise 468 n 0 true else s.raise 468 n k

/-- Write the record after `i` others of its frame into receiver `k`'s ring. -/
def State.shaStore (s : State) (k i : Nat) (l : List Byte) : State × Bool :=
  let p := (s.shaProd k + i) % s.shaSize k
  if k = 32 then ({ s with ram := memWrite s.ram (0x6C04000 + 32 * p) l }, true)
  else
    match s.engWrite (s.coveTag k) (s.rd F.SHA_RING_BASE_BASE k * 4096 + 32 * p) l with
    | (s1, none) => (s1, true)
    | (s1, some _) => (s1, false)

/-- The records of a frame one after another, from the `i`-th on; PROD then takes them all in. A failed write disables the ring and
loses the whole frame (R496). -/
def shaStoreAll (n k : Nat) : Nat → List ShaRec → Bool → State → State × Bool
  | i, [], _, s => (if k = 32 then s.inc F.SHA_SRING_PROD_COUNT i else s.inc F.SHA_RING_PROD_COUNT i k, true)
  | i, x :: l, loss, s =>
    match s.shaStore k i (s.shaRecord n x loss) with
    | (s1, true) => shaStoreAll n k (i + 1) l false s1
    | (s1, false) => ((s1.wr F.SHA_RING_CFG_EN 0 k).shaLose n k (i + l.length + 1), false)

/-- The records of one frame for one receiver: whole or not at all (R496). -/
def State.shaDeliver (s : State) (n k : Nat) (l : List ShaRec) : State :=
  if l.isEmpty then s
  else if s.shaSize k < (s.shaProd k + 2 ^ 32 - s.shaCons k) % 2 ^ 32 + l.length then s.shaLose n k l.length
  else
    let loss := s.sha.afterLoss.contains k
    match shaStoreAll n k 0 l loss s with
    | (s1, true) =>
      let s1 := s1.modSha fun a => { a with afterLoss := a.afterLoss.filter (· != k) }
      if k = 32 then s1.raise 465 (n + 256 * l.length) 0 true else s1.raise 464 (n + 256 * l.length) k
    | (s1, false) => s1

/-! ### Frame end (R483) -/

/-- Every contact receives CANCEL. -/
def cancelContacts (n : Nat) : List Contact → ShaRun → ShaRun
  | [], r => r
  | c :: l, r => cancelContacts n l (r.event n [] c 3).1

/-- Contacts of the previous frame take their events; `m` is the matching. -/
def runContacts (n : Nat) (rows : List SRow) (ks : List PeakCand) (m : List (Nat × Nat)) :
    List (Nat × Contact) → ShaRun × List Contact → ShaRun × List Contact
  | [], a => a
  | (i, c) :: l, a =>
    let k := match m.find? fun p => p.1 == i with
      | some p => ks[p.2]?
      | none => none
    let c1 := match k with
      | some x => if x.kept then { c with u := x.u, v := x.v, sizeU := x.sizeU, sizeV := x.sizeV, signal := x.signal } else c
      | none => c
    let ev := match k with
      | some x => if x.kept then 0 else 2
      | none => 1
    let x := a.1.event n rows c1 ev
    runContacts n rows ks m l (x.1, a.2 ++ x.2.toList)

/-- Unmatched kept candidates open contacts (R489). -/
def openContacts (n : Nat) (rows : List SRow) : List PeakCand → ShaRun × List Contact → ShaRun × List Contact
  | [], a => a
  | k :: l, a =>
    match freeId a.2 with
    | none => a
    | some i =>
      let c : Contact :=
        { id := i, state := 0, count := 0, u := k.u, v := k.v, sizeU := k.sizeU, sizeV := k.sizeV, signal := k.signal,
          route := none, muted := false }
      let x := a.1.event n rows c 0
      openContacts n rows l (x.1, a.2 ++ x.2.toList)

/-- The nodes of a frame of sensor `n` from its measurements. With MUTUAL clear a node's delta is the lesser self delta. -/
def State.shaGrid (s : State) (n : Nat) (nodes tx rx : List Int) : ShaGrid :=
  let t := s.touchCfg n
  let x := s.sns n
  let dt := deltas tx x.baseTx t.txCount
  let dr := deltas rx x.baseRx t.rxCount
  let d := if t.hasMutual then deltas nodes x.baseM (t.txCount * t.rxCount)
    else (List.range (t.txCount * t.rxCount)).map fun k => min (dt.getD (k / t.rxCount) 0) (dr.getD (k % t.rxCount) 0)
  { tx := t.txCount, rx := t.rxCount, d := d, selfTx := dt, selfRx := dr }

/-- SCAN_FRAME_END (R483), once the frame's steps have taken their time: the measurements of the frame (nodes row by row, TX and RX electrodes). -/
def execScanFrameEnd (sn : Fin 4) (nodes tx rx : List Int) (s : State) : Ans :=
  let n := sn.val
  match (s.sns n).cfg with
  | none => .next s
  | some cfg =>
    if !s.on F.SHA_SNS_STAT_RUNNING n || !s.domainUp 11 || !s.runOrDip
      || decide (s.tbs.now < (s.sns n).began + 1000 * (s.touchCfg n).frameUs) then .next s
    else
      let t := s.touchCfg n
      let g := s.shaGrid n nodes tx rx
      let ks := g.cands cfg (t.hasMutual && t.hasSelf)
      let kept := (ks.filter (·.kept)).map (·.region) |>.flatten
      let wet := ks.any (·.film)
      let was := s.on F.SHA_SNS_STAT_WET n
      let s := s.modSns n fun x =>
        { x with baseM := moveBase nodes x.baseM (t.txCount * t.rxCount) fun k => kept.contains (k / t.rxCount, k % t.rxCount)
                 baseTx := moveBase tx x.baseTx t.txCount fun k => kept.any fun p => p.1 == k
                 baseRx := moveBase rx x.baseRx t.rxCount fun k => kept.any fun p => p.2 == k }
      let s := ((s.wr F.SHA_SNS_STAT_RUNNING 0 n).wrB F.SHA_SNS_STAT_WET wet n).inc F.SHA_SNS_FRAME_COUNT 1 n
      let s := s.wr F.SHA_SNS_STAT_CONSEC_DROP 0 n
      let s := s.when (wet != was) fun s => s.raise 470 (n + 256 * b2n wet)
      let x := s.sns n
      let old := if x.cancel || x.cancelDrop then [] else x.contacts
      let r0 : ShaRun := if x.cancel || x.cancelDrop then cancelContacts n x.contacts { s := s, recs := [] }
        else { s := s, recs := [] }
      let r0 := if x.cancelDrop then { r0 with s := r0.s.raise 469 n } else r0
      let rows := x.rows
      let ci := old.zipIdx.map fun p => (p.2, p.1)
      let ki := ks.zipIdx.map fun p => (p.2, p.1)
      let m := matchAll (16 * cfg.match_) (old.length + 1) ci ki
      let a := runContacts n rows ks m ci (r0, [])
      let new := (ki.filter fun p => p.2.kept && m.all fun q => q.2 != p.1).map (·.2)
      let b := openContacts n rows new a
      let s := b.1.s.modSns n fun x => { x with contacts := b.2, cancel := false, cancelDrop := false }
      .next (s.each (List.range 33) fun s k => s.shaDeliver n k (b.1.recs.filter fun q => q.to_ == k))

/-- The scan frame of sensor `n`, if one runs, is lost (R497). -/
def State.touchDrop (s : State) (n cause : Nat) : State :=
  if !s.on F.SHA_SNS_STAT_RUNNING n then s
  else
    let lim := max 1 (s.rd F.SHA_SNS_REJ_DROP_LIMIT n)
    let s := ((s.wr F.SHA_SNS_STAT_RUNNING 0 n).inc F.SHA_SNS_DROPPED_COUNT 1 n).incSat F.SHA_SNS_STAT_CONSEC_DROP 1 n
    let s := s.raise 466 (n + 16 * cause)
    s.when (decide (lim ≤ s.rd F.SHA_SNS_STAT_CONSEC_DROP n)) fun s => s.modSns n fun x => { x with cancelDrop := true }

/-- Every scan frame that runs is lost. -/
def State.touchDropAll (s : State) (cause : Nat) : State := s.each (List.range 4) fun s n => s.touchDrop n cause

/-- TOUCH_FRAME_DROPPED (R497). -/
def execTouchFrameDropped (sn : Fin 4) (cause : Fin 4) (s : State) : Ans := .next (s.touchDrop sn.val cause.val)

/-- An instance reset of cove `c`: its contacts keep their routes and are not reported until they end (R493). -/
def State.shaCoveReset (s : State) (c : Nat) : State :=
  s.modSha fun a => { a with sensors := a.sensors.map fun x =>
    { x with contacts := x.contacts.map fun k =>
        match k.route with
        | some (.cove d _ _) => if d = c then { k with muted := true } else k
        | _ => k } }

end Sys2Proof.Machine
end

