-- ==== Sys2Proof/Machine/Dip.lean ====
section
/-!
DEFINITION. Changes among RUN, DIP and DRAIN (Table 03-2), the DIP and its flash commands (03.5), and the entry to DRAIN (03.6).
-/
namespace Sys2Proof.Machine

/-! ### Phases -/

/-- A change of CHIP_PHASE.PHASE: SAFE_OK, the Turnover balls and the sideband follow (R47, R51), and event 0 is raised (R106). -/
def State.phaseGo (s : State) (p : Phase) : State :=
  let s1 := s.modChip fun c => { c with phase := p, ran := c.ran || p == .run }
  let s2 := s1.modPins fun q =>
    { q with safeOk := (p == .run || p == .dip) && !s.safe, turnFlash := p == .dip }
  let kind := if p = .drain || p = .test then kindCode s.chip.kind else 0
  s2.sideband.raise 0 (phaseCode p + 32 * kind)

/-- DRAIN is entered with a shutdown kind (R90 to R92): queued effects end and current ones brake, but for a power fail, which
discharges them; a DIP ends with its token, and scan frames that run are lost (R497). -/
def State.enterDrain (s : State) (k : Kind) : State :=
  let s0 := if s.chip.phase = .dip then s.dipReturn else s
  let s1 := s0.modChip fun c =>
    { c with kind := k, drainStep := 0, drainLogged := false, drainTs := s.tbs.now, flashOp := none, dipEnding := false, pendingShutdown := none }
  let s2 := (s1.wr F.CHIP_RESET_CAUSE_TEST_DONE 0).wr F.CHIP_FL_STAT_BUSY 0
  ((if k = .powerFail then s2 else s2.plaStopAll).touchDropAll 2).phaseGo .drain

/-! ### DIP (R88) -/

/-- ENTER_DIP accepted: the limit starts, the flash is reset and switched to 8D-8D-8D, its window is usable (steps 1 and 2). -/
def State.dipEnter (s : State) (ms : Nat) : State :=
  let s1 := s.modChip fun c => { c with dipEnd := s.elapsed + ms * 1000000, dipEnding := false }
  ((s1.dipTake ms).send .flashReset).phaseGo .dip

/-- ENTER_DIP (R70, R73, R544, R577): permitted while the device may take the DIP token and no chip safe state is declared. -/
def execEnterDip (ini : Initiator) (limit : BitVec 10) (s : State) : Ans :=
  s.busBy ini fun s =>
  .next (s.phaseCmd ini (s.chip.phase == .run) fun s =>
    if s.dipToken && !s.safe then s.dipEnter (clampN 1 1000 limit.toNat) else s.raise 13)

/-- Step 3 of Table 03-10: no further flash command starts, and the token returns. -/
def State.dipEnds (s : State) : State :=
  if s.chip.phase = .dip && !s.chip.dipEnding then
    (s.modChip fun c => { c with dipEnding := true }).dipReturn
  else s

/-- END_DIP (R70, R73). -/
def execEndDip (ini : Initiator) (s : State) : Ans := s.busBy ini fun s => .next (s.phaseCmd ini (s.chip.phase == .dip) State.dipEnds)

/-- DIP_LIMIT (R70): the limit is reached: event 14. -/
def execDipLimit (s : State) : Ans :=
  if s.chip.phase = .dip && !s.chip.dipEnding && decide (s.chip.dipEnd ≤ s.elapsed) then .next (s.dipEnds.raise 14) else .next s

/-- DIP_END_COMPLETE (R88): the transfer in progress is complete; RUN, sideband resumed. -/
def execDipEndComplete (s : State) : Ans :=
  if s.chip.phase = .dip && s.chip.dipEnding && s.chip.flashOp.isNone then
    .next ((s.modChip fun c => { c with dipEnding := false }).phaseGo .run)
  else .next s

/-! ### Flash commands (R89) -/

/-- The 256 bytes of CHIP_FL_BUF. -/
def State.flashBuf (s : State) : List Byte := (List.range 64).flatMap fun k => leBytes 4 (s.rd F.CHIP_FL_BUF_BUF k)

/-- Store bytes at the start of CHIP_FL_BUF. -/
def State.setFlashBuf (s : State) (l : List Byte) : State :=
  let b := l ++ s.flashBuf.drop l.length
  s.each (List.range 64) fun s k => s.wr F.CHIP_FL_BUF_BUF (leAt b (4 * k) 4) k

/-- The fields of CHIP_FL_CTRL below GO. -/
def State.flashFields (s : State) (v : Nat) : State :=
  let s1 := ((s.wr F.CHIP_FL_CTRL_LEN (bits v 24 16)).wr F.CHIP_FL_CTRL_DIR (bits v 14 14)).wr F.CHIP_FL_CTRL_DUMMY (bits v 13 9)
  (s1.wr F.CHIP_FL_CTRL_ADDR_EN (bits v 8 8)).wr F.CHIP_FL_CTRL_OPCODE (bits v 7 0)

/-- FLASH_COMMAND (R60, R89): a write of CHIP_FL_CTRL; bit 31, GO, issues the command. A command without an address is sent with 2^32
in its place. -/
def execFlashCommand (ini : Initiator) (v : Word) (s : State) : Ans :=
  s.busBy ini fun s =>
  if !s.isSec ini then .next (s.denied ini 0x40)
  else
    let s1 := s.flashFields v.toNat
    if s.chip.flashOp.isSome || !bit v.toNat 31 then .next s1
    else if s.chip.phase ≠ .dip || s.chip.dipEnding then .next ((s1.wr F.CHIP_FL_STAT_ERR_PHASE 1).raise 15)
    else
      let len := min 256 (s1.rd F.CHIP_FL_CTRL_LEN)
      let dir := s1.on F.CHIP_FL_CTRL_DIR
      let addr := if s1.on F.CHIP_FL_CTRL_ADDR_EN then s1.rd F.CHIP_FL_ADDR_ADDR else 0x100000000
      let out := if dir then s1.flashBuf.take len else []
      let s2 := s1.send (.flash (s1.rd F.CHIP_FL_CTRL_OPCODE) addr (s1.rd F.CHIP_FL_CTRL_DUMMY) out)
      .next ((s2.wr F.CHIP_FL_STAT_BUSY 1).modChip fun c => { c with flashOp := some (dir, len) })

/-- FLASH_TRANSFER_DONE (R89): `data` is what the flash returned. A shutdown that waited for the transfer begins. -/
def execFlashTransferDone (data : List Byte) (s : State) : Ans :=
  match s.chip.flashOp with
  | none => .next s
  | some (dir, len) =>
    let s1 := if dir then s else s.setFlashBuf (slice data 0 len)
    let s2 := ((s1.wr F.CHIP_FL_STAT_BUSY 0).wr F.CHIP_FL_STAT_DONE 1).modChip fun c => { c with flashOp := none }
    match s.chip.pendingShutdown with
    | some k => .next (s2.enterDrain k)
    | none => .next s2

/-! ### Shutdown commands (R90) -/

/-- A shutdown of kind OFF or RESTART begins; in DIP the flash transfer in progress completes first. -/
def State.shutdown (s : State) (k : Kind) : State :=
  if s.chip.flashOp.isSome then s.modChip fun c => { c with pendingShutdown := some k } else s.enterDrain k

/-- SHUTDOWN_OFF (R70, R73). -/
def execShutdownOff (ini : Initiator) (s : State) : Ans := s.busBy ini fun s => .next (s.phaseCmd ini s.runOrDip fun s => s.shutdown .off)

/-- SHUTDOWN_RESTART (R70, R73). -/
def execShutdownRestart (ini : Initiator) (s : State) : Ans := s.busBy ini fun s => .next (s.phaseCmd ini s.runOrDip fun s => s.shutdown .restart)

end Sys2Proof.Machine
end

