-- ==== Sys2Proof/Machine/Floats.lean ====
section
/-!
DEFINITION. IEEE 754 binary formats as exact rationals: binary16 and binary32 (Tables 09-3, 13-6 and 14-7).
-/
namespace Sys2Proof.Machine

/-- 2 to a signed power. -/
def pow2 (k : Int) : Rat := if 0 ≤ k then ((2 ^ k.toNat : Nat) : Rat) else 1 / ((2 ^ (-k).toNat : Nat) : Rat)

/-- The exponent bias of a format with `eb` exponent bits. -/
def fBias (eb : Nat) : Int := ((2 ^ (eb - 1) : Nat) : Int) - 1

/-- Exponent field, fraction and sign of an encoding. -/
def fExp (eb mb v : Nat) : Nat := v / 2 ^ mb % 2 ^ eb
def fFrac (mb v : Nat) : Nat := v % 2 ^ mb
def fNeg (eb mb v : Nat) : Bool := v.testBit (eb + mb)

/-- A NaN. -/
def fNan (eb mb v : Nat) : Bool := fExp eb mb v == 2 ^ eb - 1 && fFrac mb v != 0

/-- An infinity. -/
def fInf (eb mb v : Nat) : Bool := fExp eb mb v == 2 ^ eb - 1 && fFrac mb v == 0

/-- The value of a finite encoding. -/
def fDec (eb mb v : Nat) : Option Rat :=
  let e := fExp eb mb v
  if e = 2 ^ eb - 1 then none
  else
    let x : Rat :=
      if e = 0 then ((fFrac mb v : Nat) : Rat) * pow2 (1 - fBias eb - mb)
      else ((2 ^ mb + fFrac mb v : Nat) : Rat) * pow2 ((e : Int) - fBias eb - mb)
    some (if fNeg eb mb v then -x else x)

/-- Round a non-negative rational to the nearest integer, ties to even. -/
def roundNE (x : Rat) : Nat :=
  let f := x.floor.toNat
  let r := x - ((f : Nat) : Rat)
  if r < 1 / 2 then f else if 1 / 2 < r then f + 1 else f + f % 2

/-- Floor of the base-2 logarithm of a positive rational. -/
def ratLog2 (x : Rat) : Int :=
  let k : Int := (Nat.log2 x.num.natAbs : Int) - (Nat.log2 x.den : Int)
  if x < pow2 k then k - 1 else if pow2 (k + 1) ≤ x then k + 1 else k

/-- The encoding nearest to a rational, ties to even; beyond the largest number, infinity. -/
def fEnc (eb mb : Nat) (x : Rat) : Nat :=
  let a := if x < 0 then -x else x
  let sign := if x < 0 then 2 ^ (eb + mb) else 0
  if a = 0 then 0
  else
    let emin : Int := 1 - fBias eb
    let e := max (ratLog2 a) emin
    let n := roundNE (a * pow2 ((mb : Int) - e))
    sign + min ((2 ^ eb - 1) * 2 ^ mb) ((e - emin).toNat * 2 ^ mb + n)

/-- binary32. -/
def f32 (v : Nat) : Option Rat := fDec 8 23 v
def toF32 (x : Rat) : Nat := fEnc 8 23 x
def f32Nan (v : Nat) : Bool := fNan 8 23 v
def f32Inf (v : Nat) : Bool := fInf 8 23 v

end Sys2Proof.Machine
end

