-- ==== Sys2Proof/Machine/LochPass.lean ====
section
/-!
DEFINITION. What Loch checks before a job starts (R369 to R372, R394, R395): the pass descriptor, its command streams and
pipeline headers, and the dispatch descriptor.
-/
namespace Sys2Proof.Machine

/-! ### Formats (Table 13-6) -/

/-- Bytes per sample of a colour format; none for any other code. -/
def colourBytes : Nat → Option Nat
  | 0x01 => some 4 | 0x02 => some 4 | 0x03 => some 2 | 0x04 => some 4 | 0x05 => some 8
  | 0x20 => some 1 | 0x21 => some 2 | 0x22 => some 4 | 0x23 => some 16
  | _ => none

/-- Bytes per sample of a depth/stencil format. -/
def depthBytes : Nat → Option Nat
  | 0x30 => some 2 | 0x31 => some 4 | 0x32 => some 4 | 0x33 => some 8
  | _ => none

/-- Stillwater layout of a colour format. -/
def colourLayout : Nat → Option Nat
  | 0x01 => some 2 | 0x02 => some 2 | 0x04 => some 3
  | _ => none

/-! ### Pass descriptor (Table 13-3) -/

/-- A target entry. -/
structure Target where
  addr : Nat
  meta_ : Nat
  spill : Nat
  pitch : Nat
  metaPitch : Nat
  fmt : Nat
  load : Nat
  store : Nat
  pad : Bool
  deriving DecidableEq, Repr

/-- The target entry at offset `o` of a pass descriptor. -/
def targetAt (l : List Byte) (o : Nat) : Target :=
  { addr := leAt l o 8, meta_ := leAt l (o + 8) 8, spill := leAt l (o + 16) 8, pitch := leAt l (o + 24) 4,
    metaPitch := leAt l (o + 28) 4, fmt := leAt l (o + 32) 1, load := leAt l (o + 33) 1, store := leAt l (o + 34) 1,
    pad := (slice l (o + 35) 13).all (· == 0) }

/-- Header fields of a pass. -/
def passW (l : List Byte) : Nat := leAt l 0 2
def passH (l : List Byte) : Nat := leAt l 2 2
def passSamples (l : List Byte) : Nat := leAt l 4 1
def passTargets (l : List Byte) : Nat := leAt l 5 1
def passFlags (l : List Byte) : Nat := leAt l 6 2
def passCmd (l : List Byte) : Nat := leAt l 8 8
def passCmdBytes (l : List Byte) : Nat := leAt l 16 4
def passDsEn (l : List Byte) : Bool := bit (passFlags l) 0
def passHsrOff (l : List Byte) : Bool := bit (passFlags l) 1
def passOrdered (l : List Byte) : Bool := bit (passFlags l) 2

/-- The depth/stencil entry and colour entry `t`. -/
def passDs (l : List Byte) : Target := targetAt l 0x40
def passTarget (l : List Byte) (t : Nat) : Target := targetAt l (0x80 + 64 * t)

/-- The colour targets of a pass. -/
def passColours (l : List Byte) : List Target := (List.range (passTargets l)).map (passTarget l)

/-- Tiles of a pass. -/
def passTilesW (l : List Byte) : Nat := ceilDiv (passW l) 32
def passTiles (l : List Byte) : Nat := passTilesW l * ceilDiv (passH l) 32

/-- Fields common to every used entry. -/
def Target.ranges (t : Target) : Bool :=
  t.addr != 0 && t.addr % 4096 == 0 && t.spill % 4096 == 0 && decide (t.load ≤ 2) && decide (t.store ≤ 1) && t.pad

/-- REASON 1 does not apply: PASS (Table 13-4). -/
def passOk (work : Nat) (l : List Byte) : Bool :=
  let ds := passDs l
  work % 64 == 0 && decide (1 ≤ passW l) && decide (passW l ≤ 8192) && decide (1 ≤ passH l) && decide (passH l ≤ 8192)
    && (passSamples l == 1 || passSamples l == 2 || passSamples l == 4 || passSamples l == 8) && decide (passTargets l ≤ 8)
    && decide (passFlags l < 8) && passCmd l % 16 == 0 && passCmdBytes l % 4 == 0 && decide (4 ≤ passCmdBytes l)
    && decide (passCmdBytes l ≤ 16777216) && (slice l 0x14 44).all (· == 0)
    && ((passColours l).all fun t => t.ranges && (colourBytes t.fmt).isSome && (t.meta_ != 0 || t.metaPitch == 0))
    && (!passDsEn l || (ds.ranges && (depthBytes ds.fmt).isSome && ds.meta_ == 0 && ds.spill == 0 && ds.pitch == 0 && ds.metaPitch == 0))

/-- The geometry of a Stillwater-coded target (R382). -/
def Target.codedOk (t : Target) (w : Nat) : Bool :=
  (colourLayout t.fmt).isSome && t.pitch % 128 == 0 && decide (ceilDiv w 32 * 128 ≤ t.pitch) && t.meta_ % 64 == 0
    && t.metaPitch % 64 == 0 && decide (ceilDiv w 32 * 8 ≤ t.metaPitch)

/-- REASON 2 does not apply: TARGET. -/
def targetsOk (l : List Byte) : Bool :=
  (passColours l).all fun t =>
    t.pitch % 64 == 0 && decide (t.pitch ≤ 262144) && decide (passW l * (colourBytes t.fmt).getD 0 ≤ t.pitch)
      && (t.meta_ == 0 || t.codedOk (passW l)) && (passSamples l == 1 || t.spill != 0)

/-- R370: the pass fits tile memory. -/
def tileMemOk (l : List Byte) : Bool :=
  decide (passSamples l * (((passColours l).map fun t => (colourBytes t.fmt).getD 0).sum
    + (if passDsEn l then (depthBytes (passDs l).fmt).getD 0 else 0)) ≤ 128)

/-! ### Command streams (R371) -/

/-- LEN of a packet (Table 13-5). -/
def packetLen : Nat → Option Nat
  | 0 => some 1 | 1 => some 3 | 2 => some 3 | 3 => some 3 | 4 => some 5 | 5 => some 8 | 6 => some 5 | 7 => some 4
  | _ => none

/-- Split a stream into packets: OP and bytes; none where one is malformed. -/
def packets (called : Bool) : Nat → List Byte → Option (List (Nat × List Byte))
  | 0, l => if l.isEmpty then some [] else none
  | n + 1, l =>
    if l.isEmpty then some []
    else
      let op := leAt l 0 1
      let len := leAt l 1 2
      if packetLen op ≠ some len || leAt l 3 1 ≠ 0 || l.length < 4 * len || (called && op = 7) then none
      else (packets called n (l.drop (4 * len))).map fun r => (op, l.take (4 * len)) :: r

/-- REASON of a failed access: XLATE or DENIED; Table 13-4 has none for an isolated channel, which counts as DENIED. -/
def EngErr.reason : EngErr → Nat
  | .xlate => 8
  | .denied => 9
  | .isolated => 9

/-- What a check says of a job: it passes, it is refused with a REASON, or an access fails with one. -/
inductive Verdict where
  | ok | reject (r : Nat) | fault (r : Nat)
  deriving DecidableEq, Repr

/-- Expand the calls of a stream. -/
def expand (t : WorkTag) : List (Nat × List Byte) → State → State × Except Verdict (List (Nat × List Byte))
  | [], s => (s, .ok [])
  | p :: ps, s =>
    if p.1 = 7 then
      match s.engRead t (leAt p.2 4 8) (leAt p.2 12 4) with
      | (s1, .error e) => (s1, .error (.fault e.reason))
      | (s1, .ok l) =>
        match packets true (l.length / 4 + 1) l with
        | none => (s1, .error (.reject 6))
        | some q => match expand t ps s1 with
          | (s2, .ok r) => (s2, .ok (q ++ r))
          | r => r
    else match expand t ps s with
      | (s1, .ok r) => (s1, .ok (p :: r))
      | r => r

/-- A pipeline header is valid (R372). -/
def pipelineOk (l : List Byte) : Bool :=
  let c := leAt l 0 2
  decide (c < 512) && decide (leAt l 2 1 < 8) && leAt l 4 4 == 0 && leAt l 24 8 == 0 && (!bit c 7 || bit c 6)
    && (!bit c 4 || bit c 3)

/-- What a pipeline header gives. -/
def pipeOf (l : List Byte) : Pipe := { cls := leAt l 0 2, func := leAt l 2 1, mask := leAt l 3 1 }

/-- Read and check every pipeline block named: their headers in stream order. -/
def pipelines (t : WorkTag) : List (Nat × List Byte) → State → State × Except Verdict (List Pipe)
  | [], s => (s, .ok [])
  | p :: ps, s =>
    if p.1 = 1 then
      match s.engRead t (leAt p.2 4 8) 64 with
      | (s1, .error e) => (s1, .error (.fault e.reason))
      | (s1, .ok l) =>
        if !pipelineOk l then (s1, .error (.reject 7))
        else match pipelines t ps s1 with
          | (s2, .ok r) => (s2, .ok (pipeOf l :: r))
          | r => r
    else pipelines t ps s

/-- The first draw comes before any PIPELINE packet: a stream fault (R371). -/
def drawFirst (l : List (Nat × List Byte)) : Bool :=
  match l.find? fun p => p.1 == 1 || (decide (4 ≤ p.1) && decide (p.1 ≤ 6)) with
  | some p => p.1 != 1
  | none => false

/-- What the checks of a pass that may start give: its descriptor's bytes, whether a draw comes before any pipeline, and the
headers of its pipelines. -/
structure PassIn where
  desc : List Byte
  drawFirst : Bool
  pipes : List Pipe
  deriving DecidableEq, Repr

/-- Check the streams of a pass: packets, then pipeline headers. -/
def State.checkStreams (s : State) (t : WorkTag) (l : List Byte) : State × Except Verdict PassIn :=
  match s.engRead t (passCmd l) (passCmdBytes l) with
  | (s1, .error e) => (s1, .error (.fault e.reason))
  | (s1, .ok b) =>
    match packets false (b.length / 4 + 1) b with
    | none => (s1, .error (.reject 6))
    | some ps =>
      match expand t ps s1 with
      | (s2, .error v) => (s2, .error v)
      | (s2, .ok q) => match pipelines t q s2 with
        | (s3, .error v) => (s3, .error v)
        | (s3, .ok p) => (s3, .ok { desc := l, drawFirst := drawFirst q, pipes := p })

/-- The checks of a RENDER job in the order of Table 13-4. -/
def State.checkRender (s : State) (j : LJob) : State × Except Verdict PassIn :=
  let t := s.coveTag j.cove
  match s.engRead t j.work 640 with
  | (s1, .error e) => (s1, .error (.fault e.reason))
  | (s1, .ok l) =>
    if !passOk j.work l then (s1, .error (.reject 1))
    else if !targetsOk l then (s1, .error (.reject 2))
    else if !tileMemOk l then (s1, .error (.reject 3))
    else if s1.rd F.LOCH_CTX_POOL_STAT_CHUNKS j.cove j.q < 32 then (s1, .error (.reject 4))
    else if s1.rd F.LOCH_CTX_SAVE_SAVE j.cove j.q = 0 then (s1, .error (.reject 5))
    else s1.checkStreams t l

/-! ### Dispatch descriptor (Table 14-1) -/

def dispGroup (l : List Byte) : Nat := leAt l 0x1C 2 * leAt l 0x1E 2 * leAt l 0x20 2
def dispIndirect (l : List Byte) : Bool := bit (leAt l 0x23 1) 0
def dispBatch (l : List Byte) : Nat := if leAt l 0x24 2 = 0 then 16 else leAt l 0x24 2

/-- Every field lies in its range and every reserved byte is 0. -/
def dispOk (work : Nat) (l : List Byte) : Bool :=
  let ax := fun k => leAt l (0x10 + 4 * k) 4
  let grid := if dispIndirect l then ax 0 == 0 && ax 1 == 0 && ax 2 == 0
    else (List.range 3).all fun k => decide (1 ≤ ax k) && decide (ax k ≤ 65535)
  work % 64 == 0 && grid && decide (1 ≤ dispGroup l) && decide (dispGroup l ≤ 1024) && decide (leAt l 0x22 1 ≤ 64)
    && decide (leAt l 0x23 1 < 2) && decide (leAt l 0x24 2 ≤ 256) && leAt l 0x26 2 == 0
    && (if dispIndirect l then leAt l 0x28 8 % 4 == 0 else leAt l 0x28 8 == 0) && (slice l 0x30 16).all (· == 0)

/-- The checks of a DISPATCH job (R395): its descriptor's bytes, the verdict and its workgroups. -/
def State.checkDispatch (s : State) (j : LJob) : State × List Byte × Verdict × Nat :=
  let t := s.coveTag j.cove
  match s.engRead t j.work 64 with
  | (s1, .error e) => (s1, [], .fault e.reason, 0)
  | (s1, .ok l) =>
    if !dispOk j.work l then (s1, l, .reject 1, 0)
    else if leAt l 0 8 = 0 || leAt l 0 8 % 64 ≠ 0 then (s1, l, .reject 7, 0)
    else if s1.rd F.LOCH_CTX_SAVE_SAVE j.cove j.q = 0 then (s1, l, .reject 5, 0)
    else if dispIndirect l then
      match s1.engRead t (leAt l 0x28 8) 12 with
      | (s2, .error e) => (s2, l, .fault e.reason, 0)
      | (s2, .ok g) =>
        if leAt g 0 4 = 0 || leAt g 4 4 = 0 || leAt g 8 4 = 0 then (s2, l, .ok, 0)
        else if 65535 < leAt g 0 4 || 65535 < leAt g 4 4 || 65535 < leAt g 8 4 then (s2, l, .reject 1, 0)
        else (s2, l, .ok, leAt g 0 4 * leAt g 4 4 * leAt g 8 4)
    else (s1, l, .ok, leAt l 0x10 4 * leAt l 0x14 4 * leAt l 0x18 4)

/-! ### Start -/

/-- The work of a job is settled before it starts: it ends. -/
def State.verdictEnd (s : State) (j : LJob) (v : Verdict) : State :=
  match v with
  | .ok => s
  | .reject r => s.jobEnd j 1 r
  | .fault r => s.jobEnd j 2 r

/-- LOCH_JOB_START (R365, R369, R395): every wait is satisfied. -/
def execLochJobStart (c : Fin 32) (q : Fin 64) (s : State) : Ans :=
  match s.job c.val q.val with
  | none => .next s
  | some j =>
    if j.started || !s.admits c.val || j.waits.any (fun w => !w.ok) then .next s
    else if j.op = 1 then
      match s.checkRender j with
      | (s1, .ok p) => .next (s1.modJob c.val q.val fun j =>
          { j with started := true, desc := p.desc, pipes := p.pipes, binned := p.drawFirst,
                   fault := if p.drawFirst then 6 else 0, total := passTiles p.desc })
      | (s1, .error v) => .next (s1.verdictEnd j v)
    else if j.op = 2 then
      match s.checkDispatch j with
      | (s1, l, .ok, n) => .next (s1.modJob c.val q.val fun j =>
          { j with started := true, desc := l, total := ceilDiv n (dispBatch l) })
      | (s1, _, v, _) => .next (s1.verdictEnd j v)
    else .next (s.modJob c.val q.val fun j => { j with started := true })

/-- A started job has nothing left to do. -/
def LJob.finished (j : LJob) : Bool :=
  j.started && j.disps.isEmpty && (j.op == 0 || j.op == 3 || (j.op == 2 && decide (j.total ≤ j.next))
    || (j.op == 1 && j.binned && decide (j.total ≤ j.next)))

/-- LOCH_JOB_END (R363). -/
def execLochJobEnd (c : Fin 32) (q : Fin 64) (s : State) : Ans :=
  match s.job c.val q.val with
  | none => .next s
  | some j =>
    if !j.finished then .next s
    else
      let s1 := s.jobEnd j (if j.fault = 0 then 0 else 2) j.fault
      .next (settleFences s1.loch.jobs.length s1)

/-- FENCE_POLL (R367). -/
def execFencePoll (s : State) : Ans := .next (s.fencesAgain fun j => !j.started)

/-- FENCE_KICK (R367): the waiting fences of the page's cove. -/
def execFenceKick (ini : Initiator) (c : Fin 32) (s : State) : Ans :=
  s.by ini fun s =>
  if !s.pageOk ini c.val then .next (s.pageDenied ini c.val (0x801F000 + 0x200000 * c.val) true)
  else .next (s.fencesAgain fun j => !j.started && j.cove == c.val)

/-- What happens in a nanosecond in which no command waits: time passes, and Loch polls the waiting fences once per POLL_US (R367);
0 is taken as 1. -/
def State.idle (s : State) : State :=
  let s1 := s.tick
  if s1.elapsed % (1000 * max 1 (s1.rd F.LOCH_CFG_POLL_US)) = 0 then s1.fencesAgain fun j => !j.started else s1

/-- WAIT_TIMEOUT (R366): wait entry `k` is unsatisfied at its deadline. -/
def execWaitTimeout (c : Fin 32) (q : Fin 64) (k : Fin 8) (s : State) : Ans :=
  match s.job c.val q.val with
  | none => .next s
  | some j =>
    match j.waits[k.val]? with
    | none => .next s
    | some w =>
      if j.started || w.ok || decide (s.tbs.now < w.deadline) then .next s
      else
        let s1 := s.waitEnd j k.val 0
        .next (settleFences s1.loch.jobs.length s1)

end Sys2Proof.Machine
end

