-- ==== Sys2Proof/Machine/LochTiles.lean ====
section
/-!
DEFINITION. What rendering a tile does to the values in tile memory (R372 to R376): the depth test, fragments that read their
own samples, runs of deferrable primitives, and ordered mode. What shader code computes is Config.shade.
-/
namespace Sys2Proof.Machine

/-- One sample in tile memory: its value in each colour target, its depth and its stencil. -/
structure Smp where
  colour : List Nat
  depth : Nat
  stencil : Nat
  deriving DecidableEq, Repr

/-- What a pass fixes for its tiles: bytes per sample of each colour target, SAMPLES, DS_EN and HSR_OFF. -/
structure TileCtx where
  es : List Nat
  samples : Nat
  ds : Bool
  hsrOff : Bool
  deriving DecidableEq, Repr

/-- Bit `b` of CLASS (R372): 0 DISCARD, 1 BLEND, 2 SIDE_EFFECTS, 3 PIXEL_ACCESS, 4 INTERLOCK, 5 DEPTH_FROM_SHADER, 6 DEPTH_TEST,
7 DEPTH_WRITE, 8 STENCIL_WRITE. -/
def Pipe.has (p : Pipe) (b : Nat) : Bool := bit p.cls b

/-- A primitive drawn with this pipeline is deferrable (R374). -/
def Pipe.deferrable (p : Pipe) (hsrOff : Bool) : Bool :=
  p.has 6 && p.has 7 && (p.func == 1 || p.func == 3 || p.func == 4 || p.func == 6)
    && !([0, 1, 2, 3, 4, 5, 8].any p.has) && !hsrOff

/-- DEPTH_FUNC: a depth passes against the one stored. -/
def depthPass (func new old : Nat) : Bool :=
  match func with
  | 0 => false
  | 1 => decide (new < old)
  | 2 => new == old
  | 3 => decide (new ≤ old)
  | 4 => decide (old < new)
  | 5 => new != old
  | 6 => decide (old ≤ new)
  | _ => true

/-- A sample that a fragment covers: its index in the tile, its number in the pixel, and the fragment's depth there. -/
structure Cover where
  n : Nat
  k : Nat
  depth : Nat
  deriving DecidableEq, Repr

/-- The samples that a fragment covers; none of another pixel (R375). -/
def fragCovers (f : Frag) (samples : Nat) : List Cover :=
  ((f.cover.take samples).zipIdx).filterMap fun c => c.1.map fun d => { n := f.pixel.val * samples + c.2, k := c.2, depth := d }

/-- Sample `n` of a tile. -/
def smpAt (t : List Smp) (n : Nat) : Smp := t.getD n { colour := [], depth := 0, stencil := 0 }

/-- What the code of a fragment sees of its own samples: with BLEND or PIXEL_ACCESS, the values that every earlier primitive left
there (R375). -/
def fragSeen (f : Frag) (c : TileCtx) (p : Pipe) (t : List Smp) : List Nat :=
  if p.has 1 || p.has 3 then
    (fragCovers f c.samples).flatMap fun x => (smpAt t x.n).colour ++ [(smpAt t x.n).depth, (smpAt t x.n).stencil]
  else []

/-- The covered samples that pass the depth test, with the depth that they have there: the code's with DEPTH_FROM_SHADER. -/
def fragPassing (f : Frag) (c : TileCtx) (p : Pipe) (t : List Smp) : List Cover :=
  ((fragCovers f c.samples).map fun x =>
    if p.has 5 then { x with depth := Config.shade f.code (fragSeen f c p t) (16 * x.k + 1) % 2 ^ 32 } else x).filter fun x =>
      !p.has 6 || !c.ds || depthPass p.func x.depth (smpAt t x.n).depth

/-- What a fragment writes to one of its samples. -/
def fragWrite (f : Frag) (c : TileCtx) (p : Pipe) (seen : List Nat) (x : Cover) (m : Smp) : Smp :=
  { colour := m.colour.mapIdx fun t v =>
      if bit p.mask t then Config.shade f.code seen (16 * x.k + 3 + t) % 2 ^ (8 * c.es.getD t 0) else v
    depth := if !c.ds then m.depth else if p.has 3 then Config.shade f.code seen (16 * x.k + 1) % 2 ^ 32
      else if p.has 7 then x.depth else m.depth
    stencil := if p.has 3 || p.has 8 then Config.shade f.code seen (16 * x.k + 2) % 256 else m.stencil }

/-- The tile after a fragment has written the samples of `l`. -/
def fragWriteAll (f : Frag) (c : TileCtx) (p : Pipe) (seen : List Nat) (l : List Cover) (t : List Smp) : List Smp :=
  l.foldl (fun t x => t.modify x.n (fragWrite f c p seen x)) t

/-- A fragment with DISCARD gives up its samples. -/
def fragDiscards (f : Frag) (p : Pipe) (seen : List Nat) : Bool := p.has 0 && Config.shade f.code seen 0 % 2 == 1

/-- A tile, and the fragments whose code has run, in order. -/
abbrev Tile := List Smp × List Frag

/-- A fragment processed in stream order: interlocked sections run one at a time in that order too (R373, R375). -/
def fragInOrder (f : Frag) (c : TileCtx) (p : Pipe) (t : Tile) : Tile :=
  let seen := fragSeen f c p t.1
  let l := fragPassing f c p t.1
  (if fragDiscards f p seen then t.1 else fragWriteAll f c p seen l t.1,
   if !l.isEmpty || p.has 5 || Config.lateTest p.cls then t.2 ++ [f] else t.2)

/-- A primitive processed in order. -/
def primInOrder (c : TileCtx) (t : Tile) (x : Pipe × List Frag) : Tile := x.2.foldl (fun t f => fragInOrder f c x.1 t) t

/-- A fragment of a run whose depth has been resolved: the samples at which it passed. -/
structure RunFrag where
  pipe : Pipe
  frag : Frag
  passed : List Cover
  deriving DecidableEq, Repr

/-- Resolve the depth of one fragment of a run (R374). -/
def resolveFrag (c : TileCtx) (p : Pipe) (a : List Smp × List RunFrag) (f : Frag) : List Smp × List RunFrag :=
  let l := fragPassing f c p a.1
  (l.foldl (fun t x => t.modify x.n fun m => { m with depth := if c.ds then x.depth else m.depth }) a.1,
   a.2 ++ [{ pipe := p, frag := f, passed := l }])

/-- Resolve the depth of a run first: the fragments in stream order with the samples at which they passed. -/
def resolveRun (c : TileCtx) (run : List (Pipe × List Frag)) (t : List Smp) : List RunFrag :=
  (run.foldl (fun a x => x.2.foldl (resolveFrag c x.1) a) (t, [])).2

/-- A fragment passed at sample `n`. -/
def RunFrag.at_ (r : RunFrag) (n : Nat) : Bool := r.passed.any fun x => x.n == n

/-- A fragment remains visible at the end of its run: at some sample no later one passed, or one of its targets is written by no
later one that passed. -/
def RunFrag.visible (r : RunFrag) (c : TileCtx) (later : List RunFrag) : Bool :=
  r.passed.any fun x => !(later.any fun y => y.at_ x.n)
    || (List.range c.es.length).any fun t => bit r.pipe.mask t && !(later.any fun y => y.at_ x.n && bit y.pipe.mask t)

/-- Shade the visible fragments of a run (R374). -/
def shadeRun (c : TileCtx) : List RunFrag → Tile → Tile
  | [], t => t
  | r :: later, t =>
    shadeRun c later (if r.visible c later then (fragWriteAll r.frag c r.pipe [] r.passed t.1, t.2 ++ [r.frag]) else t)

/-- A run ends. -/
def endRun (c : TileCtx) (run : List (Pipe × List Frag)) (t : Tile) : Tile := shadeRun c (resolveRun c run t.1) t

/-- Primitives with deferral: a primitive that is not deferrable ends the run (R374). -/
def deferred (c : TileCtx) : List (Pipe × List Frag) → List (Pipe × List Frag) → Tile → Tile
  | run, [], t => endRun c run t
  | run, x :: xs, t =>
    if x.1.deferrable c.hsrOff then deferred c (run ++ [x]) xs t else deferred c [] xs (primInOrder c (endRun c run t) x)

/-- Primitives in ordered mode (R376): no deferral. -/
def ordered (c : TileCtx) (l : List (Pipe × List Frag)) (t : Tile) : Tile := l.foldl (primInOrder c) t

/-- The primitives of a bin with their pipelines. -/
def binPiped (b : TileBin) (pipes : List Pipe) : List (Pipe × List Frag) :=
  b.prims.filterMap fun x => pipes[x.pipe]?.map fun p => (p, x.frags)

/-- Render a tile (R373 to R376); `all`: every tile of the pass is in ordered mode. -/
def renderBin (b : TileBin) (c : TileCtx) (pipes : List Pipe) (all : Bool) (t : List Smp) : Tile :=
  let l := binPiped b pipes
  let n := if all then 0 else b.orderedAt.getD l.length
  ordered c (l.drop n) (deferred c [] (l.take n) (t, []))

end Sys2Proof.Machine
end

