-- ==== Sys2Proof/Machine/LochWork.lean ====
section
/-!
DEFINITION. What Loch's dispatches do (R360, R373 to R384, R386, R409): accesses of shaders and units and their faults,
stores of tiles, the tile-list pool, partial renders, and the row DISPATCH_COMPLETE.
-/
namespace Sys2Proof.Machine

/-! ### Accesses of a job -/

/-- The first fault of a job is kept (R369). -/
def State.jobFault (s : State) (c q reason : Nat) : State :=
  s.modJob c q fun j => if j.fault = 0 then { j with fault := reason } else j

/-- A failed access: the REASON, and the first CPA in LOCH_CTXq_FAULT (Table 13-8). -/
def State.ctxFault (s : State) (c q cpa : Nat) (e : EngErr) : State :=
  let s1 := s.jobFault c q e.reason
  if s1.on F.LOCH_CTX_FAULT_VALID c q then s1
  else (s1.wr F.LOCH_CTX_FAULT_CPA cpa c q).wr F.LOCH_CTX_FAULT_VALID 1 c q

/-- A store of context (c, q); one that fails is discarded. -/
def State.ctxWrite (s : State) (c q cpa : Nat) (l : List Byte) : State :=
  match s.engWrite (s.coveTag c) cpa l with
  | (s1, none) => s1
  | (s1, some e) => s1.ctxFault c q cpa e

/-- A load of context (c, q); one that fails returns zeros. -/
def State.ctxRead (s : State) (c q cpa n : Nat) : State × List Byte × Bool :=
  match s.engRead (s.coveTag c) cpa n with
  | (s1, .ok l) => (s1, l, true)
  | (s1, .error e) => (s1.ctxFault c q cpa e, List.replicate n 0, false)

/-- Memory of a private layout takes content of Loch's own: free bytes (R381, R385). -/
def State.ctxPrivate (s : State) (c q cpa n : Nat) : State :=
  match s.freeBytes n with
  | (l, s1) => s1.ctxWrite c q cpa l

/-- Free values of `e` bytes each. -/
def State.freeVals (s : State) (n e : Nat) : State × List Nat :=
  match s.freeBytes (n * e) with
  | (l, s1) => (s1, (List.range n).map fun i => leAt l (e * i) e)

/-! ### Private areas (R381) -/

/-- Where the content of tile `k` of a depth/stencil or SPILL area lies: the area, and bytes per sample. -/
def areaOf (c q : Nat) (l : List Byte) (base fmt k : Nat) : LArea :=
  { cove := c, q := q, addr := base, w := passW l, h := passH l, samples := passSamples l, fmt := fmt, tile := k, vals := [], bytes := [] }

/-- Bytes per sample of any target's format. -/
def fmtBytes (fmt : Nat) : Nat := ((colourBytes fmt).orElse fun _ => depthBytes fmt).getD 0

/-- Bytes of a tile in its area, and where they begin. -/
def LArea.size (a : LArea) : Nat := 1024 * a.samples * fmtBytes a.fmt
def LArea.start (a : LArea) : Nat := a.addr + a.tile * a.size

/-- The same tile of the same area. -/
def LArea.sameTile (a b : LArea) : Bool := a.cove == b.cove && a.q == b.q && a.addr == b.addr && a.tile == b.tile

/-- The same context, pass geometry, format and tile: the content is defined (R381). -/
def LArea.sameUse (a b : LArea) : Bool :=
  a.sameTile b && a.w == b.w && a.h == b.h && a.samples == b.samples && a.fmt == b.fmt

/-- Store the values of a tile in its area, in the private layout. -/
def State.areaStore (s : State) (a : LArea) (vals : List Nat) : State :=
  match s.freeBytes a.size with
  | (l, s1) =>
    let s2 := s1.modLoch fun x => { x with areas := { a with vals := vals, bytes := l } :: x.areas.filter fun b => !b.sameTile a }
    s2.ctxWrite a.cove a.q a.start l

/-- The values of a tile from its area, `e` bytes each where they are not defined: another use of the area, or other bytes there. -/
def State.areaLoad (s : State) (a : LArea) (n e : Nat) : State × List Nat :=
  match s.ctxRead a.cove a.q a.start a.size with
  | (s1, l, _) => match s1.loch.areas.find? fun b => b.sameUse a with
    | some b => if b.bytes = l then (s1, b.vals) else s1.freeVals n e
    | none => s1.freeVals n e

/-! ### Stores of a tile -/

/-- Channels of a colour format: place, width, and whether they are floats. -/
def colourChans : Nat → List (Nat × Nat × Bool)
  | 0x01 => [(0, 8, false), (8, 8, false), (16, 8, false), (24, 8, false)]
  | 0x02 => [(0, 8, false), (8, 8, false), (16, 8, false), (24, 8, false)]
  | 0x03 => [(0, 5, false), (5, 6, false), (11, 5, false)]
  | 0x04 => [(0, 10, false), (10, 10, false), (20, 10, false), (30, 2, false)]
  | 0x05 => [(0, 16, true), (16, 16, true), (32, 16, true), (48, 16, true)]
  | 0x20 => [(0, 8, false)]
  | 0x21 => [(0, 8, false), (8, 8, false)]
  | 0x22 => [(0, 16, true), (16, 16, true)]
  | 0x23 => [(0, 32, true), (32, 32, true), (64, 32, true), (96, 32, true)]
  | _ => []

/-- The average of unsigned channel values, rounded to nearest (R380). -/
def avgInt (l : List Nat) : Nat := (2 * l.sum + l.length) / (2 * max l.length 1)

/-- The average of float channel values; `free` where one is no number. -/
def avgFloat (w : Nat) (l : List Nat) (free : Nat) : Nat :=
  let eb := if w = 16 then 5 else 8
  let mb := if w = 16 then 10 else 23
  match l.mapM (fDec eb mb) with
  | some xs => fEnc eb mb (xs.sum / ((max xs.length 1 : Nat) : Rat))
  | none => free % 2 ^ w

/-- One resolved pixel: the average of its samples, per channel. -/
def resolvePx (fmt : Nat) (vals : List Nat) (free : Nat) : Nat :=
  match vals with
  | [v] => v
  | _ => ((colourChans fmt).map fun ch =>
      let l := vals.map fun v => v / 2 ^ ch.1 % 2 ^ ch.2.1
      (if ch.2.2 then avgFloat ch.2.1 l (free / 2 ^ ch.1) else avgInt l) * 2 ^ ch.1).sum

/-- The samples of pixel `n`. -/
def samplesOf (s n : Nat) (vals : List Nat) : List Nat := (List.range s).map fun k => vals.getD (n * s + k) 0

/-- Pixel (x, y) of tile `k` of a pass. -/
def passXY (l : List Byte) (k n : Nat) : Nat × Nat :=
  (k % passTilesW l * 32 + n % 32, k / passTilesW l * 32 + n / 32)

/-- The pixel lies inside WIDTH x HEIGHT. -/
def inPass (l : List Byte) (p : Nat × Nat) : Bool := decide (p.1 < passW l) && decide (p.2 < passH l)

/-- Words 0 and 1 of a metadata entry (R383). -/
def metaEntry (kind len solid : Nat) : List Byte := leBytes 4 (kind * 2 ^ 30 + len) ++ leBytes 4 solid

/-- Bytes of the lines of a region, 128 to a line. -/
def regionLines : Nat → List Byte → List (List Byte)
  | 0, _ => []
  | n + 1, l => if l.isEmpty then [] else l.take 128 :: regionLines n (l.drop 128)

/-- Store block (bx, by) of a Stillwater-coded target (R384): region first, then metadata. -/
def State.storeBlock (s : State) (c q : Nat) (t : Target) (bx by_ : Nat) (px : List Nat) : State :=
  let code := swEncode ((colourLayout t.fmt).getD 2) px
  let solid := px.all (· == px.headD 0)
  let coded := decide (code.length < 4096)
  let body := if solid then [] else if coded then code else px.flatMap (leBytes 4)
  let s1 := s.each ((regionLines 32 body).zipIdx) fun s (r : List Byte × Nat) =>
    s.ctxWrite c q (t.addr + (32 * by_ + r.2) * t.pitch + 128 * bx) r.1
  let e := if solid then metaEntry 2 0 (px.headD 0) else if coded then metaEntry 0 code.length 0 else metaEntry 1 0 0
  s1.ctxWrite c q (t.meta_ + by_ * t.metaPitch + 8 * bx) e

/-- Store tile `k` of an uncoded target, line by line inside the render area. -/
def State.storeLines (s : State) (c q : Nat) (l : List Byte) (t : Target) (k : Nat) (px : List Nat) : State :=
  let e := (colourBytes t.fmt).getD 0
  let x0 := k % passTilesW l * 32
  let y0 := k / passTilesW l * 32
  let n := min 32 (passW l - x0)
  s.each (List.range (min 32 (passH l - y0))) fun s r =>
    s.ctxWrite c q (t.addr + (y0 + r) * t.pitch + x0 * e) (((px.drop (32 * r)).take n).flatMap (leBytes e))

/-- Store tile `k` of a colour target from its samples (R380, R384). -/
def State.storeTarget (s : State) (c q : Nat) (l : List Byte) (t : Target) (k : Nat) (vals : List Nat) : State :=
  let e := (colourBytes t.fmt).getD 0
  let n := passSamples l
  match s.draw with
  | (f, s1) =>
    let px := (List.range 1024).map fun i => resolvePx t.fmt (samplesOf n i vals) (f * 2 ^ (7 * i) / 2 ^ i) % 2 ^ (8 * e)
    if t.meta_ = 0 then s1.storeLines c q l t k px
    else s1.storeBlock c q t (k % passTilesW l) (k / passTilesW l)
      (px.zipIdx.map fun v => if inPass l (passXY l k v.2) then v.1 else 0)

/-- Values of the samples of a tile in colour target `i`. -/
def colourVals (t : List Smp) (i : Nat) : List Nat := t.map fun m => m.colour.getD i 0

/-- The depth/stencil content of tile `k` goes to its area. -/
def State.storeDepth (s : State) (c q : Nat) (l : List Byte) (k : Nat) (t : List Smp) : State :=
  if passDsEn l then
    s.areaStore (areaOf c q l (passDs l).addr (passDs l).fmt k) (t.map fun m => m.depth + 2 ^ 32 * m.stencil)
  else s

/-- The STORE operations of tile `k` at the end of a pass. -/
def State.storeTiles (s : State) (c q : Nat) (l : List Byte) (k : Nat) (px : List Smp) : State :=
  let s1 := s.each (List.range (passTargets l)) fun s i =>
    if (passTarget l i).store = 1 then s.storeTarget c q l (passTarget l i) k (colourVals px i) else s
  if (passDs l).store = 1 then s1.storeDepth c q l k px else s1

/-- Spill tile `k` in a partial render (Table 13-7, step 3). -/
def State.spillTile (s : State) (c q : Nat) (l : List Byte) (k : Nat) (px : List Smp) : State :=
  let s1 := s.each (List.range (passTargets l)) fun s i =>
    let t := passTarget l i
    if passSamples l = 1 then s.storeTarget c q l t k (colourVals px i)
    else s.areaStore (areaOf c q l t.spill t.fmt k) (colourVals px i)
  s1.storeDepth c q l k px

/-- The targets of a pass become undefined (Table 13-8). -/
def State.targetsFree (s : State) (c q : Nat) (l : List Byte) : State :=
  s.each (passColours l) fun s t =>
    let e := (colourBytes t.fmt).getD 0
    let s1 := s.each (List.range (passH l)) fun s y => s.ctxPrivate c q (t.addr + y * t.pitch) (passW l * e)
    if t.meta_ = 0 then s1
    else s1.each (List.range (ceilDiv (passH l) 32)) fun s y => s.ctxPrivate c q (t.meta_ + y * t.metaPitch) (passTilesW l * 8)

/-! ### The start of a tile (R379, R380) -/

/-- Channels of a colour format in the order of `colourChans`, as they stand in CLEAR: 0 R, 1 G, 2 B, 3 A. -/
def clearOrder : Nat → List Nat
  | 0x01 => [2, 1, 0, 3] | 0x02 => [2, 1, 0, 3] | 0x03 => [2, 1, 0] | 0x04 => [2, 1, 0, 3] | 0x05 => [3, 2, 1, 0]
  | 0x20 => [3] | 0x21 => [1, 0] | 0x22 => [1, 0] | 0x23 => [3, 2, 1, 0]
  | _ => []

/-- A channel of a clear value: binary32 for float formats, unsigned for the others. `free` where the channel's type has no such
value. -/
def clearChan (w : Nat) (float : Bool) (v free : Nat) : Nat :=
  if !float then (if v < 2 ^ w then v else free % 2 ^ w)
  else if w = 32 then v
  else if f32Inf v then v / 2 ^ 31 * 2 ^ 15 + 0x7C00
  else match f32 v with
    | some x => fEnc 5 10 x
    | none => free % 2 ^ 16

/-- The pixel that CLEAR spells (Table 13-3): four 32-bit values R, G, B, A. -/
def clearPx (fmt : Nat) (v : List Byte) (free : Nat) : Nat :=
  (((colourChans fmt).zip (clearOrder fmt)).map fun x =>
    clearChan x.1.2.1 x.1.2.2 (leAt v (4 * x.2) 4) (free / 2 ^ x.1.1) * 2 ^ x.1.1).sum

/-- CLEAR of entry `o` of a pass descriptor. -/
def clearAt (l : List Byte) (o : Nat) : List Byte := slice l (o + 0x30) 16

/-- The pixels of tile `k` of an uncoded target in memory; those outside WIDTH x HEIGHT count as 0. -/
def State.loadLines (s : State) (c q : Nat) (l : List Byte) (t : Target) (k : Nat) : State × List Nat :=
  let e := (colourBytes t.fmt).getD 0
  let x0 := k % passTilesW l * 32
  let y0 := k / passTilesW l * 32
  let n := min 32 (passW l - x0)
  (List.range 32).foldl (fun (a : State × List Nat) r =>
    if passH l ≤ y0 + r then (a.1, a.2 ++ List.replicate 32 0)
    else match a.1.ctxRead c q (t.addr + (y0 + r) * t.pitch + x0 * e) (n * e) with
      | (s1, b, _) => (s1, a.2 ++ (List.range 32).map fun i => if i < n then leAt b (e * i) e else 0)) (s, [])

/-- `n` lines of a block's region, 128 bytes each. -/
def State.loadRegion (s : State) (c q : Nat) (t : Target) (bx by_ n : Nat) : State × List Byte :=
  (List.range n).foldl (fun (a : State × List Byte) r =>
    match a.1.ctxRead c q (t.addr + (32 * by_ + r) * t.pitch + 128 * bx) 128 with
    | (s1, b, _) => (s1, a.2 ++ b)) (s, [])

/-- The pixels of block (bx, by) of a coded target in memory (R383); free where the block does not decode. -/
def State.loadBlock (s : State) (c q : Nat) (t : Target) (bx by_ : Nat) : State × List Nat :=
  match s.ctxRead c q (t.meta_ + by_ * t.metaPitch + 8 * bx) 8 with
  | (s1, m, _) =>
    let w := leAt m 0 4
    let kind := bits w 31 30
    let len := bits w 12 0
    if bits w 29 13 ≠ 0 || kind = 3 || (kind = 0 && (len = 0 || 4095 < len)) then s1.freeVals 1024 4
    else if kind = 2 then (s1, List.replicate 1024 (leAt m 4 4))
    else
      match s1.loadRegion c q t bx by_ (if kind = 1 then 32 else ceilDiv len 128) with
      | (s2, b) =>
        if kind = 1 then (s2, (List.range 1024).map fun i => leAt b (4 * i) 4)
        else match swDecode ((colourLayout t.fmt).getD 2) (b.take len) with
          | some px => (s2, px)
          | none => s2.freeVals 1024 4

/-- The samples of tile `k` of a target from its surface: each pixel into every sample. -/
def State.loadSurface (s : State) (c q : Nat) (l : List Byte) (t : Target) (k : Nat) : State × List Nat :=
  match (if t.meta_ = 0 then s.loadLines c q l t k else s.loadBlock c q t (k % passTilesW l) (k / passTilesW l)) with
  | (s1, px) => (s1, px.flatMap fun v => List.replicate (passSamples l) v)

/-- Colour target `i` of tile `k` at the start: spilled content, or the LOAD operation. -/
def State.startColour (s : State) (c q : Nat) (l : List Byte) (i k : Nat) (spilled : Bool) : State × List Nat :=
  let t := passTarget l i
  let n := 1024 * passSamples l
  let e := (colourBytes t.fmt).getD 0
  if spilled then
    if passSamples l = 1 then s.loadSurface c q l t k else s.areaLoad (areaOf c q l t.spill t.fmt k) n e
  else if t.load = 1 then s.loadSurface c q l t k
  else if t.load = 2 then
    match s.draw with | (f, s1) => (s1, List.replicate n (clearPx t.fmt (clearAt l (0x80 + 64 * i)) f))
  else s.freeVals n e

/-- Depth + 2^32 stencil of a clear: D32F holds CLEAR's binary32; the fixed-point formats its code. -/
def clearDepth (l : List Byte) : Nat :=
  let v := leAt l 0x70 4
  (if (passDs l).fmt = 0x32 || (passDs l).fmt = 0x33 then v else Config.depthCode (passDs l).fmt v % 2 ^ 32) + 2 ^ 32 * leAt l 0x74 1

/-- Depth and stencil of tile `k` at the start. -/
def State.startDepth (s : State) (c q : Nat) (l : List Byte) (k : Nat) (spilled : Bool) : State × List Nat :=
  let n := 1024 * passSamples l
  if !passDsEn l then (s, [])
  else if spilled || (passDs l).load = 1 then s.areaLoad (areaOf c q l (passDs l).addr (passDs l).fmt k) n 5
  else if (passDs l).load = 2 then (s, List.replicate n (clearDepth l))
  else s.freeVals n 5

/-- The samples of tile `k` of a job's pass as rendering finds them. -/
def State.startTile (s : State) (j : LJob) (k : Nat) : State × List Smp :=
  let sp := j.spilled.contains k
  let r := (List.range (passTargets j.desc)).foldl (fun (a : State × List (List Nat)) i =>
    match a.1.startColour j.cove j.q j.desc i k sp with | (s1, l) => (s1, a.2 ++ [l])) (s, [])
  match r.1.startDepth j.cove j.q j.desc k sp with
  | (s1, d) => (s1, (List.range (1024 * passSamples j.desc)).map fun n =>
      { colour := r.2.map fun l => l.getD n 0, depth := d.getD n 0 % 2 ^ 32, stencil := d.getD n 0 / 2 ^ 32 })

/-- What a job's pass fixes for its tiles. -/
def LJob.tileCtx (j : LJob) : TileCtx :=
  { es := (passColours j.desc).map fun t => (colourBytes t.fmt).getD 0, samples := passSamples j.desc, ds := passDsEn j.desc,
    hsrOff := passHsrOff j.desc }

/-- What the code of one fragment did to memory, and whether it ended in an exception (Table 13-8). -/
def State.fragWork (s : State) (c q : Nat) (f : Frag) : State :=
  let s1 := s.each f.loads fun s (r : Nat × Nat) => (s.ctxRead c q r.1 r.2).1
  let s2 := s1.each f.stores fun s (w : Nat × List Byte) => s.ctxWrite c q w.1 w.2
  if f.exception then s2.jobFault c q 10 else s2

/-- Ordering was exhausted in a tile (R376). -/
def State.orderFallback (s : State) (j : LJob) (b : TileBin) : State :=
  if b.orderedAt.isSome && !passOrdered j.desc && !(match s.job j.cove j.q with | some k => k.ordered | none => true) then
    (s.modJob j.cove j.q fun j => { j with ordered := true }).raise 358 j.q j.cove
  else s

/-- Render tile `k` of a job from its bin (R373 to R376): its samples; undefined where bins were lost (Table 13-8). Only fragments
whose code runs touch memory. -/
def State.renderTile (s : State) (j : LJob) (k : Nat) (b : TileBin) : State × List Smp :=
  match s.startTile j k with
  | (s1, t) =>
    let r := renderBin b j.tileCtx j.pipes (passOrdered j.desc) t
    let s2 := (s1.each r.2 fun s f => s.fragWork j.cove j.q f).orderFallback j b
    if !j.lost then (s2, r.1)
    else match s2.freeVals (1024 * passSamples j.desc * (passTargets j.desc + 1)) 16 with
      | (s3, l) => (s3, (List.range (1024 * passSamples j.desc)).map fun n =>
          let o := n * (passTargets j.desc + 1)
          { colour := (List.range (passTargets j.desc)).map fun i => l.getD (o + i) 0,
            depth := l.getD (o + passTargets j.desc) 0 % 2 ^ 32, stencil := l.getD (o + passTargets j.desc) 0 / 2 ^ 32 % 256 })

/-! ### Tile-list pool -/

/-- The pool's fill has changed (R378): LOW and event 356 when it becomes low. -/
def State.poolLow (s : State) (c q : Nat) : State :=
  let low := decide (s.rd F.LOCH_CTX_POOL_STAT_CHUNKS c q * 3 ≤ s.rd F.LOCH_CTX_POOL_STAT_USED c q * 4)
  if low && !s.on F.LOCH_CTX_POOL_STAT_LOW c q then (s.wr F.LOCH_CTX_POOL_STAT_LOW 1 c q).raise 356 q c
  else if low then s else s.wr F.LOCH_CTX_POOL_STAT_LOW 0 c q

/-- Bins are lost: the tiles are undefined (Table 13-8). -/
def State.binsLost (s : State) (c q : Nat) : State := s.modJob c q fun j => { j with lost := true }

/-- The binner takes the next chunk: its table entry is read and its content is Loch's own (R377). -/
def State.takeChunk (s : State) (c q : Nat) : State :=
  let i := s.rd F.LOCH_CTX_POOL_STAT_USED c q
  let s1 := match s.ctxRead c q (s.rd F.LOCH_CTX_POOL_TABLE_TABLE c q * 8 + 8 * i) 8 with
    | (s1, l, true) => match s1.freeBytes 65536 with
      | (b, s2) => match s2.engWrite (s2.coveTag c) (ofLe l) b with
        | (s3, none) => s3
        | (s3, some e) => (s3.ctxFault c q (ofLe l) e).binsLost c q
    | (s1, _, false) => s1.binsLost c q
  (s1.wr F.LOCH_CTX_POOL_STAT_USED (i + 1) c q).poolLow c q

/-- Chunks that are free. -/
def State.chunksFree (s : State) (c q : Nat) : Nat :=
  s.rd F.LOCH_CTX_POOL_STAT_CHUNKS c q - s.rd F.LOCH_CTX_POOL_STAT_USED c q

/-- POOL_ADD (R377): a write of LOCH_CTXq_POOL_ADD in the cove's page. -/
def execPoolAdd (ini : Initiator) (c : Fin 32) (q : Fin 64) (n : BitVec 16) (s : State) : Ans :=
  s.by ini fun s =>
  let off := 0x8010010 + 0x200000 * c.val + 0x100 * q.val
  if !s.pageOk ini c.val then .next (s.pageDenied ini c.val off true)
  else if !s.assigned ini off then .next (s.accessErr (s.tag ini) (regBase + off) 0 true)
  else
    let s1 := s.wr F.LOCH_CTX_POOL_STAT_CHUNKS (min 65535 (s.rd F.LOCH_CTX_POOL_STAT_CHUNKS c.val q.val + n.toNat)) c.val q.val
    .next (if n = 0 then s1 else s1.poolLow c.val q.val)

/-! ### Completion -/

/-- The dispatch that runs on logical cluster `lc`. -/
def LJob.running (j : LJob) (lc : Nat) : Option Dispatch := j.disps.find? fun d => d.at_.runsOn lc

/-- Change the dispatch with admission number `n` of context (c, q). -/
def State.modDisp (s : State) (c q n : Nat) (f : Dispatch → Dispatch) : State :=
  s.modJob c q fun j => { j with disps := j.disps.map fun d => if d.seq = n then f d else d }

/-- Add a dispatch's counter increments to memory (R409). -/
def State.flushCounts (s : State) (c q : Nat) (d : Dispatch) : State :=
  s.each d.counts fun s (k : Nat × Nat × Bool) =>
    match s.ctxRead c q k.1 2 with
    | (s1, _, false) => s1
    | (s1, l, true) =>
      let v := ofLe l
      let n := min 32767 (v % 32768 + k.2.1)
      s1.ctxWrite c q k.1 (leBytes 2 ((if k.2.2 || bit v 15 then 32768 else 0) + n))

/-- What the shaders of a dispatch did. -/
def State.shaderWork (s : State) (c q : Nat) (rep : DispReport) : State :=
  let s1 := s.each rep.loads fun s (r : Nat × Nat) => (s.ctxRead c q r.1 r.2).1
  let s2 := s1.each rep.stores fun s (w : Nat × List Byte) => s.ctxWrite c q w.1 w.2
  if rep.exception then s2.jobFault c q 10 else s2

/-- The dispatch is over: counters, charge, slot (R360). -/
def State.dispOver (s : State) (c q : Nat) (d : Dispatch) (ns : Nat) : State :=
  let s1 := ((s.flushCounts c q d).chargeDisp c d ns).slotRelease .graphics c .cove
  s1.modJob c q fun j => { j with disps := j.disps.filter fun x => x.seq != d.seq }

/-- A binning batch completes. -/
def State.binDone (s : State) (c q : Nat) (rep : DispReport) : State :=
  let s1 := s.each (List.range rep.chunks) fun s _ => s.takeChunk c q
  let s2 := if rep.streamFault = 6 || rep.streamFault = 7 then s1.jobFault c q rep.streamFault else s1
  s2.modJob c q fun j =>
    { j with touched := (j.touched ++ rep.touched.filter fun k => decide (k < j.total)).eraseDups,
             binned := rep.last || rep.streamFault == 6 || rep.streamFault == 7 }

/-- DISPATCH_COMPLETE (R360, R384, R386): the dispatch on logical cluster `lc`, after `ns` more of cluster time. A binning
batch that finds too few chunks does not complete (R379). -/
def execDispatchComplete (lc : Fin 16) (ns : Nat) (rep : DispReport) (s : State) : Ans :=
  match s.jobOn lc.val with
  | none => .next s
  | some j =>
    match j.running lc.val with
    | none => .next s
    | some d =>
      let c := j.cove
      let q := j.q
      match d.kind with
      | .bin =>
        if 32 < rep.chunks || s.chunksFree c q < rep.chunks then .next s
        else .next (((s.shaderWork c q rep).binDone c q rep).dispOver c q d ns)
      | .tile k =>
        match s.renderTile j k rep.bin with
        | (s1, px) => .next ((s1.storeTiles c q j.desc k px).dispOver c q d ns)
      | .batch _ => .next ((s.shaderWork c q rep).dispOver c q d ns)

/-- PARTIAL_RENDER (R379, Table 13-7): the binner, with fewer chunks free than a batch may need, has every touched tile
rendered from its bin and spilled. -/
def execPartialRender (c : Fin 32) (q : Fin 64) (tiles : List (Nat × TileBin)) (s : State) : Ans :=
  match s.job c.val q.val with
  | none => .next s
  | some j =>
    if !j.started || j.op != 1 || j.binned || decide (32 ≤ s.chunksFree c.val q.val)
      || !(j.touched.all fun k => tiles.any fun t => t.1 == k) then .next s
    else
      let s1 := s.each j.touched fun s k =>
        match tiles.find? fun t => t.1 == k with
        | some t => match s.renderTile j k t.2 with | (s1, px) => s1.spillTile c.val q.val j.desc k px
        | none => s
      let s2 := (s1.releaseChunks c.val q.val).inc F.LOCH_CTX_PARTIALS_COUNT 1 c.val q.val
      let s3 := s2.modJob c.val q.val fun j =>
        { j with partial_ := true, partials := j.partials + 1, spilled := (j.spilled ++ j.touched).eraseDups, touched := [] }
      .next (s3.raise 357 q.val c.val)

end Sys2Proof.Machine
end

