-- ==== Sys2Proof/Machine/LochSched.lean ====
section
/-!
DEFINITION. Loch's admission, placement, urgency and preemption (R385, R397 to R404), the acceptance of a queue descriptor
(R361, R362), the clusters and their spare (R359, R387), and what a cove's reset, freeze and save do to its contexts (R388 to
R390).
-/
namespace Sys2Proof.Machine

/-! ### Acceptance of a descriptor -/

/-- A Loch queue descriptor is well formed for an engine (R362). -/
def lochDescOk (engine : Nat) (l : List Byte) : Bool :=
  let op := leAt l 0 1
  (op == 0 || op == 3 || (op == 1 && engine == 1) || (op == 2 && engine == 2)) && decide (leAt l 1 1 < 16)
    && decide (leAt l 2 1 ≤ 8) && decide (leAt l 3 1 ≤ 8) && leAt l 4 4 == 0 && (slice l 0x28 24).all (· == 0)

/-- Wait and signal entries of a fence list (R364); `ms` is the default deadline. -/
def parseFences (l : List Byte) (waits signals now ms : Nat) : List LWait × List (Nat × Nat) :=
  let w := fun k =>
    let d := leAt l (24 * k + 16) 8
    ({ addr := leAt l (24 * k) 8, value := leAt l (24 * k + 8) 8, deadline := if d = 0 then now + ms * 1000000 else d,
       ok := false, failed := false } : LWait)
  ((List.range waits).map w, (List.range signals).map fun k => (leAt l (24 * (waits + k)) 8, leAt l (24 * (waits + k) + 8) 8))

/-- The job that a descriptor describes. -/
def State.mkJob (s : State) (c q : Nat) (l fl : List Byte) : LJob :=
  let ms := max 1 (s.rd F.LOCH_CTX_CFG_WAIT_MS c q)
  let f := parseFences fl (leAt l 2 1) (leAt l 3 1) s.tbs.now ms
  { cove := c, q := q, gen := s.gen c, engine := s.rd F.COVE_Q_CFG_ENGINE c q, op := leAt l 0 1, flags := leAt l 1 1,
    work := leAt l 8 8, deadline := leAt l 0x18 8, record := leAt l 0x20 8, waits := f.1, signals := f.2,
    waitStart := s.tbs.now, timeoutMs := max 1 (s.rd F.LOCH_CTX_CFG_TIMEOUT_MS c q), waitMs := ms,
    prio := s.rd F.LOCH_CTX_CFG_PRIO c q, started := false, desc := [], pipes := [], lost := false, binned := false, next := 0, total := 0, disps := [],
    fault := 0, replayed := false, partial_ := false, ordered := false, partials := 0, touched := [], spilled := [],
    urgent := false, blocked := false, nonres := false, rayFault := false, runNs := 0 }

/-- Loch accepts a descriptor that it has read for context (c, q): a malformed one, or one whose fence list cannot be read,
is a queue fault (R362, R363); a context runs one job at a time (R361). -/
def State.lochAccept (s : State) (c q : Nat) (l : List Byte) : State :=
  if (s.job c q).isSome then s
  else if !lochDescOk (s.rd F.COVE_Q_CFG_ENGINE c q) l then s.queueFault c q 1
  else
    let n := leAt l 2 1 + leAt l 3 1
    match s.engRead (s.coveTag c) (leAt l 0x10 8) (24 * n) with
    | (s1, .error e) => s1.queueFault c q e.code
    | (s1, .ok fl) =>
      let j := s1.mkJob c q l fl
      let s2 := (s1.queueAccept c q).modLoch fun x => { x with jobs := x.jobs ++ [j] }
      s2.fencesAgain fun k => k.same c q

/-! ### Admission -/

/-- Dispatches of a job that are still to be admitted. -/
def LJob.waitingDisps (j : LJob) : Nat :=
  if !j.started then 0
  else if j.op = 1 && !j.binned then (if j.disps.any fun d => d.kind == .bin then 0 else 1)
  else if j.op = 1 || j.op = 2 then j.total - j.next else 0

/-- Jobs of cove `c` in the order in which their requests are queued: ascending local queue. -/
def State.jobsOf (s : State) (c : Nat) : List LJob := (List.range 64).filterMap fun q => s.job c q

/-- Costs of cove `c`'s waiting dispatches, one unit each; no more than a region can hold (R360). -/
def State.lochCosts (s : State) (c : Nat) : List Nat :=
  List.replicate (min 136 ((s.jobsOf c).map LJob.waitingDisps).sum) 1

/-- Admit the next dispatch of cove `c`. -/
def State.lochAdmit (s : State) (c : Nat) : State :=
  match (s.jobsOf c).find? fun j => decide (0 < j.waitingDisps) with
  | none => s
  | some j =>
    let k := if j.op = 2 then DispKind.batch j.next else if j.binned then .tile j.next else .bin
    let d : Dispatch := { kind := k, seq := s.loch.seq, at_ := .waiting, resumed := false, ran := 0, charged := 0,
                          counts := [], cache := [], rays := [] }
    let s1 := s.modLoch fun l => { l with seq := l.seq + 1 }
    s1.modJob c j.q fun j => { j with disps := j.disps ++ [d], next := if k = .bin then j.next else j.next + 1 }

/-! ### Placement (R397 to R399) -/

/-- The order of placement: rank, then the order within it (Table 14-2). -/
def LJob.place (j : LJob) (d : Dispatch) : List Nat :=
  match j.rank d with
  | 4 => [4, match d.at_ with | .preempted n => n | _ => 0]
  | 5 => [5, 7 - j.prio, d.seq]
  | r => [r, j.deadline, j.cove, j.q, d.seq]

/-- A dispatch is free to be placed: it waits, and no cluster is being cleared for it. -/
def DispAt.placeable : DispAt → Bool
  | .waiting => true
  | .preempted _ => true
  | _ => false

/-- Every waiting dispatch that may be placed, with its job. A frozen cove's resume only after THAW (R403). -/
def State.placeable (s : State) : List (LJob × Dispatch) :=
  (s.loch.jobs.filter fun j => s.coveReady j.cove).flatMap fun j =>
    (j.disps.filter fun d => d.at_.placeable).map fun d => (j, d)

/-- The first of a list in an order of keys. -/
def firstBy {α : Type} (key : α → List Nat) : List α → Option α
  | [] => none
  | a :: l => match firstBy key l with
    | none => some a
    | some b => if key b < key a then some b else some a

/-- The power domain of physical cluster `p` (Table 03-17). -/
def clusterDomain (p : Nat) : Nat := min 5 (2 + p / 4)

/-- Logical cluster `lc` is free: served by a cluster that is neither in a draining domain (R101) nor to be freed for a spare (R528), and neither occupied nor being
cleared. -/
def State.lcFree (s : State) (lc : Nat) : Bool :=
  (match s.physOf lc with
    | some p => s.domainOn (clusterDomain p) && !(match s.drg.job with | some (.swap x _) => x == 0x160 + p | _ => false)
    | none => false)
    && !(s.loch.jobs.any fun j => j.disps.any fun d => d.at_.occupies lc || d.at_ == .taking lc)

/-- Put a dispatch on a logical cluster: its map cache starts empty (R410). -/
def Dispatch.start (d : Dispatch) (lc : Nat) : Dispatch :=
  { d with at_ := .running lc, resumed := d.resumed || d.at_.isPreempted, cache := [] }

/-- DISPATCH_PLACE (R397, R399): a free cluster takes the waiting dispatch of the lowest rank that the power limit admits. -/
def execDispatchPlace (lc : Fin 16) (s : State) : Ans :=
  if !s.lcFree lc.val || s.placeLimit = 2 then .next s
  else
    let l := s.placeable.filter fun p => s.placeLimit == 0 || decide (p.1.rank p.2 ≤ 3)
    match firstBy (fun p : LJob × Dispatch => p.1.place p.2) l with
    | none => .next s
    | some (j, d) => .next (s.modDisp j.cove j.q d.seq fun d => d.start lc.val)

/-! ### Preemption (R400 to R404) -/

/-- The first urgent dispatch that waits and has no victim yet. -/
def State.urgentFirst (s : State) : Option (LJob × Dispatch) :=
  firstBy (fun p : LJob × Dispatch => p.1.place p.2) (s.placeable.filter fun p => p.1.rank p.2 == 2)

/-- Some logical cluster is free. -/
def State.anyFree (s : State) : Bool := (List.range 16).any s.lcFree

/-- The order of choice among victims of an urgent dispatch of deadline `dl` (R400); none where a dispatch is not eligible. -/
def victimKey (dl : Nat) (j : LJob) (d : Dispatch) : Option (List Nat) :=
  match d.at_ with
  | .running lc =>
    if j.urgent then none
    else if d.resumed || j.rank d = 5 then some [0, j.prio, 16 - lc]
    else if dl < j.deadline then some [1, 2 ^ 64 - j.deadline, 16 - lc]
    else none
  | _ => none

/-- The victim for an urgent dispatch: its job, itself and its logical cluster. -/
def State.victim (s : State) (dl : Nat) : Option (LJob × Dispatch × Nat) :=
  let l := s.loch.jobs.flatMap fun j => j.disps.filterMap fun d =>
    match victimKey dl j d, d.at_ with
    | some k, .running lc => some (k, j, d, lc)
    | _, _ => none
  (firstBy (fun p : List Nat × LJob × Dispatch × Nat => p.1) l).map fun p => p.2

/-- Preemption saves under way. -/
def State.saves (s : State) : Nat :=
  (s.loch.jobs.map fun j => (j.disps.filter fun d => match d.at_ with | .saving _ _ => true | _ => false).length).sum

/-- No running dispatch is eligible: event 384, once per job (R404). -/
def State.urgentBlocked (s : State) (j : LJob) : State :=
  if j.blocked then s else (s.modJob j.cove j.q fun j => { j with blocked := true }).raise 384 j.q j.cove

/-- An urgent dispatch that finds no cluster takes a victim, or is blocked. -/
def State.preempt (s : State) : State :=
  match s.urgentFirst with
  | none => s
  | some (j, d) =>
    if s.anyFree then s
    else match s.victim j.deadline with
      | none => s.urgentBlocked j
      | some (v, e, lc) =>
        let s1 := s.modDisp v.cove v.q e.seq fun x => { x with at_ := .saving lc (s.saves + 1) }
        let s2 := s1.modDisp j.cove j.q d.seq fun x => { x with at_ := .taking lc }
        (s2.inc F.LOCH_PREEMPTS_COUNT 1).inc F.LOCH_CTX_PREEMPTED_COUNT 1 v.cove v.q

/-- PREEMPT_START (R400, R404). -/
def execPreemptStart (s : State) : Ans := .next s.preempt

/-- JOB_URGENT (R398, R404): the timebase has reached DEADLINE less the lead. -/
def execJobUrgent (c : Fin 32) (q : Fin 64) (s : State) : Ans :=
  match s.job c.val q.val with
  | none => .next s
  | some j =>
    if j.engine != 1 || j.deadline == 0 || j.urgent
      || decide (s.tbs.now < j.deadline - 1000 * s.rd F.LOCH_SCHED_CFG_LEAD_US) then .next s
    else
      let s1 := s.modJob c.val q.val fun j => { j with urgent := true }
      .next (if (j.disps.any fun d => d.at_.placeable) && !s1.anyFree && (s1.victim j.deadline).isNone
        then s1.urgentBlocked { j with urgent := true } else s1)

/-- The save area holds preempted state: its content is Loch's own (R385). -/
def State.saveArea (s : State) (c q : Nat) : State :=
  s.ctxPrivate c q (s.rd F.LOCH_CTX_SAVE_SAVE c q * 4096) 5242880

/-- A dispatch of context (c, q) becomes preempted: it is charged for the time that it has run, and keeps its slot. -/
def State.preempted (s : State) (c q : Nat) (d : Dispatch) (ran : Nat) : State :=
  let due := clusterUnits (d.ran + ran) - d.charged
  let s1 := ((s.chargeDisp c d ran).saveArea c q).modLoch fun l => { l with preemptSeq := l.preemptSeq + 1 }
  s1.modDisp c q d.seq fun x =>
    { x with at_ := .preempted s.loch.preemptSeq, resumed := true, ran := d.ran + ran, charged := d.charged + due }

/-- The bound of the k-th preemption of one instant (R402), in ns. -/
def preemptBound (k : Nat) : Nat := 60000 + 50000 * ((k - 1) / 8)

/-- PREEMPT_SAVE_DONE (R401, R402): `ns`: the whole preemption; `ran`: the victim's cluster time; `bytes`: what was saved. -/
def execPreemptSaveDone (lc : Fin 16) (ns ran bytes : Nat) (s : State) : Ans :=
  let v := s.loch.jobs.findSome? fun j => j.disps.findSome? fun d =>
    match d.at_ with | .saving n k => if n = lc.val then some (j, d, k) else none | _ => none
  match v with
  | none => .next s
  | some (j, d, k) =>
    let s1 := s.preempted j.cove j.q d ran
    let s2 := s1.setDeficit .memory j.cove (s1.deficit .memory j.cove - (ceilDiv bytes 64 : Nat))
    let s3 := s2.modLoch fun l => { l with jobs := l.jobs.map fun j =>
      { j with disps := j.disps.map fun d => if d.at_ = .taking lc.val then d.start lc.val else d } }
    let s4 := s3.wr F.LOCH_PREEMPT_MAX_MAX (max (s3.rd F.LOCH_PREEMPT_MAX_MAX) (min 65535 (ceilDiv ns 10)))
    .next (if preemptBound k < ns then s4.raise 387 (min 65535 (ns / 1000)) j.cove else s4)

/-- PREEMPT_MAX_CLEAR (R401, R420). -/
def execPreemptMaxClear (ini : Initiator) (s : State) : Ans :=
  s.busBy ini fun s =>
  if !s.isSec ini then .next (s.denied ini 0x500020C) else .next (s.wr F.LOCH_PREEMPT_MAX_MAX 0)

/-- JOB_TIMEOUT (R386): the time during which the job's work was admitted and running is more than TIMEOUT_MS. -/
def execJobTimeout (c : Fin 32) (q : Fin 64) (s : State) : Ans :=
  match s.job c.val q.val with
  | none => .next s
  | some j =>
    if !j.started || decide (j.runNs ≤ 1000000 * j.timeoutMs) then .next s
    else
      let s1 := if j.op = 1 then s.targetsFree c.val q.val j.desc else s
      let s2 := s1.jobEnd j 3 0
      .next (settleFences s2.loch.jobs.length s2)

/-! ### Clusters -/

/-- The dispatches on logical cluster `lc` run again from their start (R387). -/
def State.replay (s : State) (lc : Nat) (stay : Bool) : State :=
  s.modLoch fun l => { l with jobs := l.jobs.map fun j =>
    if (j.disps.any fun d => d.at_.occupies lc) then
      { j with replayed := true, disps := j.disps.map fun d =>
          if d.at_.occupies lc then
            { d with at_ := if stay && d.at_.runsOn lc then .running lc else .waiting, resumed := false, counts := [], cache := [], rays := [] }
          else if d.at_ = .taking lc then { d with at_ := .waiting } else d }
    else j }

/-- A cluster has become a faulted block (R387): `phys` is isolated; the spare takes its logical cluster, or it is lost. -/
def State.clusterOut (s : State) (phys : Nat) : State :=
  let active := s.clActive phys
  let lc := s.rd F.LOCH_CLUSTER_STAT_LOGICAL phys
  let s1 := s.wr F.LOCH_CLUSTER_STAT_ROLE 2 phys
  if !active then s1
  else match (List.range 17).find? fun p => s1.rd F.LOCH_CLUSTER_STAT_ROLE p == 1 with
    | some p =>
      let s2 := (s1.wr F.LOCH_CLUSTER_STAT_ROLE 0 p).wr F.LOCH_CLUSTER_STAT_LOGICAL lc p
      let s3 := ((s2.wr F.LOCH_SPARE_IN_USE 1).wr F.LOCH_SPARE_LOGICAL lc).raise 360 (phys + 256 * lc)
      s3.replay lc true
    | none =>
      let b : BlockId := { unit := 13, inst := Fin.ofNat 512 phys }
      ((s1.replay lc false).spillRaise 4 (s1.flogEntry 3 5 3 4 b (secTag s1))).raise 361 phys

/-- Physical clusters of domains D2 to D5 (Table 03-17). -/
def lochDomain (d : Nat) : List Nat :=
  match d with
  | 2 => [0, 1, 2, 3] | 3 => [4, 5, 6, 7] | 4 => [8, 9, 10, 11] | 5 => [12, 13, 14, 15, 16]
  | _ => []

/-- A domain of Loch clusters goes on or off (R359): what ran there has drained. -/
def State.lochPower (s : State) (d : Nat) (on : Bool) : State :=
  s.each (lochDomain d) fun s p =>
    if s.rd F.LOCH_CLUSTER_STAT_ROLE p = 2 then s
    else if !on then s.wr F.LOCH_CLUSTER_STAT_ROLE 3 p
    else s.wr F.LOCH_CLUSTER_STAT_ROLE (if p = 16 && !s.on F.LOCH_SPARE_IN_USE then 1 else 0) p

/-- Dispatches still run on the clusters of a domain. -/
def State.lochBusy (s : State) (d : Nat) : Bool :=
  (lochDomain d).any fun p => s.clActive p && (s.jobOn (s.rd F.LOCH_CLUSTER_STAT_LOGICAL p)).isSome

/-! ### Coves -/

/-- Every dispatch of cove `c` is discarded, and the content of its private areas counts as undefined (R388). -/
def State.lochReset (s : State) (c : Nat) : State :=
  let s1 := s.modLoch fun l => { l with areas := l.areas.filter fun a => a.cove != c }
  s1.each (s1.jobsOf c) fun s j => ((s.freeDisps j).dropJob c j.q).releaseChunks c j.q

/-- Dispatches of cove `c` that are preempted and kept (Table 07-10). -/
def State.lochFreeze (s : State) (c : Nat) : State :=
  s.each (s.jobsOf c) fun s j => s.each j.disps fun s d =>
    match d.at_ with
    | .running _ => s.preempted c j.q d 0
    | .saving _ _ => s.preempted c j.q d 0
    | .taking _ => s.modDisp c j.q d.seq fun x => { x with at_ := .waiting }
    | _ => s

/-- A context record (Table 13-9). PRIVATE holds the number under which the job is kept. -/
def State.ctxRecord (s : State) (c q priv : Nat) : List Byte :=
  let j := s.job c q
  let st := match s.ctxState c q with | 1 => 1 | 2 => 2 | 3 => 3 | _ => 0
  let live := match j with | some k => b2n (!k.touched.isEmpty) + 2 * b2n (k.disps.any fun d => d.at_.isPreempted) | none => 0
  let cfg := (s.rd F.LOCH_CTX_CFG_TIMEOUT_MS c q * 2 ^ 20 + s.rd F.LOCH_CTX_CFG_WAIT_MS c q * 256 + s.rd F.LOCH_CTX_CFG_PRIO c q)
  leBytes 1 q ++ leBytes 1 st ++ leBytes 1 (s.rd F.LOCH_CTX_CFG_PRIO c q) ++ leBytes 1 live ++ leBytes 4 cfg
    ++ leBytes 8 (s.rd F.LOCH_CTX_POOL_TABLE_TABLE c q * 8) ++ leBytes 2 (s.rd F.LOCH_CTX_POOL_STAT_CHUNKS c q)
    ++ leBytes 2 (s.rd F.LOCH_CTX_POOL_STAT_USED c q) ++ leBytes 4 (s.rd F.LOCH_CTX_PARTIALS_COUNT c q)
    ++ leBytes 8 (s.rd F.LOCH_CTX_SAVE_SAVE c q * 4096)
    ++ leBytes 8 (match j with | some k => if k.started then 0 else k.waitStart | none => 0)
    ++ leBytes 8 (match j with | some k => k.runNs / 1000 | none => 0) ++ leBytes 80 priv

/-- Local queues of cove `c` that are Loch contexts. -/
def State.ctxs (s : State) (c : Nat) : List Nat :=
  (List.range (s.rd F.COVE_QUEUES_COUNT c)).filter fun q =>
    let e := s.rd F.COVE_Q_CFG_ENGINE c q
    e == 1 || e == 2

/-- The body of the LOCH section of a cove state record (R389), and the jobs kept for it. -/
def State.lochSection (s : State) (c : Nat) : State × List Byte :=
  let l := s.ctxs c
  let base := s.loch.token
  let body := leBytes 2 l.length ++ leBytes 6 0 ++ (l.zipIdx.flatMap fun k =>
    s.ctxRecord c k.1 (if (s.job c k.1).isSome then base + k.2 else 0))
  let kept := l.zipIdx.filterMap fun k => (s.job c k.1).map fun j => (base + k.2, j)
  (s.modLoch fun x => { x with token := base + l.length, kept := x.kept ++ kept }, body)

/-- RESTORE accepts a LOCH section for target cove `c` (R390). -/
def State.lochSectionOk (s : State) (c : Nat) (sameChip : Bool) (l : List Byte) : Bool :=
  let n := leAt l 0 2
  l.length == 8 + 128 * n && (List.range n).all fun k =>
    let o := 8 + 128 * k
    decide (leAt l o 1 < s.rd F.COVE_QUEUES_COUNT c) && (sameChip || leAt l (o + 3) 1 % 4 == 0)

/-- Give a job to cove `c` and the current generation. -/
def LJob.moved (j : LJob) (c gen : Nat) : LJob := { j with cove := c, gen := gen }

/-- Take over one context record. -/
def State.ctxRestore (s : State) (c : Nat) (l : List Byte) : State :=
  let q := leAt l 0 1
  let cfg := leAt l 4 4
  let s1 := ((s.wr F.LOCH_CTX_CFG_TIMEOUT_MS (cfg / 2 ^ 20) c q).wr F.LOCH_CTX_CFG_WAIT_MS (cfg / 256) c q).wr F.LOCH_CTX_CFG_PRIO cfg c q
  let s2 := (s1.wr F.LOCH_CTX_POOL_TABLE_TABLE (leAt l 8 8 / 8) c q).wr F.LOCH_CTX_POOL_STAT_CHUNKS (leAt l 0x10 2) c q
  let s3 := (s2.wr F.LOCH_CTX_POOL_STAT_USED (leAt l 0x12 2) c q).wr F.LOCH_CTX_PARTIALS_COUNT (leAt l 0x14 4) c q
  let s4 := s3.wr F.LOCH_CTX_SAVE_SAVE (leAt l 0x18 8 / 4096) c q
  match s.loch.kept.find? fun k => k.1 == leAt l 0x30 80 with
  | some (_, j) =>
    let s5 := s4.modLoch fun x => { x with jobs := (x.jobs.filter fun j => !j.same c q) ++ [j.moved c (s.gen c)] }
    s5.each j.disps fun s _ => s.takeSlot .graphics c
  | none => s4

/-- RESTORE's LOCH engine (R390). -/
def State.lochRestore (s : State) (c : Nat) (l : List Byte) : State :=
  s.each (List.range (leAt l 0 2)) fun s k => s.ctxRestore c (slice l (8 + 128 * k) 128)

end Sys2Proof.Machine
end

