-- ==== Sys2Proof/Machine/March.lean ====
section
/-!
DEFINITION. The march of one memory instance (R519, R520): March C- over the four backgrounds, and what an engine keeps of the
reads that fail (R521).
-/
namespace Sys2Proof.Machine

/-! ### Instances (Table 19-1) -/

/-- Instance number `x` names an instance. -/
def instOk (x : Nat) : Bool :=
  decide (x < 0x108) || (decide (0x110 ≤ x) && decide (x < 0x134)) || (decide (0x140 ≤ x) && decide (x < 0x158))
    || (decide (0x160 ≤ x) && decide (x < 0x171)) || (decide (0x180 ≤ x) && decide (x < 0x184))
    || (decide (0x200 ≤ x) && decide (x < 0x400))

/-- Words of an instance; small arrays at their largest. -/
def instWords (x : Nat) : Nat :=
  if x < 0x108 then 65536 else if x < 0x140 then 40960 else if x < 0x158 then 65536 else if x < 0x200 then 32768
  else 16384

/-- Spare rows and columns. -/
def spareRows (x : Nat) : Nat := if x < 0x108 then 4 else 2
def spareCols (x : Nat) : Nat := if x < 0x108 then 2 else 1

/-- The groups that TEST marches one after another beside the waves of Tarn banks, each with all its instances at once (R520). -/
def testGroups : List (List Nat) :=
  [(List.range 36).map (0x110 + ·), (List.range 16).map (0x140 + ·), (List.range 8).map (0x150 + ·),
   (List.range 17).map (0x160 + ·), (List.range 4).map (0x180 + ·), (List.range 512).map (0x200 + ·)]

/-- Instances whose march has ended in a TEST that stopped: whole waves of 66 Tarn banks, whole groups, and the smaller arrays
of the group under way. -/
def marchEnded (r : MarchReport) : List Nat :=
  List.range (66 * r.waves.val) ++ (testGroups.take r.groups.val).flatten
    ++ ((testGroups.getD r.groups.val []).filter fun x => r.early.any fun y => y.val == x)

/-! ### March C- (R519) -/

/-- The word written as B of background `j` at word address `a` (Table 19-2). -/
def bgWord (j a : Nat) : BitVec 72 :=
  let b1 : BitVec 72 := 0xAAAAAAAAAAAAAAAAAA
  match j with
  | 0 => 0
  | 1 => b1
  | 2 => if bit a 0 then ~~~b1 else b1
  | _ => if bit a 4 then ~~~0 else 0

/-- The order of addresses of an element: up, down, or either. -/
inductive MarchDir where
  | either
  | up
  | down
  deriving DecidableEq, Repr

/-- An operation on a word: a read that expects B or ~B, or a write of it. -/
inductive MarchOp where
  | r (inv : Bool)
  | w (inv : Bool)
  deriving DecidableEq, Repr

/-- The six elements. -/
def marchC : List (MarchDir × List MarchOp) :=
  [(.either, [.w false]), (.up, [.r false, .w true]), (.up, [.r true, .w false]), (.down, [.r false, .w true]),
   (.down, [.r true, .w false]), (.either, [.r false])]

/-- The word that an operation writes, or expects, at an address. -/
def MarchOp.word (o : MarchOp) (j a : Nat) : BitVec 72 :=
  match o with
  | .r inv => if inv then ~~~(bgWord j a) else bgWord j a
  | .w inv => if inv then ~~~(bgWord j a) else bgWord j a

def MarchOp.isRead : MarchOp → Bool
  | .r _ => true
  | .w _ => false

/-- The addresses of `n` words in an element's order; `desc`: an element of either direction runs downwards. -/
def MarchDir.addrs (d : MarchDir) (desc : Bool) (n : Nat) : List Nat :=
  match d with
  | .up => List.range n
  | .down => (List.range n).reverse
  | .either => if desc then (List.range n).reverse else List.range n

/-- Every operation of a march of `n` words in order: background, element (1 to 6), word address, operation. -/
def marchOps (desc : Bool) (n : Nat) : List (Nat × Nat × Nat × MarchOp) :=
  (List.range 4).flatMap fun j => (marchC.zipIdx 1).flatMap fun e =>
    (e.1.1.addrs desc n).flatMap fun a => e.1.2.map fun o => (j, e.2, a, o)

/-- The word that the read of element `e` expects of background `j` at address `a`; element 1 reads nothing. -/
def marchExpect (j e a : Nat) : Option (BitVec 72) :=
  ((marchC.getD (e - 1) (.either, [])).2.find? MarchOp.isRead).map fun o => o.word j a

/-- The place in time of a read among those of one array of `n` words. -/
def marchTime (desc : Bool) (n j e a : Nat) : Nat :=
  let pos := match (marchC.getD (e - 1) (.either, [])).1 with
    | .up => a
    | .down => n - 1 - a
    | .either => if desc then n - 1 - a else a
  (6 * j + e) * n + pos

/-! ### What an engine keeps (R521) -/

/-- A failing row: its number (`spare`: of the spare rows), the OR of its failing-bit masks, and the first failing element and
background (Table 19-3). -/
structure RowFail where
  row : Nat
  spare : Bool
  mask : BitVec 72
  elem : Nat
  bg : Nat
  deriving DecidableEq, Repr

/-- A read that failed: when, its row, its failing bits, element and background. -/
def readFail (desc : Bool) (x : Nat) (r : MarchRead) : Option (Nat × RowFail) :=
  let n := if r.spare then 16 * spareRows x else instWords x
  match marchExpect r.bg.val (r.elem.val + 1) r.addr with
  | none => none
  | some w =>
    if n ≤ r.addr || r.value == w then none
    else some (marchTime desc n r.bg.val (r.elem.val + 1) r.addr,
      { row := r.addr / 16, spare := r.spare, mask := r.value ^^^ w, elem := r.elem.val + 1, bg := r.bg.val })

/-- Into a list in order of time, after those of the same instant. -/
def failInsert (f : Nat × RowFail) : List (Nat × RowFail) → List (Nat × RowFail)
  | [] => [f]
  | g :: l => if f.1 < g.1 then f :: g :: l else g :: failInsert f l

/-- A failing read joins its row: the first keeps element and background. -/
def rowMerge : List RowFail → RowFail → List RowFail
  | [], f => [f]
  | r :: l, f => if r.row = f.row ∧ r.spare = f.spare then { r with mask := r.mask ||| f.mask } :: l else r :: rowMerge l f

/-- The rows that failed, in the order in which they were met. -/
def marchRows (m : InstMarch) : List RowFail :=
  (((m.reads.filterMap (readFail m.desc m.inst.val)).foldl (fun l f => failInsert f l) []).map (·.2)).foldl rowMerge []

/-- What an engine holds at the end of its march: rows in which each bit failed, saturating at 3; up to 8 failing rows; rows
beyond the list; spare rows and columns that failed. -/
structure MarchKept where
  counts : List Nat
  rows : List RowFail
  excess : Nat
  badRows : List Nat
  badCols : List Nat
  deriving DecidableEq, Repr

def marchKept (m : InstMarch) : MarchKept :=
  let l := marchRows m
  { counts := (List.range 72).map fun b => min 3 (l.filter fun r => r.mask.getLsbD b).length, rows := l.take 8,
    excess := l.length - 8, badRows := (l.filter (·.spare)).map (·.row),
    badCols := (m.badCols.map (·.val)).eraseDups.filter fun k => decide (k < spareCols m.inst.val) }

/-- Failing rows counted. -/
def MarchKept.count (k : MarchKept) : Nat := k.rows.length + k.excess

end Sys2Proof.Machine
end

