-- ==== Sys2Proof/Machine/Dredge.lean ====
section
/-!
DEFINITION. Dredge (chapter 19): repair analysis, the repair map in MRAM, repairs at boot, fuses, tests and planned
substitutions; rows DRG_TEST, DRG_SWAP_IN, DRG_FUSE, TEST_DONE, SWAP_DONE and FUSE_PROGRAM_DONE.
-/
namespace Sys2Proof.Machine

/-! ### Instances (Table 19-1) -/

/-- The Outlet engine of a strip slot, and its strip slots. -/
def instEng (x : Nat) : Option Nat := if 0x110 ≤ x ∧ x < 0x134 then some ((x - 0x110) / 3) else none
def engInsts (e : Nat) : List Nat := [0x110 + 3 * e, 0x111 + 3 * e, 0x112 + 3 * e]

/-- The physical Loch cluster of a tile memory. -/
def instCluster (x : Nat) : Option Nat := if 0x160 ≤ x ∧ x < 0x171 then some (x - 0x160) else none

/-- Instances that are tested together with `x` (R529). -/
def instGroup (x : Nat) : List Nat := match instEng x with
  | some e => engInsts e
  | none => [x]

/-! ### Repair analysis (R521, R522) -/

/-- Spare `k` of a kind (1 row, 2 column) of instance `x` is taken or bad. -/
def spareTaken (l : List RepEntry) (x kind k : Nat) : Bool := l.any fun e => e.inst == x && e.kind == kind && e.spare == k

/-- Target `t` has a spare of a kind that did not fail. -/
def hasSpare (l : List RepEntry) (bad : List Nat) (x kind t : Nat) : Bool :=
  l.any fun e => e.inst == x && e.kind == kind && e.target == t && !e.bad && !bad.contains e.spare

/-- The lowest free spare of a kind that did not fail. -/
def freeSpare (l : List RepEntry) (bad : List Nat) (x kind n : Nat) : Option Nat :=
  (List.range n).find? fun k => !spareTaken l x kind k && !bad.contains k

/-- Assign spares to targets one after another; answers the entries and the targets left uncovered. -/
def assign (x kind n : Nat) (bad : List Nat) : List Nat → List RepEntry → List RepEntry × List Nat
  | [], l => (l, [])
  | t :: ts, l =>
    if hasSpare l bad x kind t then assign x kind n bad ts l
    else match freeSpare l bad x kind n with
    | some k => assign x kind n bad ts (l ++ [{ inst := x, kind := kind, spare := k, target := t, fused := false, bad := false }])
    | none => let r := assign x kind n bad ts l; (r.1, t :: r.2)

/-- Targets whose spare of a kind has failed: they are to be repaired again (R527). -/
def lostTargets (l : List RepEntry) (bad : List Nat) (x kind : Nat) : List Nat :=
  (l.filter fun e => e.inst == x && e.kind == kind && !e.bad && bad.contains e.spare).map (·.target)

/-- SPARE_BAD entries for the spares of a kind that failed and are not marked yet. -/
def spareMarks (l : List RepEntry) (bad : List Nat) (x kind : Nat) : List RepEntry :=
  (bad.filter fun k => !l.any fun e => e.inst == x && e.kind == kind && e.spare == k && e.bad).map fun k =>
    { inst := x, kind := kind, spare := k, target := 0, fused := false, bad := true }

/-- What the march of instance `x` decides (R522): result (0 PASSED, 1 REPAIRED, 2 UNREPAIRABLE) and new entries. -/
def decideInst (applied : List RepEntry) (x : Nat) (m : MarchKept) : Nat × List RepEntry :=
  let marks := spareMarks applied m.badRows x 1 ++ spareMarks applied m.badCols x 2
  let wide := (List.range 72).filter fun b => decide (m.counts.getD b 0 = 3)
  let c := assign x 2 (spareCols x) m.badCols (lostTargets applied m.badCols x 2 ++ wide) applied
  let covered := wide.filter fun b => !c.2.contains b
  let rows := (m.rows.filter fun r => !r.spare && (List.range 72).any fun b => r.mask.getLsbD b && !covered.contains b).map (·.row)
  let r := assign x 1 (spareRows x) m.badRows (lostTargets applied m.badRows x 1 ++ rows) c.1
  let new := r.1.drop applied.length ++ marks
  if m.rows.isEmpty && m.badCols.isEmpty then (0, [])
  else if r.2.isEmpty && (c.2.filter fun t => !wide.contains t).isEmpty && m.excess = 0 then (1, new)
  else (2, new ++ [{ inst := x, kind := 3, spare := 0, target := 0, fused := false, bad := false }])

/-- A fail record (Table 19-3) as a number, byte 0 lowest. -/
def failRecord (res : Nat) (x : Nat) (r : RowFail) : Nat :=
  ofLe (leBytes 2 x ++ leBytes 1 (r.elem + 16 * r.bg)
    ++ leBytes 1 (b2n (res == 1) + 2 * b2n (res == 2) + 4 * b2n r.spare) ++ leBytes 3 r.row ++ leBytes 9 r.mask.toNat)

/-! ### The repair map in MRAM (R524, R526) -/

def RepEntry.bytes (e : RepEntry) : List Byte :=
  leBytes 2 e.inst ++ leBytes 1 e.kind ++ leBytes 1 e.spare ++ leBytes 2 e.target
    ++ leBytes 1 (b2n e.fused + 2 * b2n e.bad) ++ leBytes 1 0

def repEntry (l : List Byte) : RepEntry :=
  { inst := leAt l 0 2, kind := leAt l 2 1, spare := leAt l 3 1, target := leAt l 4 2, fused := bit (leAt l 6 1) 0,
    bad := bit (leAt l 6 1) 1 }

/-- MAGIC, SEQ, COUNT and 0 of a copy's header. -/
def mapHead (seq n : Nat) : List Byte := [0x44, 0x52, 0x47, 0x4D] ++ leBytes 4 seq ++ leBytes 2 n ++ leBytes 2 0

def mapCopy (k : Nat) : Nat := 0x100000 + 0x10000 * k

/-- Copy `k` when it is valid: its sequence number and entries. -/
def State.mapRead (s : State) (k : Nat) : Option (Nat × List RepEntry) :=
  let h := memRead s.mram (mapCopy k) 16
  let n := leAt h 8 2
  if slice h 0 4 ≠ [0x44, 0x52, 0x47, 0x4D] || 4096 < n then none
  else
    let l := memRead s.mram (mapCopy k + 16) (8 * n)
    if crc32c (slice h 0 12 ++ l) ≠ leAt h 12 4 then none
    else some (leAt h 4 4, (List.range n).map fun i => repEntry (slice l (8 * i) 8))

/-- The map is read at boot: the valid copy with the higher SEQ modulo 2^32 (R524); event 490 when neither is valid. -/
def State.mapLoad (s : State) : State :=
  let put (s : State) (k : Nat) (m : Nat × List RepEntry) : State :=
    (((s.modDrg fun d => { d with map := m.2, seq := m.1 }).wr F.DRG_MAP_STAT_COPY k).wr F.DRG_MAP_STAT_VALID 1).wr
      F.DRG_MAP_STAT_COUNT m.2.length
  match s.mapRead 0, s.mapRead 1 with
  | some a, some b => if (a.1 + 4294967296 - b.1) % 4294967296 < 2147483648 then put s 0 a else put s 1 b
  | some a, none => put s 0 a
  | none, some b => put s 1 b
  | none, none => (s.modDrg fun d => { d with map := [], seq := 0 }).raise 490 1

/-- Write a map into the copy not in use, its header last. -/
def State.mapWrite (s : State) (l : List RepEntry) : State :=
  let k := if s.on F.DRG_MAP_STAT_VALID then 1 - s.rd F.DRG_MAP_STAT_COPY else 0
  let seq := (s.drg.seq + 1) % 4294967296
  let body := (l.map RepEntry.bytes).flatten
  let h := mapHead seq l.length
  let m := memWrite s.mram (mapCopy k + 16) body
  let s : State := { s with mram := memWrite m (mapCopy k) (h ++ leBytes 4 (crc32c (h ++ body))) }
  (((s.modDrg fun d => { d with map := l, seq := seq }).wr F.DRG_MAP_STAT_COPY k).wr F.DRG_MAP_STAT_VALID 1).wr
    F.DRG_MAP_STAT_COUNT l.length

/-- The map with new entries, where they fit; too many are not stored, with event 490 (R526). -/
def State.mapWith (s : State) (new : List RepEntry) : State × List RepEntry :=
  if 4096 < s.drg.map.length + new.length then (s.raise 490 2, s.drg.map) else (s, s.drg.map ++ new)

/-- A new map after an in-service test that changes an entry (R526). -/
def State.mapAdd (s : State) (new : List RepEntry) : State :=
  if new.isEmpty then s
  else match s.mapWith new with
    | (s1, l) => if l.length = s.drg.map.length then s1 else s1.mapWrite l

/-! ### Service (Table 19-4) -/

def State.instState (s : State) (x v : Nat) : State := s.wr F.DRG_INST_STATE v x

/-- The logical bank that a physical bank serves. -/
def State.logicalOf (s : State) (p : Nat) : Option Nat := (List.range 256).find? fun b => s.rd F.TARN_BANK_MAP_PHYS b == p

/-- Physical banks that stand ready as spares, ascending. -/
def State.spareBanks (s : State) : List Nat :=
  (List.range 264).filter fun p => s.drg.ready.contains p && (s.logicalOf p).isNone && s.rd F.DRG_INST_STATE p == 1

/-- A retired bank is replaced: the logical bank is mapped to the lowest spare (R525). -/
def State.bankReplace (s : State) (p : Nat) : State :=
  match s.logicalOf p, s.spareBanks with
  | some b, q :: _ => ((s.wr F.TARN_BANK_MAP_PHYS q b).instState q 0).instState p 3
  | _, _ => s.instState p 3

/-- An instance is out of service (R522, R525, Table 19-4). -/
def State.instRetire (s : State) (x : Nat) : State :=
  let s := (s.modDrg fun d => { d with ready := d.ready.filter (· != x) })
  if x < 264 then s.bankReplace x
  else match instEng x with
    | some e => ((engInsts e).foldl (fun s y => s.instState y 3) s).engineOut e false
    | none => match instCluster x with
      | some p => (s.instState x 3).clusterOut p
      | none => s.instState x 3

/-- Repairs in use of an instance. -/
def State.showRepairs (s : State) (x : Nat) : State :=
  let n (kind : Nat) := (s.drg.applied.filter fun e => e.inst == x && e.kind == kind && !e.bad).length
  (s.wr F.DRG_INST_ROWS_USED (n 1) x).wr F.DRG_INST_COLS_USED (n 2) x

/-- An entry can be applied (R525). -/
def entryOk (applied : List RepEntry) (e : RepEntry) : Bool :=
  instOk e.inst && (e.kind == 3 ||
    ((e.kind == 1 && decide (e.spare < spareRows e.inst) && (e.bad || decide (e.target < instWords e.inst / 16)))
      || (e.kind == 2 && decide (e.spare < spareCols e.inst) && (e.bad || decide (e.target < 72))))
    && !spareTaken applied e.inst e.kind e.spare)

/-- One repair is applied, or skipped with event 490. A spare that a later entry marks bad is out of use. -/
def State.repairApply (s : State) (e : RepEntry) : State :=
  if e.bad && e.kind != 3 && instOk e.inst then
    (s.modDrg fun d => { d with applied := d.applied.filter (fun x => !(x.inst == e.inst && x.kind == e.kind && x.spare == e.spare)) ++ [e] }
      ).showRepairs e.inst
  else if !entryOk s.drg.applied e then s.raise 490 0
  else if e.kind = 3 then s.instRetire e.inst
  else (s.modDrg fun d => { d with applied := d.applied ++ [e] }).showRepairs e.inst

/-- Instances that stand as spares at reset (Table 19-4): Tarn banks 256 to 263, the strips of engines 8 to 11, cluster 16. -/
def bootSpares : List Nat := (List.range 8).map (256 + ·) ++ (List.range 12).map (0x128 + ·) ++ [0x170]

/-- Step 2 of Table 03-7 (R525): spares, fuse repairs, then the entries of the map without FUSED. -/
def State.repairBoot (s : State) : State :=
  let s := bootSpares.foldl (fun s x => s.instState x 1) s
  let s := (s.modDrg fun d => { d with ready := bootSpares, applied := [], job := none }).mapLoad
  let s := s.each (s.drg.fuses.filter fun e => !e.bad) State.repairApply
  s.each (s.drg.map.filter fun e => !e.fused) State.repairApply

/-! ### Commands (R527 to R529, Table 19-6) -/

/-- A command is refused. -/
def State.drgRefuse (s : State) (why : Nat) : State := (s.wr F.DRG_STAT_REFUSED 1).wr F.DRG_STAT_REASON why

/-- A command begins. -/
def State.drgBegin (s : State) (j : DrgJob) : State := (s.wr F.DRG_STAT_BUSY 1).modDrg fun d => { d with job := some j }

/-- OP 1 (R529). -/
def State.drgTest (s : State) (x : Nat) : State :=
  let st := s.rd F.DRG_INST_STATE x
  let kind := decide (x < 264) || (instEng x).isSome || (instCluster x).isSome
  if !s.runOrDip then s.drgRefuse 3
  else if !kind || !(st == 1 || st == 3 || st == 4) then s.drgRefuse 2
  else
    let s := s.modDrg fun d => { d with before := st, ready := d.ready.filter fun y => !(instGroup x).contains y }
    let s := (instGroup x).foldl (fun s y => s.instState y 2) s
    let s := match instEng x with
      | some e => s.wr F.OUT_ENG_STAT_ROLE 4 e
      | none => match instCluster x with
        | some p => s.wr F.LOCH_CLUSTER_STAT_ROLE 2 p
        | none => s
    s.drgBegin (.test x)

/-- The spare for a planned substitution of instance `x`, as an instance number (R528). -/
def State.swapSpare (s : State) (x : Nat) : Option Nat :=
  if x < 264 then (if (s.logicalOf x).isSome then s.spareBanks.head? else none)
  else match instEng x with
    | some e =>
      if s.role e = 1 || s.role e = 2 then
        ((List.range 12).find? fun k => s.role k == 3 && (engInsts k).all s.drg.ready.contains).map fun k => 0x110 + 3 * k
      else none
    | none => match instCluster x with
      | some p =>
        if s.clActive p then
          ((List.range 17).find? fun k => s.rd F.LOCH_CLUSTER_STAT_ROLE k == 1 && s.drg.ready.contains (0x160 + k)).map (0x160 + ·)
        else none
      | none => none

/-- A dispatch of logical cluster `lc` is preempted for a substitution: it is saved as Table 14-3 says, and resumes on the
spare. -/
def State.swapOut (s : State) (lc : Nat) (j : LJob) (d : Dispatch) : State :=
  if d.at_ = .running lc then
    ((s.modDisp j.cove j.q d.seq fun x => { x with at_ := .saving lc (s.saves + 1) }).inc F.LOCH_PREEMPTS_COUNT 1).inc
      F.LOCH_CTX_PREEMPTED_COUNT 1 j.cove j.q
  else if d.at_ = .taking lc then s.modDisp j.cove j.q d.seq fun x => { x with at_ := .waiting }
  else s

/-- OP 2 (R528): a Tarn bank is retired first; a cluster's dispatches are preempted. -/
def State.drgSwap (s : State) (x : Nat) : State :=
  if !s.runOrDip then s.drgRefuse 3
  else match s.swapSpare x with
    | none => s.drgRefuse 2
    | some y =>
      let s := s.drgBegin (.swap x y)
      if x < 264 then
        (match s.logicalOf x with
         | some b => (s.wr F.TARN_BANK_MAP_RETIRE 1 b).bankCheck
         | none => s)
      else match instCluster x with
        | some p =>
          let lc := s.rd F.LOCH_CLUSTER_STAT_LOGICAL p
          s.each s.loch.jobs fun s j => s.each j.disps fun s d => s.swapOut lc j d
        | none => s

/-- OP 4 (R527). -/
def State.drgFuse (s : State) (k : Nat) : State :=
  if s.chip.phase ≠ .run then s.drgRefuse 3
  else if 256 ≤ s.rd F.DRG_FUSE_STAT_USED then s.drgRefuse 4
  else match s.drg.map[k]? with
    | none => s.drgRefuse 5
    | some e => if e.fused || !(e.kind == 1 || e.kind == 2) then s.drgRefuse 5 else s.drgBegin (.fuse k)

/-- A write of DRG_CMD with GO set: refused to the normal world, ignored while BUSY (Table 19-6). -/
def State.drgGo (s : State) (ini : Initiator) (op target : Nat) : State :=
  if !s.isSec ini then s.denied ini 0x7800000
  else
    let s := (s.wr F.DRG_CMD_OP op).wr F.DRG_CMD_TARGET target
    if s.on F.DRG_STAT_BUSY then s
    else match op with
      | 1 => s.drgTest target
      | 2 => s.drgSwap target
      | 4 => s.drgFuse target
      | _ => s.drgRefuse 1

/-- DRG_TEST. -/
def execDrgTest (ini : Initiator) (inst : BitVec 12) (s : State) : Ans := s.busBy ini fun s => .next (s.drgGo ini 1 inst.toNat)

/-- DRG_SWAP_IN. -/
def execDrgSwapIn (ini : Initiator) (inst : BitVec 12) (s : State) : Ans := s.busBy ini fun s => .next (s.drgGo ini 2 inst.toNat)

/-- DRG_FUSE. -/
def execDrgFuse (ini : Initiator) (entry : BitVec 12) (s : State) : Ans := s.busBy ini fun s => .next (s.drgGo ini 4 entry.toNat)

/-- The command ends with DONE. -/
def State.drgEnd (s : State) : State :=
  ((s.wr F.DRG_STAT_BUSY 0).wr F.DRG_STAT_DONE 1).modDrg fun d => { d with job := none }

/-- What the engine of instance `x` keeps of its march. -/
def keptOf (l : List InstMarch) (x : Nat) : MarchKept :=
  marchKept ((l.find? fun m => m.inst.val == x).getD { inst := Fin.ofNat 1024 x, desc := false, reads := [], badCols := [] })

/-- The block of an instance with spares, as the fault log numbers it (Table 05-7). -/
def instBlock (x : Nat) : BlockId :=
  match instEng x, instCluster x with
  | some e, _ => { unit := 11, inst := Fin.ofNat 512 e }
  | none, some p => { unit := 13, inst := Fin.ofNat 512 p }
  | none, none => { unit := 10, inst := Fin.ofNat 512 x }

/-- A tested instance joins the spares: it is isolated no longer. -/
def State.spareBack (s : State) (x : Nat) : State :=
  let s := (instGroup x).foldl (fun s y => s.instState y 1) s
  let s := s.modDrg fun d => { d with ready := d.ready ++ instGroup x }
  let s := s.modFab fun f => { f with isolated := f.isolated.filter (· != instBlock x) }
  match instEng x with
  | some e => s.setEng e 3 0 0
  | none => match instCluster x with
    | some p => s.wr F.LOCH_CLUSTER_STAT_ROLE 1 p
    | none => s

/-- TEST_DONE (R529): `marches` of the instances tested. -/
def execTestDone (marches : List InstMarch) (s : State) : Ans :=
  match s.drg.job with
  | some (.test x) =>
    let g := instGroup x
    let rs := g.map fun y => (y, decideInst s.drg.applied y (keptOf marches y))
    let worst := (rs.map fun r => r.2.1).foldl max 0
    let new := (rs.map fun r => r.2.2).flatten
    let s := s.each rs fun s r => s.wr F.DRG_INST_LAST r.2.1 r.1
    let s := s.each (new.filter fun e => e.kind != 3) State.repairApply
    let s := s.mapAdd new
    let s := if worst < 2 then s.spareBack x else g.foldl (fun s y => s.instState y 3) s
    let s := (s.wr F.DRG_STAT_RESULT worst).wr F.DRG_STAT_ROWS (min 255 ((g.map fun y => (keptOf marches y).count).sum))
    .next (s.drgEnd.raise 488 (x + 4096 * worst))
  | _ => .next s

/-- The freed block is UNTESTED (R528). -/
def State.freed (s : State) (x : Nat) : State := (instGroup x).foldl (fun s y => s.instState y 4) s

/-- A spare has gone into service. -/
def State.served (s : State) (y : Nat) : State :=
  ((instGroup y).foldl (fun s z => s.instState z 0) s).modDrg fun d =>
    { d with ready := d.ready.filter fun z => !(instGroup y).contains z }

/-- No spare of the kind of instance `y` remains: event 491 (R530). -/
def State.spareNone (s : State) (y : Nat) : State :=
  let left := if y < 264 then !s.spareBanks.isEmpty
    else match instEng y with
      | some _ => s.spareEng.isSome
      | none => (List.range 17).any fun k => s.rd F.LOCH_CLUSTER_STAT_ROLE k == 1
  s.when (!left) fun s => s.raise 491 y

/-- A frame of head `h` starts now, or none runs. -/
def State.frameEdge (s : State) (h : Nat) : Bool := (s.oh h).fsAt == s.elapsed || !(s.oh h).stage.frames

/-- SWAP_DONE (R528): the bank is EMPTY, the frame start or the end of the preemption has come. -/
def execSwapDone (s : State) : Ans :=
  match s.drg.job with
  | some (.swap x y) =>
    if x < 264 then
      match s.logicalOf x with
      | none => .next s
      | some b =>
        if !s.on F.TARN_BANK_MAP_EMPTY b then .next s
        else
          let s := ((s.wr F.TARN_BANK_MAP_PHYS y b).wr F.TARN_BANK_MAP_RETIRE 0 b).wr F.TARN_BANK_MAP_EMPTY 0 b
          .next ((((s.served y).freed x).drgEnd.raise 494 x).spareNone y)
    else match instEng x, instEng y with
      | some e, some k =>
        if !s.frameEdge (s.rd F.OUT_ENG_STAT_HEAD e) then .next s
        else
        let s := s.setEng k (s.role e) (s.rd F.OUT_ENG_STAT_HEAD e) (s.rd F.OUT_ENG_STAT_HALF e)
        .next (((((s.wr F.OUT_ENG_STAT_ROLE 4 e).served y).freed x).drgEnd.raise 494 x).spareNone y)
      | _, _ =>
        let p := x - 0x160
        let q := y - 0x160
        let lc := s.rd F.LOCH_CLUSTER_STAT_LOGICAL p
        if s.loch.jobs.any fun j => j.disps.any fun d => d.at_.occupies lc then .next s
        else
        let s := ((s.wr F.LOCH_CLUSTER_STAT_ROLE 2 p).wr F.LOCH_CLUSTER_STAT_ROLE 0 q).wr F.LOCH_CLUSTER_STAT_LOGICAL lc q
        let s := (s.wrB F.LOCH_SPARE_IN_USE (q == 16)).wr F.LOCH_SPARE_LOGICAL lc
        .next ((((s.served y).freed x).drgEnd.raise 494 x).spareNone y)
  | _ => .next s

/-- FUSE_PROGRAM_DONE (R527): the fuse entry is used in either case. -/
def execFuseProgramDone (ok : Bool) (s : State) : Ans :=
  match s.drg.job with
  | some (.fuse k) =>
    let e := s.drg.map.getD k { inst := 0, kind := 0, spare := 0, target := 0, fused := false, bad := false }
    let s := (s.inc F.DRG_FUSE_STAT_USED 1).modDrg fun d => { d with fuses := d.fuses ++ [{ e with fused := ok, bad := !ok }] }
    if ok then .next ((s.mapWrite (s.drg.map.set k { e with fused := true })).drgEnd.raise 492 k)
    else .next (s.drgEnd.raise 493 k)
  | _ => .next s

/-- A fault needs a spare of the kind that is under test, and no other is ready: the test is aborted (R530). The instance
substitutes at once when it was a spare. -/
def State.drgAbort (s : State) (same : Nat → Bool) : State :=
  match s.drg.job with
  | some (.test x) =>
    let other := s.drg.ready.any fun y => same y && s.rd F.DRG_INST_STATE y == 1
    if !same x || other then s
    else
      let s := ((s.wr F.DRG_STAT_RESULT 3).drgEnd).raise 489 x
      if s.drg.before = 1 then s.spareBack x else (instGroup x).foldl (fun t y => t.instState y s.drg.before) s
  | _ => s

/-- Kinds of instances for `drgAbort`. -/
def drgSameBank (x : Nat) : Bool := decide (x < 264)
def sameEng (x : Nat) : Bool := (instEng x).isSome
def sameCluster (x : Nat) : Bool := (instCluster x).isSome

end Sys2Proof.Machine
end

