-- ==== Sys2Proof/Machine/Fabric.lean ====
section
/-!
DEFINITION. Ripple: block arbiters (R17, R132 to R136), cells, retries and timeouts (R20, R127, R129), the fault log and
the Spillway's raise and clear (R139, R140, R142).
-/
namespace Sys2Proof.Machine

/-- The highest-numbered request present that is not masked (R17). -/
def arbWinner (n reqs masked : Nat) : Option Nat :=
  ((List.range (arbInputs n)).filter fun i => bit reqs i && !bit masked i).getLast?

/-- Give the grant of arbiter `n`. -/
def State.setGrant (s : State) (n : Nat) (w : Option Nat) : State :=
  (s.wr F.RIP_ARB_STAT_OWNER (w.getD 0x1F) n).wrB F.RIP_ARB_STAT_BUSY w.isSome n

/-- ARBITRATION_PHASE (R17, R132, R133, R136): `ready` are requesters that have become ready again, whose masks fall; the masks of
those that are in reset or powered down stay. FREEZE holds the grant and admits no new phase. -/
def execArbitrationPhase (n : Fin 289) (reqs ready : List Requester) (s : State) : Ans :=
  let s1 := s.wr F.RIP_ARB_STAT_MASKED (clearMask 24 (s.rd F.RIP_ARB_STAT_MASKED n.val) (arbMask n.val ready)) n.val
  if s.on F.RIP_ARB_CTRL_FREEZE n.val then .next s1
  else .next (s1.setGrant n.val (arbWinner n.val (arbMask n.val reqs) (s1.arbMasked n.val)))

/-- The owner of arbiter `n`'s grant is masked: its data phase ends, and the new phase begins with no owner (R136). -/
def State.maskedOwner (s : State) (n : Nat) : State :=
  if s.on F.RIP_ARB_STAT_BUSY n && bit (s.arbMasked n) (s.rd F.RIP_ARB_STAT_OWNER n) then s.setGrant n none else s

/-- The device has taken requesters down: grants that they own end (R136). -/
def State.sidebandsRise (s : State) : State := s.each (List.range 289) State.maskedOwner

/-- REQUESTER_MASKED (R136): the input is masked; if it owns the grant its data phase ends. -/
def execRequesterMasked (n : Fin 289) (input : Fin 24) (s : State) : Ans :=
  if arbInputs n.val ≤ input.val then .next s
  else .next ((s.wr F.RIP_ARB_STAT_MASKED (s.rd F.RIP_ARB_STAT_MASKED n.val ||| 2 ^ input.val) n.val).maskedOwner n.val)

/-- INFO of a block event (Table 05-10). -/
def blockInfo (b : BlockId) : Nat := b.inst.val + b.unit.val * 512

/-- Mark a block faulted, until its region isolates it. -/
def State.markFaulted (s : State) (b : BlockId) : State :=
  if s.fab.faulted.contains b || s.isIsolated b then s else s.modFab fun f => { f with faulted := f.faulted ++ [b] }

/-- Stall limit of a region in microseconds; 0 is taken as 1 (Table 05-6). -/
def State.stallUs (s : State) (r : Nat) : Nat := max (s.rd F.RIP_RGN_CFG_STALL_US r) 1

/-- CELL_STALL (R129, R139): longer than the region's limit marks the block faulted. -/
def execCellStall (b : BlockId) (w : Source) (us : Nat) (s : State) : Ans :=
  if us ≤ s.stallUs (regionOf b) then .next s
  else
    let t := s.srcTag w
    .next (((s.flogAdd 0 0 0 b t).markFaulted b).raise 33 (blockInfo b) t.cove t.secure)

/-- TRANSFER_ERROR (Table 01-4, R139): up to three retries add one entry; the fourth failure raises event 34 and
escalates to the region as a fault of KIND 3. -/
def execTransferError (b : BlockId) (w : Source) (ue : Bool) (fails : Nat) (s : State) : Ans :=
  let t := s.srcTag w
  if fails = 0 then .next s
  else if fails ≤ 3 then .next (s.flogAdd 1 1 (if ue then 2 else 1) b t)
  else .next (((s.flogAdd 1 1 3 b t).markFaulted b).raise 34 (blockInfo b) t.cove t.secure)

/-- REQUEST_TIMEOUT (R127, R128, R203): 2 ms without a response. The request stays tracked for a late response. -/
def execRequestTimeout (src : Source) (addr : Nat) (write : Bool) (us : Nat) (s : State) : Ans :=
  if us < 2000 then .next s
  else
    let t := s.srcTag src
    let s1 := s.modFab fun f => { f with timedOut := f.timedOut ++ [(t.cove, s.elapsed)] }
    .next ((s1.accessErr t addr 3 write).answer 0 true)

/-- LATE_RESPONSE (R127, R203): discarded and counted. -/
def execLateResponse (cove : Fin 32) (s : State) : Ans :=
  match s.fab.timedOut.find? fun e => e.1 == cove.val with
  | some e => .next ((s.modFab fun f => { f with timedOut := f.timedOut.erase e }).inc F.COVE_DISCARD_COUNT 1 cove.val)
  | none => .next (s.inc F.COVE_DISCARD_COUNT 1 cove.val)

/-- FLOG_POP (R139): removes the head entry; secure world only. -/
def execFlogPop (ini : Initiator) (s : State) : Ans :=
  s.busBy ini fun s =>
  if s.isSec ini then .next (s.modFab fun f => { f with flog := f.flog.tail }) else .next (s.denied ini 0x100058)

/-- SPILL_RAISED (R139, R140). -/
def execSpillRaised (r : Fin 7) (b : BlockId) (kind : Fin 6) (w : Source) (s : State) : Ans :=
  .next (s.spillRaise r.val (s.flogEntry 3 5 kind.val r.val b (s.srcTag w)))

/-- Region `r` is cleared: its bit falls, its timer stops and it goes on without its isolated blocks (Table 05-8). -/
def State.spillClearRegion (s : State) (r : Nat) : State :=
  if s.safe || !bit (s.rd F.RIP_SPILL_STAT_PENDING) r then s
  else s.wr F.RIP_SPILL_STAT_PENDING (s.rd F.RIP_SPILL_STAT_PENDING - 2 ^ r)

end Sys2Proof.Machine
end

