-- ==== Sys2Proof/Machine/Images.lean ====
section
/-!
DEFINITION. Troex images (chapter 04): their layout (R110, R111), the records of each section (Tables 04-6 to 04-8), the
acceptance checks (R112, R113, R116, R117 with R256, R259, R308, R340, R427, R471, R484, R490 and R505) and budgets (R118).
-/
namespace Sys2Proof.Machine

/-! ### Layout -/

/-- A directory entry (Table 04-2). -/
structure DirEnt where
  type : Nat
  sflags : Nat
  off : Nat
  len : Nat
  digest : List Byte
  clean : Bool
  deriving DecidableEq, Repr

/-- Directory entry `k` of an image. -/
def dirEnt (l : List Byte) (k : Nat) : DirEnt :=
  let o := 0x40 + 0x40 * k
  { type := leAt l o 2, sflags := leAt l (o + 2) 1, off := leAt l (o + 4) 4, len := leAt l (o + 8) 4, digest := slice l (o + 16) 48,
    clean := leAt l (o + 3) 1 == 0 && leAt l (o + 12) 4 == 0 && decide (leAt l (o + 2) 1 < 2) }

/-- DIR_COUNT. -/
def dirCount (l : List Byte) : Nat := leAt l 0x1E 2

/-- The directory. -/
def dirOf (l : List Byte) : List DirEnt := (List.range (min (dirCount l) 60)).map (dirEnt l)

/-- The bytes of a section. -/
def secBytes (l : List Byte) (e : DirEnt) : List Byte := slice l e.off e.len

/-- Header, directory and signature block. -/
def imageHead (l : List Byte) : List Byte := slice l 0 (0x40 + 0x40 * dirCount l + 192)

/-- The entry of a type in a directory, with its index. -/
def findDir (d : List DirEnt) (t : Nat) : Option (DirEnt × Nat) := (d.zipIdx.find? fun e => e.1.type == t)

/-- Types that Table 04-4 reads at step 4. -/
def step4Types : List Nat := [0x10, 0x11, 0x12, 0x13, 0x14, 0x15, 0x16, 0x17, 0x18, 0x19]

/-- Table 04-4: the type is known. -/
def knownType (t : Nat) : Bool :=
  step4Types.contains t || t == 0x20 || (decide (0x30 ≤ t) && decide (t ≤ 0x35)) || t == 0x40

/-- Integrator types (R116). -/
def integratorType (t : Nat) : Bool := decide (0x7000 ≤ t) && decide (t ≤ 0x7FFF)

/-- LENGTH of a known section (Table 04-4, R116). -/
def lengthOk (t n : Nat) : Bool :=
  let times (k m : Nat) : Bool := n % k == 0 && decide (1 ≤ n / k) && decide (n / k ≤ m)
  match t with
  | 0x10 => n == 256 | 0x11 => n == 1280 | 0x12 => n == 64 | 0x13 => n == 256 | 0x14 => n == 64 | 0x15 => n == 256
  | 0x16 => n == 384 | 0x17 => n == 32 | 0x18 => n == 1024 | 0x19 => n == 16 | 0x20 => decide (128 ≤ n) | 0x30 => n == 98496
  | 0x31 => n == 2048 | 0x32 => times 2048 16 | 0x33 => times 2056 64 | 0x34 => times 644 8
  | 0x35 => decide (12 ≤ n) && decide (n ≤ 65536) | 0x40 => decide (20 ≤ n)
  | _ => true

/-- Sections that a full image must hold, and those that only a boot image may (Tables 04-4, 04-10). -/
def requiredTypes : List Nat := [0x10, 0x11, 0x12, 0x13, 0x14, 0x15, 0x16, 0x17, 0x30, 0x40]
def bootOnlyTypes : List Nat := [0x19, 0x20, 0x40]

/-! ### Records (Tables 04-6 and 04-7) -/

def headRec (l : List Byte) (h : Nat) : HeadCfg :=
  let o := 32 * h
  let f := leAt l o 1
  let t (k : Nat) := leAt l (o + 4 + 2 * k) 2
  { en := bit f 0, safety := bit f 1, lead := bit f 2, follow := bit f 3, depth30 := bit f 4, genlockRef := bit f 5,
    layers := leAt l (o + 1) 1, latchLine := leAt l (o + 2) 2, hActive := t 0, hFront := t 1, hSync := t 2, hBack := t 3,
    vActive := t 4, vFront := t 5, vSync := t 6, vBack := t 7, pclk := leAt l (o + 20) 4, syncPol := leAt l (o + 24) 1,
    panelOn := leAt l (o + 25) 1, panelOff := leAt l (o + 26) 1, bg := leAt l (o + 28) 4 }

def layerRec (l : List Byte) (i : Nat) : LayerCfg :=
  let o := 20 * i
  let t (k : Nat) := leAt l (o + 4 + 2 * k) 2
  { owner := leAt l o 1, en := bit (leAt l (o + 1) 1) 0, secure := bit (leAt l (o + 1) 1) 1, scaler := leAt l (o + 2) 1,
    vTaps := leAt l (o + 3) 1, srcW := t 0, srcH := t 1, dstW := t 2, dstH := t 3, bpp := leAt l (o + 12) 1,
    staleLimit := leAt l (o + 13) 1, coefSet := leAt l (o + 14) 1, placeholder := leAt l (o + 16) 4 }

def portRec (l : List Byte) (n : Nat) : PortCfg :=
  let b (k : Nat) := leAt l (8 * n + k) 1
  { type := b 0, lanes := b 1, rate := b 2, lvdsMap := b 3, swing := b 4, preemph := b 5, als := b 6 }

def outRec (l : List Byte) (o : Nat) : AudioOut := { cls := leAt l (2 * o) 1, curve := leAt l (2 * o + 1) 1 }

def pslotRec (l : List Byte) (p : Nat) : PSlotCfg :=
  let b (k : Nat) := leAt l (192 + 4 * p + k) 1
  { kind := b 0, biquads := b 1, fs := b 2, slots := b 3 }

def hapticRec (l : List Byte) (c : Nat) : HapticCfg :=
  let b (k : Nat) := leAt l (4 * c + k) 1
  { kind := b 0, bridge := b 1, accCs := b 2, limit := b 3 }

def sensorRec (l : List Byte) (n : Nat) : SensorCfg :=
  let b (k : Nat) := leAt l (16 * n + k) 1
  { en := bit (b 0) 0, hasMutual := bit (b 0) 1, hasSelf := bit (b 0) 2, head := b 1, txFirst := b 2, txCount := b 3,
    rxFirst := b 4, rxCount := b 5, drive := b 6, rate := b 7, glove := b 8 }

def claimRec (l : List Byte) (k : Nat) : ClaimCfg :=
  let o := 64 + 12 * k
  { head := leAt l o 1, en := bit (leAt l (o + 1) 1) 0, x0 := leAt l (o + 4) 2, y0 := leAt l (o + 6) 2, x1 := leAt l (o + 8) 2,
    y1 := leAt l (o + 10) 2 }

def coveRec (l : List Byte) (c : Nat) : CoveCfg :=
  let o := 12 * c
  { en := bit (leAt l o 1) 0, ext := bit (leAt l o 1) 1, queues := leAt l (o + 1) 1, res := leAt l (o + 2) 2,
    loch := leAt l (o + 4) 2, bas := leAt l (o + 6) 2, pool := leAt l (o + 8) 2 }

def powerRec (l : List Byte) : PowerCfg :=
  { voteSec := leAt l 0 2, voteNs := leAt l 2 2, forceOff := leAt l 4 2, pfail := leAt l 6 2,
    groups := (List.range 14).map fun d => leAt l (8 + d) 1, pcapSec := leAt l 22 1, pcapNs := leAt l 23 1 }

def sealRec (l : List Byte) (u : Nat) : SealCfg :=
  let o := 16 * u
  let t (k : Nat) := leAt l (o + 2 + 2 * k) 2
  { en := bit (leAt l o 2) 0, static_ := bit (leAt l o 2) 1, x0 := t 0, y0 := t 1, x1 := t 2, y1 := t 3, expect := leAt l (o + 10) 4 }

def legalRec (l : List Byte) : LegalCfg :=
  { head := leAt l 0 1, window := leAt l 1 1, x0 := leAt l 4 2, y0 := leAt l 6 2, x1 := leAt l 8 2, y1 := leAt l 10 2 }

/-- A section laid over a configuration. -/
def layOver (m : Image) (t : Nat) (l : List Byte) : Image :=
  match t with
  | 0x10 => { m with heads := (List.range 8).map (headRec l) }
  | 0x11 => { m with layers := (List.range 64).map (layerRec l) }
  | 0x12 => { m with ports := (List.range 8).map (portRec l) }
  | 0x13 => { m with outs := (List.range 96).map (outRec l), pslots := (List.range 16).map (pslotRec l) }
  | 0x14 => { m with haptics := (List.range 16).map (hapticRec l) }
  | 0x15 => { m with sensors := (List.range 4).map (sensorRec l), claims := (List.range 16).map (claimRec l) }
  | 0x16 => { m with coves := (List.range 32).map (coveRec l) }
  | 0x17 => { m with power := powerRec l }
  | 0x18 => { m with seals := (List.range 64).map (sealRec l) }
  | 0x19 => { m with legal := some (legalRec l) }
  | 0x20 => { m with logo := l }
  | 0x30 => { m with colour := l }
  | 0x31 => { m with backlight := l }
  | 0x32 => { m with coef := l }
  | 0x33 => { m with waves := l }
  | 0x34 => { m with curves := l }
  | 0x35 => { m with stables := l }
  | 0x40 => { m with fw := l }
  | _ => m

/-! ### RANGE: reserved bytes and bits of a section -/

/-- Bytes of `l` at `o` are zero. -/
def zeroAt (l : List Byte) (o n : Nat) : Bool := leAt l o n == 0

/-- The top two bits of a colour are 0. -/
def colourOk (l : List Byte) (o : Nat) : Bool := decide (leAt l o 4 < 2 ^ 30)

/-- COLOUR's reserved bytes, in the records of the heads that `p` selects: safety heads' are read at step 6, the others' at step 11
(Table 04-4). -/
def colourRecsOk (l : List Byte) (p : Nat → Bool) : Bool :=
  (List.range 8).all fun h => !p h || (zeroAt l (12312 * h + 6162) 2 && zeroAt l (12312 * h + 12308) 4)

/-- Reserved bits and bytes of a section's records are 0; those of an ignored HEADS record and of a disabled claim are not
looked at (R117). -/
def reservedOk (t : Nat) (l : List Byte) : Bool :=
  let all (n : Nat) (p : Nat → Bool) : Bool := (List.range n).all p
  match t with
  | 0x10 => all 8 fun h => decide (leAt l (32 * h) 1 < 64) &&
      (!bit (leAt l (32 * h) 1) 0 || bit (leAt l (32 * h) 1) 3 ||
        (zeroAt l (32 * h + 27) 1 && colourOk l (32 * h + 28) && decide (leAt l (32 * h + 24) 1 < 4)))
  | 0x11 => all 64 fun i => decide (leAt l (20 * i + 1) 1 < 4) && zeroAt l (20 * i + 15) 1 && colourOk l (20 * i + 16)
  | 0x12 => all 8 fun n => zeroAt l (8 * n + 7) 1
  | 0x15 => (all 4 fun n => decide (leAt l (16 * n) 1 < 8) && zeroAt l (16 * n + 9) 7)
      && all 16 fun k => !bit (leAt l (64 + 12 * k + 1) 1) 0
        || (decide (leAt l (64 + 12 * k + 1) 1 < 2) && zeroAt l (64 + 12 * k + 2) 2)
  | 0x16 => all 32 fun c => decide (leAt l (12 * c) 1 < 4) && zeroAt l (12 * c + 10) 2
  | 0x17 => zeroAt l 24 8
  | 0x18 => all 64 fun u => decide (leAt l (16 * u) 2 < 4) && zeroAt l (16 * u + 14) 2
  | 0x19 => zeroAt l 2 2 && zeroAt l 12 4
  | 0x20 => all 8 fun h => zeroAt l (16 * h + 8) 8
  | 0x30 => colourRecsOk l fun _ => true
  | 0x31 => all 256 fun i => zeroAt l (8 * i + 6) 2
  | 0x33 => all (l.length / 2056) fun k => decide (leAt l (2056 * k) 1 < 2) && zeroAt l (2056 * k + 1) 1 && zeroAt l (2056 * k + 6) 2
  | 0x40 => zeroAt l 12 4
  | _ => true

/-! ### RANGE: sections read at step 4 -/

/-- What the sections read later hold, as far as step 4 asks: records of SCALER_COEF and SCALE_CURVES. -/
structure Counts where
  coefs : Nat
  curves : Nat
  deriving DecidableEq, Repr

/-- Pixels of a line, lines of a frame. -/
def HeadCfg.htotal (c : HeadCfg) : Nat := c.hActive + c.hFront + c.hSync + c.hBack
def HeadCfg.vtotal (c : HeadCfg) : Nat := c.vActive + c.vFront + c.vSync + c.vBack

/-- One of the three limits of a head's mode (R117). -/
def HeadCfg.modeOk (c : HeadCfg) : Bool :=
  let within (w h f : Nat) : Bool := decide (c.hActive ≤ w) && decide (c.vActive ≤ h) && decide (c.pclk * 1000 ≤ f * c.pixels)
  decide (0 < c.pixels) && (within 2560 1600 61 || within 1920 1200 121 || (c.lead && within 3840 2160 61))

/-- Head `h` is enabled and no follower. -/
def Image.live (m : Image) (h : Nat) : Bool := let c := m.heads.getD h default; c.en && !c.follow

def Image.hd (m : Image) (h : Nat) : HeadCfg := m.heads.getD h default

/-- HEADS (R117, R288, R308). -/
def Image.headsOk (m : Image) (mask : Nat) : Bool :=
  (List.range 8).all fun h =>
    let c := m.hd h
    if c.follow then h % 2 == 1 && (m.hd (h - 1)).lead && !c.en && !c.safety && !c.lead && !bit mask h
    else
      (!c.lead || (h % 2 == 0 && (m.hd (h + 1)).follow)) && (c.safety == bit mask h) && (!c.safety || c.en)
        && (!c.en || (decide (c.layers ≤ 8) && decide (c.panelOn ≤ 200) && decide (c.panelOff ≤ 200) && c.modeOk
          && decide (c.latchLine < c.vActive) && decide (25000 ≤ c.pclk) && decide (c.pclk ≤ 600000)))

/-- A value is `none_` or below `n`. -/
def orNone (v n none_ : Nat) : Bool := decide (v < n) || v == none_

/-- PORTS (R308, Table 04-7). -/
def Image.portsOk (m : Image) : Bool :=
  ((List.range 8).all fun n =>
    let c := m.hd n
    let p := m.ports.getD n default
    ((p.type != 0) == m.live n) &&
      (!m.live n || (decide (p.type < 4) && (p.lanes == 1 || p.lanes == 2 || p.lanes == 4) && decide (p.rate < 4)
        && decide (p.lvdsMap < 2) && decide (p.swing < 4) && decide (p.preemph < 4) && orNone p.als 4 255
        && (if p.type = 3 then
              p.rate == 0 && !c.lead && !c.depth30 && decide (40000 ≤ c.pclk) && decide (c.pclk ≤ 224000) && c.hActive % 2 == 0
                && c.hFront % 2 == 0 && c.hSync % 2 == 0 && c.hBack % 2 == 0
            else
              let r := match p.rate with | 0 => 162 | 1 => 270 | 2 => 540 | _ => 810
              decide (c.pclk * (if c.depth30 then 30 else 24) ≤ p.lanes * r * 8000)))))
  && decide ((((List.range 8).filter fun h => (m.hd h).safety).map fun h => if (m.hd h).lead then 2 else 1).sum ≤ 4)

/-- LAYERS (R117, R256, Table 04-6): every slot's fields, a disabled one's too; a slot of a head that is off has no active area to lie
in, and a disabled slot is served by no scaler. -/
def Image.layersOk (m : Image) (k : Counts) : Bool :=
  ((List.range 64).all fun i =>
    let s := m.layers.getD i default
    let c := m.hd (i / 8)
    decide (s.owner < 32) && decide (1 ≤ s.vTaps) && decide (s.vTaps ≤ 8) && decide (1 ≤ s.bpp) && decide (s.bpp ≤ 8)
      && orNone s.scaler 32 255 && (s.scaler == 255 || (orNone s.coefSet 16 255 && orNone s.coefSet k.coefs 255))
      && (!s.secure || s.owner == 0) && (m.coves.getD s.owner default).en
      && (!m.live (i / 8) || (decide (s.dstW ≤ c.hActive) && decide (s.dstH ≤ c.vActive)))
      && (!s.en || (m.live (i / 8) && decide (i % 8 < c.layers) && (!c.safety || s.secure)
        && !(s.scaler != 255 && decide (16 ≤ s.scaler) && bit m.power.forceOff 12))))
  && ((m.layers.filter fun s => s.en && s.scaler != 255).map (·.scaler)).Nodup

/-- Sampling rates in Hz of FS codes 0 to 8. -/
def fsHz (c : Nat) : Nat := [8000, 16000, 32000, 44100, 48000, 88200, 96000, 176400, 192000].getD c 0

/-- A processing slot is unused: its four bytes are 0 (R427). -/
def PSlotCfg.unused (p : PSlotCfg) : Bool := p.kind == 0 && p.biquads == 0 && p.fs == 0 && p.slots == 0

/-- AUDIO (R117, R427, Table 04-7). -/
def Image.audioOk (m : Image) (k : Counts) : Bool :=
  let ps (p : Nat) := m.pslots.getD p default
  ((List.range 16).all fun p =>
    let x := ps p
    x.unused || (decide (x.kind < 3) && decide (x.biquads ≤ 128) && decide (x.fs < 9) && decide (1 ≤ x.slots) && decide (x.slots ≤ 16)
      && (if x.kind = 2 then decide (x.slots ≤ x.biquads) else x.biquads == 0)
      && (decide (p < 8) || ((x.fs == 1 || x.fs == 2 || x.fs == 4) && x.slots == 1))))
  && ((List.range 4).all fun n =>
    (ps n).unused == (ps (n + 4)).unused && (ps n).fs == (ps (n + 4)).fs && (ps n).slots == (ps (n + 4)).slots
      && decide (fsHz (ps n).fs * (ps n).slots * 32 ≤ 24576000)
      && (List.range 16).all fun s => decide (s < (ps (n + 4)).slots) || (m.outs.getD (16 * n + s) default).cls == 0)
  && ((List.range 2).all fun c =>
    let used := ((List.range 4).map fun i => ps (8 + 4 * c + i)).filter fun x => !x.unused
    used.all fun x => used.all fun y => x.fs == y.fs)
  && m.outs.all fun o => decide (o.cls < 3) && orNone o.curve k.curves 255

/-- HAPTICS (R117, Table 04-7): LIMIT has a range for a piezo and for a voice coil, none for a channel that is off. -/
def Image.hapticsOk (m : Image) : Bool :=
  let on := m.haptics.filter fun c => c.kind != 0
  (m.haptics.all fun c => decide (c.kind < 3) && orNone c.accCs 8 255)
  && (on.all fun c => decide (1 ≤ c.limit) && decide (c.limit ≤ if c.kind = 1 then 100 else 40) && (c.kind == 1 || decide (c.bridge < 4)))
  && ((on.filter fun c => c.kind == 2).map (·.bridge)).Nodup && ((on.filter fun c => c.accCs != 255).map (·.accCs)).Nodup

/-- Microseconds of a scan frame (Table 17-1). -/
def SensorCfg.scanUs (c : SensorCfg) : Nat :=
  400 + (if c.hasSelf then 400 else 0) + (if c.hasMutual then c.txCount * (16 + 4 * c.glove) else 0)

/-- Half-open ranges do not overlap. -/
def apart (l : List (Nat × Nat)) : Bool := l.zipIdx.all fun a => l.zipIdx.all fun b =>
  a.2 == b.2 || decide (a.1.1 + a.1.2 ≤ b.1.1) || decide (b.1.1 + b.1.2 ≤ a.1.1)

/-- TOUCH (R117, R484, Table 04-7): DRIVE_VPP, RATE and GLOVE_MM of every sensor, and what is asked of the enabled ones. -/
def Image.touchOk (m : Image) : Bool :=
  let on := m.sensors.filter (·.en)
  (m.sensors.all fun c => decide (8 ≤ c.drive) && decide (c.drive ≤ 40) && decide (1 ≤ c.rate) && decide (c.rate ≤ 240) && decide (c.glove ≤ 6))
  && (on.all fun c => decide (c.head < 8) && m.live c.head && decide (1 ≤ c.txCount) && decide (1 ≤ c.rxCount) && (c.hasMutual || c.hasSelf)
    && decide (c.txFirst + c.txCount ≤ 128) && decide (c.rxFirst + c.rxCount ≤ 192) && decide (c.scanUs * c.rate ≤ 1000000))
  && apart (on.map fun c => (c.txFirst, c.txCount)) && apart (on.map fun c => (c.rxFirst, c.rxCount))
  && (m.claims.filter (·.en)).all fun k => (on.any fun c => c.head == k.head) && decide (k.x0 < k.x1) && decide (k.y0 < k.y1)
      && decide (k.x1 ≤ (m.hd k.head).hActive) && decide (k.y1 ≤ (m.hd k.head).vActive)

/-- COVES (R117, R187): shares lie in 0 to 1,024 (Table 07-6). -/
def Image.covesOk (m : Image) : Bool :=
  let c0 := m.coves.getD 0 default
  c0.en && !c0.ext && (m.coves.all fun c => decide (c.queues ≤ 64) && decide (c.res ≤ 1024) && decide (c.loch ≤ 1024)
    && decide (c.bas ≤ 1024) && decide (c.pool ≤ 1024))
  && decide (((m.coves.filter (·.en)).map (·.queues)).sum ≤ 512)

/-- POWER (R117, Table 04-7). -/
def Image.powerOk (m : Image) : Bool :=
  let p := m.power
  decide (p.voteSec < 2 ^ 14) && decide (p.voteNs < 2 ^ 14) && decide (p.forceOff < 2 ^ 14) && decide (p.pfail < 512)
    && bits p.pfail 7 6 == 0 && decide (10 ≤ bits p.pfail 5 0) && decide (bits p.pfail 5 0 ≤ 46) && p.groups.all (orNone · 14 255)
    && decide (15 ≤ p.pcapSec) && decide (p.pcapSec ≤ 45) && decide (15 ≤ p.pcapNs) && decide (p.pcapNs ≤ 45)

/-- SEALS (R117, R340): EXPECT is 0 in every record that is not STATIC. -/
def Image.sealsOk (m : Image) : Bool :=
  (List.range 64).all fun u =>
    let s := m.seals.getD u default
    let c := m.hd (u / 8)
    let w := if c.lead then 3840 else c.hActive
    let h := if c.lead then 2160 else c.vActive
    (s.static_ || s.expect == 0) && (!s.en || (m.live (u / 8) && decide (s.x0 < s.x1) && decide (s.x1 ≤ w) && decide (s.y0 < s.y1)
      && decide (s.y1 ≤ h)
      && !(s.static_ && (match m.legal with | some g => 8 * g.head + g.window == u | none => false))))

/-- LEGAL (R117, R505). -/
def Image.legalOk (m : Image) : Bool :=
  match m.legal with
  | none => true
  | some g =>
    let c := m.hd g.head
    let s := m.seals.getD (8 * g.head + g.window) default
    decide (g.head < 8) && decide (g.window < 8) && c.safety && decide (g.x0 < g.x1) && decide (g.y0 < g.y1) && g.x0 % 32 == 0
      && g.x1 % 32 == 0 && g.y0 % 32 == 0 && g.y1 % 32 == 0 && decide (g.x1 ≤ c.hActive) && decide (g.y1 ≤ c.vActive)
      && decide (g.x1 ≤ g.x0 + 1024) && decide (g.y1 ≤ g.y0 + 256) && s.en && !s.static_

/-- The RANGE conditions of a section read at step 4. -/
def Image.rangeOk (m : Image) (mask : Nat) (k : Counts) (t : Nat) : Bool :=
  match t with
  | 0x10 => m.headsOk mask | 0x11 => m.layersOk k | 0x12 => m.portsOk | 0x13 => m.audioOk k | 0x14 => m.hapticsOk
  | 0x15 => m.touchOk | 0x16 => m.covesOk | 0x17 => m.powerOk | 0x18 => m.sealsOk | 0x19 => m.legalOk
  | _ => true

/-! ### RANGE: sections read later -/

/-- Tile grid of a head. -/
def HeadCfg.gridW (c : HeadCfg) : Nat := ceilDiv c.hActive 32
def HeadCfg.gridH (c : HeadCfg) : Nat := ceilDiv c.vActive 32
def HeadCfg.gPer (c : HeadCfg) : Nat := if c.depth30 then 4 else 3

/-- BOOT_LOGO (R117, Table 04-8). -/
def logoOk (m : Image) (l : List Byte) : Bool :=
  (List.range 8).all fun h =>
    let t := leAt l (16 * h) 4
    let w := leAt l (16 * h + 4) 2
    let n := leAt l (16 * h + 6) 2
    let c := m.hd h
    t == 0 || (decide (t + 4 * w * n ≤ l.length) && (!c.safety || (w == c.gridW && n == c.gridH))
      && (List.range (w * n)).all fun k =>
        let e := leAt l (t + 4 * k) 4
        decide (e < 2 ^ 27) && decide (bits e 26 24 ≤ c.gPer) && (bits e 26 24 == 0
          || decide (16 * bits e 23 0 + 1024 * bits e 26 24 ≤ l.length)))

/-- BACKLIGHT: LUX strictly rises over the used points, which come first. -/
def backlightOk (l : List Byte) : Bool :=
  (List.range 8).all fun h => (List.range 31).all fun i =>
    let a := leAt l (256 * h + 8 * i) 4
    let b := leAt l (256 * h + 8 * (i + 1)) 4
    if a = 0xFFFFFFFF then b == 0xFFFFFFFF else decide (a < b)

/-- SCALER_COEF: each phase sums to 16,384 (R259). -/
def coefOk (l : List Byte) : Bool :=
  (List.range (l.length / 16)).all fun p => ((List.range 8).map fun k => sx 16 (leAt l (16 * p + 2 * k) 2)).sum == (16384 : Int)

/-- SCALE_CURVES: every GAIN lies in 0 to 0x7F_FFFF (R427). -/
def curvesOk (l : List Byte) : Bool := (List.range (l.length / 4)).all fun k => decide (leAt l (4 * k) 4 < 2 ^ 23)

/-- A row of a state table meets the codes of Table 16-3 (engine 1) or 17-3 (engine 0). -/
def rowOk (eng : Nat) (r : List Byte) : Bool :=
  let ev := leAt r 1 1
  decide (leAt r 0 1 < 16) && decide (leAt r 3 1 < 16) && (if eng = 1 then decide (ev < 8) && decide (leAt r 2 1 < 5)
    && decide (leAt r 4 2 < 1024) else decide (ev < 4) && decide (leAt r 2 1 < 3) && decide (leAt r 4 2 < 128))

/-- The packed tables of STATE_TABLES: engine, id and rows of each; nothing when they do not fill the section. -/
def packedTables : Nat → List Byte → Option (List (Nat × Nat × List (List Byte)))
  | 0, l => if l.isEmpty then some [] else none
  | n + 1, l =>
    if l.isEmpty then some []
    else
      let rows := leAt l 2 2
      if l.length < 4 + 8 * rows || rows = 0 || 256 < rows || 1 < leAt l 0 1 then none
      else match packedTables n (l.drop (4 + 8 * rows)) with
        | none => none
        | some t => some ((leAt l 0 1, leAt l 1 1, (List.range rows).map fun k => slice l (4 + 8 * k) 8) :: t)

/-- STATE_TABLES (R116, R471, R490): `used` are the table numbers that registers name, per engine. -/
def tablesOk (l : List Byte) (used : List (Nat × Nat)) : Bool :=
  match packedTables 32 l with
  | none => false
  | some t => (t.all fun x => x.2.2.all (rowOk x.1)) && (t.map fun x => (x.1, x.2.1)).Nodup
    && used.all fun u => u.2 == 255 || t.any fun x => x.1 == u.1 && x.2.1 == u.2

/-- SECURE_FW: LOAD_ADDR is 4 KiB-aligned. -/
def fwOk (l : List Byte) : Bool := leAt l 0 8 % 4096 == 0

/-- Tables that PLA_CHc_TABLE and SHA_SNSs_TABLE name. -/
def State.tablesNamed (s : State) : List (Nat × Nat) :=
  ((List.range 16).map fun c => (1, s.rd F.PLA_CH_TABLE_TABLE_ID c)) ++ (List.range 4).map fun n => (0, s.rd F.SHA_SNS_TABLE_TABLE_ID n)

/-- The RANGE conditions of a section read after step 4. -/
def lateOk (m : Image) (used : List (Nat × Nat)) (t : Nat) (l : List Byte) : Bool :=
  match t with
  | 0x20 => logoOk m l | 0x31 => backlightOk l | 0x32 => coefOk l | 0x34 => curvesOk l | 0x35 => tablesOk l used | 0x40 => fwOk l
  | _ => true

/-! ### Budgets (R118, R505) -/

/-- G_h of an enabled head that is no follower. -/
def Image.headGrans (m : Image) (h : Nat) : Nat :=
  let c := m.hd h
  if m.live h then c.gridW * c.gridH * c.gPer else 0

/-- Granules of the NVR tiles (R505). -/
def Image.nvrGrans (m : Image) : Nat :=
  match m.legal with
  | some g => (g.x1 - g.x0) / 32 * ((g.y1 - g.y0) / 32) * (m.hd g.head).gPer
  | none => 0

def Image.tarnBudget (m : Image) : Bool :=
  let g := (List.range 8).map m.headGrans
  decide (g.sum + m.nvrGrans + g.foldl max 0 ≤ 131072)

def Image.linebufBudget (m : Image) : Bool :=
  m.layers.all fun s => !s.en || s.scaler == 255 || decide (s.srcW * s.vTaps ≤ 32768)

/-- Enabled slots of head `h`. -/
def Image.slotsOn (m : Image) (h : Nat) : List LayerCfg := (((m.layers.drop (8 * h)).take 8).filter (·.en))

def Image.composeBudget (m : Image) : Bool :=
  (List.range 8).all fun h =>
    let c := m.hd h
    !m.live h || decide (c.pclk * 1000 * ((m.slotsOn h).map fun s => max (s.srcW * s.srcH) (s.dstW * s.dstH)).sum
      ≤ (if c.lead then 2 else 1) * 1200000000 * c.pixels)

/-- Demand of the slots that `p` selects: Σ f_h × S_s × BPP_s. -/
def Image.demand (m : Image) (p : LayerCfg → Bool) : Rat :=
  ((List.range 8).map fun h =>
    let c := m.hd h
    if m.live h then
      ((c.pclk * 1000 : Nat) : Rat) * ((((m.slotsOn h).filter p).map fun s => s.srcW * s.srcH * s.bpp).sum : Nat) / ((c.pixels : Nat) : Rat)
    else 0).sum

def Image.shareBudget (m : Image) : Bool :=
  let on := m.coves.filter (·.en)
  let unit : Rat := 75000000
  let sec := ((m.demand (·.secure)) / unit).ceil.toNat
  ((List.range 32).all fun c => !(m.coves.getD c default).en
    || decide (m.demand (fun s => !s.secure && s.owner == c) ≤ (((m.coves.getD c default).res : Nat) : Rat) * unit))
  && decide ((on.map (·.res)).sum + sec ≤ 1024) && decide ((on.map (·.loch)).sum ≤ 1024) && decide ((on.map (·.bas)).sum ≤ 1024)
  && decide ((on.map (·.pool)).sum ≤ 1024)

def Image.biquadBudget (m : Image) : Bool := decide ((m.pslots.map (·.biquads)).sum ≤ 512)

/-- The first budget check that fails: its code, or 0. -/
def Image.budgets (m : Image) : Nat :=
  if !m.tarnBudget then 0x0B else if !m.linebufBudget then 0x0C else if !m.composeBudget then 0x0D
  else if !m.shareBudget then 0x0E else if !m.biquadBudget then 0x0F else 0

/-! ### Checks 0x02 to 0x08 (Table 04-3) -/

/-- Sections lie behind the signature block, within IMAGE_SIZE, aligned and apart. -/
def extentsOk (l : List Byte) (d : List DirEnt) : Bool :=
  (d.all fun e => e.off % 64 == 0 && decide (0x40 + 0x40 * d.length + 192 ≤ e.off) && decide (e.off + e.len ≤ leAt l 8 4))
    && apart (d.map fun e => (e.off, e.len))

/-- Types rise strictly. -/
def rising : List Nat → Bool
  | a :: b :: l => decide (a < b) && rising (b :: l)
  | _ => true

/-- FORMAT. -/
def formatOk (l : List Byte) (delta : Bool) : Bool :=
  let d := dirOf l
  slice l 0 4 == [0x54, 0x52, 0x58, 0x49] && leAt l 4 1 == 1 && leAt l 6 2 == b2n delta && decide (leAt l 8 4 ≤ 16777216)
    && decide (leAt l 0x1A 1 < 4) && decide (leAt l 0x1D 1 < 32) && decide (leAt l 0x20 1 < 2) && (slice l 0x21 31).all (· == 0)
    && decide (1 ≤ dirCount l) && decide (dirCount l ≤ 60) && (d.all (·.clean)) && rising (d.map (·.type)) && extentsOk l d

/-- KEY: skipped while both slots are unprogrammed (R114). -/
def State.keyOk (s : State) (l : List Byte) : Bool :=
  let k := leAt l 0x20 1
  let o := 0x40 + 0x40 * dirCount l
  s.on F.CHIP_KEY_STAT_UNKEYED || (bit (s.rd F.CHIP_KEY_STAT_PROG) k && !bit (s.rd F.CHIP_KEY_STAT_REVOKED) k
    && Config.sha384 (slice l o 96) == s.chip.keyDigest.getD k [])

/-- SIGNATURE (R111). -/
def sigOk (l : List Byte) : Bool :=
  let o := 0x40 + 0x40 * dirCount l
  Config.ecdsaP384 (slice l o 96) (slice l 0 o) (slice l (o + 96) 96)

/-- PART. -/
def State.partOk (s : State) (l : List Byte) : Bool :=
  leAt l 0x18 2 == s.rd F.CHIP_ID_PART && bit (leAt l 0x1A 1) (if s.isMA then 0 else 1)
    && decide (leAt l 0x1B 1 ≤ 16 * s.rd F.CHIP_ID_STEP_MAJOR + s.rd F.CHIP_ID_STEP_MINOR)

/-- STRAP. -/
def State.strapOk (s : State) (l : List Byte) : Bool :=
  leAt l 0x1C 1 == s.rd F.CHIP_STRAP_SAFE_MASK
    && bit (leAt l 0x1D 1) (if s.rd F.CHIP_STRAP_MODE < 3 then 4 else s.rd F.CHIP_STRAP_POSITION)

/-- CONTENT: what fails, or nothing: a directory index, or 255 for a section that is missing. -/
def State.contentBad (s : State) (l : List Byte) (delta : Bool) : Option Nat :=
  let d := dirOf l
  let bad (e : DirEnt) : Bool :=
    (!knownType e.type && !integratorType e.type && bit e.sflags 0) || (delta && bootOnlyTypes.contains e.type)
      || (e.type == 0x19 && !s.isMA) || !lengthOk e.type e.len
  match d.zipIdx.find? fun e => bad e.1 with
  | some e => some e.2
  | none => if !delta && !requiredTypes.all (fun t => d.any fun e => e.type == t) then some 255 else none

/-- Checks 0x02 to 0x08: code and section index of the first that fails. -/
def State.headChecks (s : State) (l : List Byte) (delta : Bool) : Option (Nat × Nat) :=
  if !formatOk l delta then some (2, 255)
  else if !s.keyOk l then some (3, 255)
  else if !sigOk l then some (4, 255)
  else if leAt l 0x0C 4 < s.rd F.CHIP_IMG_MINVER_MINVER then some (5, 255)
  else if !s.partOk l then some (6, 255)
  else if !s.strapOk l then some (7, 255)
  else match s.contentBad l delta with
    | some k => some (8, k)
    | none => none

/-! ### Checks 0x09 to 0x0F -/

/-- The section matches its digest. -/
def digestOk (e : DirEnt) (b : List Byte) : Bool := Config.sha384 b == e.digest

/-- The configuration of the sections of types `ts`, laid over `m`. -/
def layAll (l : List Byte) (ts : List Nat) (m : Image) : Image :=
  ((dirOf l).filter fun e => ts.contains e.type).foldl (fun m e => layOver m e.type (secBytes l e)) m

/-- Records of SCALER_COEF and SCALE_CURVES: as the directory gives them, or as the configuration holds them. -/
def countsOf (l : List Byte) (m : Image) : Counts :=
  let n (t len old : Nat) := match findDir (dirOf l) t with | some e => e.1.len / len | none => old
  { coefs := n 0x32 2048 (m.coef.length / 2048), curves := n 0x34 644 (m.curves.length / 644) }

/-- DIGEST, RANGE and the budgets over sections of types `ts`; `base` is the configuration that they are laid over. -/
def State.bodyChecks (s : State) (l : List Byte) (ts : List Nat) (base : Image) : Option (Nat × Nat) :=
  let d := dirOf l
  let covered := d.zipIdx.filter fun e => ts.contains e.1.type
  match covered.find? fun e => !digestOk e.1 (secBytes l e.1) with
  | some e => some (9, e.2)
  | none =>
    let m := layAll l ts base
    let k := countsOf l base
    let rawBad := covered.find? fun e => !reservedOk e.1.type (secBytes l e.1) || !lateOk m s.tablesNamed e.1.type (secBytes l e.1)
    let cfgBad := step4Types.find? fun t => !m.rangeOk (s.rd F.CHIP_STRAP_SAFE_MASK) k t
    match rawBad, cfgBad with
    | some e, some t => some (0x0A, if e.1.type ≤ t then e.2 else (match findDir d t with | some x => x.2 | none => 255))
    | some e, none => some (0x0A, e.2)
    | none, some t => some (0x0A, match findDir d t with | some x => x.2 | none => 255)
    | none, none => let b := m.budgets; if b = 0 then none else some (b, 255)

end Sys2Proof.Machine
end

