-- ==== Sys2Proof/Machine/Sounding.lean ====
section
/-!
DEFINITION. Sounding (chapter 12): expected entries (R345, R348), the seal of a window and its result (R342 to R346), and
the general units (R353, R354, R357).
-/
namespace Sys2Proof.Machine

/-! ### Expected entries -/

/-- The push of an entry is refused: FULL, LATE, LEGAL or STATIC in the order of R345. -/
def State.pushRefusal (s : State) (u seq : Nat) (viaLink : Bool) : Option Nat :=
  let k := s.unit u
  if 16 ≤ k.entries.length then some 0
  else if s.rd F.SND_UNIT_RES_STAT_STATUS u ≠ 0 && !newer seq (s.rd F.SND_UNIT_RES_SEQ_SEQ u) then some 1
  else if s.legalUnit = some u && !viaLink then some 2
  else if k.cfg.static_ then some 3
  else none

/-- Push an entry, or refuse it: REFUSED, REASON and event 323 (R345). -/
def State.pushEntry (s : State) (u seq value tag : Nat) (viaLink : Bool) : State × Option Nat :=
  match s.pushRefusal u seq viaLink with
  | some r =>
    (((s.wr F.SND_UNIT_EXP_STAT_REFUSED 1 u).wr F.SND_UNIT_EXP_STAT_REASON r u).raise 323 (u + 256 * r), some r)
  | none => (s.modUnit u fun k => { k with entries := k.entries ++ [{ seq := seq, value := value, tag := tag }] }, none)

/-- Empty a unit's table. -/
def State.flushEntries (s : State) (u : Nat) : State := s.modUnit u fun k => { k with entries := [] }

/-- Offset of SND_UNITu_EXP_PUSH. -/
def expPushOff (u : Nat) : Nat := 0x4800018 + 0x100 * u

/-- SEAL_EXP_PUSH (R345): GO with TAG, and FLUSH applied before it when both are written. -/
def execSealExpPush (ini : Initiator) (u : Fin 64) (tag : BitVec 8) (flush : Bool) (s : State) : Ans :=
  s.busBy ini fun s =>
  if !s.isSec ini then .next (s.denied ini (expPushOff u.val))
  else
    let s1 := if flush then s.flushEntries u.val else s
    .next (s1.pushEntry u.val (s.rd F.SND_UNIT_EXP_SEQ_SEQ u.val) (s.rd F.SND_UNIT_EXP_VAL_VALUE u.val) tag.toNat false).1

/-- SEAL_EXP_FLUSH (R345). -/
def execSealExpFlush (ini : Initiator) (u : Fin 64) (s : State) : Ans :=
  s.busBy ini fun s =>
  if !s.isSec ini then .next (s.denied ini (expPushOff u.val)) else .next (s.flushEntries u.val)

/-! ### The seal -/

/-- The 16-byte prefix of a display seal (Table 12-1). -/
def State.sealPrefix (s : State) (u seq : Nat) : List Byte :=
  let c := (s.unit u).cfg
  let flags := b2n (s.head (u / 8)).depth30 + 2 * b2n c.static_ + 4 * b2n (s.legalUnit == some u)
  leBytes 1 (u / 8) ++ leBytes 1 (u % 8) ++ leBytes 2 flags ++ leBytes 4 (if c.static_ then 0 else seq) ++ leBytes 2 c.x0
    ++ leBytes 2 c.y0 ++ leBytes 2 c.x1 ++ leBytes 2 c.y1

/-- The bytes of one pixel under a seal (R344). -/
def pxBytes (deep : Bool) (v : Nat) : List Byte :=
  if deep then leBytes 4 (v % 2 ^ 30) else leBytes 1 (bits v 29 20) ++ leBytes 1 (bits v 19 10) ++ leBytes 1 (bits v 9 0)

/-- Positions of a window in raster order. -/
def SealCfg.positions (c : SealCfg) : List (Nat × Nat) :=
  (List.range (c.y1 - c.y0)).flatMap fun y => (List.range (c.x1 - c.x0)).map fun x => (c.x0 + x, c.y0 + y)

/-- The values at the pins of a window's pixels, when every pixel has been sent. -/
def State.windowPx (s : State) (u : Nat) : Option (List Nat) :=
  (s.unit u).cfg.positions.mapM fun p => s.pinPx (u / 8) p.1 p.2

/-- STATUS and TAG of a complete result (Table 12-2, rows 2 to 5). -/
def State.sealStatus (s : State) (u seq crc : Nat) (down : Bool) : Nat × Nat :=
  let k := s.unit u
  let mine := k.entries.filter fun e => e.seq == seq
  if down then (5, 0)
  else if k.cfg.static_ then (if crc = k.expect then 1 else 2, 0)
  else if mine.isEmpty then (3, 0)
  else match mine.find? fun e => e.value == crc with
    | some e => (1, e.tag)
    | none => (2, 0)

/-- SEAL_RESULT (R341, R346): `overflow`: the tap buffer overflowed; `noLink`: the link was down at some time from the window's
first line on. -/
def execSealResult (u : Fin 64) (overflow noLink : Bool) (s : State) : Ans :=
  let h := u.val / 8
  let k := s.unit u.val
  if !s.scanning h || !k.cfg.en || k.done then .next s
  else if overflow then .next (s.sealIncomplete u.val 1)
  else match s.windowPx u.val with
    | none => .next s
    | some px =>
      let seq := s.rd F.OUT_HEAD_SEQ_SEQ h
      let crc := crc32c (s.sealPrefix u.val seq ++ px.flatMap (pxBytes (s.head h).depth30))
      let r := s.sealStatus u.val seq crc (s.linkIsDown h || (noLink && (s.oh h).linkSeen))
      .next (s.sealDone u.val r.1 crc r.2 0)

/-! ### General units -/

/-- The check that unit `g` runs. -/
def State.gen_ (s : State) (g : Nat) : Option GenCheck := s.snd.gens.getD g none

/-- Unit `g` is armed: a check runs, or the cove manager holds it. -/
def State.genArmed (s : State) (g : Nat) : Bool := s.on F.SND_GEN_CFG_ARMED g

/-- Arm or disarm unit `g`. -/
def State.armGen (s : State) (g : Nat) (c : Option GenCheck) : State :=
  ((s.modSnd fun d => { d with gens := d.gens.set g c }).wrB F.SND_GEN_CFG_ARMED c.isSome g).wrB F.SND_GEN_STAT_BUSY c.isSome g

/-- The prefix of a general seal (Table 12-5). -/
def genPrefix (kind g : Nat) (secure : Bool) (cove gen len salt : Nat) : List Byte :=
  leBytes 1 (0x80 + kind) ++ leBytes 1 g ++ leBytes 2 (b2n secure) ++ leBytes 1 cove ++ leBytes 1 0 ++ leBytes 2 gen
    ++ leBytes 4 len ++ leBytes 4 salt

/-- End a check with a status and a seal: event 325 unless STALE, event 326 on MISMATCH. -/
def State.genEnd (s : State) (g : Nat) (k : GenCheck) (status crc : Nat) : State :=
  let s1 := s.armGen g none
  let s2 := ((s1.wr F.SND_GEN_STAT_DONE 1 g).wr F.SND_GEN_STAT_STATUS status g).wr F.SND_GEN_CRC_CRC crc g
  let s3 := if status = 5 then s2 else s2.raise 325 (g + 16 * status) k.cove k.secure
  if status = 2 then s3.raise 326 g k.cove k.secure else s3

/-- The reads of unit `g`'s check are done: its result (R353, R354). -/
def State.genFinish (s : State) (g : Nat) : State :=
  match s.gen_ g with
  | none => s
  | some k =>
    if !k.secure && k.gen != s.gen k.cove then (s.inc F.COVE_DISCARD_COUNT 1 k.cove).genEnd g k 5 0
    else match s.engRead (if k.secure then secTag s else s.coveTag k.cove) k.addr k.len with
      | (s1, .error _) => s1.genEnd g k 4 0
      | (s1, .ok l) =>
        let crc := crc32c (genPrefix 0 g k.secure k.cove k.gen k.len k.salt ++ l)
        let status := if !k.compare then 3 else if crc = k.expect then 1 else 2
        s1.genEnd g k status crc

/-- GEN_CHECK_START (R354, R356, R357): GO to an armed unit, or to one without power (R98), is ignored;
a check of no bytes completes at once. -/
def execGenCheckStart (ini : Initiator) (g : Fin 16) (c : Fin 32) (compare : Bool) (s : State) : Ans :=
  s.busBy ini fun s =>
  let n := g.val
  let sec := s.isSec ini
  if !(if s.on F.SND_GEN_CFG_SECURE n then sec else s.isCove0 ini) then .next (s.denied ini (0x481001C + 0x100 * n))
  else if s.genArmed n || !s.domainOn 13 then .next s
  else
    let s1 := s.armGen n (some
      { secure := sec, cove := if sec then 0 else c.val, gen := if sec then 0 else s.gen c.val,
        addr := s.rd F.SND_GEN_ADDR_ADDR n, len := s.rd F.SND_GEN_LEN_LENGTH n, salt := s.rd F.SND_GEN_SALT_SALT n,
        compare := compare, expect := s.rd F.SND_GEN_EXPECT_EXPECT n })
    .next (if s.rd F.SND_GEN_LEN_LENGTH n = 0 then s1.genFinish n else s1)

/-- GEN_DONE (R354): the unit has power until its result (R98). -/
def execGenDone (g : Fin 16) (s : State) : Ans :=
  if !s.domainUp 13 then .next s else .next (s.genFinish g.val)

end Sys2Proof.Machine
end

