-- ==== Sys2Proof/Machine/Wellhead.lean ====
section
/-!
DEFINITION. The Wellhead link and die (chapter 18): the main-die side (R503 to R509, R516), Wellhead's side of the seal path
(R506, R510), its identification, seal switch and audit trail (R511 to R513) and the verification UART (R514).
-/
namespace Sys2Proof.Machine

/-! ### The main-die side -/

/-- The link runs: JLK-8480-MA, from step 13 of the boot on (R504). -/
def State.welRuns (s : State) : Bool := s.isMA && s.wel.started

/-- A frame from Wellhead is taken: the link is up. -/
def State.welUp (s : State) : Bool := s.isMA && s.on F.WEL_STAT_LINK_UP

/-- A valid frame has come from Wellhead (R504). -/
def State.welRx (s : State) : State := s.modWel fun w => { w with lastRx := s.elapsed }

/-- A valid frame of an established link: `act` is its effect. -/
def State.welTake (s : State) (act : State → State) : Ans := if s.welUp then .next (act s.welRx) else .next s

/-- A bad frame (R503): counted; event 486 at most once per second. -/
def State.welBad (s : State) : State :=
  let s1 := s.inc F.WEL_MSG_ERR_COUNT 1
  let due := match s.wel.lastMsgErr with | none => true | some t => decide (t + 1000000000 ≤ s.elapsed)
  if due then (s1.modWel fun w => { w with lastMsgErr := some s.elapsed }).raise 486 else s1

/-- The body of BIND (Table 18-2): window and rectangle of the legal unit. -/
def State.bindBody (s : State) : List Byte :=
  let u := s.legalUnit.getD 0
  let c := (s.unit u).cfg
  leBytes 1 (u / 8) ++ leBytes 1 (u % 8) ++ leBytes 2 (b2n (s.head (u / 8)).depth30) ++ leBytes 2 c.x0 ++ leBytes 2 c.y0
    ++ leBytes 2 c.x1 ++ leBytes 2 c.y1 ++ leBytes 4 (s.rd F.SND_UNIT_RES_SEQ_SEQ u) ++ leBytes 8 s.tbs.now

/-- HELLO (R504): BIND is sent and the link is up; NO_PLANE is set at each link up (Table 18-3). -/
def execHello (s : State) : Ans :=
  if !s.welRuns then .next s
  else
    let s1 := s.welRx.welPut 0x83 s.bindBody
    .next (if s.on F.WEL_STAT_LINK_UP then s1 else ((s1.wr F.WEL_STAT_LINK_UP 1).raise 480).reason 5 true)

/-- KEEPALIVE (R504): it keeps the link up. -/
def execKeepalive (s : State) : Ans := s.welTake id

/-- WEL_SEND_TIMER (R504): HELLO every 1 ms until the link is up, KEEPALIVE after 1 ms without a frame, TIME every 100 ms. -/
def execWelSendTimer (slow : Bool) (s : State) : Ans :=
  if !s.welRuns then .next s
  else
    let up := s.on F.WEL_STAT_LINK_UP
    if slow then
      if up && decide (s.wel.lastTime + 100000000 ≤ s.elapsed) then
        .next ((s.welPut 0xB0 (leBytes 8 s.tbs.now)).modWel fun w => { w with lastTime := s.elapsed })
      else .next s
    else if s.elapsed < s.wel.lastTx + 1000000 then .next s
    else .next (if up then s.welPut 0x82 [] else s.welPut 0x81 (leBytes 4 ((hitsAt 0 0).map s.hitWord).sum))

/-- WEL_LINK_DOWN (R504, R508): 10 ms without a valid frame; both sides return to HELLO. A main die whose side is down leaves
Wellhead without frames too. -/
def execWelLinkDown (s : State) : Ans :=
  if !s.welUp then .next (s.modWhd fun w => { w with up := false })
  else if s.elapsed < s.wel.lastRx + 10000000 then .next s
  else
    let s1 := ((s.wr F.WEL_STAT_LINK_UP 0).modWel fun w => { w with rx := none }).modWhd fun w => { w with up := false }
    .next ((s1.raise 481).reason 2 true)

/-- WEL_MSG_ERR (R503). -/
def execWelMsgErr (s : State) : Ans := .next (if s.welRuns then s.welBad else s)

/-- PLANE_BEGIN (R506). -/
def execPlaneBegin (id : BitVec 16) (nvr : Bool) (w hgt validMs : BitVec 16) (s : State) : Ans :=
  s.welTake fun s => s.modWel fun x =>
    { x with rx := some { id := id.toNat, nvr := nvr, w := w.toNat, h := hgt.toNat, validMs := validMs.toNat, chunks := [] } }

/-- PLANE_DATA (R506): chunks in any order; a chunk sent again replaces the earlier one. DATA outside 1 to 1,024 bytes breaks
the LENGTH of Table 18-2 (R503). -/
def execPlaneData (id : BitVec 16) (offset : Word) (data : List Byte) (s : State) : Ans :=
  if s.welRuns && (data.isEmpty || decide (1024 < data.length)) then .next s.welBad
  else s.welTake fun s =>
    s.when (offset.toNat % 1024 == 0) fun s => s.modWel fun x => { x with rx := x.rx.map fun r =>
      if r.id = id.toNat then { r with chunks := (offset.toNat, data) :: r.chunks.filter fun c => c.1 != offset.toNat } else r }

/-- Data bytes of a plane of W x H (R506). -/
def planeLen (w h : Nat) : Nat := ceilDiv (w * h) 4

/-- Chunk offsets of a plane. -/
def planeOffsets (len : Nat) : List Nat := (List.range (ceilDiv len 1024)).map (1024 * ·)

/-- The chunk at an offset, when it is there in full length. -/
def PlaneRx.chunk (r : PlaneRx) (len o : Nat) : Option (List Byte) :=
  match r.chunks.find? fun c => c.1 == o with
  | some c => if min 1024 (len - o) ≤ c.2.length then some (c.2.take (min 1024 (len - o))) else none
  | none => none

/-- STATUS, MISSING and data of a transfer at its end (R506). -/
def State.planeStatus (s : State) (r : PlaneRx) (crc : Nat) : Nat × Nat × List Byte :=
  let len := planeLen r.w r.h
  let fits := match s.img.legal with
    | some l => r.w == l.x1 - l.x0 && r.h == l.y1 - l.y0
    | none => false
  if !fits then (2, 0, [])
  else match (planeOffsets len).find? fun o => (r.chunk len o).isNone with
    | some o => (3, o, [])
    | none =>
      let data := (planeOffsets len).flatMap fun o => (r.chunk len o).getD []
      if crc32c data ≠ crc then (1, 0, []) else if s.safe then (4, 0, []) else (0, 0, data)

/-- PLANE_END (R506, R507): answered with PLANE_ACK; an accepted plane waits for a latch point. -/
def execPlaneEnd (id : BitVec 16) (crc : Word) (s : State) : Ans :=
  s.welTake fun s =>
  match s.wel.rx with
  | none => s
  | some r =>
    if r.id != id.toNat then s
    else
      let p := s.planeStatus r crc.toNat
      let s1 := s.welSend 0x90 (leBytes 2 r.id ++ leBytes 1 p.1 ++ leBytes 1 0 ++ leBytes 4 p.2.1)
      if p.1 ≠ 0 then (s1.inc F.WEL_PLANE_REJ_COUNT 1).raise 484 p.1
      else if r.nvr then s1.modWel fun w => { w with rx := none, nvrWaiting := true, nvrData := p.2.2 }
      else s1.modWel fun w =>
        { w with rx := none, waiting := some { id := r.id, data := p.2.2, until_ := s.tbs.now + r.validMs * 1000000 } }

/-- A plane's validity starts again when `id` names it. -/
def Plane.renew (p : Plane) (id t : Nat) : Plane := if p.id = id then { p with until_ := t } else p

/-- REFRESH (R509): for the current reading plane, or for one that is still to be shown. -/
def execRefresh (id validMs : BitVec 16) (s : State) : Ans :=
  s.welTake fun s =>
    let t := s.tbs.now + validMs.toNat * 1000000
    let s1 := s.modWel fun w =>
      { w with current := w.current.map (·.renew id.toNat t), composing := w.composing.map (·.renew id.toNat t),
               waiting := w.waiting.map (·.renew id.toNat t) }
    if (s.wel.current.map (·.id)) = some id.toNat then s1.reason 1 false else s1

/-- SHOW_NVR (R508). -/
def execShowNvr (s : State) : Ans := s.welTake fun s => s.reason 0 true

/-- EXPECT (R351): a push into the legal window's unit; a refusal is answered EXP_REFUSED. -/
def execExpect (seq value : Word) (tag : BitVec 8) (s : State) : Ans :=
  s.welTake fun s =>
  match s.legalUnit with
  | none => s
  | some u =>
    match s.pushEntry u seq.toNat value.toNat tag.toNat true with
    | (s1, none) => s1
    | (s1, some r) => s1.welSend 0xA1 (leBytes 4 seq.toNat ++ leBytes 1 r ++ leBytes 3 0)

/-- FLUSH (R351). -/
def execFlush (s : State) : Ans :=
  s.welTake fun s =>
  match s.legalUnit with
  | some u => s.flushEntries u
  | none => s

/-- READING (R516, R517): event 485 at most once per 100 ms for each channel. -/
def execReading (c : Fin 2) (status : BitVec 6) (unit decimals : BitVec 8) (value measSeq : Word) (s : State) : Ans :=
  s.welTake fun s =>
    let n := c.val
    let s1 := ((s.wr F.WEL_READ_VAL_VALUE value.toNat n).wr F.WEL_READ_INFO_STATUS status.toNat n).wr F.WEL_READ_INFO_UNIT unit.toNat n
    let s2 := (s1.wr F.WEL_READ_INFO_DECIMALS decimals.toNat n).wr F.WEL_READ_SEQ_MEAS_SEQ measSeq.toNat n
    let due := match s.wel.lastReading.getD n none with | none => true | some t => decide (t + 100000000 ≤ s.elapsed)
    if due then (s2.modWel fun w => { w with lastReading := w.lastReading.set n (some s.elapsed) }).raise 485
      (n + 256 * status.toNat) else s2

/-- IDENT (R511): the 20-byte payload goes to WEL_IDENT0 to WEL_IDENT4; another LENGTH breaks Table 18-2 (R503). -/
def execIdent (payload : List Byte) (s : State) : Ans :=
  if s.welRuns && payload.length != 20 then .next s.welBad
  else s.welTake fun s =>
    (s.each (List.range 5) fun s k => s.wr F.WEL_IDENT_IDENT (leAt payload (4 * k) 4) k).raise 487 (leAt payload 18 1 % 2)

/-- NVR_EXPIRED (R508). -/
def execNvrExpired (s : State) : Ans :=
  match s.wel.current with
  | some p => if s.isMA && decide (p.until_ ≤ s.tbs.now) then .next (s.reason 1 true) else .next s
  | none => .next s

/-- FORCE_NVR_WRITE (R508, R516). -/
def execForceNvrWrite (ini : Initiator) (v : Bool) (s : State) : Ans :=
  s.busBy ini fun s =>
  if !s.isMA then .next s
  else if !s.isSec ini then .next (if b2n v = s.rd F.WEL_CTRL_FORCE_NVR then s else s.denied ini 0x7000004)
  else .next ((s.wrB F.WEL_CTRL_FORCE_NVR v).reason 4 v)

/-- PALETTE_WRITE (R507): the keep-clear tiles and the NVR tiles are forced at the next composition. -/
def execPaletteWrite (ini : Initiator) (k : Fin 4) (colour : BitVec 30) (s : State) : Ans :=
  s.busBy ini fun s =>
  if !s.isMA then .next s
  else if !s.isSec ini then .next (if colour.toNat = s.rd F.WEL_PAL_COLOUR k.val then s else s.denied ini (0x7000010 + 4 * k.val))
  else
    let s1 := s.wr F.WEL_PAL_COLOUR colour.toNat k.val
    match s.legalHead with
    | none => .next s1
    | some h => .next (s1.modHc h fun c =>
        { c with forced := (c.forced ++ s.legalTiles h).eraseDups, nvrForced := s.legalTiles h })

/-- At a frame start that swaps in a reading plane (R507, Table 18-3): PLANE_SHOWN, event 482, and the reasons that it
clears. -/
def State.welShown (s : State) (seq : Nat) : State :=
  match s.wel.composing with
  | none => s
  | some p =>
    let s1 := (s.modWel fun w => { w with current := some p, composing := none }).modWhd fun w =>
      match w.waiting with
      | some q => if s.on F.WEL_STAT_LINK_UP && q.id == p.id then { w with current := some q, waiting := none } else w
      | none => w
    let s2 := ((s1.wr F.WEL_STAT_PLANE_ID p.id).wr F.WEL_SHOWN_SEQ_SEQ seq).welSend 0x91
      (leBytes 2 p.id ++ leBytes 1 0 ++ leBytes 1 0 ++ leBytes 4 seq)
    let s3 := s2.raise 482 p.id
    let gone := if s.on F.WEL_STAT_LINK_UP then 0b100111 else 0b100011
    s3.setReasons (clearMask 6 (s3.rd F.WEL_STAT_REASONS) gone) seq

/-! ### Wellhead -/

/-- Wellhead sends a frame to the main die. -/
def State.whSend (s : State) (type : Nat) (body : List Byte) : State :=
  (s.send (.welFrame false (welBytes (s.whd.linkSeq % 65536) type body))).modWhd fun w => { w with linkSeq := w.linkSeq + 1 }

/-- IDENT's payload (Table 18-2). -/
def Whd.ident (w : Whd) : List Byte :=
  slice w.name 0 8 ++ leBytes 2 w.version ++ leBytes 4 w.checksum ++ leBytes 4 w.audit.length
    ++ leBytes 1 (b2n !w.sealOpen) ++ leBytes 1 0

/-- IDENT goes out at every link up and after every change (R511). -/
def State.whIdent (s : State) : State := if s.whd.up then s.whSend 0x31 s.whd.ident else s

/-- The trail is full (R513). -/
def Whd.full (w : Whd) : Bool := decide (4096 ≤ w.audit.length)

/-- An audit record (Table 18-4). -/
def Whd.mkRecord (w : Whd) (kind param old new : Nat) : List Byte :=
  let f := leBytes 4 w.audit.length ++ leBytes 1 kind ++ leBytes 1 (b2n w.time.isSome) ++ leBytes 2 param
    ++ leBytes 8 (w.time.getD 0) ++ leBytes 4 old ++ leBytes 4 new ++ leBytes 4 0
  f ++ leBytes 4 (crc32c f)

/-- Add a record; a full trail takes none. -/
def State.whRecord (s : State) (kind : Nat) (param old new : Nat := 0) : State :=
  if s.whd.full then s
  else (s.modWhd fun w => { w with audit := w.audit ++ [w.mkRecord kind param old new] }).whIdent

/-- BIND (R504, R511): Wellhead is up and sends IDENT. -/
def execBind (head window : Fin 8) (depth30 : Bool) (x0 y0 x1 y1 : BitVec 16) (seq : Word) (s : State) : Ans :=
  if !s.isMA then .next s
  else
    let b : WhBind := { head := head.val, window := window.val, depth30 := depth30, x0 := x0.toNat, y0 := y0.toNat,
                        x1 := x1.toNat, y1 := y1.toNat, seq := seq.toNat }
    .next ((s.modWhd fun w => { w with up := true, bind := some b, resultAt := s.elapsed }).whIdent)

/-- The value that Wellhead expects of a plane in a frame (R510): the prefix of Table 12-1 and the plane in its pin colours. -/
def Whd.value (w : Whd) (b : WhBind) (p : WhPlane) (seq : Nat) : Nat :=
  let f := leBytes 1 b.head ++ leBytes 1 b.window ++ leBytes 2 (b2n b.depth30 + 4) ++ leBytes 4 seq ++ leBytes 2 b.x0
    ++ leBytes 2 b.y0 ++ leBytes 2 b.x1 ++ leBytes 2 b.y1
  let n := (b.x1 - b.x0) * (b.y1 - b.y0)
  crc32c (f ++ (List.range n).flatMap fun i =>
    pxBytes b.depth30 (w.pins.getD (leAt p.data (i / 4) 1 / 4 ^ (i % 4) % 4) 0))

/-- Push an entry for a plane and a sequence: TAG is the low byte of PLANE_ID. -/
def State.whPush (s : State) (p : WhPlane) (seq : Nat) : State :=
  match s.whd.bind with
  | some b => s.whSend 0x20 (leBytes 4 seq ++ leBytes 4 (s.whd.value b p seq) ++ leBytes 1 p.id ++ leBytes 3 0)
  | none => s

/-- Planes that could be on the glass. -/
def Whd.candidates (w : Whd) : List WhPlane := w.current.toList ++ w.waiting.toList ++ w.nvr.toList

/-- Sequences to push after a RESULT of `seq`: up to three ahead. -/
def Whd.toPush (w : Whd) (seq : Nat) : List Nat :=
  ((List.range 3).map fun k => (seq + 1 + k) % 2 ^ 32).filter fun q =>
    match w.pushed with | none => true | some p => newer q p

/-- Sequences already pushed and still to come. -/
def Whd.pushedAhead (w : Whd) : List Nat :=
  match w.lastSeq, w.pushed with
  | some l, some p => ((List.range 3).map fun k => (l + 1 + k) % 2 ^ 32).filter fun q => q == p || newer p q
  | _, _ => []

/-- The chunks that Wellhead sends again for a status: the missing one, or all of them after a failed CRC. -/
def resendOffsets (status missing len : Nat) : List Nat :=
  match status with
  | 3 => [missing]
  | 1 => planeOffsets len
  | _ => []

/-- Send chunks and PLANE_END again. -/
def State.whResend (s : State) (id status missing : Nat) (data : List Byte) : State :=
  let s1 := s.each (resendOffsets status missing data.length) fun s o =>
    s.whSend 0x11 (leBytes 2 id ++ leBytes 2 0 ++ leBytes 4 o ++ (data.drop o).take 1024)
  s1.whSend 0x12 (leBytes 2 id ++ leBytes 2 0 ++ leBytes 4 (crc32c data))

/-- PLANE_ACK (R506, R510): `nvr` and `data` are the plane as Wellhead sent it. -/
def execPlaneAck (id : BitVec 16) (status : Fin 5) (missing : Word) (nvr : Bool) (data : List Byte) (s : State) : Ans :=
  if !s.whd.up then .next s
  else if status.val = 0 then
    let p : WhPlane := { id := id.toNat, data := data }
    let s1 := s.modWhd fun w =>
      if nvr then { w with nvr := some p, resent := none } else { w with waiting := some p, resent := none }
    .next (s1.each s.whd.pushedAhead fun s q => s.whPush p q)
  else
    let n := match s.whd.resent with | some (i, n) => if i = id.toNat then n else 0 | none => 0
    if 8 ≤ n then .next s
    else .next ((s.modWhd fun w => { w with resent := some (id.toNat, n + 1) }).whResend id.toNat status.val missing.toNat data)

/-- DISPLAY_FAULT is recorded and SHOW_NVR sent (R510). -/
def State.whFault (s : State) : State := ((s.modWhd fun w => { w with fault := true }).whRecord 5).whSend 0x14 []

/-- RESULT (R510). -/
def execResult (seq : Word) (status : Fin 6) (tag : BitVec 8) (s : State) : Ans :=
  if !s.whd.up then .next s
  else
    let w := s.whd
    let is := fun (p : Option WhPlane) => match p with | some q => q.id % 256 == tag.toNat | none => false
    let shown := status.val == 1 && is w.current
    let good := status.val == 1 && (is w.current || is w.nvr)
    let n := if good then 0 else w.badRow + 1
    let s1 := s.modWhd fun w =>
      { w with lastSeq := some seq.toNat, badRow := n, fault := w.fault && !good, displayed := shown, resultAt := s.elapsed }
    let s2 := if n = w.displayLimit && !good then s1.whFault else s1
    let l := w.toPush seq.toNat
    let s3 := s2.each l fun s q => s.each s.whd.candidates fun s p => s.whPush p q
    .next (match l.getLast? with | some q => s3.modWhd fun w => { w with pushed := some q } | none => s3)

/-- TIME (R513). -/
def execTime (t : BitVec 64) (s : State) : Ans :=
  if !s.whd.up then .next s else .next (s.modWhd fun w => { w with time := some t.toNat })

/-- RESULT_TIMEOUT (R510): the link is up and no RESULT has come for 200 ms. -/
def execResultTimeout (s : State) : Ans :=
  if s.whd.up && decide (s.whd.resultAt + 200000000 ≤ s.elapsed) then
    .next (s.modWhd fun w => { w with resultAt := s.elapsed }).whFault
  else .next s

/-- WH_RESET (R502): what the die does not keep starts again, valid readings among it until the checksum is computed anew;
parameters, firmware, the seal and the trail stay. -/
def execWhReset (s : State) : Ans :=
  if !s.isMA then .next s
  else .next (s.modWhd fun w =>
    { w with up := false, bind := none, time := none, linkSeq := 0, resent := none, current := none, waiting := none,
             nvr := none, lastSeq := none, pushed := none, badRow := 0, fault := false, displayed := false,
             showUntil := none, resultAt := 0, valid := true })

/-- SEAL_SWITCH (R512): a transition is recorded. -/
def execSealSwitch (isOpen : Bool) (s : State) : Ans :=
  if !s.isMA || isOpen == s.whd.sealOpen then .next s
  else
    let s1 := s.modWhd fun w => { w with sealOpen := isOpen }
    .next (if s.whd.full then s1.whIdent else s1.whRecord (if isOpen then 2 else 3))

/-- CHECKSUM_CHECK (R511): `computed` is the CRC-32C of the firmware as it stands. -/
def execChecksumCheck (computed : Word) (s : State) : Ans :=
  if !s.isMA then .next s
  else
    let c := computed.toNat
    let s1 := if c = s.whd.checksum then s else (s.modWhd fun w => { w with checksum := c }).whIdent
    if c = s.whd.stored then .next s1
    else .next (((s1.modWhd fun w => { w with valid := false }).whSend 0x14 []).whRecord 6)

/-! ### Verification UART -/

/-- ASCII bytes of a text. -/
def ascii (t : String) : List Byte := t.toList.map fun c => BitVec.ofNat 8 c.toNat

/-- Hexadecimal digits of `v`, `n` of them. -/
def hexDigits : Nat → Nat → List Byte
  | 0, _ => []
  | n + 1, v =>
    let d := v / 16 ^ n % 16
    BitVec.ofNat 8 (if d < 10 then 48 + d else 55 + d) :: hexDigits n v

/-- Decimal digits. -/
def decDigits (n : Nat) : List Byte := ascii (toString n)

/-- Send an answer: its fields separated by spaces, ending in CR LF. -/
def State.uart (s : State) (fields : List (List Byte)) : State :=
  s.send (.uart ((fields.intersperse [32]).flatten ++ [13, 10]))

/-- ID (R514). -/
def execIdCmd (s : State) : Ans :=
  if !s.isMA then .next s
  else
    let w := s.whd
    .next (s.uart [slice w.name 0 8, decDigits (w.version % 256) ++ [46] ++ decDigits (w.version / 256 % 256),
      hexDigits 8 w.checksum, decDigits w.audit.length, ascii (if w.sealOpen then "OPEN" else "SEALED")])

/-- AUDIT n (R514). -/
def execAudit (n : Nat) (s : State) : Ans :=
  if !s.isMA then .next s
  else match s.whd.audit[n]? with
    | some r => .next (s.uart [r.flatMap fun b => hexDigits 2 b.toNat])
    | none => .next (s.uart [ascii "ERR", ascii "2"])

/-- READ c (R514): the reading as Wellhead has it; VALID is withheld after a checksum failure (R511). -/
def execRead (c : Nat) (status : BitVec 6) (unit decimals : BitVec 8) (value measSeq : Word) (s : State) : Ans :=
  if !s.isMA then .next s
  else if 2 ≤ c then .next (s.uart [ascii "ERR", ascii "1"])
  else
    let st := if s.whd.valid then status.toNat else status.toNat / 2 * 2
    .next (s.uart [decDigits c, hexDigits 2 st, decDigits unit.toNat, decDigits decimals.toNat,
      (if value.toInt < 0 then [45] else []) ++ decDigits value.toInt.natAbs, decDigits measSeq.toNat])

/-- Value of sealed parameter `k`. -/
def Whd.param (w : Whd) (k : Nat) : Nat :=
  match Config.paramRole k with
  | 1 => w.displayLimit
  | 2 => w.pins.getD 0 0
  | 3 => w.pins.getD 1 0
  | 4 => w.pins.getD 2 0
  | 5 => w.pins.getD 3 0
  | _ => spGet w.params k 0

/-- Set sealed parameter `k`. -/
def Whd.setParam (w : Whd) (k v : Nat) : Whd :=
  match Config.paramRole k with
  | 1 => { w with displayLimit := v }
  | 2 => { w with pins := w.pins.set 0 v }
  | 3 => { w with pins := w.pins.set 1 v }
  | 4 => { w with pins := w.pins.set 2 v }
  | 5 => { w with pins := w.pins.set 3 v }
  | _ => { w with params := spSet 0 w.params k v }

/-- PARAM k (R514). -/
def execParam (k : BitVec 16) (s : State) : Ans :=
  if !s.isMA then .next s else .next (s.uart [decDigits (s.whd.param k.toNat)])

/-- SET k v (R512, R513, R514). -/
def execSetCmd (k : BitVec 16) (v : Word) (s : State) : Ans :=
  if !s.isMA then .next s
  else if !s.whd.sealOpen || s.whd.full then .next (s.uart [ascii "ERR", ascii "2"])
  else
    let old := s.whd.param k.toNat
    .next ((((s.modWhd fun w => w.setParam k.toNat v.toNat)).whRecord 1 k.toNat old v.toNat).uart [ascii "OK"])

/-- SHOWID (R511): the identification is shown in the plane for 10 s. -/
def execShowid (s : State) : Ans :=
  if !s.isMA then .next s
  else .next ((s.modWhd fun w => { w with showUntil := some (s.elapsed + 10000000000) }).uart [ascii "OK"])

end Sys2Proof.Machine
end

