-- ==== Sys2Proof/Machine/Frames.lean ====
section
/-!
DEFINITION. Frame starts and latch points (R268, R288 to R294, R302, R304, R319): what Basin captures, what a frame start makes
take effect in Basin, Outlet, Sounding, Wellhead and Portage, and the parts of a delta that heads take (Table 04-10).
-/
namespace Sys2Proof.Machine

/-! ### Latch points -/

/-- Enabled slots of head `h`. -/
def State.slotsOn (s : State) (h : Nat) : List Nat := ((List.range 8).map (8 * h + ·)).filter fun i => (s.layer i).en

/-- Slot `i` makes a composition start: it waits with a descriptor that may be taken, or is to be recomposed. -/
def State.slotWants (s : State) (i : Nat) : Bool :=
  (s.slot i).recompose || (match (s.slot i).pend with | some p => !s.heldBack i p | none => false)

/-- Head `h` carries the legal plane. -/
def State.isLegal (s : State) (h : Nat) : Bool := s.legalHead == some h

/-- Something makes a composition of head `h` start (R291, R302, R507, R508). -/
def State.wantsComp (s : State) (h : Nat) : Bool :=
  let c := s.hc h
  !c.forced.isEmpty || !c.nvrForced.isEmpty || c.bgChanged || c.imgChanged || !(s.evacTiles h).isEmpty
    || (s.slotsOn h).any s.slotWants || (s.isLegal h && (s.wel.waiting.isSome || s.wel.nvrWaiting))

/-- Tiles that a composition starting now is forced to compose (R291, R292, R302, R507). -/
def State.forcedNow (s : State) (h : Nat) : List Nat :=
  let c := s.hc h
  if c.bgChanged then List.range c.disp.length
  else (c.forced ++ s.evacTiles h ++ (if s.isLegal h && s.wel.waiting.isSome then s.legalTiles h else [])).eraseDups

/-- The latch point takes the waiting planes of the legal head (R507, R508). -/
def State.takePlanes (s : State) (h : Nat) : State :=
  if s.isLegal h then
    s.modWel fun w => { w with composing := w.waiting, waiting := none, nvrWaiting := false }
  else s

/-- The composition of head `h` that starts with the state captured now. -/
def State.capture (s : State) (h : Nat) (plans : List Plan) : Comp :=
  let legal := s.isLegal h
  let shown := if s.wel.waiting.isSome then s.wel.waiting else s.wel.current
  { seq := s.rd F.OUT_HEAD_SEQ_SEQ h, at_ := s.elapsed, plans := plans, forced := s.forcedNow h, bg := (s.head h).bg,
    plane := if legal then (shown.map (·.data)).getD [] else [],
    planeId := if legal then s.wel.waiting.map (·.id) else none,
    nvrPlane := s.wel.nvrData,
    nvrLeft := if legal && (s.wel.nvrWaiting || !(s.hc h).nvrForced.isEmpty) then s.legalTiles h else [],
    dirty := [], left := [], jobs := [], granted := false, resv := 0, complete := false, restart := false }

/-- Composition engine `e` serves: it is not isolated, or the spare covers it (09.10, Table 19-4). -/
def State.composerOk (s : State) (e : Nat) : Bool :=
  let b : BlockId := { unit := 9, inst := Fin.ofNat 512 e }
  !s.isIsolated b || (s.fab.covered.contains b && !s.isIsolated { unit := 9, inst := 8 })

/-- Head `h` has its composition engines: a pair has two. -/
def State.composer (s : State) (h : Nat) : Bool := s.composerOk h && (!(s.head h).lead || s.composerOk (h + 1))

/-- A composition starts at a latch point (R262, R291). -/
def State.latchStart (s : State) (h : Nat) : State :=
  match latchSlots (s.rd F.OUT_HEAD_SEQ_SEQ h) (s.slotsOn h) s with
  | (s1, plans) =>
    let c := s1.capture h plans
    let s2 := (s1.takePlanes h).modHc h fun k => { k with forced := [], nvrForced := [], bgChanged := false, imgChanged := false }
    (s2.beginComp h c).bankCheck

/-- LATCH_POINT (R289, R291): no composition starts before RUN, in chip safe state, or while one runs; one whose engine has
failed starts again on the spare (Table 19-4). -/
def execLatchPoint (h : Fin 8) (s : State) : Ans :=
  let n := h.val
  if !s.scanning n then .next s
  else
    let s1 := s.modHc n fun k => { k with latched := true }
    if !s.runOrDip || s.safe || !s.composer n then .next s1
    else match (s.hc n).cur with
      | some c => if c.restart then .next (s1.beginComp n { c with restart := false }) else .next s1
      | none => if s.wantsComp n then .next (s1.latchStart n) else .next s1

/-! ### Heads that a section enables or changes -/

/-- Maps of a head that is being enabled: every tile solid in BG_COLOUR, no owner (R304). -/
def State.solidMaps (s : State) (h : Nat) (force : Bool) : State :=
  let n := s.tileCount h
  let e : TileEntry := { count := 0, grans := [], colour := s.bgStored h, lost := false }
  s.modHc h fun k =>
    { k with disp := List.replicate n e, comp := List.replicate n e, own := List.replicate n 0, ownNew := List.replicate n 0,
             forced := if force then List.range n else [], cur := none, bgChanged := false }

/-- The COLOUR record of head `h`. -/
def colourRec (l : List Byte) (h : Nat) : List Byte := slice l (12312 * h) 12312

/-- Bytes `o` to `o + n - 1` of `l` replaced by those of `m`. -/
def spliceFrom (l m : List Byte) (o n : Nat) : List Byte := l.take o ++ slice m o n ++ l.drop (o + n)

/-- The COLOUR record of a section takes effect on head `h`. -/
def State.setColour (s : State) (h : Nat) (l : List Byte) : State :=
  (s.modImg fun m => { m with colour := spliceFrom m.colour l (12312 * h) 12312 }).modOh h fun o => { o with lut := colourRec l h }

/-- Windows of head `h` take the records of a SEALS section (R349). -/
def State.setSeals (s : State) (h : Nat) (l : List Byte) : State :=
  s.each ((List.range 8).map (8 * h + ·)) fun s u =>
    (s.modImg fun m => { m with seals := m.seals.set u (sealRec l u) }).wr F.SND_UNIT_STATIC_EXPECT (sealRec l u).expect u

/-- Fields that a HEADS record changes on a head that scans (Table 04-10). -/
def HeadCfg.retuned (c r : HeadCfg) : HeadCfg :=
  { c with latchLine := r.latchLine, bg := r.bg, panelOn := r.panelOn, panelOff := r.panelOff }

/-- A HEADS record takes effect on a head: EN 1 to 0 starts R332; a head that it enables comes up (R331, R307). -/
def State.setHead (s : State) (h : Nat) (r : HeadCfg) : State :=
  let c := s.head h
  if c.en && !r.en then s.modOh h fun o => { o with disabling := true }
  else if c.en then
    let s1 := s.modImg fun m => { m with heads := m.heads.set h (c.retuned r) }
    if r.bg = c.bg then s1 else s1.modHc h fun k => { k with bgChanged := true }
  else
    let s1 := s.modImg fun m => { m with heads := m.heads.set h r }
    if r.en then
      let s2 := (s1.solidMaps h true).modOh h fun o => { o with lut := colourRec s.img.colour h }
      (s2.headUp h).assignEngines
    else s1.assignEngines

/-- The part of a pending section that head `h` takes: HEADS, COLOUR, SEALS or SCALER_COEF (Table 04-10). -/
def State.takePart (s : State) (type h : Nat) : State :=
  match s.deltaOf type with
  | none => s
  | some p =>
    if !bit p.left h then s
    else
      let s1 := match type with
        | 0x10 => s.setHead h (headRec p.data h)
        | 0x30 => s.setColour h p.data
        | 0x18 => s.setSeals h p.data
        | _ => s
      let s2 := s1.deltaTake type (2 ^ h)
      if type = 0x32 && (s2.deltaOf 0x32).isNone then s2.modImg fun m => { m with coef := p.data } else s2

/-- Sections whose records heads take at their frame starts, in directory order. -/
def headTypes : List Nat := [0x10, 0x18, 0x30, 0x32]

/-- Heads that share the raster of head `h` (R312). -/
def State.rasterOf (s : State) (h : Nat) : List Nat := if (s.head h).lead then [h, h + 1] else [h]

/-- Delta parts that a frame start of head `h` makes take effect. -/
def State.frameDelta (s : State) (h : Nat) : State :=
  s.each (s.rasterOf h) fun s k => s.each headTypes fun s t => s.takePart t k

/-! ### Mirrors (R552) -/

/-- Place one tile of a mirrored frame: a solid one, or one in granules of this device. -/
def State.placeTile (s : State) (h : Nat) (t : Nat × Nat × List Byte) : State :=
  let put (s : State) (e : TileEntry) : State :=
    s.modHc h fun k => { k with disp := k.disp.set t.1 e, comp := k.comp.set t.1 e, own := k.own.set t.1 0, ownNew := k.ownNew.set t.1 0 }
  if t.2.2.isEmpty then put s { count := 0, grans := [], colour := t.2.1, lost := false }
  else match s.alloc (ceilDiv t.2.2.length 1024) with
    | (s1, gs) => put (s1.storeGrans gs t.2.2) { count := gs.length, grans := gs, colour := 0, lost := false }

/-- Mirror `m` swaps its head's map to a complete frame, when its tiles find granules (R293, R552). -/
def State.mirrorSwap (s : State) (h m : Nat) : State :=
  match s.ptg.mirrors.getD m none with
  | none => s
  | some b =>
    match b.frame with
    | none => s
    | some f =>
      if b.head ≠ h || s.safe || s.rankedAbove h || s.freeGrans < s.reserved + b.ready.length * s.gOf h then s
      else
        let b' : PtgMirror := { b with frame := none, ready := [] }
        let s1 := (s.each b.ready fun s t => s.placeTile h t).modPtg fun p => { p with mirrors := p.mirrors.set m (some b') }
        (s1.wr F.PTG_MIR_SEQ_SRC_SEQ f m).bankCheck

/-- The tile stream of a swap that made frame `seq`: entries that changed, or all of them, then SWAP_END (R552). -/
def State.streamOut (s : State) (h seq : Nat) (old : List TileEntry) (swapped : Bool) (e : Nat × Nat × Nat × Bool) : State :=
  if e.2.2.1 ≠ h || !(swapped || e.2.2.2) || !s.present e.1 then s
  else
    let tiles := (List.range (s.hc h).disp.length).filter fun k => e.2.2.2 || s.entry h k != nth old k default
    let s1 := s.each tiles fun s k =>
      s.msgTo e.1 14 (e.2.1 :: k :: (s.entry h k).colour :: (s.tileBytes (s.entry h k)).map (·.toNat))
    (s1.msgTo e.1 9 [e.2.1, seq]).modPtg fun p =>
      { p with streams := p.streams.map fun x => if x = e then (e.1, e.2.1, e.2.2.1, false) else x }

/-! ### Frame start -/

/-- Sequence, timestamp and flags of the frame that starts (R288, R318, R320); a head's first frame since reset is frame 0. -/
def State.frameCount (s : State) (h : Nat) (ab : Bool) : State :=
  let n := if (s.oh h).fsAt = 0 then s.rd F.OUT_HEAD_SEQ_SEQ h else s.rd F.OUT_HEAD_SEQ_SEQ h + 1
  let s1 := ((s.wr F.OUT_HEAD_SEQ_SEQ n h).wr F.OUT_HEAD_FS_TS_TS s.tbs.now h).wrB F.OUT_HEAD_STAT_ABORT ab h
  let s2 := if ab then s1 else s1.wr F.OUT_HEAD_ABORT_CONSEC 0 h
  (s2.modOh h fun o =>
    { o with fsAt := s.elapsed, aborting := false, scan := [], lostPx := [], under := [], underRaised := false, lowRaised := false,
             extra := 0, linkSeen := s.linkIsDown h }).raise 256 (h + 8 * b2n ab)

/-- Steps 5 and 6 of Table 11-9. -/
def State.frameStage (s : State) (h : Nat) (ab : Bool) : State :=
  match (s.oh h).stage with
  | .first => (s.modOh h fun o => { o with stage := .dark }).wr F.OUT_HEAD_STAT_ON 1 h
  | .dark =>
    if ab || (s.oh h).disabling then s
    else
      let s1 := (s.modOh h fun o => { o with stage := .lit }).modPins fun p => { p with blEn := p.blEn ||| 2 ^ h }
      (s1.wr F.OUT_HEAD_BL_STAT_DUTY (s.duty h) h).raise 274 h
  | _ => s

/-- Basin, Portage and Wellhead at the frame start (R294, R507, R508, R552). -/
def State.frameSwap (s : State) (h : Nat) (mapEcc : Option Nat) : State :=
  let seq := s.rd F.OUT_HEAD_SEQ_SEQ h
  let done := match (s.hc h).cur with | some c => c.complete | none => false
  let plane := match (s.hc h).cur with | some c => c.complete && c.planeId.isSome | none => false
  let old := (s.hc h).disp
  let s1 := s.basFrame h seq
  let s2 := match mapEcc with | some k => if done then s1.mapEcc h k else s1 | none => s1
  let s3 := if plane then s2.welShown seq else s2
  let s4 := if s.isLegal h then s3.wrB F.WEL_STAT_NVR (s3.rd F.WEL_STAT_REASONS != 0) else s3
  let s5 := s4.each (List.range 8) fun s m => s.mirrorSwap h m
  s5.each s5.ptg.streams fun s e => s.streamOut h seq old done e

/-- Sounding's windows of the head take the configuration in force (R349). -/
def State.frameSeals (s : State) (h : Nat) : State :=
  s.each ((List.range 8).map (8 * h + ·)) fun s u =>
    s.modUnit u fun k => { k with cfg := s.img.seals.getD u noSeal, expect := s.rd F.SND_UNIT_STATIC_EXPECT u, done := false }

/-- What the fault log said of the fault of block `b`, taken from the blocks that await a spare. -/
def State.faultNoted (s : State) (b : BlockId) : FlogEntry :=
  match s.fab.uncovered.find? fun u => u.1 == b with
  | some u => u.2
  | none => s.flogEntry 2 3 0 (regionOf b) b (secTag s)

/-- A spare has taken over block `b`: event 36, and ACTION 3 in the fault log (R139, Table 05-10). -/
def State.spareIn (s : State) (b : BlockId) (e : FlogEntry) : State :=
  ((s.modFab fun f => { f with covered := f.covered ++ [b], uncovered := f.uncovered.filter fun u => u.1 != b }).flogPut
    (e.again 2 3)).raise 36 (blockInfo b)

/-- The lost engine of `l` is substituted at a frame start of its head (R323): event 262; a substitute of a half that runs
unchecked joins as its checker, and SINGLE clears. -/
def State.substOne (s : State) (l : Nat × Nat × Nat) : State :=
  match s.spareEng with
  | none => s
  | some e =>
    let h := l.2.1
    let role := if (s.head h).safety && (s.engFor 1 h l.2.2).isSome then 2 else 1
    let s1 := ((s.setEng e role h l.2.2).modOut fun o => { o with lost := o.lost.erase l }).served (0x110 + 3 * e)
    let s2 := if role = 2 then s1.wr F.OUT_HEAD_STAT_SINGLE 0 h else s1
    let b : BlockId := { unit := 11, inst := Fin.ofNat 512 l.1 }
    ((s2.raise 262 (l.1 + 16 * e)).spareIn b (s.faultNoted b)).spareNone (0x110 + 3 * e)

/-- Substitutes of head `h` start (R323). -/
def State.substitute (s : State) (h : Nat) : State := s.each (s.out.lost.filter fun l => l.2.1 == h) State.substOne

/-- The engines' uncorrectable words count from 0 in each frame (Table 11-6). -/
def State.frameEngines (s : State) (h : Nat) : State :=
  (s.substitute h).each ((List.range 12).filter fun e => (s.role e == 1 || s.role e == 2) && s.rd F.OUT_ENG_STAT_HEAD e == h)
    fun s e => s.wr F.OUT_ENG_STAT_UE 0 e

/-- The master's genlock pulse (R58, R335). -/
def State.framePulse (s : State) (h : Nat) (ab : Bool) : State :=
  if s.isMaster && s.pins.sbDrive && s.refHead == some h && !ab then
    (s.send (.sbPulse false s.tbs.now)).modTbs fun t => { t with genCap := some s.tbs.now }
  else s

/-- A frame of head `h` starts. -/
def State.frameStart (s : State) (h : Nat) (mapEcc : Option Nat) : State :=
  let ab := (s.oh h).aborting
  let s1 := (s.frameCount h ab).frameSwap h mapEcc
  let s2 := ((s1.frameDelta h).frameEngines h).frameSeals h
  (s2.frameStage h ab).framePulse h ab

/-- FRAME_START (R288, R294, R319): a frame of head `h` starts; a follower's raster is its lead's. `mapEcc`: the swap finds an
uncorrectable word in the entry of a tile (R301). -/
def execFrameStart (h : Fin 8) (mapEcc : Option Nat) (s : State) : Ans :=
  if (s.oh h.val).stage.frames && !(s.head h.val).follow then .next (s.frameStart h.val mapEcc) else .next s

/-! ### The spare PLL (R324) -/

/-- PLL_SPARE_IN (R324): PLL 8 has replaced PLL p, and the head restarts, on a safety head with an abort of cause 3. -/
def execPllSpareIn (s : State) : Ans :=
  match s.out.pllSpare with
  | none => .next s
  | some p =>
    let h := s.rd F.OUT_PLL_STAT_HEAD 8
    let s1 := ((s.pllOff p).pllOn 8 h).modOut fun o => { o with pllSpare := none }
    let lit := bit s.pins.blEn h
    let s2 := (s1.modOh h fun o => { o with stage := if lit then .lit else .first }).wrB F.OUT_HEAD_STAT_ON lit h
    let s3 := if (s.head h).safety then s2.abortFrame h 3 else s2
    .next (s3.raise 265 p)

end Sys2Proof.Machine
end

