-- ==== Sys2Proof/Machine/Governor.lean ====
section
/-!
DEFINITION. The margin governor (R24, R25, R48, R77) and the test access port (R50).
-/
namespace Sys2Proof.Machine

/-! ### Margin governor -/

/-- Send the frame of a target code (R48, Table 02-4). -/
def State.vcoreSend (s : State) (code : Nat) : State :=
  (s.send (.vcoreFrame (0xA100 + code))).modGov fun g => { g with code := code, lastFrame := some s.elapsed }

/-- `ns` have passed since the last frame. -/
def State.frameDue (s : State) (ns : Nat) : Bool :=
  match s.gov.lastFrame with
  | none => true
  | some t => decide (t + ns ≤ s.elapsed)

/-- Governor threshold of a watched FIFO, in its own unit (Table 01-6 and its chapters: R313, R226, R541 and others). -/
def State.threshold (s : State) (f : Watched) : Nat :=
  match f with
  | .head h => s.fifoLow h.val
  | .tdmTx n => s.tdmLow n.val
  | .wdata _ => 4
  | .pcieTx => 1024
  | .portageTx _ => 2048

/-- The fill that a FIFO's registers show. -/
def State.fillShown (s : State) (f : Watched) (fill : Nat) : State :=
  match f with
  | .head h => s.showFill h.val fill
  | .pcieTx => s.modHost fun h => { h with txFill := fill }
  | _ => s

/-- A FIFO is no longer short. -/
def State.govAbove (s : State) (f : Watched) : State :=
  s.modGov fun g => { g with below := g.below.filter (· != f), raising := g.slowMonitor || g.below.any (· != f) }

/-- GOV_MARGIN (R24): the fill of a watched FIFO while its consumer is active; below the threshold the governor raises VCORE. -/
def execGovMargin (f : Watched) (fill : Nat) (active : Bool) (s : State) : Ans :=
  if !s.powered then .next s
  else
    let s1 := (s.fillShown f fill).govSeen f fill active
    if active && decide (fill < s1.threshold f) then .next (s1.govAlert f) else .next (s1.govAbove f)

/-- GOV_RAISE_STEP (R24): a step of 10 mV, at most one each microsecond; `below`: a FIFO is still below its threshold. At 0.85 V
event 2, once. -/
def execGovRaiseStep (below : Bool) (s : State) : Ans :=
  let slow := s.gov.slowMonitor && decide (s.gov.code < 24)
  if !s.powered || !s.gov.raising || !s.frameDue 1000 then .next s
  else if !below && !slow then .next (s.modGov fun g => { g with raising := false, slowMonitor := false })
  else if s.gov.code < 70 then .next (s.vcoreSend (min 70 (s.gov.code + 2)))
  else if s.gov.ceiling then .next s
  else .next ((s.modGov fun g => { g with ceiling := true }).raise 2)

/-- No watched FIFO has been short of its release threshold for 100 ms (R25). -/
def State.govClear (s : State) : Bool := s.gov.under.isEmpty && decide (s.gov.clearAt + 100000000 ≤ s.elapsed)

/-- GOV_LOWER_STEP (R25): after 100 ms above every release threshold; below 0.62 V only while every monitor is fast. -/
def execGovLowerStep (monitorsFast : Bool) (s : State) : Ans :=
  let floor := if monitorsFast then 10 else 24
  if !s.powered || !s.govClear || s.gov.raising || !s.gov.below.isEmpty || !s.frameDue 840 || s.gov.code < floor + 2 then .next s
  else .next ((s.vcoreSend (s.gov.code - 2)).modGov fun g => { g with ceiling := false })

/-- SPEED_MONITOR_SLOW (R25): below 0.62 V the governor raises VCORE under the rate of R24. -/
def execSpeedMonitorSlow (_r : Fin 7) (s : State) : Ans :=
  if s.powered && decide (s.gov.code < 24) then .next (s.modGov fun g => { g with slowMonitor := true, raising := true }) else .next s

/-- VCORE_FAULT (R77): low for 2 µs; the present target is sent again. -/
def execVcoreFault (us : Nat) (s : State) : Ans :=
  let s1 := s.modPins fun p => { p with vcoreOk := false }
  if !s.powered || us < 2 then .next s1 else .next ((s1.raise 3).vcoreSend s.gov.code)

/-! ### Test access port -/

/-- A target that a debug access reaches (R50). -/
def State.debugAllowed (s : State) (t : DebugTarget) : Bool :=
  match t with
  | .hart h => s.on F.CHIP_DEBUG_SEC_DEBUG || !s.on F.WEIR_HART_STAT_SECURE h.val
  | _ => s.on F.CHIP_DEBUG_SEC_DEBUG

/-- A write of CHIP_DEBUG (Table 02-4a). -/
def State.debugWrite_ (s : State) (ini : Initiator) (w : Nat) : State :=
  let changes := bit w 0 != s.on F.CHIP_DEBUG_JTAG_EN || bit w 1 != s.on F.CHIP_DEBUG_SEC_DEBUG
  if !s.isSec ini then (if changes || bit w 31 then s.denied ini 0x3C else s)
  else
    let s1 := if bit w 31 then s.wr F.CHIP_DEBUG_LOCK 1 else s
    if !changes || s.on F.CHIP_DEBUG_LOCK then s1
    else
      let s2 := (s1.wrB F.CHIP_DEBUG_JTAG_EN (bit w 0)).wrB F.CHIP_DEBUG_SEC_DEBUG (bit w 1)
      let keep : Option DebugTarget := match s.chip.debugReach with
        | some t => if bit w 0 && s2.debugAllowed t then some t else none
        | none => none
      (s2.modChip fun c => { c with bscan := if bit w 0 then c.bscan else none, debugReach := keep }).raise 18 (w % 4)

/-- CHIP_DEBUG_WRITE (R50): JTAG_EN and SEC_DEBUG. -/
def execChipDebugWrite (ini : Initiator) (v : Word) (s : State) : Ans := s.busBy ini fun s => .next (s.debugWrite_ ini v.toNat)

/-- DEBUG_LOCK (R50): LOCK in the same register. -/
def execDebugLock (ini : Initiator) (v : Word) (s : State) : Ans := s.busBy ini fun s => .next (s.debugWrite_ ini v.toNat)

/-- JTAG_INSTRUCTION (R50): ignored while JTAG_EN is 0. -/
def execJtagInstruction (i : JtagInstr) (s : State) : Ans :=
  if !s.on F.CHIP_DEBUG_JTAG_EN then .next s
  else match i with
    | .takeOver d => .next (s.modChip fun c => { c with bscan := some d })
    | .passive => .next (s.modChip fun c => { c with bscan := none })
    | .debug t => .next (s.modChip fun c => { c with debugReach := if s.debugAllowed t then some t else none })

end Sys2Proof.Machine
end

