-- ==== Sys2Proof/Machine/Rings.lean ====
section
/-!
DEFINITION. Inlet: event records (R145), routes and gates (R146, R147, R159), event rings, their overflow and faults
(R148 to R150) and doorbells; rows EVENT_CAPTURE and ROUTE_WRITE.
-/
namespace Sys2Proof.Machine

/-! ### Messages -/

/-- Offset of entry `e` of VF `c`'s MSI-X table. -/
def msixEntry (c e : Nat) : Nat := 0x8000000 + c * 0x200000 + 0x1FD000 + 16 * e

/-- Entry `e` of VF `c` is masked: bit 0 of its vector control. -/
def State.msixMasked (s : State) (c e : Nat) : Bool := ofLe (memRead s.ram (msixEntry c e + 12) 1) % 2 == 1

/-- Send an MSI-X message, or hold it in the pending-bit array while Bus Master Enable is 0 (R194) or the entry is
masked. -/
def State.msix (s : State) (c e : Nat) : State :=
  if (s.cove c).busMaster && !s.msixMasked c e then s.send (.msix c e)
  else s.modCove c fun v => { v with pba := v.pba ||| 2 ^ e }

/-! ### Rings: 0 and 1 secure, 2 warden, 3 + c cove c -/

/-- Ring number `r` of cove `c`; cove 0's ring is the warden ring (R147). -/
def coveRing (c : Nat) : Nat := if c = 0 then 2 else 3 + c

/-- Fields of a ring's counters. -/
def State.ringProd (s : State) (r : Nat) : Nat :=
  if r < 2 then s.rd F.INL_SRING_PROD_PROD r else if r = 2 then s.rd F.INL_WRING_PROD_COUNT
  else s.rd F.COVE_EVT_PROD_COUNT (r - 3)

def State.ringCons (s : State) (r : Nat) : Nat :=
  if r < 2 then s.rd F.INL_SRING_CONS_CONS r else if r = 2 then s.rd F.INL_WRING_CONS_COUNT
  else s.rd F.COVE_EVT_CONS_COUNT (r - 3)

def State.setRingProd (s : State) (r v : Nat) : State :=
  if r < 2 then s.wr F.INL_SRING_PROD_PROD v r else if r = 2 then s.wr F.INL_WRING_PROD_COUNT v
  else s.wr F.COVE_EVT_PROD_COUNT v (r - 3)

def State.setRingCons (s : State) (r v : Nat) : State :=
  if r < 2 then s.wr F.INL_SRING_CONS_CONS v r else if r = 2 then s.wr F.INL_WRING_CONS_COUNT v
  else s.wr F.COVE_EVT_CONS_COUNT v (r - 3)

def State.ringLost (s : State) (r : Nat) : State :=
  if r < 2 then s.inc F.INL_SRING_LOST_LOST 1 r else if r = 2 then s.inc F.INL_WRING_LOST_COUNT 1
  else s.inc F.COVE_EVT_LOST_COUNT 1 (r - 3)

/-- Records a ring holds: SIZE above 8 is taken as 8 (Table 05-15). -/
def State.ringSize (s : State) (r : Nat) : Nat :=
  if r < 2 then 256
  else 2 ^ (min (if r = 2 then s.rd F.INL_WRING_CFG_SIZE else s.rd F.COVE_EVT_CFG_SIZE (r - 3)) 8 + 4)

def State.ringEn (s : State) (r : Nat) : Bool :=
  decide (r < 2) || (if r = 2 then s.on F.INL_WRING_CFG_EN else s.on F.COVE_EVT_CFG_EN (r - 3))

def State.ringEnClear (s : State) (r : Nat) : State :=
  if r < 2 then s else if r = 2 then s.wr F.INL_WRING_CFG_EN 0 else s.wr F.COVE_EVT_CFG_EN 0 (r - 3)

/-- HOLDOFF in reference nanoseconds. -/
def State.ringHoldoff (s : State) (r : Nat) : Nat :=
  1000 * (if r = 2 then s.rd F.INL_WRING_CFG_HOLDOFF else s.rd F.COVE_EVT_CFG_HOLDOFF (r - 3))

/-- Free-running counts of 32 bits. -/
def used32 (prod cons : Nat) : Nat := (prod + 2 ^ 32 - cons) % 2 ^ 32

def State.ringFull (s : State) (r : Nat) : Bool := decide (s.ringSize r ≤ used32 (s.ringProd r) (s.ringCons r))

/-- The interrupt line of secure ring `k` (Table 05-14). -/
def State.secureLine (s : State) (k : Nat) : Bool := s.ringProd k != s.ringCons k

def State.ring (s : State) (r : Nat) : RingState :=
  s.inl.rings.getD r { afterLoss := false, episode := false, signalled := false, lastDoor := none, deferred := false }

def State.modRing (s : State) (r : Nat) (f : RingState → RingState) : State :=
  { s with inl := { s.inl with rings := s.inl.rings.modify r f } }

/-- Signal the doorbell of a DRAM ring (Table 05-14). -/
def State.ringBell (s : State) (r : Nat) : State :=
  let s1 := s.modRing r fun x => { x with signalled := true, deferred := false, lastDoor := some s.elapsed }
  if r = 2 then s1.send (.msi (s.rd F.INL_WRING_DOOR_HART) 0 (s.rd F.INL_WRING_DOOR_IDENTITY))
  else
    let c := r - 3
    if (s.cove c).ext then s1.msix c (s.rd F.COVE_EVT_CFG_VECTOR c)
    else s1.send (.msi (s.rd F.INL_COVE_DOOR_HART c) (s.rd F.INL_COVE_DOOR_GUEST c) (s.rd F.INL_COVE_DOOR_IDENTITY c))

/-- HOLDOFF has passed since the previous doorbell. -/
def State.holdoffOver (s : State) (r : Nat) : Bool :=
  match (s.ring r).lastDoor with
  | none => true
  | some t => decide (t + s.ringHoldoff r ≤ s.elapsed)

/-- A doorbell is due: now, or once HOLDOFF has passed (R149). -/
def State.ringDoor (s : State) (r : Nat) : State :=
  if s.holdoffOver r then s.ringBell r else s.modRing r fun x => { x with deferred := true }

/-- A record is lost (R149, R150). -/
def State.ringDrop (s : State) (r : Nat) : State := (s.ringLost r).modRing r fun x => { x with afterLoss := true }

/-- The cove that a ring event concerns. -/
def ringCove (r : Nat) : Nat := if r < 3 then 0 else r - 3

/-- Bytes of a record (Table 05-11). -/
def recordBytes (e : EvRaise) (ts : Nat) (afterLoss : Bool) : List Byte :=
  leBytes 8 ts ++ leBytes 2 e.src ++ leBytes 1 e.cove
    ++ leBytes 1 (b2n e.secure + 2 * b2n afterLoss + 4 * b2n e.boot) ++ leBytes 2 e.gen ++ leBytes 2 e.info

/-- Store a record in ring memory: on chip, or in DRAM under the warden's or the cove's tag (R148). -/
def State.ringStore (s : State) (r : Nat) (l : List Byte) : State × Bool :=
  let p := s.ringProd r % s.ringSize r
  if r < 2 then ({ s with ram := memWrite s.ram (0x204000 + 0x1000 * r + 16 * p) l }, true)
  else if r = 2 then s.dramWrite s.wardenTag (s.rd F.INL_WRING_BASE_BASE * 4096 + 16 * p) l
  else
    match s.engWrite (s.coveTag (r - 3)) (s.rd F.COVE_EVT_BASE_BASE (r - 3) * 4096 + 16 * p) l with
    | (s1, none) => (s1, true)
    | (s1, some _) => (s1, false)

/-- Write a record to ring `r`, or lose it (R149, R150). -/
def State.ringPut (s : State) (r : Nat) (e : EvRaise) (ts : Nat) : State :=
  if !s.ringEn r then s.ringDrop r
  else if s.ringFull r then
    let s1 := s.ringDrop r
    if (s.ring r).episode then s1
    else (s1.modRing r fun x => { x with episode := true }).raise 40 r (ringCove r)
  else
    match s.ringStore r (recordBytes e ts (s.ring r).afterLoss) with
    | (s1, true) =>
      let s2 := (s1.setRingProd r (s1.ringProd r + 1)).modRing r fun x => { x with afterLoss := false }
      if r < 2 || (s2.ring r).signalled || (s2.ring r).deferred then s2 else s2.ringDoor r
    | (s1, false) => ((s1.ringEnClear r).ringDrop r).raise 41 r (ringCove r)

/-! ### Routes -/

/-- A timestamp lies inside the window (R159). -/
def State.inWindow (s : State) (n t : Nat) : Bool :=
  decide (s.rd F.TBS_WIN_START_START n ≤ t) && decide (t < s.rd F.TBS_WIN_END_END n)

/-- The gate of a route lets the timestamp pass (Table 05-12). -/
def State.gateOpen (s : State) (src t : Nat) : Bool :=
  match s.rd F.INL_ROUTE_GATE src with
  | 1 => s.inWindow (s.rd F.INL_ROUTE_WIN src) t
  | 2 => !s.inWindow (s.rd F.INL_ROUTE_WIN src) t
  | _ => true

/-- Deliver to the ring of COVE (R147): mask, generation and enable are tested. -/
def State.putCove (s : State) (e : EvRaise) (ts : Nat) : State :=
  if e.cove ≠ 0 && !bit (s.rd F.COVE_EVT_MASK_MASK e.cove (e.src / 32)) (e.src % 32) then s
  else if e.gen ≠ s.gen e.cove then s.inc F.COVE_DISCARD_COUNT 1 e.cove
  else s.ringPut (coveRing e.cove) e ts

/-- Deliver a record by DEST (Table 05-12). -/
def State.deliver (s : State) (e : EvRaise) (ts : Nat) : State :=
  match s.rd F.INL_ROUTE_DEST e.src with
  | 0 => s.ringPut 0 e ts
  | 1 => s.ringPut 1 e ts
  | 2 => s.ringPut 2 e ts
  | 3 => s.putCove e ts
  | 4 => s.ringPut (if e.secure then 0 else 2) e ts
  | 5 => if e.cove = 0 then s.ringPut 2 e ts else (s.ringPut 2 e ts).putCove e ts
  | 6 => (s.ringPut 0 e ts).ringPut 2 e ts
  | _ => s

/-- The raise that the capture arbiter grants: the highest source, its oldest raise (R144). -/
def nextGrant : List EvRaise → Option EvRaise
  | [] => none
  | e :: l => match nextGrant l with
    | none => some e
    | some b => if b.src ≤ e.src then some e else some b

/-- EVENT_CAPTURE (R144 to R150). A BOOT_FAIL raise is never delivered (R106). -/
def execEventCapture (s : State) : Ans :=
  match nextGrant s.inl.awaiting with
  | none => .next s
  | some e =>
    let ts := s.tbs.now
    let s1 := { s with inl := { s.inl with awaiting := s.inl.awaiting.erase e } }
    if !s1.on F.INL_ROUTE_EN e.src || s1.rd F.INL_ROUTE_DEST e.src = 7 || e.src = 12 then .next s1
    else if !s1.gateOpen e.src ts then .next (s1.inc F.INL_GATED_CNT_COUNT 1)
    else .next (s1.deliver e ts)

/-- Write the fields of a route that the write reaches. -/
def State.setRoute (s : State) (n v : Nat) (lock : Bool) : State :=
  let s1 := ((s.wr F.INL_ROUTE_EN v n).wr F.INL_ROUTE_WIN (v / 16) n).wr F.INL_ROUTE_GATE (v / 128) n
  if routeFixed n then s1
  else
    let s2 := s1.wr F.INL_ROUTE_DEST (v / 2) n
    if lock then s2.wr F.INL_ROUTE_LOCK (v / 2 ^ 30) n else s2

/-- A normal-world route write that is discarded whole (R147). -/
def State.routeRefused (s : State) (n v : Nat) : Bool :=
  let dest := v / 2 % 8
  let gate := v / 128 % 4
  s.on F.INL_ROUTE_LOCK n || (!routeFixed n && (dest == 0 || dest == 1 || dest == 6))
    || ((gate == 1 || gate == 2) && decide (v / 16 % 8 < 4))

/-- ROUTE_WRITE (R146, R147). -/
def execRouteWrite (ini : Initiator) (n : Fin 512) (v : Word) (s : State) : Ans :=
  s.busBy ini fun s =>
  let off := 0x201000 + 4 * n.val
  if s.isSec ini then .next (s.setRoute n.val v.toNat true)
  else if s.routeRefused n.val v.toNat then .next (s.denied ini off)
  else
    let s1 := s.setRoute n.val v.toNat false
    .next (if bit v.toNat 30 then s1.denied ini off else s1)

end Sys2Proof.Machine
end

