-- ==== Sys2Proof/Machine/Host.lean ====
section
/-!
DEFINITION. The PCI Express endpoint (R193 to R196, R212) and the coves' shares (R199, R200): rows COVE_PAGE_DENIED,
VF_BAR2_REQUEST, PCIE_STARVED and SHARE_WRITE.
-/
namespace Sys2Proof.Machine

/-- COVE_PAGE_DENIED (R192). -/
def execCovePageDenied (ini : Initiator) (c : Fin 32) (off : Nat) (write : Bool) (s : State) : Ans :=
  s.by ini fun s =>
  if s.pageOk ini c.val then .next s
  else .next (s.pageDenied ini c.val (0x8000000 + c.val * 0x200000 + off % 0x200000) write)

/-- VF_BAR2_REQUEST (R194, R195). -/
def execVfBar2Request (c : Fin 32) (off len : Nat) (write : Option (List Byte)) (s : State) : Ans :=
  let cpa := s.rd F.COVE_VFWIN_BASE c.val * 2 ^ 30 + off
  let t := s.coveTag c.val
  let n := match write with | some l => l.length | none => len
  if !s.issues (.pcie c) then .next s
  else if !s.chip.ran || !s.vfServes c.val || decide (2 ^ 30 < off + n) then .next (s.send (.pcieCpl 1 []))
  else match write with
    | some l => .next (s.engWrite t cpa l).1
    | none => match s.engRead t cpa len with
      | (s1, .ok l) => .next (s1.send (.pcieCpl 0 l))
      | (s1, .error _) => .next (s1.send (.pcieCpl 2 []))

/-- PCIE_STARVED (R196): idle is sent between TLPs on a trained link; event 111 at most once per millisecond. -/
def execPcieStarved (s : State) : Ans :=
  let s1 := s.send .pcieIdle
  if !s.host.linkUp then .next s
  else if (match s.host.lastStarved with | none => true | some t => decide (t + 1000000 ≤ s.elapsed)) then
    .next ((s1.modHost fun h => { h with lastStarved := some s.elapsed }).raise 111)
  else .next s1

/-- A share write is refused (R199). -/
def State.coveRefuse (s : State) (c reason : Nat) : State :=
  ((s.wr F.COVE_CMD_STAT_REFUSED 1).wr F.COVE_CMD_STAT_REASON reason).raise 102 reason c

/-- The shares of region `r` over the enabled coves with cove `c` at `v` exceed 1,024. -/
def State.shareTooBig (s : State) (r : ShareRegion) (c v : Nat) : Bool :=
  s.coveEnabled c && decide (1024 < v + ((s.enabledCoves.filter (· != c)).map (s.share r)).sum)

/-- Set a share, with the OVER_SHARE rule (R200). -/
def State.setShare (s : State) (r : ShareRegion) (c v : Nat) : State :=
  (s.wr (srShare r) v c).overShareSet r c (s.share r c)

/-- A write of two shares that one register holds: discarded with REASON 8 and event 102 where a region's sum over the enabled coves would
exceed 1,024 (R199). -/
def State.sharePair (s : State) (c : Nat) (rh rl : ShareRegion) (hi lo : Nat) : State :=
  if s.shareTooBig rh c hi || s.shareTooBig rl c lo then s.coveRefuse c 8 else (s.setShare rh c hi).setShare rl c lo

/-- SHARE_WRITE (R199, R200, Table 07-6): COVE_SHAREBc when `regB`, else COVE_SHAREAc. -/
def execShareWrite (ini : Initiator) (c : Fin 32) (regB : Bool) (v : Word) (s : State) : Ans :=
  s.busBy ini fun s =>
  let hi := min (bits v.toNat 26 16) 1024
  let lo := min (bits v.toNat 10 0) 1024
  let rh : ShareRegion := if regB then .sense else .graphics
  let rl : ShareRegion := if regB then .display else .memory
  if !s.isCove0 ini then
    .next (if hi != s.rd (srShare rh) c.val || lo != s.rd (srShare rl) c.val
      then s.denied ini (0x801004 + 0x20 * c.val + 4 * b2n regB) else s)
  else .next (s.sharePair c.val rh rl hi lo)

end Sys2Proof.Machine
end

