-- ==== Sys2Proof/Machine/PoolStreams.lean ====
section
/-!
DEFINITION. Streams (15.6): descriptors, placement, staging, playing, capture, completion records, what a reset, a freeze
and a context record do to them; rows STREAM_DESC_ACCEPT and STREAM_STALLED.
-/
namespace Sys2Proof.Machine

/-! ### Samples -/

def strFormat (s : State) (c q : Nat) : Nat := let f := s.rd F.POOL_STR_CFG_FORMAT c q; if 3 < f then 0 else f

def strRate (s : State) (c q : Nat) : Nat :=
  let f := s.rd F.POOL_STR_CFG_FS c q
  rateHz (if 8 < f then 4 else f)

/-- Bytes of a sample (R444). -/
def sampleBytes (fmt : Nat) : Nat := if fmt = 0 then 2 else 4

/-- A float sample as it is played: clamped, scaled, rounded; NaN is 0 (R444). -/
def playF32 (v : Nat) : Int :=
  if f32Nan v then 0
  else
    let hi : Rat := 1 - 1 / 8388608
    let x : Rat := match f32 v with
      | some x => if x < -1 then -1 else if hi < x then hi else x
      | none => if bit v 31 then -1 else hi
    (x * 8388608 + 1 / 2).floor

/-- A sample as it is played (R444). -/
def playSample (fmt : Nat) (l : List Byte) : Int :=
  let v := ofLe l
  if fmt = 0 then sx 16 v * 256 else if fmt = 1 then sx 24 v else if fmt = 2 then sx 32 v / 256 else playF32 v

/-- A sample as it is captured (R444). -/
def captureSample (fmt : Nat) (y : Int) : List Byte :=
  if fmt = 0 then leBytes 2 (toTwos 16 (clampI (-32768) 32767 ((y + 128) / 256)))
  else if fmt = 1 then leBytes 4 (toTwos 32 y)
  else if fmt = 2 then leBytes 4 (toTwos 32 (y * 256))
  else leBytes 4 (toF32 ((y : Rat) / 8388608))

/-- What a sample-rate converter gives for samples `l`: the spec states no filter (a free value). -/
def State.convert (s : State) (l : List Int) : Int × State :=
  (sx 24 (Config.convert s.fresh l).toNat, { s with fresh := s.fresh + 1 })

/-! ### Frames of descriptors -/

/-- Frames of accepted descriptors that are not played, written or discarded. -/
def descsLeft (l : List PDesc) : Nat := (l.map fun d => d.frames - d.done).sum

/-- The descriptor and the frame in it that is the n-th still to come. -/
def nthFrame : List PDesc → Nat → Option (PDesc × Nat)
  | [], _ => none
  | d :: l, n => if n < d.frames - d.done then some (d, d.done + n) else nthFrame l (n - (d.frames - d.done))

/-- The descriptor that holds the n-th frame still to come ends before that frame. -/
def cutAt : List PDesc → Nat → List PDesc
  | [], _ => []
  | d :: l, n =>
    if n < d.frames - d.done then
      (if n = 0 then l else { d with frames := d.done + n, cut := true } :: l)
    else d :: cutAt l (n - (d.frames - d.done))

/-- Due time of frame `k` in units of 1 / fs ns (R445). -/
def PStream.due (x : PStream) (k : Nat) : Int := x.anchorFs + k * 1000000000

/-- Frames from the next one on that are due at or before `t`. -/
def PStream.dueBy (x : PStream) (t : Nat) : Nat :=
  let d := (t : Int) * x.fs - x.due x.play
  if d < 0 then 0 else (d / 1000000000).toNat + 1

/-- The completion record of a descriptor (R449). -/
def PDesc.record_ (d : PDesc) : List Byte :=
  leBytes 1 (if d.discarded = 0 then 0 else if d.discarded = d.frames then 2 else 1)
    ++ leBytes 1 (b2n d.resumed + 2 * b2n d.gap) ++ leBytes 2 0 ++ leBytes 4 d.discarded ++ leBytes 8 d.firstTs

/-- A descriptor ends: its record and event 418 (R443, R449). One cut short by a failed access gives neither. -/
def State.descEnd (s : State) (c q : Nat) (d : PDesc) : State :=
  if d.cut then s
  else
    let s := s.when (bit d.flags 0) fun s => s.queueRecord c q d.gen d.record d.record_
    s.when (bit d.flags 1) fun s => s.raiseGen 418 q c d.gen

/-- `n` frames pass from the front of the descriptors, the first of them number `k`; `f` says what each does to its descriptor.
Ended ones leave. -/
def passFrames (f : Nat → PDesc → PDesc) (k : Nat) : Nat → List PDesc → List PDesc × List PDesc
  | 0, l => (l, [])
  | _ + 1, [] => ([], [])
  | n + 1, d :: l =>
    let d1 := f k { d with done := d.done + 1 }
    if d1.frames ≤ d1.done then
      let r := passFrames f (k + 1) n l
      (r.1, d1 :: r.2)
    else passFrames f (k + 1) n (d1 :: l)

/-- Frames of the stream pass (played, written or discarded); descriptors that end complete. -/
def State.pass (s : State) (c q n : Nat) (f : Nat → PDesc → PDesc) : State :=
  match s.str c q with
  | none => s
  | some x =>
    let r := passFrames f x.play n x.descs
    (s.modStr c q fun x => { x with descs := r.1, play := x.play + n }).each r.2 fun s d => s.descEnd c q d

def State.strState (s : State) (c q v : Nat) : State := s.wr F.POOL_STR_STAT_STATE v c q

/-- POOL_STRq_ANCHOR shows the anchor in whole ns. -/
def State.showAnchor (s : State) (c q : Nat) : State :=
  match s.str c q with
  | some x => s.wr F.POOL_STR_ANCHOR_ANCHOR (toTwos 64 (x.anchorFs / (x.fs : Int))) c q
  | none => s

/-! ### Placement (R446) -/

/-- Due time of the first frame to be placed, in units of 1 / fs ns. -/
def PStream.placeBase (x : PStream) (st fs t : Nat) (at_ : Option Nat) : Int :=
  if st = 3 then (if x.fs = fs then x.due x.play else x.due x.play * fs / (x.fs : Int))
  else match at_ with
    | some a => (a : Int) * fs
    | none => ((t + 2000000 : Nat) : Int) * fs

/-- Place the descriptors of an IDLE or STALLED playback stream at the present instant. -/
def State.place_ (s : State) (c q : Nat) (at_ : Option Nat) : State :=
  match s.str c q with
  | none => s
  | some x =>
    let t := s.tbs.now
    let st := s.rd F.POOL_STR_STAT_STATE c q
    let fs := strRate s c q
    let base := x.placeBase st fs t at_
    let late := ((t : Int) - s.rd F.POOL_STR_CFG_LATENCY_US c q * 1000) * fs - base
    let n := if late ≤ 0 then 0 else ((late + 999999999) / 1000000000).toNat
    let all := descsLeft x.descs
    let gone := min n all
    let s := s.modStr c q fun x => { x with fs := fs, anchorFs := base - (x.play : Int) * 1000000000 }
    let s := (s.inc F.POOL_STR_DISCARD_COUNT gone c q).pass c q gone fun _ d => { d with discarded := d.discarded + 1 }
    if all ≤ n then s.showAnchor c q
    else
      let kept := base + (gone : Int) * 1000000000
      let lead := ((t + 2000000 : Nat) : Int) * fs
      let shift := if kept < lead then lead - kept else 0
      let fade := st == 3 || gone != 0
      let s := s.modStr c q fun x =>
        { x with anchorFs := x.anchorFs + shift, gain := if fade then 0 else 192, fade := 0, halt := false
                 descs := match x.descs with
                   | [] => []
                   | d :: l => { d with resumed := st == 3 } :: l }
      let s := (s.strState c q 1).showAnchor c q
      s.when (st == 3) fun s => s.raise 417 q c

/-! ### Acceptance -/

/-- The bindings of a stream are whole: INDEX 0 to CHANNELS - 1 once each, and no channel of the other kind (R442). -/
def State.bindingsOk (s : State) (capture : Bool) (c q : Nat) : Bool :=
  let l := s.boundTo capture c q
  let ix := l.map fun k => if capture then s.rd F.POOL_CCH_INDEX k else s.rd F.POOL_PCH_INDEX k
  ((List.range l.length).all fun i => ix.contains i) && (s.boundTo (!capture) c q).isEmpty

/-- A descriptor is well formed (Table 15-5). -/
def strDescOk (fmt : Nat) (l : List Byte) : Bool :=
  let op := leAt l 0 1
  let flags := leAt l 1 1
  decide (op ≤ 1) && decide (flags < 8) && leAt l 2 2 == 0 && (slice l 32 32).all (· == 0)
    && (!bit flags 0 || leAt l 0x18 8 % 16 == 0)
    && (op == 0 || (decide (1 ≤ leAt l 4 4) && decide (leAt l 4 4 ≤ 1048576) && leAt l 8 8 % sampleBytes fmt == 0))

/-- The first tick at least 2 ms after `t` (R431, R448). -/
def firstTick (t : Nat) : Nat := ceilDiv (ceilDiv ((t + 2000000) * 3) 31250 * 31250) 3

/-- A capture stream starts (R448). -/
def State.captureStart (s : State) (c q : Nat) (at_ : Option Nat) : State :=
  let fs := strRate s c q
  let a := match at_ with
    | some a => max a s.tbs.now
    | none => firstTick s.tbs.now
  let s := s.modStr c q fun x =>
    { x with fs := fs, anchorFs := (a : Int) * fs - (x.play : Int) * 1000000000, halt := false }
  (s.strState c q 1).showAnchor c q

/-- A BUFFER descriptor joins its stream. -/
def State.strAdd (s : State) (c q : Nat) (capture : Bool) (l : List Byte) : State :=
  let d : PDesc :=
    { flags := leAt l 1 1, frames := leAt l 4 4, addr := leAt l 8 8, record := leAt l 0x18 8, gen := s.gen c, done := 0,
      discarded := 0, firstTs := 0, resumed := false, gap := false, cut := false }
  let at_ := if bit (leAt l 1 1) 2 then some (leAt l 0x10 8) else none
  let fresh : PStream :=
    { cove := c, q := q, capture := capture, fs := strRate s c q, anchorFs := 0, play := 0, held := [], gain := 192,
      fade := 0, halt := false, toIdle := false, gap := false, descs := [] }
  let s := match s.str c q with
    | none => s.modPool fun p => { p with streams := p.streams ++ [fresh] }
    | some _ => s
  let s := s.modStr c q fun x => { x with descs := x.descs ++ [d] }
  let st := s.rd F.POOL_STR_STAT_STATE c q
  if capture then (if st = 0 then s.captureStart c q at_ else s)
  else if st = 1 then s
  else if st = 2 then s.strState c q 1
  else s.place_ c q at_

/-- STREAM_DESC_ACCEPT (R442, R443, R446, R447): the oldest descriptor fetched for the queue. -/
def execStreamDescAccept (c : Fin 32) (q : Fin 64) (s : State) : Ans :=
  let eng := s.rd F.COVE_Q_CFG_ENGINE c.val q.val
  match s.pool.fetched.find? fun e => e.1 == c.val && e.2.1 == q.val with
  | none => .next s
  | some e =>
    if !s.poolOn || s.rd F.COVE_STATE_STATE c.val ≠ 1 || s.on F.COVE_Q_STAT_FAULT c.val q.val
        || (match s.str c.val q.val with | some x => x.halt | none => false) then .next s
    else
      let l := e.2.2
      let s := s.modPool fun p => { p with fetched := p.fetched.erase e }
      if !strDescOk (strFormat s c.val q.val) l then .next (s.queueFault c.val q.val 1)
      else if !s.bindingsOk (eng == 5) c.val q.val then .next (s.queueFault c.val q.val 4)
      else
        let s := s.queueAccept c.val q.val
        if leAt l 0 1 = 0 then
          let d : PDesc :=
            { flags := leAt l 1 1, frames := 1, addr := 0, record := leAt l 0x18 8, gen := s.gen c.val, done := 1,
              discarded := 0, firstTs := 0, resumed := false, gap := false, cut := false }
          .next (s.descEnd c.val q.val d)
        else .next (s.strAdd c.val q.val (eng == 5) l)

/-! ### Playing -/

/-- A shortfall: a RUNNING stream begins to fade (Table 15-6). -/
def State.shortfall (s : State) (c q : Nat) : State :=
  if s.rd F.POOL_STR_STAT_STATE c q = 1 then (s.strState c q 2).modStr c q fun x => { x with fade := 0 } else s

/-- Stage up to `n` frames (R445). A failed read is a queue fault, and the frames of its descriptor are absent (R443). -/
def stageFrames (c q ch fmt : Nat) : Nat → State → State
  | 0, s => s
  | n + 1, s =>
    match s.str c q with
    | none => s
    | some x =>
      match nthFrame x.descs x.held.length with
      | none => s.shortfall c q
      | some (d, k) =>
        let b := sampleBytes fmt
        match s.engRead (s.coveTag c) (d.addr + k * (b * ch)) (b * ch) with
        | (s1, .ok l) =>
          let f := (List.range ch).map fun i => playSample fmt (slice l (b * i) b)
          stageFrames c q ch fmt n (s1.modStr c q fun x => { x with held := x.held ++ [f] })
        | (s1, .error e) =>
          ((s1.queueStop c q e.code).modStr c q fun x => { x with descs := cutAt x.descs x.held.length }).shortfall c q

/-- A tick of a playback stream: staging, then the frames that are due; answers the frames its converter has. -/
def State.playTick (s : State) (c q : Nat) (starved : Bool) : State × List (List Int) :=
  match s.str c q with
  | none => (s, [])
  | some x =>
    let st := s.rd F.POOL_STR_STAT_STATE c q
    if x.capture || st = 0 || st = 3 then (s, [])
    else
      let t := s.tbs.now
      let want := min (x.dueBy (t + 2000000)) (max x.held.length (descsLeft x.descs) + 1)
      let s := if x.halt then s
        else if starved then (if x.held.length < want then s.shortfall c q else s)
        else stageFrames c q (s.strChannels c q) (strFormat s c q) (want - x.held.length) s
      let x1 := (s.str c q).getD x
      let n := min (x1.dueBy t) x1.held.length
      let s := (s.inc F.POOL_STR_POS_POS n c q).pass c q n fun k d =>
        if d.firstTs = 0 then { d with firstTs := (x1.due k / (x1.fs : Int)).toNat } else d
      (s.modStr c q fun x => { x with held := x.held.drop n }, x1.held)

/-- The scale of a stream after a tick (R446, Table 15-6). -/
def State.fadeTick (s : State) (c q : Nat) : State :=
  let st := s.rd F.POOL_STR_STAT_STATE c q
  s.modStr c q fun x =>
    if st = 2 then { x with fade := min (x.fade + 1) 192, gain := min x.gain (192 - min (x.fade + 1) 192) }
    else { x with gain := min (x.gain + 1) 192 }

/-- STREAM_STALLED (R447): 192 ticks of fading have passed. After a reset the stream is IDLE with POS 0 (Table 15-7). -/
def execStreamStalled (c : Fin 32) (q : Fin 64) (s : State) : Ans :=
  match s.str c.val q.val with
  | none => .next s
  | some x =>
    if s.rd F.POOL_STR_STAT_STATE c.val q.val ≠ 2 || x.fade < 192 then .next s
    else if x.toIdle then
      .next (((s.strState c.val q.val 0).wr F.POOL_STR_POS_POS 0 c.val q.val).dropStr c.val q.val)
    else
      let s := (s.strState c.val q.val 3).inc F.POOL_STR_STALLS_COUNT 1 c.val q.val
      .next (s.when (!x.halt) fun s => s.raise 416 q.val c.val)

/-! ### Capture (R448) -/

/-- Write one frame, or drop it. -/
def State.captureFrame (s : State) (c q ch fmt : Nat) (y : List Int) : State :=
  match s.str c q with
  | none => s
  | some x =>
    let ts := (x.due x.play / (x.fs : Int)).toNat
    match x.descs with
    | [] =>
      let s := (s.inc F.POOL_STR_DISCARD_COUNT 1 c q).modStr c q fun x => { x with play := x.play + 1, gap := true }
      s.when (!x.gap) fun s => s.raise 419 q c
    | d :: _ =>
      let conv := y.foldl (fun (a : List Byte × State) v =>
        let r := a.2.convert [v]
        (a.1 ++ captureSample fmt r.1, r.2)) (([] : List Byte), s)
      match conv.2.engWrite (s.coveTag c) (d.addr + d.done * (sampleBytes fmt * ch)) conv.1 with
      | (s1, none) =>
        let s1 := s1.modStr c q fun x => { x with gap := false }
        (s1.inc F.POOL_STR_POS_POS 1 c q).pass c q 1 fun _ e =>
          { e with gap := e.gap || x.gap, firstTs := if e.firstTs = 0 then ts else e.firstTs }
      | (s1, some e) =>
        (s1.queueStop c q e.code).modStr c q fun x => { x with descs := x.descs.drop 1, play := x.play + 1 }

/-- `n` frames fall due. -/
def captureFrames (c q ch fmt : Nat) (y : List Int) : Nat → State → State
  | 0, s => s
  | n + 1, s => captureFrames c q ch fmt y n (s.captureFrame c q ch fmt y)

/-- A tick of a capture stream; `out` are the final samples. A stream whose queue is disabled ends at its first frame
without a descriptor (R447). -/
def State.captureTick (s : State) (c q : Nat) (out : List Int) : State :=
  match s.str c q with
  | none => s
  | some x =>
    if !x.capture || x.halt || s.rd F.POOL_STR_STAT_STATE c q ≠ 1 then s
    else
      let n := x.dueBy s.tbs.now
      if n ≠ 0 && x.descs.isEmpty && !s.on F.COVE_Q_CFG_EN c q then (s.strState c q 0).dropStr c q
      else
        let ks := s.boundTo true c q
        let y := (List.range ks.length).map fun i =>
          match ks.find? fun k => s.rd F.POOL_CCH_INDEX k == i with
          | some k => out.getD (64 + k) 0
          | none => 0
        captureFrames c q ks.length (strFormat s c q) y n s

/-! ### Coves (Table 15-7, R457, R458) -/

def State.strsOf (s : State) (c : Nat) : List PStream := s.pool.streams.filter fun x => x.cove == c

/-- An instance reset: streams fade, then become IDLE; queued descriptors are purged. -/
def State.poolReset (s : State) (c : Nat) : State :=
  let waiting := (s.pool.fetched.filter fun e => e.1 == c).length
    + ((s.strsOf c).map fun x => (x.descs.filter fun d => d.done == 0).length).sum
  let s := (s.inc F.COVE_PURGED_COUNT waiting c).modPool fun p =>
    { p with fetched := p.fetched.filter fun e => e.1 != c }
  s.each (s.strsOf c) fun s x =>
    let st := s.rd F.POOL_STR_STAT_STATE c x.q
    if !x.capture && (st == 1 || st == 2) then
      (s.strState c x.q 2).modStr c x.q fun y =>
        { y with descs := [], halt := true, toIdle := true, fade := if st = 1 then 0 else y.fade }
    else ((s.strState c x.q 0).wr F.POOL_STR_POS_POS 0 c x.q).dropStr c x.q

/-- FREEZE or CONFINE: playback fades and stalls; capture stops. Descriptors are kept. -/
def State.poolFreeze (s : State) (c : Nat) : State :=
  s.each (s.strsOf c) fun s x =>
    let st := s.rd F.POOL_STR_STAT_STATE c x.q
    if x.capture then (s.strState c x.q 0).modStr c x.q fun y => { y with halt := true }
    else if st = 1 || st = 2 then
      (s.strState c x.q 2).modStr c x.q fun y => { y with halt := true, fade := if st = 1 then 0 else y.fade }
    else s

/-- A fade for a freeze or a reset is still under way. -/
def State.poolBusy (s : State) (c : Nat) : Bool :=
  (s.strsOf c).any fun x => x.halt && s.rd F.POOL_STR_STAT_STATE c x.q == 2

/-- THAW: the descriptor at the head counts as accepted now. -/
def State.poolThaw (s : State) (c : Nat) : State :=
  s.each (s.strsOf c) fun s x =>
    let s := s.modStr c x.q fun y => { y with halt := false }
    if x.descs.isEmpty then s
    else if x.capture then s.captureStart c x.q none
    else if s.rd F.POOL_STR_STAT_STATE c x.q = 3 then s.place_ c x.q none
    else s

/-- Stream queues of cove `c`, ascending. -/
def State.strQueues (s : State) (c : Nat) : List Nat :=
  (List.range (s.rd F.COVE_QUEUES_COUNT c)).filter fun q =>
    let e := s.rd F.COVE_Q_CFG_ENGINE c q
    e == 4 || e == 5

/-- A record of the POOL section (R457). -/
def State.strRecord (s : State) (c q : Nat) : List Byte :=
  leBytes 1 q ++ leBytes 1 (s.rd F.POOL_STR_STAT_STATE c q) ++ leBytes 1 (s.rd F.POOL_STR_CFG_FORMAT c q)
    ++ leBytes 1 (s.rd F.POOL_STR_CFG_FS c q) ++ leBytes 1 (s.strChannels c q) ++ leBytes 1 0
    ++ leBytes 2 (s.rd F.POOL_STR_CFG_LATENCY_US c q) ++ leBytes 8 (s.rd F.POOL_STR_POS_POS c q)
    ++ leBytes 8 (s.rd F.POOL_STR_ANCHOR_ANCHOR c q) ++ leBytes 4 (s.rd F.POOL_STR_DISCARD_COUNT c q)
    ++ leBytes 4 (s.rd F.POOL_STR_STALLS_COUNT c q)

/-- The POOL section of cove `c`'s state record (R457). -/
def State.poolSection (s : State) (c : Nat) : List Byte :=
  leBytes 2 (s.strQueues c).length ++ leBytes 6 0 ++ ((s.strQueues c).map (s.strRecord c)).flatten

/-- The section fits the target (R458); `eng`: the ENGINE that the record gives each of its queues. -/
def State.poolSectionOk (s : State) (c : Nat) (eng : Nat → Nat) (l : List Byte) : Bool :=
  let n := leAt l 0 2
  l.length == 8 + 32 * n && ((List.range n).all fun k =>
    let r := slice l (8 + 32 * k) 32
    let q := leAt r 0 1
    decide (q < s.rd F.COVE_QUEUES_COUNT c) && (s.boundTo (eng q == 5) c q).length == leAt r 4 1)

/-- RESTORE of the section (R458): streams are IDLE, with POS, DISCARD and STALLS of the record. -/
def State.poolRestore (s : State) (c : Nat) (l : List Byte) : State :=
  s.each (List.range (leAt l 0 2)) fun s k =>
    let r := slice l (8 + 32 * k) 32
    let q := leAt r 0 1
    let s := (((s.dropStr c q).strState c q 0).wr F.POOL_STR_CFG_FORMAT (leAt r 2 1) c q).wr F.POOL_STR_CFG_FS (leAt r 3 1) c q
    let s := (s.wr F.POOL_STR_CFG_LATENCY_US (leAt r 6 2) c q).wr F.POOL_STR_POS_POS (leAt r 8 8) c q
    (s.wr F.POOL_STR_DISCARD_COUNT (leAt r 24 4) c q).wr F.POOL_STR_STALLS_COUNT (leAt r 28 4) c q

end Sys2Proof.Machine
end

