-- ==== Sys2Proof/Machine/Sluice.lean ====
section
/-!
DEFINITION. The Sluice lock unit (R180 to R185): acquire, release, cancel, force and configuration. Ports are numbered by
their arbiter inputs (R182): 16c + p for port p of cove c, 512 + p for secure port p.
-/
namespace Sys2Proof.Machine

/-- Class of a lock. -/
def State.lockClass (s : State) (n : Nat) : Nat := s.rd F.SLU_LOCK_CFG_CLASS n

/-- The lock that a port waits for. -/
def State.waitsFor (s : State) (p : Nat) : Option Nat := (List.range 256).find? fun n => (s.lock n).waiters.contains p

/-- SLU_PORT_RESULT. -/
def State.sluResult (s : State) (p lock code : Nat) : State :=
  (s.wr F.SLU_PORT_RESULT_LOCK lock p).wr F.SLU_PORT_RESULT_CODE code p

/-- An event of a port. -/
def State.sluEvent (s : State) (src info p : Nat) : State := s.raise src info (portCove p) (portSecure p)

/-- Give lock `n` to port `p` (R183): RESULT and event 74. -/
def State.sluGrant (s : State) (n p : Nat) : State :=
  let code := if (s.lock n).state = 2 then 2 else 1
  let s1 := s.modLock n fun l => { state := 1, holder := p, waiters := l.waiters.erase p }
  (s1.sluResult p n code).sluEvent 74 (n + 256 * portLocal p) p

/-- Grant a lock that is not held to its head waiter. -/
def State.sluNext (s : State) (n : Nat) : State :=
  match (s.lock n).waiters with
  | [] => s
  | p :: _ => if (s.lock n).state = 1 then s else s.sluGrant n p

/-- The lock admits the port (Table 06-10). -/
def State.sluAllowed (s : State) (p n : Nat) : Bool :=
  portSecure p || (!s.on F.SLU_LOCK_CFG_SECURE n && bit (s.rd F.SLU_LOCK_COVES_COVES n) (portCove p))

/-- Acquire lock `n` through port `p` (Table 06-10). -/
def State.sluAcquire (s : State) (p n : Nat) (wait : Bool) : State :=
  let l := s.lock n
  if (s.waitsFor p).isSome then s.sluResult p n 7
  else if !s.sluAllowed p n then s.sluResult p n 6
  else if (s.heldBy p).any fun m => decide (s.lockClass n ≤ s.lockClass m) then (s.sluResult p n 5).sluEvent 73 n p
  else if l.state ≠ 1 && l.waiters.isEmpty then
    (s.modLock n fun l => { l with state := 1, holder := p }).sluResult p n (if l.state = 0 then 1 else 2)
  else if wait then (s.modLock n fun l => { l with waiters := l.waiters ++ [p] }).sluResult p n 4
  else s.sluResult p n 3

/-- Offset of a port's page. -/
def portOff (p : Nat) : Nat :=
  if 512 ≤ p then 0x600000 + 0x100 * (p - 512) else 0x8000000 + 0x200000 * (p / 16) + 0x1FE000 + 0x100 * (p % 16)

/-- A write to a port register: the page rights of R192, or the secure world for its own ports. -/
def State.portWrite (s : State) (ini : Initiator) (p reg : Nat) (f : State → State) : State :=
  if 512 ≤ p then (if s.isSec ini then f s else s.denied ini (portOff p + reg))
  else if s.pageOk ini (p / 16) then f s
  else s.pageDenied ini (p / 16) (portOff p + reg) true

/-- An acquire that reaches a lock: who writes it, its port and WAIT. -/
abbrev Acquire := Initiator × Fin 536 × Bool

/-- Acquires of one phase in the order in which they are decided: the highest input number first, one for each input (R17, R182). -/
def phaseOrder (l : List Acquire) : List Acquire := (List.range 536).reverse.filterMap fun p => l.find? fun a => a.2.1.val == p

/-- One acquire of a phase is decided. -/
def State.acquireOne (s : State) (lock : Nat) (a : Acquire) : State :=
  s.portWrite a.1 a.2.1.val 0 fun s => s.sluAcquire a.2.1.val lock a.2.2

/-- SLU_ACQUIRE (R180 to R182); `same`: other acquires of the lock in the same arbitration phase. -/
def execSluAcquire (ini : Initiator) (port : Fin 536) (lock : Fin 256) (wait : Bool) (same : List Acquire) (s : State) : Ans :=
  s.by ini fun s => .next (s.each (phaseOrder ((ini, port, wait) :: same.filter fun a => s.issues a.1)) fun s a => s.acquireOne lock.val a)

/-- Release lock `n` through port `p` (R183). -/
def State.sluRelease (s : State) (p n : Nat) : State :=
  let l := s.lock n
  if l.state = 1 && l.holder = p then
    ((s.modLock n fun l => { l with state := 0 }).sluResult p n 9).sluNext n
  else (s.sluResult p n 8).sluEvent 76 n p

/-- SLU_RELEASE (R181, R183). -/
def execSluRelease (ini : Initiator) (port : Fin 536) (lock : Fin 256) (s : State) : Ans :=
  s.by ini fun s =>
  .next (s.portWrite ini port.val 4 fun s => s.sluRelease port.val lock.val)

/-- Leave the queue (R183). -/
def State.sluCancel (s : State) (p : Nat) : State :=
  match s.waitsFor p with
  | some n => (s.modLock n fun l => { l with waiters := l.waiters.erase p }).sluResult p n 10
  | none => s.wr F.SLU_PORT_RESULT_CODE 11 p

/-- SLU_CANCEL (R183). -/
def execSluCancel (ini : Initiator) (port : Fin 536) (s : State) : Ans :=
  s.by ini fun s =>
  .next (s.portWrite ini port.val 0x10 fun s => s.sluCancel port.val)

/-- Abandon the locks of the affected ports (R184): waits are removed, held locks become ABANDONED with event 75 each,
and an ABANDONED lock with waiters goes to its head waiter. -/
def State.sluAbandon (s : State) (aff : Nat → Bool) : State :=
  let s1 := { s with locks := s.locks.map fun (l : Lock) => { l with waiters := l.waiters.filter fun p => !aff p } }
  let hit := (List.range 256).filter fun n => (s.lock n).state == 1 && aff (s.lock n).holder
  let s2 := s1.each hit fun s n =>
    (s.modLock n fun l => { l with state := 2 }).sluEvent 75 n (s.lock n).holder
  s2.each hit State.sluNext

/-- Ports of cove `c`. -/
def covePorts (c p : Nat) : Bool := p < 512 && p / 16 == c

/-- SLU_FORCE (R184, Table 06-11): the holder of the named lock is the affected port. -/
def execSluForce (ini : Initiator) (lock : Fin 256) (s : State) : Ans :=
  s.busBy ini fun s =>
  if !s.isSec ini then .next (s.denied ini 0x603000)
  else if (s.lock lock.val).state = 1 then .next (s.sluAbandon fun p => p == (s.lock lock.val).holder)
  else .next s

/-- SLU_LOCK_CONFIG_WRITE (R185): SLU_LOCKn_COVES when `coves`, else SLU_LOCKn_CFG. The secure-only bit of CFG is
discarded alone for cove 0 (R163). -/
def execSluLockConfigWrite (ini : Initiator) (lock : Fin 256) (coves : Bool) (v : Word) (s : State) : Ans :=
  s.busBy ini fun s =>
  let n := lock.val
  let off := 0x604000 + 8 * n + 4 * b2n coves
  let sec := s.isSec ini
  let owner := if s.on F.SLU_LOCK_CFG_SECURE n then sec else s.isCove0 ini
  let now := if coves then s.rd F.SLU_LOCK_COVES_COVES n else s.rd F.SLU_LOCK_CFG_CLASS n
  let new := if coves then v.toNat else v.toNat % 16
  let turn := !coves && bit v.toNat 8 != s.on F.SLU_LOCK_CFG_SECURE n
  if !owner then .next (if new != now || turn then s.denied ini off else s)
  else if (s.lock n).state ≠ 0 || !(s.lock n).waiters.isEmpty then .next (s.wr F.SLU_LOCK_STAT_CFG_REFUSED 1 n)
  else if coves then .next (s.wr F.SLU_LOCK_COVES_COVES v.toNat n)
  else
    let s1 := s.wr F.SLU_LOCK_CFG_CLASS v.toNat n
    if sec then .next (s1.wrB F.SLU_LOCK_CFG_SECURE (bit v.toNat 8) n)
    else .next (if turn then s1.denied ini off else s1)

end Sys2Proof.Machine
end

