-- ==== Sys2Proof/Machine/Lifecycle.lean ====
section
/-!
DEFINITION. Coves (chapter 07): queue contexts (R187 to R190), the life cycle of Table 07-7 with instance reset, freeze and
confinement (R201 to R206), Function Level Resets and AER errors (R194, R206), and the cove state record (R207 to R211).
-/
namespace Sys2Proof.Machine

/-! ### Queue contexts -/

/-- A write to a register of local queue `q` (R189, R192). -/
def State.queueReg (s : State) (ini : Initiator) (c q reg : Nat) (f : State → State) : State :=
  let off := 0x8001000 + 0x200000 * c + 0x40 * q + reg
  if !s.pageOk ini c then s.pageDenied ini c off true
  else if s.rd F.COVE_QUEUES_COUNT c ≤ q then s.accessErr (s.tag ini) (regBase + off) 0 true
  else f s

/-- QUEUE_PROD_WRITE (R188). -/
def execQueueProdWrite (ini : Initiator) (c : Fin 32) (q : Fin 64) (v : Word) (s : State) : Ans :=
  s.by ini fun s =>
  .next (s.queueReg ini c.val q.val 0x0C fun s => s.wr F.COVE_Q_PROD_PROD v.toNat c.val q.val)

/-- ENGINE as Table 07-1 takes it: 6 and 7 are 0. -/
def engineOf (e : Nat) : Nat := if 5 < e then 0 else e

/-- QUEUE_CFG_WRITE (R189): while EN is 1 only EN changes; EN is not set with ENGINE 0; ENGINE 6 and 7 are taken as 0. -/
def execQueueCfgWrite (ini : Initiator) (c : Fin 32) (q : Fin 64) (v : Word) (s : State) : Ans :=
  s.by ini fun s =>
  let eng := engineOf (bits v.toNat 6 4)
  .next (s.queueReg ini c.val q.val 0x08 fun s =>
    if s.on F.COVE_Q_CFG_EN c.val q.val then s.wrB F.COVE_Q_CFG_EN (bit v.toNat 0) c.val q.val
    else
      let s1 := (s.wr F.COVE_Q_CFG_SIZE (bits v.toNat 11 8) c.val q.val).wr F.COVE_Q_CFG_ENGINE eng c.val q.val
      s1.wrB F.COVE_Q_CFG_EN (bit v.toNat 0 && eng != 0) c.val q.val)

/-- QUEUE_FAULT_CLEAR (R190): a write of 1 to FAULT. -/
def execQueueFaultClear (ini : Initiator) (c : Fin 32) (q : Fin 64) (s : State) : Ans :=
  s.by ini fun s =>
  .next (s.queueReg ini c.val q.val 0x14 fun s => s.wr F.COVE_Q_STAT_FAULT 0 c.val q.val)

/-- Descriptors that a ring holds (Table 07-1). -/
def State.queueSize (s : State) (c q : Nat) : Nat := 2 ^ (min (s.rd F.COVE_Q_CFG_SIZE c q) 8 + 4)

/-- Descriptors offered and not accepted. -/
def State.queueUsed (s : State) (c q : Nat) : Nat := used32 (s.rd F.COVE_Q_PROD_PROD c q) (s.rd F.COVE_Q_CONS_CONS c q)

/-- The engine reads the ring: EN, no fault, cove READY and admitted (Table 07-1, R188). -/
def State.queueRuns (s : State) (c q : Nat) : Bool :=
  s.on F.COVE_Q_CFG_EN c q && !s.on F.COVE_Q_STAT_FAULT c q && s.admits c && decide (q < s.rd F.COVE_QUEUES_COUNT c)

/-- The engine of the queue holds a descriptor of it that it has not yet accepted. -/
def State.queueHeld (s : State) (c q : Nat) : Bool :=
  match s.rd F.COVE_Q_CFG_ENGINE c q with
  | 3 => s.bas.queue.any fun d => d.cove == c && d.q == q
  | 4 => (s.pool.fetched.any fun e => e.1 == c && e.2.1 == q) || !s.poolOn
  | 5 => (s.pool.fetched.any fun e => e.1 == c && e.2.1 == q) || !s.poolOn
  | _ => (s.job c q).isSome

/-- The descriptor that was read goes to its engine (R188). -/
def State.queueGive (s : State) (c q : Nat) (l : List Byte) : State :=
  match s.rd F.COVE_Q_CFG_ENGINE c q with
  | 3 => s.modBas fun b => { b with queue := b.queue ++ [{ cove := c, q := q, gen := s.gen c, bytes := l }] }
  | 4 => s.modPool fun p => { p with fetched := p.fetched ++ [(c, q, l)] }
  | 5 => s.modPool fun p => { p with fetched := p.fetched ++ [(c, q, l)] }
  | 1 => s.lochAccept c q l
  | 2 => s.lochAccept c q l
  | _ => s

/-- DESCRIPTOR_FETCH (R188, R190). -/
def execDescriptorFetch (c : Fin 32) (q : Fin 64) (s : State) : Ans :=
  if !s.queueRuns c.val q.val || s.queueHeld c.val q.val || s.queueUsed c.val q.val == 0 then .next s
  else if s.queueSize c.val q.val < s.queueUsed c.val q.val then .next (s.queueFault c.val q.val 5)
  else
    let a := s.rd F.COVE_Q_BASE_BASE c.val q.val * 64 + 64 * (s.rd F.COVE_Q_CONS_CONS c.val q.val % s.queueSize c.val q.val)
    match s.engRead (s.coveTag c.val) a 64 with
    | (s1, .error e) => .next (s1.queueFault c.val q.val e.code)
    | (s1, .ok l) => .next (s1.queueGive c.val q.val l)

/-! ### Enabling and the page -/

/-- First offset of cove `c`'s page. -/
def pageBase (c : Nat) : Nat := 0x8000000 + c * 0x200000

/-- A register entry that step 5 of Table 07-9 takes back to its reset value: the page's registers except those of Table 07-3,
its effect ports and Sluice ports. -/
def pageEntry (c a : Nat) : Bool :=
  (pageBase c + 0x14 ≤ a && a < pageBase c + 0x200000)
    || (0x100000000 + 0x100 * c ≤ a && a < 0x100000000 + 0x100 * (c + 1))
    || (0x200000000 + 0x1000 * c ≤ a && a < 0x200000000 + 0x1000 * (c + 1))

/-- A staging-window entry of slot `i` that step 5 takes back (R204). -/
def slotEntry (i key : Nat) : Bool :=
  let o := key / 64 - (0x3040000 + 0x1000 * i)
  0x3040000 + 0x1000 * i ≤ key / 64 && o < 0x1000
    && !(0x80 ≤ o && o < 0x100) && o != 0x208 && o != 0x20C
    && key != F.BAS_SLOT_STAT_STALE_FRAMES.key i 0 && key != F.BAS_SLOT_STAT_PLACEHOLDER.key i 0

/-- The page at its reset values: registers, MSI-X table with every entry masked, doorbell and ring state. -/
def State.pageReset (s : State) (c : Nat) : State :=
  let slots := s.slotsOwned c
  let s1 := { s with regs := s.regs.filter fun e => !pageEntry c (e.1 / 64) && !(slots.any fun i => slotEntry i e.1) }
  let s2 := { s1 with ram := s1.ram.filter fun e => !(pageBase c + 0x1FD000 ≤ e.1 && e.1 < pageBase c + 0x1FD200) }
  let s3 := if c = 0 then s2 else
    s2.each (List.range 32) fun s e => { s with ram := memWrite s.ram (msixEntry c e + 12) (leBytes 4 1) }
  let s4 := if c = 0 then s3 else s3.modRing (coveRing c) fun _ =>
    { afterLoss := false, episode := false, signalled := false, lastDoor := none, deferred := false }
  let s5 := s4.modSha fun a => { a with afterLoss := a.afterLoss.filter (· != c), episodes := a.episodes.filter (· != c) }
  s5.modCove c fun v => { v with pba := 0, thawEn := [] }

/-- Generation + 1 modulo 65,536 (R203). -/
def State.genUp (s : State) (c : Nat) : State := s.wr F.COVE_ID_GEN (s.gen c + 1) c

/-- A state of Table 07-7 is entered: event 96. -/
def State.coveEnter (s : State) (c st : Nat) : State := (s.wr F.COVE_STATE_STATE st c).raise 96 st c

/-- The lowest-numbered free contexts (R187). -/
def State.freeCtx (s : State) (n : Nat) : List Nat :=
  let used := s.host.coves.flatMap fun v => v.ctx
  ((List.range 512).filter fun k => !used.contains k).take n

/-- A DISABLED cove becomes enabled (R187, R203, Table 07-7). -/
def State.coveEnable (s : State) (c : Nat) (ext : Bool) (queues : Nat) : State :=
  let ctx := s.freeCtx queues
  let s1 := (s.pageReset c).modCove c fun v => { v with en := true, ext := ext, queues := queues, ctx := ctx }
  let s2 := (s1.wr F.COVE_QUEUES_COUNT queues c).wrB F.COVE_ID_EXTERNAL ext c
  (s2.genUp c).coveEnter c 1

/-! ### Commands -/

/-- The command on cove `c` has reached its final state: DONE (R202). -/
def State.coveDone (s : State) (c cmd : Nat) : State :=
  if s.host.cmd = some (cmd, c) then
    ((s.modHost fun h => { h with cmd := none }).wr F.COVE_CMD_STAT_BUSY 0).wr F.COVE_CMD_STAT_DONE 1
  else s

/-- A command is refused: BUSY clears, REFUSED, REASON and event 102 (R201, R202). -/
def State.cmdRefuse (s : State) (c reason : Nat) : State :=
  ((s.modHost fun h => { h with cmd := none }).wr F.COVE_CMD_STAT_BUSY 0).coveRefuse c reason

/-- A write of COVE_CMD with GO (R201, R202, R579): ignored while BUSY; refused for cove 0 and in states that Table 07-7 does
not list for the command. -/
def State.coveCmd (s : State) (ini : Initiator) (cmd c : Nat) (states : List Nat) (f : State → State) : State :=
  let busy := s.on F.COVE_CMD_STAT_BUSY
  if !s.isCove0 ini then
    (if !busy || s.rd F.COVE_CMD_CMD != cmd || s.rd F.COVE_CMD_COVE != c then s.denied ini 0x800000 else s)
  else
    let s1 := (s.wr F.COVE_CMD_CMD cmd).wr F.COVE_CMD_COVE c
    if busy then s1
    else if c = 0 then s1.cmdRefuse c 2
    else if !states.contains (s.rd F.COVE_STATE_STATE c) then s1.cmdRefuse c 1
    else f ((s1.modHost fun h => { h with cmd := some (cmd, c) }).wr F.COVE_CMD_STAT_BUSY 1)

/-! ### Instance reset (Table 07-9) -/

/-- Steps 1 to 3 begin: generation, RESETTING, ports abandoned, purge, fades and braking. -/
def State.resetStart (s : State) (c : Nat) : State :=
  let s0 := s.modCove c fun v => { v with heldReset := false, heldConfine := none }
  let s1 := ((s0.genUp c).coveEnter c 7).sluAbandon (covePorts c)
  let s2 := s1.inc F.COVE_PURGED_COUNT ((s1.jobsOf c).filter fun j => !j.started).length c
  ((((s2.lochReset c).basPurge c).poolReset c).plaCoveReset c).shaCoveReset c

/-- A reset event reaches cove `c` (Table 07-7): taken, held until FROZEN, or without effect. -/
def State.resetReq (s : State) (c : Nat) : State :=
  match s.rd F.COVE_STATE_STATE c with
  | 1 => s.resetStart c
  | 3 => s.resetStart c
  | 6 => s.resetStart c
  | 2 => s.modCove c fun v => { v with heldReset := true }
  | 4 => s.modCove c fun v => { v with heldReset := true }
  | 5 => s.modCove c fun v => { v with heldReset := true }
  | _ => s

/-- A request of an older generation of cove `c` is still tracked (R203): in a channel's queue, or timed out less than 2 ms ago. -/
def State.tracked (s : State) (c : Nat) : Bool :=
  (s.res.chans.any fun k => k.rq.any fun r => !r.tag.secure && r.tag.cove == c && r.tag.gen != s.gen c)
    || s.fab.timedOut.any fun e => e.1 == c && s.elapsed < e.2 + 2000000

/-- COVE_RESET (R201, R204). RESET on a cove that is RESETTING changes nothing and completes with it. -/
def execCoveReset (ini : Initiator) (c : Fin 32) (s : State) : Ans :=
  s.busBy ini fun s =>
  .next (s.coveCmd ini 1 c.val [1, 3, 6, 7] fun s => s.resetReq c.val)

/-- COVE_RESET_DONE (Table 07-9 step 5, Table 07-7): READY, or DISABLED with its contexts freed. -/
def execCoveResetDone (c : Fin 32) (s : State) : Ans :=
  if s.rd F.COVE_STATE_STATE c.val ≠ 7 || s.poolBusy c.val || s.tracked c.val then .next s
  else
    let s1 := (s.pageReset c.val).modOwn fun o => { o with iotlb := o.iotlb.filter fun e => e.cove != c.val }
    let s2 := if (s.cove c.val).en then s1.coveEnter c.val 1
      else ((s1.modCove c.val fun v => { v with ctx := [] }).wr F.COVE_QUEUES_COUNT 0 c.val).coveEnter c.val 0
    .next ((s2.raise 97 0 c.val).coveDone c.val 1)

/-! ### Freeze, thaw, confinement (Table 07-10) -/

/-- Plash under confinement: queued effects end DROPPED, effects in play are braked. -/
def State.plaConfine (s : State) (c : Nat) : State :=
  (s.plaFreeze c).each (List.range 16) fun s k =>
    match (s.hch k).cur with
    | some x => if !x.secure && x.cove == c then s.forceBrake k else s
    | none => s

/-- A trigger of Table 07-11 with its code: CONFINED, held until FROZEN, or without effect (Table 07-7). A command that was to
leave the cove FROZEN ends refused. A Reset that was held is taken, since CONFINED lists it (R201). -/
def State.confine (s : State) (c code : Nat) : State :=
  let st := s.rd F.COVE_STATE_STATE c
  if st = 4 || st = 5 then s.modCove c fun v => { v with heldConfine := some code }
  else if st = 1 || st = 2 || st = 3 then
    let s1 := (s.coveEnter c 6).raise 100 code c
    let s2 := (((s1.lochFreeze c).basFreeze c).poolFreeze c).plaConfine c
    let s3 := s2.sluAbandon (covePorts c)
    let s4 := if s.host.cmd = some (2, c) then s3.cmdRefuse c 1 else s3
    if (s.cove c).heldReset then s4.resetReq c else s4
  else s

/-- FROZEN is entered; what is held is taken (R201). -/
def State.frozenEnter (s : State) (c cmd : Nat) : State :=
  let s1 := (s.coveEnter c 3).coveDone c cmd
  match (s.cove c).heldConfine with
  | some k => (s1.modCove c fun v => { v with heldConfine := none }).confine c k
  | none => if (s.cove c).heldReset then s1.resetReq c else s1

/-- COVE_FREEZE (R205, R571, R572). -/
def execCoveFreeze (ini : Initiator) (c : Fin 32) (s : State) : Ans :=
  s.busBy ini fun s =>
  .next (s.coveCmd ini 2 c.val [1] fun s =>
    let s1 := (((s.coveEnter c.val 2).lochFreeze c.val).basFreeze c.val).poolFreeze c.val
    (s1.plaFreeze c.val).each ((List.range 16).map fun p => 16 * c.val + p) fun s p =>
      if (s.waitsFor p).isSome then s.sluCancel p else s)

/-- Reservoir transactions of cove `c` are in flight. -/
def State.resBusy (s : State) (c : Nat) : Bool :=
  s.res.chans.any fun k => k.rq.any fun r => !r.tag.secure && r.tag.cove == c

/-- COVE_QUIESCED (R205): every row of Table 07-10 has completed. -/
def execCoveQuiesced (c : Fin 32) (s : State) : Ans :=
  if s.rd F.COVE_STATE_STATE c.val ≠ 2 || s.poolBusy c.val || s.resBusy c.val then .next s else .next (s.frozenEnter c.val 2)

/-- COVE_THAW (Table 07-7, R210): queues recorded as enabled by a restored record are enabled, but for those with ENGINE 0 (R189). -/
def execCoveThaw (ini : Initiator) (c : Fin 32) (s : State) : Ans :=
  s.busBy ini fun s =>
  .next (s.coveCmd ini 3 c.val [3] fun s =>
    let s1 := (s.coveEnter c.val 1).poolThaw c.val
    let s2 := s1.each ((s.cove c.val).thawEn.filter fun q => s.rd F.COVE_Q_CFG_ENGINE c.val q != 0) fun s q =>
      s.wr F.COVE_Q_CFG_EN 1 c.val q
    (s2.modCove c.val fun v => { v with thawEn := [] }).coveDone c.val 3)

/-- COVE_CONFINE (R206). -/
def execCoveConfine (ini : Initiator) (c : Fin 32) (s : State) : Ans :=
  s.busBy ini fun s =>
  .next (s.coveCmd ini 6 c.val [1, 2, 3] fun s => (s.confine c.val 0).coveDone c.val 6)

/-! ### Function Level Resets and AER -/

/-- A host's configuration request: before the PF configuration space is ready it ends with Configuration Request Retry (R87). -/
def State.cfgReq (s : State) (f : State → State) : State :=
  if !s.issues (.pcie 0) then s else if s.host.cfgReady then f s else s.send (.pcieCpl 3 [])

/-- Bus Master Enable of VF `c` changes; set, it releases the pending MSI-X messages of unmasked entries (R194). -/
def State.setBusMaster (s : State) (c : Nat) (b : Bool) : State :=
  let s1 := s.modCove c fun v => { v with busMaster := b }
  if b then
    s1.each (setBitsList 32 (s1.cove c).pba) fun s e =>
      (s.modCove c fun v => { v with pba := clearMask 32 v.pba (2 ^ e) }).msix c e
  else s1

/-- VF `c` goes away (R194): an instance reset of the cove if it is external. -/
def State.vfGone (s : State) (c : Nat) : State :=
  let s1 := s.modCove c fun v => { v with vfEnabled := false, busMaster := false }
  if (s.cove c).vfEnabled && (s.cove c).ext then s1.resetReq c else s1

/-- VF Enable and each VF's Bus Master Enable as the host has written them. -/
def State.vfConfig (s : State) (vfEnable : Bool) (busMaster : Nat) : State :=
  s.each ((List.range 32).drop 1) fun s c =>
    if vfEnable then (s.modCove c fun v => { v with vfEnabled := true }).setBusMaster c (bit busMaster c) else s.vfGone c

/-- Link widths and speeds of Table 07-4. -/
def linkOk (speed width : Nat) : Bool := decide (1 ≤ speed) && decide (speed ≤ 4) && [1, 2, 4, 8].contains width

/-- The link's new state; event 110 for every change (R212). -/
def State.linkSet (s : State) (up : Bool) (sp wd : Nat) : State :=
  let changed := s.host.linkUp != up || s.host.speed != sp || s.host.width != wd
  (s.modHost fun h => { h with linkUp := up, speed := sp, width := wd }).when changed fun s => s.raise 110 (sp + 16 * wd)

/-- PCIE_LINK (R193, R194, R212): the link trains to what Table 07-4 lists, is lost or changes, and the configuration space shows what the
host has written. -/
def execPcieLink (up : Bool) (speed : Fin 5) (width : Fin 9) (vfEnable : Bool) (busMaster : BitVec 32) (s : State) : Ans :=
  if !s.issues (.pcie 0) || (up && !linkOk speed.val width.val) then .next s
  else if up then .next ((s.linkSet true speed.val width.val).cfgReq fun s => s.vfConfig vfEnable busMaster.toNat)
  else .next (s.linkSet false 0 0)

/-- VF_FLR (R194): an instance reset of cove `c`, and the function's own Bus Master Enable cleared; event 107. There is no
VF 0. -/
def execVfFlr (c : Fin 32) (s : State) : Ans :=
  if c.val = 0 || !(s.cove c.val).ext then .next s
  else .next (s.cfgReq fun s => ((s.modCove c.val fun v => { v with busMaster := false }).resetReq c.val).raise 107 0 c.val)

/-- PF_FLR (R194): every external cove whose VF goes away is reset. -/
def execPfFlr (_clearVfEnable : Bool) (s : State) : Ans := .next (s.cfgReq fun s => s.vfConfig false 0)

/-- PCIE_AER_ERROR (R206, Table 07-11, R212). -/
def execPcieAerError (c : Fin 32) (sev : AerSeverity) (status : Fin 32) (s : State) : Ans :=
  match sev with
  | .correctable =>
    .next ((s.modCove c.val fun v => { v with aerCor := v.aerCor ||| 2 ^ status.val }).raise 108 status.val c.val)
  | .nonFatal =>
    .next ((s.modCove c.val fun v => { v with aerUncor := v.aerUncor ||| 2 ^ status.val }).raise 109 status.val c.val)
  | .fatal =>
    let s1 := (s.modCove c.val fun v => { v with aerUncor := v.aerUncor ||| 2 ^ status.val }).raise 109 (status.val + 256) c.val
    .next (if c.val = 0 then s1 else s1.confine c.val 1)

/-! ### The cove state record -/

/-- A section: 8-byte header, body, zeros to a multiple of 16 bytes (R208). -/
def recSection (type : Nat) (body : List Byte) : List Byte :=
  let l := leBytes 2 type ++ leBytes 2 0 ++ leBytes 4 body.length ++ body
  l ++ List.replicate ((16 - l.length % 16) % 16) 0

/-- Words of COVE_Qq_CFG, COVE_Qq_STAT and COVE_EVT_CFG. -/
def State.qCfgWord (s : State) (c q : Nat) : Nat :=
  s.rd F.COVE_Q_CFG_SIZE c q * 256 + s.rd F.COVE_Q_CFG_ENGINE c q * 16 + s.rd F.COVE_Q_CFG_EN c q
def State.qStatWord (s : State) (c q : Nat) : Nat := s.rd F.COVE_Q_STAT_FAULT c q * 2 ^ 31 + s.rd F.COVE_Q_STAT_CODE c q
def State.evtCfgWord (s : State) (c : Nat) : Nat :=
  s.rd F.COVE_EVT_CFG_VECTOR c * 65536 + s.rd F.COVE_EVT_CFG_HOLDOFF c * 256 + s.rd F.COVE_EVT_CFG_SIZE c * 2
    + s.rd F.COVE_EVT_CFG_EN c

/-- Section QUEUES, one record of 32 bytes for each local queue. -/
def State.secQueues (s : State) (c : Nat) : List Byte :=
  (List.range (s.rd F.COVE_QUEUES_COUNT c)).flatMap fun q =>
    leBytes 8 (s.rd F.COVE_Q_BASE_BASE c q * 64) ++ leBytes 4 (s.qCfgWord c q) ++ leBytes 4 (s.rd F.COVE_Q_PROD_PROD c q)
      ++ leBytes 4 (s.rd F.COVE_Q_CONS_CONS c q) ++ leBytes 4 (s.qStatWord c q) ++ leBytes 8 0

/-- Section EVENTS. -/
def State.secEvents (s : State) (c : Nat) : List Byte :=
  leBytes 8 (s.rd F.COVE_EVT_BASE_BASE c * 4096) ++ leBytes 4 (s.evtCfgWord c) ++ leBytes 4 (s.rd F.COVE_EVT_PROD_COUNT c)
    ++ leBytes 4 (s.rd F.COVE_EVT_CONS_COUNT c) ++ leBytes 4 (s.rd F.COVE_EVT_LOST_COUNT c)
    ++ ((List.range 16).flatMap fun k => leBytes 4 (s.rd F.COVE_EVT_MASK_MASK c k)) ++ leBytes 8 0

/-- Locks that cove `c` holds, ascending. -/
def State.heldLocks (s : State) (c : Nat) : List Nat :=
  (List.range 256).filter fun n => (s.lock n).state == 1 && covePorts c (s.lock n).holder

/-- Section LOCKS. -/
def State.secLocks (s : State) (c : Nat) : List Byte :=
  let l := s.heldLocks c
  leBytes 2 l.length ++ leBytes 2 0 ++ l.flatMap fun n => leBytes 1 ((s.lock n).holder % 16) ++ leBytes 1 n ++ leBytes 2 0

/-- Section BASIN: the spec gives it no layout; 64 free bytes for each slot that the cove owns. -/
def State.secBasin (s : State) (c : Nat) : List Byte × State := s.freeBytes (64 * (s.slotsOwned c).length)

/-- Position in a cascade, 0xFF when standalone (Table 07-12). -/
def State.srcPos (s : State) : Nat := if 3 ≤ s.rd F.CHIP_STRAP_MODE then s.rd F.PTG_CFG_POSITION else 0xFF

/-- CHIP_ID as a word. -/
def State.chipId (s : State) : Nat := s.wordAt (.pair 0) (.regs 0 false)

/-- Header of a record of `size` bytes (Table 07-12). -/
def State.recHeader (s : State) (c size : Nat) : List Byte :=
  [0x43, 0x53, 0x54, 0x52, 1, 0, 0, 0] ++ leBytes 4 size ++ leBytes 4 s.chipId ++ leBytes 1 c ++ leBytes 1 s.srcPos
    ++ leBytes 2 0 ++ leBytes 2 (s.gen c) ++ leBytes 2 0 ++ leBytes 8 s.tbs.now ++ leBytes 2 (s.share .memory c)
    ++ leBytes 2 (s.share .graphics c) ++ leBytes 2 (s.share .display c) ++ leBytes 2 (s.share .sense c)
    ++ leBytes 1 (s.rd F.COVE_QUEUES_COUNT c) ++ leBytes 1 (b2n (s.cove c).ext) ++ leBytes 2 0
    ++ leBytes 4 (s.rd F.COVE_DISCARD_COUNT c) ++ leBytes 4 (s.rd F.COVE_PURGED_COUNT c) ++ List.replicate 12 0

/-- SEAL of a record (R209, R355). -/
def recSeal (unit cove gen : Nat) (l : List Byte) : Nat := crc32c (genPrefix 1 unit false cove gen l.length 0 ++ l)

/-- The record of cove `c` sealed by a unit (R208, R209). -/
def State.coveRecord (s : State) (c unit : Nat) : List Byte × State :=
  let (loch, s1) := ((s.lochSection c).2, (s.lochSection c).1)
  let (bas, s2) := s1.secBasin c
  let secs := recSection 1 (s.secQueues c) ++ recSection 2 (s.secEvents c) ++ recSection 3 (s.secLocks c)
    ++ recSection 0x8010 loch ++ recSection 0x8011 bas ++ recSection 0x8012 (s.poolSection c)
  let body := s.recHeader c (64 + secs.length + 16) ++ secs
  (body ++ leBytes 4 (recSeal unit c (s.gen c) body) ++ List.replicate 12 0, s2)

/-- The cove manager arms or disarms a general unit (R355). -/
def State.mgrUnit (s : State) (g : Nat) (b : Bool) : State :=
  ((s.wrB F.SND_GEN_CFG_ARMED b g).wrB F.SND_GEN_CFG_BY_COVE_MGR b g).wrB F.SND_GEN_STAT_BUSY b g

/-- The unit that the cove manager holds. -/
def State.mgrHeld (s : State) : Option Nat := (List.range 16).find? fun g => s.on F.SND_GEN_CFG_BY_COVE_MGR g

/-- The cove manager lets its unit go. -/
def State.mgrFree (s : State) : State :=
  match s.mgrHeld with
  | some g => s.mgrUnit g false
  | none => s

/-- COVE_SAVE (R207 to R209, R355): refused without enough room or with the unit armed. -/
def execCoveSave (ini : Initiator) (c : Fin 32) (s : State) : Ans :=
  s.busBy ini fun s =>
  .next (s.coveCmd ini 4 c.val [3] fun s =>
    let g := s.rd F.COVE_MIG_CFG_UNIT
    let (l, s1) := s.coveRecord c.val g
    if s.rd F.COVE_MIG_LEN_LEN < l.length then (s.wr F.COVE_MIG_SIZE_SIZE l.length).cmdRefuse c.val 4
    else if s.genArmed g then s.cmdRefuse c.val 3
    else ((s1.modHost fun h => { h with record := l }).mgrUnit g true).coveEnter c.val 4)

/-- COVE_SAVED (R207, Table 07-7): the record is in memory and event 103 is raised, or the write was denied. -/
def execCoveSaved (c : Fin 32) (s : State) : Ans :=
  if s.rd F.COVE_STATE_STATE c.val ≠ 4 then .next s
  else
    let l := s.host.record
    let s0 := (s.modHost fun h => { h with record := [] }).mgrFree
    match s0.dramWrite s0.wardenTag (s0.rd F.COVE_MIG_ADDR_ADDR * 16) l with
    | (s1, true) => .next ((((s1.wr F.COVE_MIG_SIZE_SIZE l.length).raise 103 0 c.val)).frozenEnter c.val 4)
    | (s1, false) => .next ((s1.cmdRefuse c.val 9).frozenEnter c.val 4)

/-- COVE_RESTORE (R210, R355): the unit is armed if it is free; the checks end with COVE_RESTORED. -/
def execCoveRestore (ini : Initiator) (c : Fin 32) (s : State) : Ans :=
  s.busBy ini fun s =>
  .next (s.coveCmd ini 5 c.val [3] fun s =>
    let g := s.rd F.COVE_MIG_CFG_UNIT
    (if s.genArmed g then s else s.mgrUnit g true).coveEnter c.val 5)

/-- Sections of a record's bytes, the next type being `next` or above: type and body; none where one runs past the end or the types do not
ascend. -/
def recSections : Nat → Nat → List Byte → Option (List (Nat × List Byte))
  | 0, _, l => if l.isEmpty then some [] else none
  | fuel + 1, next, l =>
    if l.isEmpty then some []
    else
      let n := leAt l 4 4
      let t := leAt l 0 2
      let whole := 16 * ceilDiv (8 + n) 16
      if l.length < 8 || l.length < whole || t < next then none
      else (recSections fuel (t + 1) (l.drop whole)).map fun r => (t, slice l 8 n) :: r

/-- Body of a section; empty where the record has none. -/
def recBody (l : List (Nat × List Byte)) (t : Nat) : List Byte :=
  match l.find? fun e => e.1 == t with
  | some e => e.2
  | none => []

/-- Check 4 of Table 07-13 on the bytes that were read: the record's sections. -/
def recFormat (len : Nat) (l : List Byte) : Option (List (Nat × List Byte)) :=
  let size := leAt l 8 4
  if l.length < 80 || l.take 4 != [0x43, 0x53, 0x54, 0x52] || leAt l 4 1 != 1 || len < size || size < 80 || l.length < size then none
  else match recSections (size / 16) 0 ((l.take (size - 16)).drop 64) with
    | none => none
    | some r =>
      let known := r.all fun e => [1, 2, 3, 0x8010, 0x8011, 0x8012].contains e.1 || e.1 < 0x8000
      let n := leAt l 0x28 1
      if known && (recBody r 1).length == 32 * n && (recBody r 2).length == 96
          && (recBody r 3).length == 4 + 4 * leAt (recBody r 3) 0 2 then some r
      else none

/-- The engines accept their sections (check 6). Basin's rule is not stated: a free value decides on a section that is not
empty. -/
def State.recFits (s : State) (c : Nat) (l : List Byte) (r : List (Nat × List Byte)) : Bool × State :=
  let chip := leAt l 0xC 4
  let same := bits chip 31 16 == bits s.chipId 31 16 && bits chip 11 8 == bits s.chipId 11 8
  let q := recBody r 1
  let eng := fun (k : Nat) => bits (leAt q (32 * k + 8) 4) 6 4
  let loch := recBody r 0x8010
  let pool := recBody r 0x8012
  let bas := (recBody r 0x8011).isEmpty
  let ok := decide (leAt l 0x28 1 ≤ s.rd F.COVE_QUEUES_COUNT c) && (loch.isEmpty || s.lochSectionOk c same loch)
    && (pool.isEmpty || s.poolSectionOk c eng pool)
  let (v, s1) := s.draw
  if bas then (ok, s) else (ok && v % 2 == 1, s1)

/-- One queue of a restored record, with EN as 0 (R210). -/
def State.queueRestore (s : State) (c : Nat) (body : List Byte) (q : Nat) : State :=
  let o := 32 * q
  let cfg := leAt body (o + 8) 4
  let st := leAt body (o + 20) 4
  let s1 := ((s.wr F.COVE_Q_BASE_BASE (leAt body o 8 / 64) c q).wr F.COVE_Q_CFG_SIZE (bits cfg 11 8) c q).wr
    F.COVE_Q_CFG_ENGINE (engineOf (bits cfg 6 4)) c q
  let s2 := ((s1.wr F.COVE_Q_CFG_EN 0 c q).wr F.COVE_Q_PROD_PROD (leAt body (o + 12) 4) c q).wr
    F.COVE_Q_CONS_CONS (leAt body (o + 16) 4) c q
  (s2.wr F.COVE_Q_STAT_FAULT (bits st 31 31) c q).wr F.COVE_Q_STAT_CODE (bits st 3 0) c q

/-- The event registers of a restored record. -/
def State.eventsRestore (s : State) (c : Nat) (b : List Byte) : State :=
  let cfg := leAt b 8 4
  let s1 := ((s.wr F.COVE_EVT_BASE_BASE (leAt b 0 8 / 4096) c).wr F.COVE_EVT_CFG_VECTOR (bits cfg 20 16) c).wr
    F.COVE_EVT_CFG_HOLDOFF (bits cfg 15 8) c
  let s2 := ((s1.wr F.COVE_EVT_CFG_SIZE (bits cfg 4 1) c).wr F.COVE_EVT_CFG_EN 0 c).wr F.COVE_EVT_PROD_COUNT (leAt b 12 4) c
  let s3 := (s2.wr F.COVE_EVT_CONS_COUNT (leAt b 16 4) c).wr F.COVE_EVT_LOST_COUNT (leAt b 20 4) c
  s3.each (List.range 16) fun s k => s.wr F.COVE_EVT_MASK_MASK (leAt b (24 + 4 * k) 4) c k

/-- A lock of the record moves to the target's port of the same number, or event 105 is raised (R211). `ours`: the first two
conditions hold. -/
def State.lockRestore (s : State) (c src : Nat) (ours : Bool) (port n : Nat) : State :=
  if ours && decide (port < 16) && (s.lock n).state == 1 && (s.lock n).holder == 16 * src + port then
    s.modLock n fun l => { l with holder := 16 * c + port }
  else s.raise 105 n c

/-- What a restore that passed every check does (R210, R211). -/
def State.recApply (s : State) (c : Nat) (l : List Byte) (r : List (Nat × List Byte)) : State :=
  let n := leAt l 0x28 1
  let qb := recBody r 1
  let src := leAt l 0x10 1 % 32
  let ours := leAt l 0xC 4 == s.chipId && leAt l 0x11 1 == s.srcPos && s.rd F.COVE_STATE_STATE src == 3
    && s.gen src == leAt l 0x14 2
  let s1 := s.each (List.range n) fun s q => s.queueRestore c qb q
  let s2 := (s1.eventsRestore c (recBody r 2)).modCove c fun v =>
    { v with thawEn := (List.range n).filter fun q => bit (leAt qb (32 * q + 8) 4) 0 }
  let s3 := s2.genUp c
  let s4 := if (recBody r 0x8010).isEmpty then s3 else s3.lochRestore c (recBody r 0x8010)
  let s5 := if (recBody r 0x8012).isEmpty then s4 else s4.poolRestore c (recBody r 0x8012)
  let lb := recBody r 3
  let s6 := s5.each (List.range (leAt lb 0 2)) fun s k => s.lockRestore c src ours (leAt lb (4 + 4 * k) 1) (leAt lb (5 + 4 * k) 1)
  s6.raise 104 src c

/-- The restore ends with a REASON, or with the state applied. -/
def State.restoreEnd (s : State) (c : Nat) : State :=
  let len := s.rd F.COVE_MIG_LEN_LEN
  let addr := s.rd F.COVE_MIG_ADDR_ADDR * 16
  if (List.range 64).any fun q => s.on F.COVE_Q_CFG_EN c q then (s.mgrFree.cmdRefuse c 1)
  else match s.mgrHeld with
  | none => s.cmdRefuse c 3
  | some g =>
    let s := s.mgrUnit g false
    match s.dramRead s.wardenTag addr (min len 64) with
    | (s1, none) => s1.cmdRefuse c 9
    | (s1, some h) =>
      match s1.dramRead s1.wardenTag addr (min len (max 64 (leAt h 8 4))) with
      | (s2, none) => s2.cmdRefuse c 9
      | (s2, some l) =>
        match recFormat len l with
        | none => s2.cmdRefuse c 5
        | some r =>
          let size := leAt l 8 4
          let s3 := s2.wr F.COVE_MIG_SIZE_SIZE size
          if recSeal g (leAt l 0x10 1) (leAt l 0x14 2) (l.take (size - 16)) ≠ leAt l (size - 16) 4 then s3.cmdRefuse c 6
          else match s3.recFits c l r with
            | (false, s4) => s4.cmdRefuse c 7
            | (true, s4) => s4.recApply c l r

/-- COVE_RESTORED (R210, Table 07-7). -/
def execCoveRestored (c : Fin 32) (s : State) : Ans :=
  if s.rd F.COVE_STATE_STATE c.val ≠ 5 then .next s else .next ((s.restoreEnd c.val).frozenEnter c.val 5)

end Sys2Proof.Machine
end

