-- ==== Sys2Proof/Machine/Power.lean ====
section
/-!
DEFINITION. Power domains and votes (03.9), the power cap (03.10), and the warning temperature (R95).
-/
namespace Sys2Proof.Machine

/-! ### Votes (R99, R100) -/

/-- The domain whose vote bits apply to domain `d`: the lowest-numbered one of its group (R100). -/
def State.voteLeader (s : State) (d : Nat) : Nat :=
  match s.img.power.groups.getD d 255 with
  | 255 => d
  | g => ((List.range 14).find? fun e => s.img.power.groups.getD e 255 == g).getD d

/-- The votes and FORCE_OFF decide that domain `d` is on (R99). -/
def State.pdWant (s : State) (d : Nat) : Bool :=
  let l := s.voteLeader d
  (bit (s.rd F.CHIP_PD_VOTE_SEC_VAL) l || bit (s.rd F.CHIP_PD_VOTE_NS_VAL) l) && !bit (s.rd F.CHIP_PD_FORCE_OFF_VAL) d

/-- Set the status of domain `d` (Table 03-18). -/
def State.pdSet (s : State) (d v : Nat) : State :=
  s.wr F.CHIP_PD_STAT_VAL (setBits (s.rd F.CHIP_PD_STAT_VAL) (2 * d + 1) (2 * d) v)

/-- A switch-off of domain `d` is refused (Table 03-17, R256). -/
def State.pdHeld (s : State) (d : Nat) : Bool :=
  match d with
  | 6 => s.host.coves.any (·.vfEnabled)
  | 7 => s.linkUp 0
  | 8 => s.linkUp 1
  | 12 => s.img.layers.any fun l => l.en && l.scaler != 255 && decide (16 ≤ l.scaler)
  | 13 => (List.range 16).any fun g => s.on F.SND_GEN_CFG_ARMED g
  | _ => false

/-- The decision for domain `d` changes from `old` to what the registers say now: it powers up, drains to switch off, or its
switch-off is refused with event 7 to the world of tag `t`. -/
def State.pdDecide (s : State) (old : Nat → Bool) (t : WorkTag) (d : Nat) : State :=
  let on := bit s.chip.pdTarget d
  if s.pdWant d then
    (if on then s else (s.modChip fun c => { c with pdTarget := c.pdTarget + 2 ^ d }).pdSet d 3)
  else if !on || !old d then s
  else if s.pdHeld d then s.raise 7 d t.cove t.secure
  else (s.modChip fun c => { c with pdTarget := c.pdTarget - 2 ^ d, secHeld := clearMask 14 c.secHeld (2 ^ d) }).pdSet d 3

/-- Domains whose vote bits bit `l` of a vote register gives. -/
def State.votedBy (s : State) (l : Nat) : List Nat := (List.range 14).filter fun d => s.voteLeader d == l

/-- Domain `d` is held on by the secure vote alone, or no longer is: its status shows it at once, or once it has come on. -/
def State.setHeld (s : State) (d : Nat) (h : Bool) : State :=
  let s1 := s.modChip fun c => { c with secHeld := if h then c.secHeld ||| 2 ^ d else clearMask 14 c.secHeld (2 ^ d) }
  if s.domainOn d then s1.pdSet d (if h then 2 else 1) else s1

/-- What a normal-world write of VOTE_NS from `old` to `new` raises (R99): SECURE_HELD for a vote it clears under a secure vote, and
NS_OVERRIDDEN for a vote it sets on a domain that FORCE_OFF holds off. -/
def State.nsEvents (s : State) (t : WorkTag) (old new : Nat) : State :=
  s.each (List.range 14) fun s l =>
    let was := bit old l
    let is := bit new l
    s.each (s.votedBy l) fun s d =>
      if was && !is && bit (s.rd F.CHIP_PD_VOTE_SEC_VAL) l && s.pdWant d then
        (s.setHeld d true).raise 5 d t.cove t.secure
      else if !was && is && bit (s.rd F.CHIP_PD_FORCE_OFF_VAL) d then s.raise 6 d t.cove t.secure
      else if is && bit s.chip.secHeld d then s.setHeld d false
      else s

/-- A vote register takes a value (R99); votes are ignored in DRAIN and TEST. -/
def State.voteWrite (s : State) (t : WorkTag) (reg : PdReg) (v : Nat) : State :=
  let f := match reg with
    | .voteSec => F.CHIP_PD_VOTE_SEC_VAL
    | .voteNs => F.CHIP_PD_VOTE_NS_VAL
    | .forceOff => F.CHIP_PD_FORCE_OFF_VAL
  let s1 := s.wr f v
  if s.chip.phase = .drain || s.chip.phase = .test then s1
  else
    let s2 := if reg = .voteNs && !t.secure then s1.nsEvents t (s.rd F.CHIP_PD_VOTE_NS_VAL) v else s1
    s2.each (List.range 14) fun x d => x.pdDecide s.pdWant t d

/-- PD_VOTE_WRITE (R99, R102): VOTE_SEC and FORCE_OFF take the secure world only. -/
def execPdVoteWrite (ini : Initiator) (reg : PdReg) (v : BitVec 14) (s : State) : Ans :=
  s.busBy ini fun s =>
  let off := match reg with | .voteSec => 0x20 | .voteNs => 0x24 | .forceOff => 0x28
  let cur := match reg with
    | .voteSec => s.rd F.CHIP_PD_VOTE_SEC_VAL
    | .voteNs => s.rd F.CHIP_PD_VOTE_NS_VAL
    | .forceOff => s.rd F.CHIP_PD_FORCE_OFF_VAL
  if reg ≠ .voteNs && !s.isSec ini then .next (if v.toNat = cur then s else s.denied ini off)
  else .next (s.voteWrite (s.tag ini) reg v.toNat)

/-- Work that domain `d` still has to drain before it goes off (R101, R168, R359): secure-world harts of a core cluster (harts 0 to
3 and 4 to 7), dispatches on Loch clusters. -/
def State.pdBusy (s : State) (d : Nat) : Bool :=
  match d with
  | 0 => (List.range 4).any fun h => s.on F.WEIR_HART_STAT_SECURE h
  | 1 => (List.range 4).any fun h => s.on F.WEIR_HART_STAT_SECURE (h + 4)
  | 2 => s.lochBusy 2 | 3 => s.lochBusy 3 | 4 => s.lochBusy 4 | 5 => s.lochBusy 5
  | _ => false

/-- The PCIe link goes with the power of D6: it is lost, with event 110 (R212). -/
def State.pcieOff (s : State) : State :=
  let s1 := s.modHost fun h => { h with linkUp := false, speed := 0, width := 0 }
  if s.host.linkUp then s1.raise 110 0 else s1

/-- What goes with the power of domain `d` when it goes off: the caches of a core cluster, Loch clusters, the PCIe link,
haptic drive (R473), scan frames (R497) and, with the last of D10 and D11, the boost; requesters that lost their power are masked
(R136). -/
def State.pdOff (s : State) (d : Nat) : State :=
  match d with
  | 0 => (s.clusterOff 0).sidebandsRise | 1 => (s.clusterOff 1).sidebandsRise
  | 2 => s.lochPower 2 false | 3 => s.lochPower 3 false | 4 => s.lochPower 4 false | 5 => s.lochPower 5 false
  | 6 => s.pcieOff.sidebandsRise | 7 => s.sidebandsRise | 8 => s.sidebandsRise
  | 10 => s.plaDead.boostUpdate
  | 11 => (s.touchDropAll 2).boostUpdate
  | _ => s

/-- What comes with the power of domain `d`. -/
def State.pdOn (s : State) (d : Nat) : State :=
  match d with
  | 2 => s.lochPower 2 true | 3 => s.lochPower 3 true | 4 => s.lochPower 4 true | 5 => s.lochPower 5 true
  | 10 => s.boostUpdate | 11 => s.boostUpdate
  | _ => s

/-- PD_SWITCH_DONE (R101): the domain is powered, or has drained and is off. -/
def execPdSwitchDone (d : Fin 14) (s : State) : Ans :=
  let n := d.val
  if !s.powered || s.pdStat n ≠ 3 then .next s
  else if s.pdAim n then .next ((s.pdSet n (if bit s.chip.secHeld n then 2 else 1)).pdOn n)
  else if s.pdBusy n then .next s
  else .next ((s.pdSet n 0).pdOff n)

/-! ### Power cap (R103 to R105) -/

/-- PCAP_WINDOW (R105): the estimates of a 10 ms window: the fixed regions, Loch, its ranks 1 to 3 alone, the cores. Loch and the cores
are throttled above what they may use, or while the cap is exceeded; with both at their 2 W floors the cap is unmet. -/
def execPcapWindow (fixedMw lochMw rankMw coresMw : Nat) (s : State) : Ans :=
  if !s.powered then .next s
  else
    let e := s.pcapEffective
    let exceeds := decide (1000 * e < fixedMw + lochMw + coresMw)
    let throttle := exceeds || decide (lochLimit e fixedMw < lochMw) || decide (coresLimit e fixedMw < coresMw)
    let unmet := exceeds && decide (lochMw ≤ 2000) && decide (coresMw ≤ 2000)
    let s0 := s.modLoch fun l => { l with fixedMw := fixedMw, estMw := lochMw, rankMw := min rankMw lochMw }
    let s1 := (s0.wrB F.CHIP_PCAP_THROTTLING throttle).wrB F.CHIP_PCAP_UNMET unmet
    let s2 := if throttle && !s.on F.CHIP_PCAP_THROTTLING then s1.raise 8 else s1
    .next (if unmet && !s.on F.CHIP_PCAP_UNMET then s2.raise 9 else s2)

/-! ### Temperature (R95) -/

/-- THERM_WARN (R95): 125 °C. -/
def execThermWarn (tj : Int) (s0 : State) : Ans :=
  let s := s0.tjSeen tj
  if s.powered && decide (125 ≤ tj) && !s.pins.thermLow then .next ((s.modPins fun p => { p with thermLow := true }).raise 10)
  else .next s

/-- THERM_RELEASE (R95): below 120 °C. -/
def execThermRelease (tj : Int) (s0 : State) : Ans :=
  let s := s0.tjSeen tj
  if tj < 120 then .next (s.modPins fun p => { p with thermLow := false }) else .next s

end Sys2Proof.Machine
end

