-- ==== Sys2Proof/Machine/Boot.lean ====
section
/-!
DEFINITION. The boot sequence (03.4): BOOT_STEP_DONE with the image of a flash slot (R81 to R86), the MRAM cache (R119, R120), the
training of DRAM (R234 to R236) and the boot logos (R304); the row IMAGE_CACHE_REWRITE.
-/
namespace Sys2Proof.Machine

/-! ### Status -/

/-- Both copies of CHIP_IMG_STAT report the boot image (Table 04-11). -/
def State.imgStatus (s : State) (err idx : Nat) (done fail : Bool) : State :=
  s.each [0, 1] fun s w =>
    let s1 := ((s.wr F.CHIP_IMG_STAT_ERR_SECTION idx w).wr F.CHIP_IMG_STAT_ERROR err w).wr F.CHIP_IMG_STAT_SOURCE 0 w
    (s1.wrB F.CHIP_IMG_STAT_DONE done w).wrB F.CHIP_IMG_STAT_FAIL fail w

/-- The straps name a flash as boot source (Table 02-6). -/
def State.flashBoot (s : State) : Bool := let m := s.rd F.CHIP_STRAP_MODE; m == 0 || m == 1 || m == 3

def State.bootStep (s : State) : Nat := s.rd F.CHIP_BOOT_STAT_STEP
def State.setStep (s : State) (n : Nat) : State := s.wr F.CHIP_BOOT_STAT_STEP n

/-- The sequencer has halted (R83). -/
def State.halted (s : State) : Bool := s.on F.CHIP_BOOT_STAT_FAIL

/-- The image-load window accepts an image (R86, R87): in MODE 010 from step 3 on, and while the sequencer is halted. -/
def State.loadOpen (s : State) : Bool :=
  s.chip.phase == .boot && !s.chip.stagedDone && (s.halted || (s.rd F.CHIP_STRAP_MODE == 2 && s.bootStep == 3))

/-- An image is awaited over Portage (R86, R546). -/
def State.portLoadOpen (s : State) : Bool :=
  s.chip.phase == .boot && !s.chip.stagedDone && decide (4 ≤ s.rd F.CHIP_STRAP_MODE) && s.bootStep == 3

/-- The slot that is tried first. -/
def State.firstSlot (s : State) : Nat := s.rd F.CHIP_BOOT_CFG_PREFER_B

/-! ### The MRAM cache (R119, R120) -/

/-- MRAM offsets of the tag and of the cached bytes: the model's layout. -/
def cacheTag : Nat := 0x400000
def cacheData : Nat := 0x401000

/-- Sections that the cache holds of an image: all but SECURE_FW if they fit, else the structure sections (R119). -/
def cachedDir (l : List Byte) : List DirEnt :=
  let d := (dirOf l).filter fun e => knownType e.type && e.type != 0x40
  if (imageHead l).length + (d.map (·.len)).sum ≤ 4 * 1048576 - 4096 then d else d.filter fun e => step4Types.contains e.type

/-- The signed part: header and directory. -/
def signedPart (l : List Byte) : List Byte := slice l 0 (0x40 + 0x40 * dirCount l)

/-- The cache holds this image. -/
def State.cacheHit (s : State) (l : List Byte) : Bool :=
  s.on F.CHIP_IMG_CACHE_VALID && memRead s.mram cacheTag 48 == Config.sha384 (signedPart l)

/-- Clear the tag. -/
def State.cacheClear (s : State) : State :=
  { s with mram := memWrite s.mram cacheTag (List.replicate 48 0) }.wr F.CHIP_IMG_CACHE_VALID 0

/-- The cached sections with their bytes. -/
def State.cacheRead (s : State) (l : List Byte) : List (DirEnt × List Byte) :=
  ((cachedDir l).foldl (fun (acc : Nat × List (DirEnt × List Byte)) e =>
    (acc.1 + e.len, acc.2 ++ [(e, memRead s.mram acc.1 e.len)])) (cacheData + (imageHead l).length, [])).2

/-- The image as the sequencer reads it, and whether the boot missed the cache: cached sections that match their digests stand in place of
the slot's. A cached section that fails invalidates the cache; that the boot then counts as one that missed is the model's choice. -/
def State.bootImage (s : State) (l : List Byte) : State × List Byte × Bool :=
  if !s.cacheHit l then (s, l, true)
  else
    let cs := s.cacheRead l
    let good := cs.filter fun e => digestOk e.1 e.2
    let l1 := good.foldl (fun l (e : DirEnt × List Byte) => l.take e.1.off ++ e.2 ++ l.drop (e.1.off + e.1.len)) l
    let s1 := s.wr F.CHIP_IMG_CACHE_HIT 1
    if good.length = cs.length then (s1, l1, false) else (s1.cacheClear, l1, true)

/-- IMAGE_CACHE_REWRITE (R120): after a boot that missed, in RUN; the tag is written last. -/
def execImageCacheRewrite (s : State) : Ans :=
  if s.chip.phase ≠ .run || !s.chip.cacheMissed then .next s
  else
    let d := cachedDir s.chip.imgHead
    let body := d.flatMap fun e => ((s.chip.bootSecs.find? fun p => p.1 == e.type).map (·.2)).getD []
    let m := memWrite (memWrite s.mram cacheData (s.chip.imgHead ++ body)) cacheTag (Config.sha384 (signedPart s.chip.imgHead))
    let s1 := { s with mram := m }.modChip fun c => { c with cacheMissed := false }
    .next ((s1.wr F.CHIP_IMG_CACHE_VALID 1).wr F.CHIP_IMG_CACHE_WRITING 0)

/-! ### Step 4: the structure sections take effect -/

/-- A register field of the PFAIL, vote and cap registers takes the POWER record's value, and the domains follow. -/
def State.powerApply (s : State) (p : PowerCfg) : State :=
  let s1 := (s.wr F.CHIP_PFAIL_EN (bits p.pfail 8 8)).wr F.CHIP_PFAIL_THRESH (bits p.pfail 5 0)
  let s2 := ((s1.wr F.CHIP_PD_VOTE_SEC_VAL p.voteSec).wr F.CHIP_PD_VOTE_NS_VAL p.voteNs).wr F.CHIP_PD_FORCE_OFF_VAL p.forceOff
  let s3 := ((s2.wr F.CHIP_PCAP_CAP_SEC p.pcapSec).wr F.CHIP_PCAP_CAP_NS p.pcapNs).wr F.CHIP_PCAP_EFFECTIVE (min p.pcapSec p.pcapNs)
  s3.each (List.range 14) fun x d => x.pdDecide (fun _ => true) (secTag s3) d

/-- CHIP_PORT_TYPE and the ports of a PORTS section (R63): a port whose type changes from another is held at high impedance for
10 ms (R65). -/
def State.portsApply (s : State) : State :=
  let type := fun n => (s.img.ports.getD n default).type
  let old := fun n => bits (s.rd F.CHIP_PORT_TYPE_TYPES) (2 * n + 1) (2 * n)
  let held := fun n => old n != 0 && old n != type n
  let types := ((List.range 8).map fun n => type n * 4 ^ n).sum
  let off := ((List.range 8).map fun n => if type n = 0 || held n then 2 ^ n else 0).sum
  ((s.wr F.CHIP_PORT_TYPE_APPLIED 1).wr F.CHIP_PORT_TYPE_TYPES types).modPins fun p =>
    { p with portHiZ := off
             portHold := (List.range 8).map fun n => if held n then some (s.elapsed + 10000000) else p.portHold.getD n none }

/-- The shares of the COVES records. -/
def State.sharesApply (s : State) : State :=
  s.each (List.range 32) fun s c =>
    let r := s.img.coves.getD c default
    (((s.wr (srShare .memory) r.res c).wr (srShare .graphics) r.loch c).wr (srShare .display) r.bas c).wr (srShare .sense) r.pool c

/-- The registers of POWER at their reset values again, and the domains with them. -/
def State.powerUndo (s : State) : State :=
  let s1 := [F.CHIP_PFAIL_EN, F.CHIP_PFAIL_THRESH, F.CHIP_PD_VOTE_SEC_VAL, F.CHIP_PD_VOTE_NS_VAL, F.CHIP_PD_FORCE_OFF_VAL,
    F.CHIP_PCAP_CAP_SEC, F.CHIP_PCAP_CAP_NS, F.CHIP_PCAP_EFFECTIVE].foldl (fun s f => s.clr f) s
  s1.each (List.range 14) fun x d => x.pdDecide (fun _ => true) (secTag s1) d

/-! ### What rejection undoes -/

/-- Heads, maps and configuration of a rejected image go; every display port is at high impedance (R113). That CHIP_PORT_TYPE.APPLIED
and TYPES return to 0, and the registers of POWER and COVES to their reset values, is the model's choice. -/
def State.bootUndo (s : State) : State :=
  let s1 := (s.each (List.range 8) fun s h => if (s.oh h).stage == .off then s else s.headDown h).modPins fun p =>
    { p with portHiZ := 255, panelEn := 0, blEn := 0 }
  let s2 := ({ s1 with img := noImage }.modBas fun _ => basReset).modTst fun t => { t with nvrGrans := [], nvr := [] }
  let s3 := (s2.assignEngines.wr F.CHIP_PORT_TYPE_APPLIED 0).wr F.CHIP_PORT_TYPE_TYPES 0
  (s3.powerUndo.sharesApply).modChip fun c => { c with imgHead := [], bootSecs := [] }

/-- A slot is rejected with a code (R83): the other slot from step 3 on with event 11, or BOOT_FAIL. -/
def State.slotReject (s : State) (code idx : Nat) : State :=
  let s1 := ((s.imgStatus code idx false true).bootUndo).modChip fun c => { c with cacheMissed := false }
  if s.chip.triedOther || s.on F.CHIP_BOOT_CFG_NO_FALLBACK then (s1.wr F.CHIP_BOOT_STAT_FAIL 1).raise 12
  else
    let s2 := s1.modChip fun c => { c with triedOther := true, slot := 1 - c.slot }
    ((s2.wr F.CHIP_BOOT_STAT_FALLBACK 1).setStep 2).raise 11

/-- The PF configuration space is ready (step 4 of Table 03-7; by step 3 in MODE 010). -/
def State.cfgOpen (s : State) : State := s.modHost fun h => { h with cfgReady := true }

/-- The structure sections of an accepted image take effect, and what later steps need of it is held. -/
def State.imageAccept (s : State) (l : List Byte) : State :=
  let secs := ((dirOf l).filter fun e => knownType e.type).map fun e => (e.type, secBytes l e)
  let s1 := (s.modImg fun _ => layAll l step4Types noImage).modChip fun c => { c with imgHead := imageHead l, bootSecs := secs }
  let s2 := (s1.wr F.CHIP_IMG_BUILD_BUILD (leAt l 0x10 8)).portsApply.sharesApply
  let s3 := match findDir (dirOf l) 0x18 with
    | some e => s2.each (List.range 8) fun s h => s.setSeals h (secBytes l e.1)
    | none => s2
  (s3.powerApply s3.img.power).assignEngines

/-! ### Steps 5 to 12: later sections -/

/-- The bytes of a section of the image being booted. -/
def State.bootSec (s : State) (t : Nat) : Option (List Byte) := (s.chip.bootSecs.find? fun p => p.1 == t).map (·.2)

/-- RANGE of a section read at step `n`: of COLOUR, the safety heads' records at step 6 and the others' at step 11 (Table 04-4). -/
def State.lateRange (s : State) (n t : Nat) (b : List Byte) : Bool :=
  if t = 0x30 then colourRecsOk b fun h => (s.head h).safety == (n == 6)
  else reservedOk t b && lateOk s.img s.tablesNamed t b

/-- DIGEST and RANGE of the sections of types `ts` when step `n` reads them (R113): code and index of the first failure. A staged image
was checked whole. -/
def State.lateBad (s : State) (n : Nat) (ts : List Nat) : Option (Nat × Nat) :=
  if s.chip.stagedDone then none
  else ts.findSome? fun t =>
    match s.bootSec t, findDir (dirOf s.chip.imgHead) t with
    | some b, some e =>
      if !digestOk e.1 b then some (9, e.2)
      else if !s.lateRange n t b then some (0x0A, e.2)
      else none
    | _, _ => none

/-- The lowest free granules. -/
def State.lowFree (s : State) (n : Nat) : List Nat :=
  let taken := s.takenGrans
  ((List.range 131072).filter fun g => !taken.contains g && s.bankOpen (g % 256)).take n

/-- Set the displayed and composing entry of a tile. -/
def State.bootTile (s : State) (h k : Nat) (e : TileEntry) : State :=
  s.modHc h fun c => { c with disp := c.disp.set k e, comp := c.comp.set k e }

/-- The logo tile (x, y) of head `h` (R304): its place in the grid, and the entry of the tile table. -/
def State.logoTile (s : State) (l : List Byte) (h : Nat) (dx dy : Int) (w x y : Nat) : State :=
  let gw := s.tilesW h
  let gx : Int := dx + x
  let gy : Int := dy + y
  let e := leAt l (leAt l (16 * h) 4 + 4 * (y * w + x)) 4
  let n := bits e 26 24
  if gx < 0 || (gw : Int) ≤ gx || gy < 0 || (s.tilesH h : Int) ≤ gy || n = 0 then s
  else
    let gs := s.lowFree n
    if gs.length < n then s
    else (s.storeGrans gs (slice l (16 * bits e 23 0) (1024 * n))).bootTile h (gy.toNat * gw + gx.toNat)
      { count := n, grans := gs, colour := 0, lost := false }

/-- The logo of head `h`, or none: its map is then solid in BG_COLOUR. -/
def State.logoHead (s : State) (l : List Byte) (h : Nat) : State :=
  let s0 := s.solidMaps h false
  if leAt l (16 * h) 4 = 0 then s0
  else
    let w := leAt l (16 * h + 4) 2
    let n := leAt l (16 * h + 6) 2
    let dx := ((s0.tilesW h : Int) - w) / 2
    let dy := ((s0.tilesH h : Int) - n) / 2
    s0.each (List.range (w * n)) fun s k => s.logoTile l h dx dy w (k % w) (k / w)

/-- The NVR tiles hold granules from now on and are solid in WEL_PAL0 (R505, R508). -/
def State.nvrBoot (s : State) : State :=
  match s.img.legal with
  | none => s
  | some g =>
    s.each (s.legalTiles g.head) fun s _ =>
      let e : TileEntry := { count := 0, grans := [], colour := s.palPx (s.head g.head).depth30 0, lost := false }
      let gs := s.lowFree (s.gOf g.head)
      s.modTst fun t => { t with nvrGrans := t.nvrGrans ++ [gs], nvr := t.nvr ++ [e] }

/-- Step 5. -/
def State.bootLogos (s : State) : State :=
  let l := (s.bootSec 0x20).getD []
  let live := (List.range 8).filter s.img.live
  ((s.modImg fun m => { m with logo := l }).each live fun s h => s.logoHead l h).nvrBoot

/-- LUTs and timings of the heads that `p` selects, and their start (R331). -/
def State.bootHeads (s : State) (p : HeadCfg → Bool) : State :=
  let l := (s.bootSec 0x30).getD []
  let s1 := s.modImg fun m => { m with colour := l }
  s1.each ((List.range 8).filter fun h => s.img.live h && p (s.head h)) fun s h =>
    (s.modOh h fun o => { o with lut := colourRec l h }).headUp h

/-- Step 11: the remaining sections. -/
def State.bootRest (s : State) : State :=
  let s1 := s.each [0x31, 0x32, 0x33, 0x34, 0x35] fun s t =>
    match s.bootSec t with
    | some b => s.modImg fun m => layOver m t b
    | none => s
  s1.bootHeads fun c => !c.safety

/-- Step 12: secure firmware is copied to DRAM under the secure tag (Table 04-8). -/
def State.bootFirmware (s : State) : State :=
  match s.bootSec 0x40 with
  | some b => (s.dramWrite (secTag s) (leAt b 0 8) (b.drop 16)).1
  | none => s

/-- How far the sequence of a head that comes up has gone: 2 past step 7, 3 past step 8, 4 past step 9. -/
def stageRank : HeadStage → Nat
  | .off => 0 | .panelDelay => 1 | .hpdWait => 1 | .training => 2 | .first => 3
  | _ => 4

/-- Every safety head has come so far. -/
def State.safetyAt (s : State) (n : Nat) : Bool :=
  (List.range 8).all fun h => !(s.img.live h && (s.head h).safety) || decide (n ≤ stageRank (s.oh h).stage)

/-- The first active line of head `h`'s first frame has begun (R581): V_FRONT + V_SYNC + V_BACK lines after its frame start. -/
def State.firstLine (s : State) (h : Nat) : Bool :=
  let c := s.head h
  s.rd F.OUT_HEAD_SEQ_SEQ h != 0 || ((s.oh h).stage.frames && decide (c.vFront + c.vSync + c.vBack ≤ s.lineNow h))

/-- The first active line has come on every safety head (step 9). -/
def State.safetyLit (s : State) : Bool :=
  s.safetyAt 4 && (List.range 8).all fun h => !(s.img.live h && (s.head h).safety) || s.firstLine h

/-- Step 14: RUN (R82, R304, R187); each enabled sensor's scan frames begin (R464). -/
def State.bootRun (s : State) : State :=
  let s1 := (s.imgStatus 0 255 true false).modChip fun c => { c with staged := false, stagedBusy := false }
  let s2 := s1.each ((List.range 8).filter s.img.live) fun s h =>
    s.modHc h fun k => { k with forced := List.range (s.tileCount h) }
  let s3 := s2.phaseGo .run
  let s4 := s3.each ((List.range 32).filter fun c => (s3.img.coves.getD c default).en) fun s c =>
    let r := s.img.coves.getD c default
    s.coveEnable c r.ext r.queues
  let s5 := s4.each ((List.range 4).filter fun n => (s4.img.sensors.getD n default).en) fun s n => s.scanGrid n
  s5.wrB F.CHIP_IMG_CACHE_WRITING s.chip.cacheMissed

/-! ### The last TEST (R522, per boot) -/

/-- DRG_TEST_SUM, DRG_FAILn and the last results, from the fail records in MRAM when their CHECK is right (Table 19-3). -/
def State.testLoad (s : State) : State :=
  let h := memRead s.mram 0x120000 16
  let n := min (leAt h 0 2) 256
  let body := memRead s.mram 0x120010 (16 * n)
  if n = 0 && leAt h 2 2 = 0 then s
  else if crc32c body ≠ leAt h 12 4 then s
  else
    let s1 := (s.wr F.DRG_TEST_SUM_ROWS (leAt h 0 2 + leAt h 2 2)).wr F.DRG_TEST_SUM_UNREP (leAt h 4 2)
    s1.each (List.range n) fun s k =>
      let r := slice body (16 * k) 16
      (s.wr F.DRG_FAIL_RECORD (ofLe r) k).wr F.DRG_INST_LAST (leAt r 3 1 % 4) (leAt r 0 2 % 1024)

/-- Step 2: repairs, and event 495 where the last TEST failed (R533). -/
def State.bootRepairs (s : State) : State :=
  let s1 := s.repairBoot.testLoad
  if s1.on F.CHIP_RESET_CAUSE_TEST_FAIL then s1.raise 495 (s1.rd F.DRG_TEST_SUM_UNREP) else s1

/-! ### Step 10: DRAM -/

/-- MRAM offset of a channel's training set. -/
def trainAt (n : Nat) : Nat := 0x2000 + 0x800 * n

/-- A training set (Table 03-22). -/
def trainBytes (rate : Nat) (ranks2 dense : Bool) (mr phy : List Byte) : List Byte :=
  let body := leBytes 1 rate ++ leBytes 1 (b2n ranks2) ++ leBytes 1 (b2n dense) ++ [0] ++ slice mr 0 8 ++ leBytes 4 0
    ++ slice phy 0 512 ++ List.replicate 1516 0
  body ++ leBytes 4 (crc32c body)

/-- The saved set of a channel, when its CHECK is right. -/
def State.savedSet (s : State) (n : Nat) : Option (List Byte) :=
  let l := memRead s.mram (trainAt n) 2048
  if crc32c (l.take 2044) = leAt l 2044 4 then some l else none

/-- The saved delays are restored (R79, R236): a warm, command or restart reset, no change of RATE_MAX, and every set taken under the MR5
to MR8 that the DRAM shows. -/
def State.warmPath (s : State) (chans : List ChanTrain) : Bool :=
  s.res.warmTrain && s.res.trainedMax == s.rd F.RES_CFG_RATE_MAX && (List.range 4).all fun n =>
    match s.savedSet n, chans[n]? with
    | some l, some c => slice l 4 8 == slice c.mr 0 8
    | _, _ => false

/-- A channel takes its settings. -/
def State.chanTrained (s : State) (n : Nat) (mr phy : List Byte) : State :=
  s.modChan n fun c =>
    { c with
      mr := (List.range 8).foldl (fun m k => spSet 0 m (128 * (k / 4) + 5 + k % 4) (leAt mr k 1)) c.mr
      phy := ((List.range 512).filter phyIndex).foldl (fun m k => spSet 0 m k (leAt phy k 1)) c.phy }

/-- Soft repairs are reapplied, or the list is discarded with event 134, REASON 6 (R233). -/
def State.pprReload (s : State) (n : Nat) : State :=
  let l := memRead s.mram (0x4000 + 0x100 * n) 256
  if crc32c (l.take 252) = leAt l 252 4 && slice l 0 8 == (s.mrTags n).flatMap (leBytes 1) then
    s.modChan n fun c => { c with repairs := (List.range (min (leAt l 8 1) 16)).map fun k => leAt l (16 + 4 * k) 4 % 2 ^ 30 }
  else ((s.modChan n fun c => { c with repairs := [] }).storePprList n).pprFail 6

/-- One channel is trained: settings, repairs, saved set, READY. -/
def State.chanUp (s : State) (warm : Bool) (r : BootReport) (n : Nat) : State :=
  let c := r.chans.getD n { mr := [], phy := [] }
  let saved := memRead s.mram (trainAt n) 2048
  let phy := if warm then slice saved 16 512 else c.phy
  let s1 := (s.chanTrained n c.mr phy).pprReload n
  let s2 := if warm then s1
    else { s1 with mram := memWrite s1.mram (trainAt n) (trainBytes s.res.tryRate r.ranks2 r.dense c.mr c.phy) }
  s2.wr F.RES_CH_STAT_STATE 1 n

/-- A configuration that Table 08-1 does not list fails its check at step 2 of Table 08-7: every channel is FAILED. That it ends as R235
ends a failure at the lowest rate is the model's choice. -/
def State.dramRefused (s : State) : State := s.each (List.range 4) fun s n => (s.wr F.RES_CH_STAT_STATE 3 n).raise 140 n

/-- Step 10 (R214, R220, R234, R236): every channel READY, SIZE_MIB set. -/
def State.bootDram (s : State) (r : BootReport) : State :=
  let warm := s.warmPath r.chans
  let rate := if warm then leAt (memRead s.mram (trainAt 0) 4) 0 1 % 4 else s.res.tryRate
  let kept := warm && s.on F.CHIP_RESET_CAUSE_DRAM_KEPT
  let s0 := if kept then s else (s.wr F.CHIP_RESET_CAUSE_DRAM_KEPT 0).clearInit
  let s1 := s0.each (List.range 4) fun s n => s.chanUp warm r n
  let s2 := ((s1.wr F.RES_CFG_RATE rate).wrB F.RES_CFG_RANKS2 r.ranks2).wrB F.RES_CFG_DENSITY r.dense
  let s3 := (s2.wrB F.RES_CFG_LINK_ECC (rate != 0)).wrB F.RES_CFG_DBI (rate == 0 && r.dbi)
  let s4 := s3.wr F.RES_CAP_SIZE_MIB (7168 * 2 ^ (b2n r.ranks2 + b2n r.dense))
  let s5 := s4.modRes fun x =>
    { x with warmTrain := false, trainedMax := s.rd F.RES_CFG_RATE_MAX, initUpTo := if kept then s4.pageCount else 0, initDone := kept }
  let s6 := s5.modChip fun c => { c with step10 := true, selfRefresh := false }
  if s6.bootStep = 9 then s6.setStep 10 else s6

/-- Step 10 may complete. -/
def State.dramMay (s : State) : Bool :=
  decide (2 ≤ s.bootStep) && !s.chip.step10 && (List.range 4).all fun n => s.rd F.RES_CH_STAT_STATE n != 3

/-! ### BOOT_STEP_DONE -/

/-- Step 4 of a boot from flash: checks 0x02 to 0x0F on the slot (R113). -/
def State.bootVerify (s : State) (flash : List Byte) : State :=
  match s.headChecks flash false with
  | some (c, k) => s.slotReject c k
  | none =>
    let (s1, l, missed) := s.bootImage flash
    match s1.bodyChecks l step4Types noImage with
    | some (c, k) => s1.slotReject c k
    | none => ((s1.imageAccept l).cfgOpen.modChip fun c => { c with cacheMissed := missed }).setStep 4

/-- Step `n` runs when the sections of types `ts` that it reads are good; otherwise the slot is rejected. -/
def State.bootWith (s : State) (n : Nat) (ts : List Nat) (f : State → State) : State :=
  match s.lateBad n ts with
  | some (c, k) => s.slotReject c k
  | none => (f s).setStep n

/-- What step `n` of Table 03-7 has done when it completes. -/
def State.bootDo (s : State) (n : Nat) (r : BootReport) : State :=
  match n with
  | 1 => (s.vcoreSend 50).setStep 1
  | 2 => s.bootRepairs.setStep 2
  | 3 =>
    let s0 := if s.rd F.CHIP_STRAP_MODE = 2 then s.cfgOpen else s
    let s1 := if s.chip.triedOther then s0 else s0.modChip fun c => { c with slot := s.firstSlot }
    let s2 := s1.wr F.CHIP_BOOT_STAT_SLOT (if s.flashBoot then s1.chip.slot else 0)
    (if s.flashBoot && s.rd F.CHIP_STRAP_MODE ≠ 1 then s2.send .flashReset else s2).setStep 3
  | 4 => if s.flashBoot then s.bootVerify r.slot else s
  | 5 => s.bootWith 5 [0x20] State.bootLogos
  | 6 => s.bootWith 6 [0x30] fun s => s.bootHeads fun c => c.safety
  | 7 => if s.safetyAt 2 then s.setStep 7 else s
  | 8 => if s.safetyAt 3 then s.setStep 8 else s
  | 9 => if s.safetyLit then s.setStep (if s.chip.step10 then 10 else 9) else s
  | 11 => s.bootWith 11 [0x30, 0x31, 0x32, 0x33, 0x34, 0x35] State.bootRest
  | 12 => s.bootWith 12 [0x40] State.bootFirmware
  | 13 => ((s.modWel fun w => { w with started := s.isMA }).boostUpdate).setStep 13
  | 14 => (s.setStep 14).bootRun
  | _ => s

/-- BOOT_STEP_DONE (R81, R85): the next step completes, or step 10, which runs beside steps 3 to 9. -/
def execBootStepDone (r : BootReport) (s : State) : Ans :=
  if s.chip.phase ≠ .boot then .next s
  else if r.dram then .next (if !s.dramMay then s else if r.supported then s.bootDram r else s.dramRefused)
  else if s.halted then .next s
  else .next (s.bootDo (s.bootStep + 1) r)

end Sys2Proof.Machine
end

