-- ==== Sys2Proof/Machine/Deltas.lean ====
section
/-!
DEFINITION. Reapplying while running (04.6): delta images, their checks and the points at which their sections take effect (R121 to
R123, Table 04-10); keys, the anti-rollback version and the cache tag (R114, R115, R120).
-/
namespace Sys2Proof.Machine

/-! ### The read (R110, R113, R121) -/

/-- Bytes `b` laid at offset `o` of an image. -/
def layAt (l : List Byte) (o : Nat) (b : List Byte) : List Byte := (padTo o l).take o ++ b ++ l.drop (o + b.length)

/-- Read sections of a delta at `a` under tag `t`, up to the first that cannot be read: its directory index. -/
def deltaSections (t : WorkTag) (a : Nat) : List (DirEnt × Nat) → State → List Byte → State × List Byte × Option Nat
  | [], s, l => (s, l, none)
  | (e, k) :: es, s, l =>
    match s.dramRead t (a + e.off) e.len with
    | (s1, some b) => deltaSections t a es s1 (layAt l e.off b)
    | (s1, none) => (s1, l, some k)

/-- The delta at `a` as it can be read under tag `t`: header, directory, signature block, and the known sections, none of the bytes between
them and of no section that is skipped (R110, R113). A header or a directory that cannot be read leaves a delta that fails FORMAT, whose
sections have no place: the model's choice. -/
def State.deltaRead (s : State) (t : WorkTag) (a : Nat) : State × List Byte × Option Nat :=
  match s.dramRead t a 64 with
  | (s1, none) => (s1, [], none)
  | (s1, some h) =>
    match s1.dramRead t a (0x40 + 0x40 * min (dirCount h) 60 + 192) with
    | (s2, none) => (s2, h, none)
    | (s2, some l) =>
      if formatOk l true then deltaSections t a ((dirOf l).zipIdx.filter fun e => knownType e.1.type) s2 l else (s2, l, none)

/-! ### Checks 0x10 and 0x11 -/

/-- A section of a delta changes content that Table 04-10 does not give to the warden. -/
def State.ownerBad (s : State) (t : Nat) (b : List Byte) : Bool :=
  let heads (p : Nat → Bool) : Bool := (List.range 8).any p
  match t with
  | 0x10 => heads fun h => headRec b h != s.head h && ((s.head h).safety || (headRec b h).safety)
  | 0x11 => (List.range 64).any fun i => layerRec b i != s.layer i && ((s.layer i).secure || (layerRec b i).secure)
  | 0x12 => heads fun n => portRec b n != s.img.ports.getD n default && (s.head n).safety
  | 0x13 => (List.range 96).any fun o =>
      let c := s.img.outs.getD o default
      outRec b o != c && (c.cls == 2 || (outRec b o).cls == 2)
  | 0x15 => (List.range 16).any fun k => claimRec b k != s.img.claims.getD k default
  | 0x17 => powerRec b != { s.img.power with voteNs := (powerRec b).voteNs, pcapNs := (powerRec b).pcapNs }
  | 0x18 => (List.range 64).any fun u => sealRec b u != s.img.seals.getD u noSeal
  | 0x30 => heads fun h => (s.head h).safety && colourRec b h != colourRec s.img.colour h
  | 0x31 => heads fun h => (s.head h).safety && slice b (256 * h) 256 != slice s.img.backlight (256 * h) 256
  | _ => false

/-- The fields of a HEADS record that an enabled head may not change. -/
def HeadCfg.fixed (c : HeadCfg) : HeadCfg := { c with latchLine := 0, bg := 0, panelOn := 0, panelOff := 0 }

/-- A delta `l` disables head `h`. -/
def disables (l : List Byte) (h : Nat) : Bool :=
  match findDir (dirOf l) 0x10 with
  | some e => !(headRec (secBytes l e.1) h).en
  | none => false

/-- A section of delta `l` changes what must be idle and is not (Table 04-10). -/
def State.activeBad (s : State) (l : List Byte) (t : Nat) (b : List Byte) : Bool :=
  match t with
  | 0x10 => (List.range 8).any fun h =>
      let c := s.head h
      let r := headRec b h
      (!r.follow && !c.follow && r.safety != c.safety) || (c.en && r.en && r.fixed != c.fixed)
  | 0x11 => (List.range 64).any fun i => (s.layer i).en && (layerRec b i).owner != (s.layer i).owner
  | 0x12 => (List.range 8).any fun n =>
      (portRec b n).type != (s.img.ports.getD n default).type && (s.oh n).stage != .off && !disables l n
  | 0x16 => (List.range 32).any fun c =>
      let r := coveRec b c
      let k := s.img.coves.getD c default
      (r.queues != k.queues || r.ext != k.ext) && s.coveEnabled c
  | 0x17 => (powerRec b).groups != s.img.power.groups
  | _ => false

/-! ### Acceptance (R122) -/

/-- Bits of the parts that `p` selects. -/
def partMask (n : Nat) (p : Nat → Bool) : Nat := (((List.range n).filter p).map (2 ^ ·)).sum

/-- The part that DELTA_SECTION_APPLY takes as a whole. -/
def wholePart : Nat := 2 ^ 64

/-- Head `h` uses scaler coefficients. -/
def State.usesCoef (s : State) (h : Nat) : Bool := (s.img.slotsOn h).any fun x => x.scaler != 255

/-- Sensor `n` scans. -/
def State.scans (s : State) (n : Nat) : Bool := (s.img.sensors.getD n default).en && s.domainOn 11

/-- The parts of an accepted section that have yet to take effect. -/
def State.partsOf (s : State) (t : Nat) (b : List Byte) : Nat :=
  match t with
  | 0x10 => partMask 8 fun h => headRec b h != s.head h
  | 0x13 => 1
  | 0x14 => partMask 16 fun c => hapticRec b c != s.img.haptics.getD c default
  | 0x15 =>
    let claims := (List.range 16).any fun k => claimRec b k != s.img.claims.getD k default
    partMask 4 fun n => claims || sensorRec b n != s.img.sensors.getD n default
  | 0x18 => partMask 8 fun h => (List.range 8).any fun k => sealRec b (8 * h + k) != s.img.seals.getD (8 * h + k) noSeal
  | 0x30 => partMask 8 fun h => colourRec b h != colourRec s.img.colour h
  | 0x32 => let m := partMask 8 s.usesCoef; if m = 0 then wholePart else m
  | 0x35 => 16 + partMask 4 s.scans
  | _ => wholePart

/-- A delta of world `w` is accepted: its sections wait, in directory order. -/
def State.deltaAccept (s : State) (sec : Bool) (l : List Byte) : State :=
  let w := b2n sec
  let q := ((dirOf l).filter fun e => knownType e.type).filterMap fun e =>
    let b := secBytes l e
    let left := s.partsOf e.type b
    if left = 0 then none else some { type := e.type, data := b, secure := sec, left := left, started := false }
  let s1 := s.modChip fun c => { c with deltaQueued := q, deltaWorld := sec }
  let s2 := ((s1.wr F.CHIP_IMG_STAT_ERR_SECTION 255 w).wr F.CHIP_IMG_STAT_ERROR 0 w).wr F.CHIP_IMG_STAT_SOURCE 1 w
  let s3 := s2.wr F.CHIP_IMG_STAT_BUSY 0 w
  if q.isEmpty then s3.wr F.CHIP_IMG_STAT_DONE 1 w else s3.wr F.CHIP_IMG_STAT_PENDING 1 w

/-- The applied configuration: the records of the sections, with the shares that the registers hold (R118, R199). -/
def State.imgNow (s : State) : Image :=
  { s.img with coves := s.img.coves.mapIdx fun c r =>
      { r with res := s.share .memory c, loch := s.share .graphics c, bas := s.share .display c, pool := s.share .sense c } }

/-- The first check of Table 04-3 that a delta fails. -/
def State.deltaBad (s : State) (sec : Bool) (l : List Byte) (unread : Option Nat) : Option (Nat × Nat) :=
  if !s.runOrDip then some (1, 255)
  else match s.headChecks l true with
  | some e => some e
  | none =>
    match unread with
    | some k => some (9, k)
    | none =>
      let d := dirOf l
      match s.bodyChecks l ((d.map (·.type)).filter knownType) s.imgNow with
      | some e => some e
      | none =>
        match d.zipIdx.find? fun e => !sec && s.ownerBad e.1.type (secBytes l e.1) with
        | some e => some (0x10, e.2)
        | none => (d.zipIdx.find? fun e => s.activeBad l e.1.type (secBytes l e.1)).map fun e => (0x11, e.2)

/-! ### Submission (R121) -/

/-- A delta of world `w` ends rejected. -/
def State.deltaReject (s : State) (w code idx : Nat) : State :=
  let s1 := ((s.wr F.CHIP_IMG_STAT_ERR_SECTION idx w).wr F.CHIP_IMG_STAT_ERROR code w).wr F.CHIP_IMG_STAT_SOURCE 1 w
  (s1.wr F.CHIP_IMG_STAT_FAIL 1 w).wr F.CHIP_IMG_STAT_BUSY 0 w

/-- DELTA_SUBMIT (R121): GO, ignored while BUSY or PENDING is 1 in the writer's copy. While the other world's delta is being
checked or is pending, it fails: with the code of the first check that it does not pass, else with 0x12 (R112). -/
def execDeltaSubmit (ini : Initiator) (s : State) : Ans :=
  s.busBy ini fun s =>
  let t := s.tag ini
  let w := b2n t.secure
  if s.on F.CHIP_IMG_STAT_BUSY w || s.on F.CHIP_IMG_STAT_PENDING w then .next s
  else
    let (s1, l, bad) := s.deltaRead t (s.rd F.CHIP_IMG_ADDR_ADDR w * 64)
    if s.chip.delta.isSome || !s.chip.deltaQueued.isEmpty then
      (let e := (s1.deltaBad t.secure l bad).getD (0x12, 255)
       .next (s1.deltaReject w e.1 e.2))
    else .next ((s1.modChip fun c => { c with delta := some (t.secure, l, bad) }).wr F.CHIP_IMG_STAT_BUSY 1 w)

/-- DELTA_CHECK_DONE (R112, R122). -/
def execDeltaCheckDone (s : State) : Ans :=
  match s.chip.delta with
  | none => .next s
  | some (sec, l, unread) =>
    let s0 := s.modChip fun c => { c with delta := none }
    match s.deltaBad sec l unread with
    | some (code, k) => .next (s0.deltaReject (b2n sec) code k)
    | none => .next (s0.deltaAccept sec l)

/-! ### Application (Table 04-10) -/

/-- LAYERS: each changed head composes again; a slot whose owner, EN or SECURE changed recomposes its rectangle (R269). Scalers 16 to
31 need D12 (R256). -/
def State.layersApply (s : State) (b : List Byte) : State :=
  let s1 := s.each (List.range 64) fun s i =>
    let r := layerRec b i
    let c := s.layer i
    if r = c then s
    else
      let s1 := (s.modImg fun m => { m with layers := m.layers.set i r }).modHc (i / 8) fun k => { k with imgChanged := true }
      if r.owner = c.owner && r.en = c.en && r.secure = c.secure then s1 else s1.modSlot i fun k => { k with recompose := true }
  if s1.pdHeld 12 && !bit s1.chip.pdTarget 12 then (s1.modChip fun c => { c with pdTarget := c.pdTarget + 2 ^ 12 }).pdSet 12 3 else s1

/-- PORTS: at once, when the heads of the ports whose type changes are off (R65). -/
def State.portsMay (s : State) (b : List Byte) : Bool :=
  (List.range 8).all fun n => (portRec b n).type == (s.img.ports.getD n default).type || (s.oh n).stage == .off

/-- The shares of a COVES record for cove `c`, each pair as the register that holds it takes a write (R199). -/
def State.sharesTake (s : State) (c : Nat) (r : CoveCfg) : State :=
  (s.sharePair c .graphics .memory r.loch r.res).sharePair c .sense .display r.pool r.bas

/-- COVES: shares for new admissions, EN, and QUEUES and EXTERNAL of disabled coves (R187, R199 to R201). -/
def State.coveApply (s : State) (c : Nat) (r : CoveCfg) : State :=
  let k := s.img.coves.getD c default
  let s1 := s.modImg fun m => { m with coves := m.coves.set c r }
  let s2 := if r.en && !k.en then s1 else s1.sharesTake c r
  if r.en = k.en then s2
  else if r.en then
    (let s3 := if s2.coveEnabled c then s2.modCove c fun v => { v with en := true } else s2.coveEnable c r.ext r.queues
     s3.sharesTake c r)
  else (s2.modCove c fun v => { v with en := false }).resetReq c

/-- POWER: the vote, cap and warning registers that the world may write. -/
def State.powerDelta (s : State) (sec : Bool) (p : PowerCfg) : State :=
  let t := if sec then secTag s else s.wardenTag
  let s0 := s.modImg fun m => { m with power := p }
  let s1 := (s0.voteWrite t .voteNs p.voteNs).wr F.CHIP_PCAP_CAP_NS p.pcapNs
  let s2 := if !sec then s1 else
    let a := (((s1.voteWrite t .voteSec p.voteSec).voteWrite t .forceOff p.forceOff).wr F.CHIP_PCAP_CAP_SEC p.pcapSec)
    (a.wr F.CHIP_PFAIL_EN (bits p.pfail 8 8)).wr F.CHIP_PFAIL_THRESH (bits p.pfail 5 0)
  s2.wr F.CHIP_PCAP_EFFECTIVE (min (s2.rd F.CHIP_PCAP_CAP_SEC) (s2.rd F.CHIP_PCAP_CAP_NS))

/-- HAPTICS: at once on idle channels; the others wait. -/
def State.hapticsApply (s : State) (p : PendSection) : State :=
  s.each (setBitsList 16 p.left) fun s c =>
    let r := hapticRec p.data c
    if s.plaState c = 0 && (s.hch c).queue.isEmpty && (s.hch c).news.isEmpty then
      (s.modImg fun m => { m with haptics := m.haptics.set c r }).deltaTake 0x14 (2 ^ c)
    else s.modHch c fun h => { h with pend := some r }

/-- TOUCH: a sensor that scans takes its record, and the claims, at its next frame start (R498). -/
def State.touchApply (s : State) (p : PendSection) : State :=
  let s1 := s.modImg fun m => { m with claims := (List.range 16).map (claimRec p.data) }
  s1.each (setBitsList 4 p.left) fun s n =>
    let r := sensorRec p.data n
    if s.scans n then
      s.modSha fun a => { a with pend := (a.pend.filter fun x => x.1 != n) ++ [(n, r)] }
    else
      let s := s.when (r.en && !(s.img.sensors.getD n default).en) fun s => s.scanGrid n
      (s.modImg fun m => { m with sensors := m.sensors.set n r }).deltaTake 0x15 (2 ^ n)

/-- The packed tables of one engine. -/
def tablesFor (eng : Nat) : Nat → List Byte → List Byte
  | 0, _ => []
  | n + 1, l =>
    if l.isEmpty then []
    else
      let k := 4 + 8 * leAt l 2 2
      (if leAt l 0 1 = eng then slice l 0 k else []) ++ tablesFor eng n (l.drop k)

/-- STATE_TABLES: Shallows' tables for each sensor's next scan frame (R490); Plash's when every channel is idle. -/
def State.tablesApply (s : State) (b : List Byte) : State :=
  let old := s.img.stables
  let idle := (List.range 16).all fun c => s.plaState c == 0 && (s.hch c).queue.isEmpty && (s.hch c).news.isEmpty
  let s1 := s.modImg fun m => { m with stables := tablesFor 0 32 b ++ tablesFor 1 32 (if idle then b else old) }
  s1.deltaTake 0x35 ((if idle then 16 else 0) + partMask 4 fun n => !s.scans n)

/-- Parts of a section that wait for a frame start take effect on the heads that are off. A head that the delta enables waits for its
port's record. -/
def State.headsApply (s : State) (type left : Nat) : State :=
  s.each (setBitsList 8 left) fun s h =>
    let off := (s.oh h).stage == .off || (s.oh h).stage == .stopped
    if off && !(type == 0x10 && (s.deltaOf 0x12).isSome) then s.takePart type h else s

/-- A section that takes effect whole and at once. -/
def State.wholeApply (s : State) (p : PendSection) : State :=
  let s1 := match p.type with
    | 0x11 => s.layersApply p.data
    | 0x12 => (s.modImg fun m => layOver m 0x12 p.data).portsApply
    | 0x16 => s.each (List.range 32) fun s c => s.coveApply c (coveRec p.data c)
    | 0x17 => s.powerDelta p.secure (powerRec p.data)
    | t => s.modImg fun m => layOver m t p.data
  s1.deltaTake p.type wholePart

/-- Every section before one of type `t` in directory order has had its turn (R122). -/
def State.deltaTurn (s : State) (t : Nat) : Bool := (s.chip.deltaQueued.takeWhile fun p => p.type != t).all (·.started)

/-- The section's turn has come. -/
def State.deltaStart (s : State) (t : Nat) : State :=
  s.modChip fun c => { c with deltaQueued := c.deltaQueued.map fun p => if p.type = t then { p with started := true } else p }

/-- What a section does when its turn comes, or comes again while parts of it wait (R123, Table 04-10). AUDIO is taken over by the mix
clock (R423), if Pool runs. -/
def State.sectionApply (s : State) (type : Nat) (p : PendSection) : Ans :=
    match type with
    | 0x10 => .next (s.headsApply 0x10 p.left)
    | 0x18 => .next (s.headsApply 0x18 p.left)
    | 0x30 => .next (s.headsApply 0x30 p.left)
    | 0x32 => .next (if p.left = wholePart then s.wholeApply p else s.headsApply 0x32 p.left)
    | 0x13 =>
      let outs := (List.range 96).map (outRec p.data)
      let slots := (List.range 16).map (pslotRec p.data)
      .next (if s.poolOn then s.modPool fun q => { q with newAudio := some (outs, slots) }
        else (s.modImg fun m => { m with outs := outs, pslots := slots }).deltaTake 0x13 1)
    | 0x14 => .next (s.hapticsApply p)
    | 0x15 => .next (s.touchApply p)
    | 0x35 => .next (s.tablesApply p.data)
    | _ => .next (s.wholeApply p)

/-- DELTA_SECTION_APPLY (R122, R123): sections take their turns in directory order. PORTS waits until the heads of the ports that change
type are off (R65). -/
def execDeltaSectionApply (type : Nat) (s : State) : Ans :=
  match s.deltaOf type with
  | none => .next s
  | some p =>
    if !s.deltaTurn type || (type == 0x12 && !s.portsMay p.data) then .next s else (s.deltaStart type).sectionApply type p

/-! ### Keys, version, cache -/

/-- A command of CHIP_KEY_CTRL (R114). -/
def State.keyCmd (s : State) (ini : Initiator) (f : State → State) : State := if s.isSec ini then f s else s.denied ini 0x74

/-- Program slot `k` from the digest registers; a programmed slot stays. -/
def State.keyProgram (s : State) (k : Nat) : State :=
  let p := s.rd F.CHIP_KEY_STAT_PROG
  if bit p k then s
  else
    let d := (List.range 12).flatMap fun i => leBytes 4 (s.rd F.CHIP_KEY_DIGEST_DIGEST i)
    ((s.modChip fun c => { c with keyDigest := c.keyDigest.set k d }).wr F.CHIP_KEY_STAT_PROG (p + 2 ^ k)).wr F.CHIP_KEY_STAT_UNKEYED 0

/-- Revoke slot `k`, unless the other slot is unprogrammed or revoked. -/
def State.keyRevoke (s : State) (k : Nat) : State :=
  let r := s.rd F.CHIP_KEY_STAT_REVOKED
  if !bit (s.rd F.CHIP_KEY_STAT_PROG) (1 - k) || bit r (1 - k) || bit r k then s else s.wr F.CHIP_KEY_STAT_REVOKED (r + 2 ^ k)

/-- KEY_PROGRAM_SLOT0 (R114). -/
def execKeyProgramSlot0 (ini : Initiator) (s : State) : Ans := s.busBy ini fun s => .next (s.keyCmd ini fun s => s.keyProgram 0)

/-- KEY_PROGRAM_SLOT1 (R114). -/
def execKeyProgramSlot1 (ini : Initiator) (s : State) : Ans := s.busBy ini fun s => .next (s.keyCmd ini fun s => s.keyProgram 1)

/-- KEY_REVOKE_SLOT0 (R114). -/
def execKeyRevokeSlot0 (ini : Initiator) (s : State) : Ans := s.busBy ini fun s => .next (s.keyCmd ini fun s => s.keyRevoke 0)

/-- KEY_REVOKE_SLOT1 (R114). -/
def execKeyRevokeSlot1 (ini : Initiator) (s : State) : Ans := s.busBy ini fun s => .next (s.keyCmd ini fun s => s.keyRevoke 1)

/-- MINVER_WRITE (R115): a write that would lower it is ignored. -/
def execMinverWrite (ini : Initiator) (v : Word) (s : State) : Ans :=
  s.busBy ini fun s =>
  let cur := s.rd F.CHIP_IMG_MINVER_MINVER
  if !s.isSec ini then .next (if v.toNat = cur then s else s.denied ini 0x60)
  else .next (if v.toNat < cur then s else s.wr F.CHIP_IMG_MINVER_MINVER v.toNat)

/-- IMAGE_CACHE_INVALIDATE (R120). -/
def execImageCacheInvalidate (ini : Initiator) (s : State) : Ans :=
  s.busBy ini fun s =>
  if s.isSec ini then .next s.cacheClear else .next (s.denied ini 0x64)

end Sys2Proof.Machine
end

