-- ==== Sys2Proof/Machine/ImgLoad.lean ====
section
/-!
DEFINITION. The image-load window on PF BAR0 (R86, R87, Table 03-9a), whose registers `Chip` holds and whose bytes the Tarn store holds, and the checks on an image that
was staged through it or over Portage.
-/
namespace Sys2Proof.Machine

/-- READY: the window is open and accepts data. -/
def State.loadReady (s : State) : Bool := s.loadOpen && !s.chip.stagedBusy

/-- Tarn byte that holds byte `k` of a staged image: granules are counted down from 131,071 (R87). -/
def stageAt (k : Nat) : Nat := 1024 * (131071 - k / 1024) + k % 1024

/-- Store bytes of the image from byte `a` on, granule by granule. -/
def stagePut : Nat → State → Nat → List Byte → State
  | 0, s, _, _ => s
  | n + 1, s, a, l =>
    if l.isEmpty then s
    else
      let k := 1024 - a % 1024
      stagePut n (s.tarnStore (stageAt a) (l.take k)) (a + k) (l.drop k)

/-- Bytes `a` onward of the image being staged; bytes at or beyond IMGLD_SIZE are discarded (R87). -/
def State.stageBytes (s : State) (a : Nat) (l : List Byte) : State :=
  let keep := l.take (s.chip.imgldSize - a)
  (stagePut (keep.length / 1024 + 2) s a keep).modChip fun c => { c with staged := c.staged || !keep.isEmpty }

/-- `n` staged bytes from byte `a` on. -/
def State.stageRead (s : State) (a n : Nat) : List Byte :=
  (((List.range (ceilDiv (a % 1024 + n) 1024)).flatMap fun k => memRead s.tarn (stageAt (a / 1024 * 1024 + 1024 * k)) 1024).drop (a % 1024)).take n

/-- The staged image as bytes. -/
def State.stagedImage (s : State) : List Byte := s.stageRead 0 s.chip.imgldSize

/-- The staged image is discarded. -/
def State.stageDrop (s : State) : State := s.modChip fun c => { c with staged := false }

/-- The window answers (R87): open in BOOT with MODE 010 from step 3 on, and while halted; an image accepted in either case leaves it open
until step 14. -/
def State.windowOpen (s : State) : Bool :=
  s.chip.phase == .boot && s.domainUp 6
    && (s.halted || (s.rd F.CHIP_STRAP_MODE == 2 && decide (3 ≤ s.bootStep)) || (s.chip.stagedDone && decide (s.rd F.CHIP_STRAP_MODE < 4)))

/-- IMGLD_DATA_WRITE (R87): bytes of the bank shown, as far as the aperture goes. -/
def State.windowData (s : State) (off : Nat) (data : List Byte) : State :=
  if !s.windowOpen || !s.loadReady then s else s.stageBytes (32768 * s.chip.imgldBank + off) (data.take (32768 - off))

/-- COMPLETE (R87): ignored while READY is 0. -/
def State.windowComplete (s : State) : State :=
  if !s.windowOpen || !s.loadReady then s else s.modChip fun c => { c with stagedBusy := true }

/-- ABORT (R87): at any time while BUSY is 0. -/
def State.windowAbort (s : State) : State := if s.windowOpen && !s.chip.stagedBusy then s.stageDrop else s

/-- IMGLD_DATA_WRITE. -/
def execImgldDataWrite (off : Fin 32768) (data : List Byte) (s : State) : Ans := .next (s.windowData off.val data)

/-- IMGLD_COMPLETE. -/
def execImgldComplete (s : State) : Ans := .next s.windowComplete

/-- IMGLD_ABORT. -/
def execImgldAbort (s : State) : Ans := .next s.windowAbort

/-- The first check that a staged image fails (R87, R113): SIZE, then checks 0x02 to 0x0F over every section that it holds. -/
def State.stagedBad (s : State) : Option (Nat × Nat) :=
  let n := s.chip.imgldSize
  let l := s.stagedImage
  if n < 64 || 16777216 < n || n < leAt l 8 4 then some (2, 255)
  else match s.headChecks l false with
    | some e => some e
    | none => s.bodyChecks l ((dirOf l).map (·.type) |>.filter knownType) noImage

/-- IMGLD_CHECK_DONE (R86, R87): the boot continues at step 5, or the image is discarded with its code. FAIL stays until the host clears
it. An image from no slot is not cached (R119). -/
def execImgldCheckDone (s : State) : Ans :=
  if !s.chip.stagedBusy || s.chip.phase ≠ .boot then .next s
  else
    let s0 := s.modChip fun c => { c with stagedBusy := false }
    match s.stagedBad with
    | some (code, k) =>
      .next ((s0.imgStatus code k false true).stageDrop.modChip fun c => { c with imgldStat := 2 ^ 28 + code * 65536 })
    | none =>
      let s1 := (s0.modChip fun c =>
        { c with stagedDone := true, imgldStat := c.imgldStat / 2 ^ 28 * 2 ^ 28, cacheMissed := false }).wr F.CHIP_BOOT_STAT_FAIL 0
      .next ((s1.imageAccept s.stagedImage).setStep 4)

/-- IMGLD_STAT as read (Table 03-9a). -/
def State.imgldStatWord (s : State) : Nat :=
  b2n s.loadReady * 2 ^ 31 + b2n s.chip.stagedBusy * 2 ^ 30 + b2n s.chip.stagedDone * 2 ^ 29 + s.chip.imgldStat + s.bootStep

/-- A word of the window. -/
def State.windowWord (s : State) (off : Nat) : Nat :=
  match off with
  | 0 => s.imgldStatWord
  | 4 => s.chip.imgldSize
  | 8 => s.chip.imgldBank
  | _ => if 0x8000 ≤ off && off < 0x10000 then ofLe (s.stageRead (32768 * s.chip.imgldBank + (off - 0x8000)) 4) else 0

/-- A read of BAR0 offset `off`: the addressed bytes of its word. Closed, the window completes with Unsupported Request before RUN (R82)
and reads 0 after. -/
def State.windowRead (s : State) (off : Nat) (size : RegSize) : State :=
  if s.windowOpen then s.answer (s.windowWord (off / 4 * 4) / 2 ^ (8 * (off % 4)) % 2 ^ (8 * size.bytes))
  else if s.chip.ran then s.answer 0
  else (s.send (.pcieCpl 1 [])).answer 0 true

/-- A 32-bit write of BAR0 offset `off`. Writes of any kind while BUSY is 1 are discarded. -/
def State.windowWrite (s : State) (off v : Nat) : State :=
  if !s.windowOpen then (if s.chip.ran then s else (s.send (.pcieCpl 1 [])).answer 0 true)
  else if s.chip.stagedBusy then s
  else if off = 0 then (if bit v 28 then s.modChip fun c => { c with imgldStat := c.imgldStat % 2 ^ 28 } else s)
  else if off = 4 then s.modChip fun c => { c with imgldSize := v % 2 ^ 25 }
  else if off = 8 then s.modChip fun c => { c with imgldBank := v % 512 }
  else if off = 12 then (s.when (bit v 30) State.windowAbort).when (bit v 31) State.windowComplete
  else if 0x8000 ≤ off && off < 0x10000 then s.windowData (off - 0x8000) (leBytes 4 v)
  else s

end Sys2Proof.Machine
end

