-- ==== Sys2Proof/Machine/Nvm.lean ====
section
/-!
DEFINITION. The MRAM array's aperture (R107, R108): rows NVM_APERTURE_READ and NVM_APERTURE_WRITE.
-/
namespace Sys2Proof.Machine

/-- Bytes of an access. -/
def accBytes : AccSize → Nat
  | .b1 => 1 | .b2 => 2 | .b4 => 4 | .b8 => 8

/-- The aperture's place in the register map. -/
def nvmBase : Nat := 0x7F00000

/-- Array offset of an aperture byte. -/
def State.nvmAt (s : State) (off : Nat) : Nat := s.rd F.NVM_WIN_BANK * 0x100000 + off

/-- The access lies in the aperture at natural alignment. -/
def nvmFits (off : Nat) (size : AccSize) : Bool := decide (off + accBytes size ≤ 0x100000) && off % accBytes size == 0

/-- An uncorrectable word (R108). -/
def State.nvmUe (s : State) (a : Nat) : State :=
  (((s.when (!s.on F.NVM_STAT_UE) fun s => s.wr F.NVM_UE_ADDR_OFFSET (a / 8 * 8)).wr F.NVM_STAT_UE 1).raise 16).answer 0 true

/-- A read through the aperture (R108): `ecc` is the outcome of the word's SECDED check. The manual gives the retained settings at
array offsets 0x0 to 0xFFF no layout: what they read as is a free value. -/
def State.nvmRead (s : State) (ini : Initiator) (off : Nat) (size : AccSize) (ecc : EccResult) : State :=
  let a := s.nvmAt off
  if !nvmFits off size then s
  else if !s.isSec ini then s.answer 0
  else if ecc = .uncorrectable then s.nvmUe a
  else
    let s1 := s.when (ecc == .corrected) fun s => s.inc F.NVM_CE_COUNT 1
    if a < 0x1000 then s1.draw.2.answer (s1.draw.1 % 2 ^ (8 * accBytes size))
    else s1.answer (ofLe (memRead s.mram a (accBytes size)))

/-- A write through the aperture (R108): 32 or 64 bits, to secure firmware's own region. -/
def State.nvmWrite (s : State) (ini : Initiator) (off : Nat) (size : AccSize) (v : Nat) : State :=
  let a := s.nvmAt off
  if !nvmFits off size then s
  else if accBytes size < 4 then s.accessErr (s.tag ini) (regBase + (nvmBase + off)) 1 true
  else if !s.isSec ini then s.denied ini (nvmBase + off)
  else if a < 0x130000 || 0x400000 ≤ a then (s.wr F.NVM_STAT_PROT 1).raise 17
  else { s with mram := memWrite s.mram a (leBytes (accBytes size) v) }

/-- NVM_APERTURE_READ (R108). -/
def execNvmApertureRead (ini : Initiator) (off : Nat) (size : AccSize) (ecc : EccResult) (s : State) : Ans :=
  s.by ini fun s => if noWay ini then .next (s.answer 0 true) else .next (s.nvmRead ini off size ecc)

/-- NVM_APERTURE_WRITE (R108). -/
def execNvmApertureWrite (ini : Initiator) (off : Nat) (size : AccSize) (v : BitVec 64) (s : State) : Ans :=
  s.by ini fun s => if noWay ini then .next (s.answer 0 true) else .next (s.nvmWrite ini off size v.toNat)

end Sys2Proof.Machine
end

