-- ==== Sys2Proof/Machine/PoolTones.lean ====
section
/-!
DEFINITION. Tone generators (15.7): rows TONE_START, TONE_STOP, TONE_STOP_NOW and TONE_SEGMENT_END, and what a generator
does at a tick.
-/
namespace Sys2Proof.Machine

def State.tone (s : State) (g : Nat) : Tone :=
  s.pool.tones.getD g
    { phase := 0, level := PLine.flat 0, left := 0, start := none, stopAtEnd := false, ending := false }

def State.modTone (s : State) (g : Nat) (f : Tone → Tone) : State :=
  s.modPool fun p => { p with tones := p.tones.modify g f }

def State.tonePlaying (s : State) (g : Nat) : Bool := s.on F.POOL_TONE_STAT_PLAYING g

/-- DUR_MS of segment `k` of generator `g` in ticks, and its LEVEL. -/
def State.segTicks (s : State) (g k : Nat) : Nat := 96 * s.rd F.POOL_TONE_SEG_A_DUR_MS g k
def State.segLevel (s : State) (g k : Nat) : Int := sx 24 (s.rd F.POOL_TONE_SEG_B_LEVEL g k)

/-- The level moves to `v` from its present value in a new line of 96 ticks. -/
def PLine.restart (l : PLine) (v : Int) : PLine := { from_ := l.val 96, to_ := v, j := 0 }

/-- Segment `k` begins. -/
def State.segBegin (s : State) (g k : Nat) : State :=
  (s.wr F.POOL_TONE_STAT_SEG k g).modTone g fun t =>
    { t with left := s.segTicks g k, level := t.level.restart (s.segLevel g k) }

/-- The level moves to 0, and play ends then (R450, R451). -/
def State.toneEnding (s : State) (g : Nat) : State :=
  s.modTone g fun t => { t with ending := true, left := 0, level := t.level.restart 0 }

/-- Play begins at segment 0 (R451). A list that ends at once ends play. -/
def State.toneBegin (s : State) (g : Nat) : State :=
  let s := ((s.wr F.POOL_TONE_STAT_PLAYING 1 g).wr F.POOL_TONE_STAT_LOOPS 0 g).modTone g fun t =>
    { t with start := none, stopAtEnd := false, ending := false }
  if s.segTicks g 0 = 0 then (s.wr F.POOL_TONE_STAT_SEG 0 g).toneEnding g else s.segBegin g 0

/-- Advance of the phase in a tick (R450). -/
def phaseStep (freq : Nat) : Nat := (freq * 4294967296 * 2 + 960000) / 1920000

/-- A tick of generator `g`: its sample, and whether its input is active (R433). -/
def State.toneTick (s : State) (g : Nat) : State × Int × Bool :=
  let s := match (s.tone g).start with
    | some t => if t ≤ s.tbs.now then s.toneBegin g else s
    | none => s
  if !s.tonePlaying g then (s, 0, false)
  else
    let t := s.tone g
    let freq := s.rd F.POOL_TONE_SEG_A_FREQ g (s.rd F.POOL_TONE_STAT_SEG g)
    let shape := let v := s.rd F.POOL_TONE_CFG_SHAPE g; if v = 3 then 0 else v
    let ph := (t.phase + phaseStep freq) % 4294967296
    let lv : PLine := { t.level with j := min (t.level.j + 1) 96 }
    let w := clampI (-8388607) 8388607 (sx 24 (Config.toneWave shape (BitVec.ofNat 32 ph)).toNat)
    let y := if freq = 0 then 0 else sat24 ((w * lv.val 96 + 524288) / 1048576)
    let s := s.modTone g fun t => { t with phase := ph, level := lv, left := t.left - 1 }
    if t.ending && 96 ≤ lv.j then
      (((s.wr F.POOL_TONE_STAT_PLAYING 0 g).modTone g fun t => { t with ending := false }).raise 425 g, y, true)
    else (s, y, true)

/-- A write of POOL_TONEg_CTRL by the initiator is taken (R452). -/
def State.toneMay (s : State) (ini : Initiator) (g : Nat) : Bool := s.mayWrite ini F.POOL_TONE_CTRL_START g false

/-- Offset of POOL_TONEg_CTRL. -/
def toneCtrl (g : Nat) : Nat := 0x6050004 + 0x100 * g

/-- TONE_START (R451): at the first tick at or after POOL_TONEg_AT with AT, else at the next tick. -/
def execToneStart (ini : Initiator) (g : Fin 16) (at_ : Bool) (s : State) : Ans :=
  s.busBy ini fun s =>
  if !s.toneMay ini g.val then .next (s.denied ini (toneCtrl g.val))
  else .next (s.modTone g.val fun t => { t with start := some (if at_ then s.rd F.POOL_TONE_AT_AT g.val else 0) })

/-- TONE_STOP (R451). -/
def execToneStop (ini : Initiator) (g : Fin 16) (s : State) : Ans :=
  s.busBy ini fun s =>
  if !s.toneMay ini g.val then .next (s.denied ini (toneCtrl g.val))
  else if s.tonePlaying g.val then .next (s.modTone g.val fun t => { t with stopAtEnd := true })
  else .next s

/-- TONE_STOP_NOW (R451). -/
def execToneStopNow (ini : Initiator) (g : Fin 16) (s : State) : Ans :=
  s.busBy ini fun s =>
  if !s.toneMay ini g.val then .next (s.denied ini (toneCtrl g.val))
  else if s.tonePlaying g.val then .next (s.toneEnding g.val)
  else .next s

/-- A pass ends: LOOPS counts, and play repeats or ends (R450). -/
def State.passEnd (s : State) (g : Nat) : State :=
  let loops := s.rd F.POOL_TONE_STAT_LOOPS g
  let rep := s.rd F.POOL_TONE_CFG_REPEAT g
  let s := s.incSat F.POOL_TONE_STAT_LOOPS 1 g
  if (s.tone g).stopAtEnd || (rep != 0 && decide (rep ≤ loops)) || s.segTicks g 0 = 0 then s.toneEnding g
  else s.segBegin g 0

/-- TONE_SEGMENT_END (R450): the next segment, the next pass, or the end of play. -/
def execToneSegmentEnd (g : Fin 16) (s : State) : Ans :=
  let t := s.tone g.val
  if !s.tonePlaying g.val || t.ending || t.left ≠ 0 then .next s
  else
    let k := s.rd F.POOL_TONE_STAT_SEG g.val
    if k = 15 || s.segTicks g.val (k + 1) = 0 then .next (s.passEnd g.val) else .next (s.segBegin g.val (k + 1))

end Sys2Proof.Machine
end

