-- ==== Sys2Proof/Machine/PoolMix.lean ====
section
/-!
DEFINITION. The crosspoint (15.1 to 15.5), TDM ports and the recorder tap (15.8): rows MIX_TICK, TDM_RX_FRAME,
TDM_TX_FRAME, TDM_FSYNC, TDM_FSYNC_LOST, XP_NODE_WRITE, XP_SWAP, XP_SWAP_DONE, BIQUAD_COMMIT and REC_BLOCK.
-/
namespace Sys2Proof.Machine

/-! ### Processing slots (15.4) -/

/-- R of a high-pass slot (R437): 2^30 (1 - 2 pi HP_HZ / 96,000), rounded. -/
def hpR (hz : Nat) : Int :=
  let pi : Rat := 31415926535897932384626433832795028842 / 10000000000000000000000000000000000000
  roundHalfUp (1073741824 * (1 - 2 * pi * (hz : Rat) / 96000))

/-- A high-pass step: sample and new state (R437). -/
def hpStep (r x x1 y1 : Int) : Int := sat24 (x - x1 + (r * y1 + 536870912) / 1073741824)

/-- Coefficient `j` of biquad `n` in force (R438): b0, b1, b2, a1, a2. After a reset a biquad passes its input. -/
def State.bqCoef (s : State) (n j : Nat) : Int :=
  sx 32 (spGet s.pool.coef (8 * n + j) (if j = 0 then 0x20000000 else 0))

/-- One biquad (R437). -/
def State.bqStep (s : State) (n : Nat) (x : Int) : Int × State :=
  let st := spGet s.pool.bqState n ((0 : Int), (0 : Int))
  let v := s.bqCoef n 0 * x + st.1
  let y := sat24 ((v + 268435456) / 536870912)
  let s1 := s.bqCoef n 1 * x - s.bqCoef n 3 * y + st.2
  let s2 := s.bqCoef n 2 * x - s.bqCoef n 4 * y
  (y, s.modPool fun p => { p with bqState := spSet ((0 : Int), (0 : Int)) p.bqState n (s1, s2) })

/-- A chain of biquads in ascending order (R436). -/
def bqChain : List Nat → Int × State → Int × State
  | [], a => a
  | n :: l, a => bqChain l (a.2.bqStep n a.1)

/-- Channel `ch` of processing slot `p` on sample `x` (R435 to R437), with the fade of its port (Table 04-10). -/
def State.process (s : State) (p ch : Nat) (x : Int) : Int × State :=
  let r :=
    if (s.pslot p).kind = 1 then
      let st := spGet s.pool.hpState (16 * p + ch) ((0 : Int), (0 : Int))
      let y := hpStep (hpR (clampN 1 1000 (s.rd F.POOL_PSLOT_CFG_HP_HZ p))) x st.1 st.2
      (y, s.modPool fun q => { q with hpState := spSet ((0 : Int), (0 : Int)) q.hpState (16 * p + ch) (x, y) })
    else if (s.pslot p).kind = 2 then
      let c := s.bqPerCh p
      bqChain ((List.range c).map (s.bqFirst p + ch * c + ·)) (x, s)
    else (x, s)
  (r.1 * (s.pool.slotFade.getD p 192 : Nat) / 192, r.2)

/-! ### Inputs (R422, R433) -/

/-- An input at a tick: its sample and whether it is active. -/
structure PIn where
  x : Int
  active : Bool

def PIn.none_ : PIn := { x := 0, active := false }

/-- Frames that TDM port `n` has received since the last tick leave its FIFO for the converter. -/
def State.tdmInputs (s : State) (n : Nat) : List PIn × State :=
  let slots := (s.pslot n).slots
  let live := s.tdmLocked n
  let frames := (s.port n).rx
  let s := s.modPort n fun p => { p with rx := [] }
  (List.range 16).foldl (fun (a : List PIn × State) k =>
    if live && k < slots then
      let v := a.2.convert (frames.map fun f => f.getD k 0)
      let y := v.2.process n k v.1
      (a.1 ++ [{ x := y.1, active := true }], y.2)
    else (a.1 ++ [PIn.none_], a.2)) (([] : List PIn), s)

/-- Microphone `m` (R426, R427). -/
def State.micInput (s : State) (m : Nat) : PIn × State :=
  if bit (s.rd F.POOL_PDM_CFG_EN) (m / 4) && (s.pslot (8 + m)).slots != 0 then
    let v := s.convert []
    let y := v.2.process (8 + m) 0 v.1
    ({ x := y.1, active := true }, y.2)
  else (PIn.none_, s)

/-- Playback channel `k`, given the frames of the streams: bound, and its stream RUNNING or FADING. -/
def State.playInput (s : State) (heard : List (Nat × Nat × List (List Int))) (k : Nat) : PIn × State :=
  let c := s.rd F.POOL_PCH_COVE k
  let q := s.rd F.POOL_PCH_LOCAL_Q k
  let st := s.rd F.POOL_STR_STAT_STATE c q
  match s.str c q with
  | none => (PIn.none_, s)
  | some x =>
    if !s.on F.POOL_PCH_EN k || x.capture || (st != 1 && st != 2) then (PIn.none_, s)
    else
      let frames := match heard.find? fun e => e.1 == c && e.2.1 == q with
        | some e => e.2.2
        | none => []
      let v := s.convert (frames.map fun f => f.getD (s.rd F.POOL_PCH_INDEX k) 0)
      ({ x := v.1 * (x.gain : Nat) / 192, active := true }, v.2)

/-- Return `r`: the final sample of its source at the previous tick. -/
def State.retInput (s : State) (r : Nat) : PIn :=
  let o := s.rd F.POOL_RET_SRC r
  if 96 ≤ o then PIn.none_
  else { x := s.pool.last.getD o 0, active := s.pool.counts.getD o 0 != 0 }

/-- Gather inputs one after another. -/
def gather (f : Nat → State → List PIn × State) : List Nat → List PIn × State → List PIn × State
  | [], a => a
  | n :: l, a =>
    let r := f n a.2
    gather f l (a.1 ++ r.1, r.2)

/-- The 160 inputs at this tick. -/
def State.inputs (s : State) (heard : List (Nat × Nat × List (List Int))) : List PIn × State :=
  let a := gather (fun n s => s.tdmInputs n) (List.range 4) ([], s)
  let a := gather (fun m s => let r := s.micInput m; ([r.1], r.2)) (List.range 8) a
  let a := gather (fun g s =>
    let r := s.toneTick g
    ([{ x := r.2.1, active := r.2.2 }], r.1)) (List.range 16) a
  let a := gather (fun k s => let r := s.playInput heard k; ([r.1], r.2)) (List.range 64) a
  gather (fun r s => ([s.retInput r], s)) (List.range 8) a

/-! ### Outputs (R431 to R434, R440) -/

/-- A gain during a crossfade at its tick `j` (R440). -/
def fadeGain (old new : Int) (j : Nat) : Int := old + (new - old) * (j : Int) / 64

/-- The gain of node (i, o) at this tick. -/
def State.nodeGain (s : State) (o i : Nat) : Int :=
  let g := sx 24 (s.rd F.POOL_NODE_GAIN o i)
  match s.pool.swap with
  | none => g
  | some w =>
    if w.cols.contains o then fadeGain (sx 24 (spGet w.old (160 * o + i) 0)) (sx 24 (s.rd F.POOL_SHADOW_GAIN o i)) w.j
    else g

/-- The largest integer whose double is at most the root: round(2^20 / sqrt k) by its square (R434). -/
def rootScale (k : Nat) : Nat :=
  (List.range 21).foldl (fun a b =>
    let v := a + 2 ^ (20 - b)
    if (2 * v - 1) ^ 2 * k ≤ 2 ^ 42 then v else a) 0

/-- GAIN[k] of a curve: the built-in one, or record `cv` of SCALE_CURVES (R434, Table 04-8). -/
def State.curveGain (s : State) (cv k : Nat) : Int :=
  if cv = 255 then (if k < 2 then 0x100000 else (rootScale k : Nat))
  else sx 24 (leAt s.img.curves (644 * cv + 4 * k) 4)

/-- Count a clipped sample (R432). -/
def State.clip (s : State) (o : Nat) : State :=
  let s := s.inc F.POOL_OUT_CLIP_COUNT 1 o
  if s.quietFor (s.pool.clipAt.getD o none) 1000000000 then
    (s.modPool fun p => { p with clipAt := p.clipAt.set o (some s.elapsed) }).raise 426 o
  else s

/-- Output `o` at this tick: its sample after R432. -/
def State.outputTick (s : State) (ins : List PIn) (o : Nat) : Int × State :=
  let gs := (List.range 160).map (s.nodeGain o)
  let sum := (((List.range 160).map fun i => gs.getD i 0 * (ins.getD i PIn.none_).x).sum + 524288) / 1048576
  let k := ((List.range 160).filter fun i => (ins.getD i PIn.none_).active && gs.getD i 0 != 0).length
  let s := (s.wr F.POOL_OUT_STAT_ACTIVE k o).modPool fun p => { p with counts := p.counts.set o k }
  let r := s.img.outs.getD o default
  let line := (s.pool.scale.getD o (PLine.flat 0x100000)).toward 64 (s.curveGain r.curve k)
  let s := s.modPool fun p => { p with scale := p.scale.set o line }
  if r.cls = 0 then (0, s)
  else if r.cls = 2 then (sat24 sum, if sat24 sum = sum then s else s.clip o)
  else
    let y := (sum * line.val 64 + 524288) / 1048576
    (sat24 y * (192 - (s.pool.mute : Int)) / 192, if sat24 y = y then s else s.clip o)

/-- SLOTS of TDM port `n` for transmission. -/
def State.txSlots (s : State) (n : Nat) : Nat := (s.pslot (n + 4)).slots

/-- An output with its transmit processing slot: the final sample (R453). -/
def State.finalTick (s : State) (ins : List PIn) (o : Nat) : Int × State :=
  let r := s.outputTick ins o
  if o < 64 && o % 16 < r.2.txSlots (o / 16) then r.2.process (4 + o / 16) (o % 16) r.1 else r

def outputsTick (ins : List PIn) : List Nat → List Int × State → List Int × State
  | [], a => a
  | o :: l, a =>
    let r := a.2.finalTick ins o
    outputsTick ins l (a.1 ++ [r.1], r.2)

/-- POOL_TDMn_FIFO.FILL and MIN follow the transmit FIFO. -/
def State.tdmShow (s : State) (n : Nat) : State :=
  let v := (s.port n).tx.length
  (s.wr F.POOL_TDM_FIFO_FILL v n).wr F.POOL_TDM_FIFO_MIN (min v (s.rd F.POOL_TDM_FIFO_MIN n)) n

/-- One frame of port `n` from the converter. -/
def State.txFrame (s : State) (n : Nat) (out : List Int) : List Int × State :=
  (List.range (s.txSlots n)).foldl (fun (a : List Int × State) k =>
    let v := a.2.convert [out.getD (16 * n + k) 0]
    (a.1 ++ [v.1], v.2)) (([] : List Int), s)

def txFill (n : Nat) (out : List Int) : Nat → State → State
  | 0, s => s
  | k + 1, s =>
    let f := s.txFrame n out
    txFill n out k (f.2.modPort n fun p => { p with tx := p.tx ++ [f.1] })

/-- Pool keeps 16 frames in the transmit FIFO of a port that runs (Table 15-3). -/
def State.txRefill (s : State) (n : Nat) (out : List Int) : State :=
  if !s.tdmLocked n || s.txSlots n = 0 then s else txFill n out (16 - (s.port n).tx.length) s

/-- Source of tap channel `c` (R453). -/
def State.recSrc (s : State) (c : Nat) : Nat :=
  let v := if c < 4 then s.rd F.POOL_REC_SRC0_CH else s.rd F.POOL_REC_SRC1_CH
  v / 2 ^ (8 * (c % 4)) % 128

/-- The recorder tap takes a frame; it runs until step 4 of a shutdown (R454). -/
def State.recTick (s : State) (out : List Int) : State :=
  if !s.on F.POOL_REC_CFG_EN then s.modPool fun p => { p with tap := [] }
  else
    let f := (List.range 8).map fun c => if s.recSrc c < 96 then out.getD (s.recSrc c) 0 else 0
    s.modPool fun p => { p with tap := p.tap ++ [(tickAt (tickBy s.tbs.now), f)] }

/-- An AUDIO section takes effect: classes at once; a changed slot when its port has faded out (Table 04-10). -/
def State.audioTick (s : State) : State :=
  match s.pool.newAudio with
  | none => s
  | some (outs, slots) =>
    let s := s.modImg fun m => { m with outs := outs }
    let s := s.each (List.range 16) fun s p =>
      let new := slots.getD p default
      let v := s.pool.slotFade.getD p 192
      if s.pslot p = new then s.modPool fun q => { q with slotFade := q.slotFade.set p (min 192 (v + 1)) }
      else if v = 0 then s.modImg fun m => { m with pslots := m.pslots.set p new }
      else s.modPool fun q => { q with slotFade := q.slotFade.set p (v - 1) }
    if s.img.pslots = slots && s.pool.slotFade.all (· == 192) then
      (s.modPool fun p => { p with newAudio := none }).deltaTake 0x13 1 else s

/-- Mix outputs are muted in chip safe state and in step 4 of a shutdown (Table 15-7, Table 03-13). -/
def State.muteTick (s : State) : State :=
  let down := s.safe || (s.chip.phase == .drain && decide (3 ≤ s.chip.drainStep))
  s.modPool fun p => { p with mute := if down then min 192 (p.mute + 1) else p.mute - 1 }

/-- The crossfade advances by a tick (R440). -/
def State.swapTick (s : State) : State :=
  s.modPool fun p => { p with swap := p.swap.map fun w => { w with j := min 64 (w.j + 1) } }

/-- MIX_TICK (R431): a tick of the mix clock, once the timebase has reached its instant; ticks that a step of the timebase carried past
are left out. `starved`: streams whose share does not carry their rate at this tick (R444). -/
def execMixTick (starved : List (Nat × Nat)) (s : State) : Ans :=
  if !s.poolOn || decide (s.tbs.now < tickAt s.pool.nextTick) then .next s
  else
    let s := (s.modPool fun p => { p with nextTick := tickBy s.tbs.now + 1 }).audioTick.muteTick.swapTick
    let h := s.pool.streams.foldl (fun (a : State × List (Nat × Nat × List (List Int))) x =>
      let r := a.1.playTick x.cove x.q (starved.contains (x.cove, x.q))
      (r.1, a.2 ++ [(x.cove, x.q, r.2)])) (s, ([] : List (Nat × Nat × List (List Int))))
    let i := h.1.inputs h.2
    let s := i.2.each i.2.pool.streams fun s x => if x.capture then s else s.fadeTick x.cove x.q
    let o := outputsTick i.1 (List.range 96) ([], s)
    let s := o.2.modPool fun p => { p with last := o.1 }
    let s := s.each (List.range 4) fun s n => (s.txRefill n o.1).tdmShow n
    let s := s.each s.pool.streams fun s x => s.captureTick x.cove x.q o.1
    .next (s.recTick o.1)

/-! ### Routes (15.5) -/

/-- A column crossfades. -/
def State.columnHeld (s : State) (o : Nat) : Bool :=
  match s.pool.swap with
  | some w => w.cols.contains o
  | none => false

/-- XP_NODE_WRITE (R439, R441, R459): the active view, or held while its column crossfades. -/
def execXpNodeWrite (ini : Initiator) (o : Fin 96) (i : Fin 160) (g : BitVec 24) (s : State) : Ans :=
  s.busBy ini fun s =>
  if !s.mayWrite ini F.POOL_NODE_GAIN o.val false then
    .next (s.denied ini (0x6100000 + 4 * (160 * o.val + i.val)))
  else if s.columnHeld o.val then
    .next (s.modPool fun p => { p with heldWrites := p.heldWrites ++ [(false, 160 * o.val + i.val, g.toNat)] })
  else .next (s.wr F.POOL_NODE_GAIN g.toNat o.val i.val)

/-- Columns that a swap of a world takes (R440). -/
def State.swapColumns (s : State) (secure : Bool) : List Nat :=
  if secure then List.range 96 else (List.range 96).filter fun o => s.outClass o == 1

/-- Nonzero gains of some columns of the active view. -/
def State.columnGains (s : State) (cols : List Nat) : List (Nat × Nat) :=
  (cols.map fun o => ((List.range 160).map fun i => (160 * o + i, s.rd F.POOL_NODE_GAIN o i)).filter fun e => e.2 != 0).flatten

/-- A crossfade begins. -/
def State.swapBegin (s : State) (secure : Bool) : State :=
  let cols := s.swapColumns secure
  let w : PSwap := { secure := secure, j := 0, cols := cols, old := s.columnGains cols }
  s.modPool fun p => { p with swap := some w, swapNext := none }

/-- XP_SWAP (R440, R441): ignored while the writer's BUSY is 1; waits while the other world's swap runs. -/
def execXpSwap (ini : Initiator) (s : State) : Ans :=
  s.busBy ini fun s =>
  let sec := s.isSec ini
  if !s.isCove0 ini then .next (s.denied ini 0x6000000)
  else if s.on F.POOL_XP_SWAP_BUSY (b2n sec) then .next s
  else
    let s := s.wr F.POOL_XP_SWAP_BUSY 1 (b2n sec)
    match s.pool.swap with
    | some _ => .next (s.modPool fun p => { p with swapNext := some sec })
    | none => .next (s.swapBegin sec)

/-- XP_SWAP_DONE (R440, R441): the 64th tick has passed. -/
def execXpSwapDone (s : State) : Ans :=
  match s.pool.swap with
  | none => .next s
  | some w =>
    if w.j < 64 then .next s
    else
      let s := s.each w.cols fun s o => s.each (List.range 160) fun s i =>
        s.wr F.POOL_NODE_GAIN (s.rd F.POOL_SHADOW_GAIN o i) o i
      let writes := s.pool.heldWrites
      let s := s.modPool fun p => { p with swap := none, heldWrites := [] }
      let s := s.each writes fun s e =>
        if e.1 then s.wr F.POOL_SHADOW_GAIN e.2.2 (e.2.1 / 160) (e.2.1 % 160)
        else s.wr F.POOL_NODE_GAIN e.2.2 (e.2.1 / 160) (e.2.1 % 160)
      let b := b2n w.secure
      let s := ((s.wr F.POOL_XP_SWAP_BUSY 0 b).wr F.POOL_XP_SWAP_DONE 1 b).raise 424 b
      match s.pool.swapNext with
      | some sec => .next (s.swapBegin sec)
      | none => .next s

/-- BIQUAD_COMMIT (R438, R459): the five staged coefficients, the states kept. -/
def execBiquadCommit (ini : Initiator) (n : Fin 512) (s : State) : Ans :=
  s.busBy ini fun s =>
  if !s.mayWrite ini F.POOL_BQ_CTRL_COMMIT n.val false then .next (s.denied ini (0x6020014 + 0x20 * n.val))
  else .next (s.each (List.range 5) fun s j =>
    s.modPool fun p =>
      { p with coef := spSet (if j = 0 then 0x20000000 else 0) p.coef (8 * n.val + j) (s.rd F.POOL_BQ_COEF_COEF n.val j) })

/-! ### TDM ports (15.2) -/

/-- TDM_RX_FRAME (R424, R429): bits [31:8] of each slot. -/
def execTdmRxFrame (n : Fin 4) (slots : List Word) (s : State) : Ans :=
  if !s.tdmRunning n.val || (s.pslot n.val).slots = 0 then .next s
  else
    let f := (List.range (s.pslot n.val).slots).map fun k => sx 24 ((slots.getD k 0).toNat / 256)
    let p := s.port n.val
    if p.rx.length < 32 then .next (s.modPort n.val fun p => { p with rx := p.rx ++ [f] })
    else
      let s := (s.modPort n.val fun p => { p with rx := p.rx.drop 1 ++ [f] }).inc F.POOL_TDM_RXDROP_COUNT 1 n.val
      .next (if s.quietFor p.dropAt 1000000 then
        (s.modPort n.val fun p => { p with dropAt := some s.elapsed }).raise 422 n.val else s)

/-- The transmit FIFO falls below LOW: GOV_MARGIN and TDM_LOW (Table 15-3). -/
def State.tdmBelow (s : State) (n : Nat) : State :=
  let fill := (s.port n).tx.length
  let s := s.govSeen (.tdmTx (Fin.ofNat 4 n)) fill true
  if s.tdmLow n ≤ fill then s
  else
    let s := s.govAlert (.tdmTx (Fin.ofNat 4 n))
    if s.quietFor (s.port n).lowAt 1000000 then
      (s.modPort n fun p => { p with lowAt := some s.elapsed }).raise 420 (n + 256 * fill)
    else s

/-- TDM_TX_FRAME (R425, R428): the oldest frame goes out; an empty FIFO repeats the last one. A port that is not LOCKED
sends 0. -/
def execTdmTxFrame (n : Fin 4) (s : State) : Ans :=
  let slots := s.txSlots n.val
  if !s.tdmRunning n.val || slots = 0 then .next s
  else if !s.tdmLocked n.val then .next (s.send (.tdm n.val (List.replicate slots 0)))
  else
    match (s.port n.val).tx with
    | [] =>
      let s := s.inc F.POOL_TDM_UNDER_COUNT 1 n.val
      let s := if s.quietFor (s.port n.val).underAt 1000000 then
        (s.modPort n.val fun p => { p with underAt := some s.elapsed }).raise 421 n.val else s
      .next ((s.tdmBelow n.val).send (.tdm n.val (s.port n.val).last))
    | f :: l =>
      let s := (s.modPort n.val fun p => { p with tx := l, last := f }).tdmShow n.val
      .next ((s.tdmBelow n.val).send (.tdm n.val f))

/-- A frame period of `ps` picoseconds lies within `ppm` of the rate. -/
def tdmWithin (fs ps ppm : Nat) : Bool :=
  let nominal := 1000000000000
  decide (nominal * (1000000 - ppm) ≤ ps * fs * 1000000) && decide (ps * fs * 1000000 ≤ nominal * (1000000 + ppm))

/-- A slave's lock changes (R425). -/
def State.setLock (s : State) (n : Nat) (v : Bool) : State :=
  if s.on F.POOL_TDM_STAT_LOCKED n = v then s
  else (s.wrB F.POOL_TDM_STAT_LOCKED v n).raise 423 (n + 256 * b2n v)

/-- TDM_FSYNC (R425): a frame period on a slave port. -/
def execTdmFsync (n : Fin 4) (ps : Nat) (s : State) : Ans :=
  if !s.tdmOn n.val || !s.on F.POOL_TDM_CFG_ROLE n.val || ps = 0 then .next s
  else
    let fs := rateHz (s.tdmSlot n.val).fs
    let s := (s.wr F.POOL_TDM_STAT_RUNNING 1 n.val).wr F.POOL_TDM_STAT_RATE_HZ ((1000000000000 + ps / 2) / ps) n.val
    let good := if tdmWithin fs ps 1000 then (s.port n.val).good + 1 else 0
    let s := s.modPort n.val fun p => { p with good := min good 64, fsyncAt := some s.elapsed }
    .next (if !tdmWithin fs ps 2000 then s.setLock n.val false
      else if 64 ≤ good then s.setLock n.val true else s)

/-- Four frame periods of port `n` have passed without FSYNC (R425). -/
def State.fsyncGone (s : State) (n : Nat) : Bool :=
  match (s.port n).fsyncAt with
  | some t => decide (4000000000 ≤ (s.elapsed - t) * rateHz (s.tdmSlot n).fs)
  | none => true

/-- TDM_FSYNC_LOST (R425). -/
def execTdmFsyncLost (n : Fin 4) (s : State) : Ans :=
  if !s.tdmOn n.val || !s.on F.POOL_TDM_CFG_ROLE n.val || !s.on F.POOL_TDM_STAT_RUNNING n.val
      || !s.fsyncGone n.val then .next s
  else
    let s := (s.modPort n.val fun p => { p with good := 0 }).wr F.POOL_TDM_STAT_RUNNING 0 n.val
    .next (s.setLock n.val false)

/-! ### Recorder tap (15.8) -/

/-- Blocks of the recorder's ring. -/
def State.recSize (s : State) : Nat := 2 ^ min 12 (s.rd F.POOL_REC_CFG_SIZE)

/-- A block (R454). -/
def State.recBlock (s : State) (fs : List (Nat × List Int)) : List Byte :=
  let mask := ((List.range 8).map fun c => if s.recSrc c < 96 then 2 ^ c else 0).sum
  let ts := match fs with
    | f :: _ => f.1
    | [] => 0
  leBytes 8 ts ++ leBytes 4 (s.rd F.POOL_REC_PROD_COUNT) ++ leBytes 1 mask ++ leBytes 1 (b2n s.pool.recLoss)
    ++ leBytes 50 0 ++ (fs.map fun f => ((List.range 8).map fun c => leBytes 4 (toTwos 32 (f.2.getD c 0))).flatten).flatten

/-- REC_BLOCK (R454): 96 frames make a block, written under the secure tag or dropped. -/
def execRecBlock (s : State) : Ans :=
  if !s.on F.POOL_REC_CFG_EN || s.pool.tap.length < 96 then .next s
  else
    let fs := s.pool.tap.take 96
    let s := s.modPool fun p => { p with tap := p.tap.drop 96 }
    let prod := s.rd F.POOL_REC_PROD_COUNT
    if used32 prod (s.rd F.POOL_REC_CONS_COUNT) = s.recSize then
      let s := (s.inc F.POOL_REC_LOST_COUNT 1).modPool fun p => { p with recLoss := true }
      .next (if s.pool.recEpisode then s
        else (s.modPool fun p => { p with recEpisode := true }).raise 427)
    else
      let w := s.dramWrite (secTag s) (s.rd F.POOL_REC_BASE_BASE * 64 + 3136 * (prod % s.recSize)) (s.recBlock fs)
      .next ((w.1.inc F.POOL_REC_PROD_COUNT 1).modPool fun p => { p with recLoss := false })

end Sys2Proof.Machine
end

