-- ==== Sys2Proof/Machine/Shoreline.lean ====
section
/-!
DEFINITION. Shoreline commands (R178, R179) and queries: rows SHOR_ASSIGN to SHOR_QUERY.
-/
namespace Sys2Proof.Machine

/-- Shoreline pages (R175). -/
def shorPages : Nat := 524288

/-- The world may issue the OP (Table 06-8): the warden issues 1 to 4, the secure world 1 to 7. -/
def shorPermits (secure : Bool) (op : Nat) : Bool := decide (1 ≤ op) && (decide (op ≤ 4) || (secure && decide (op ≤ 7)))

/-- The From column of Table 06-8. A page that R177 left in SCRUBBING is restored by TAKE_SECURE, RELEASE_SECURE and RELEASE. -/
def shorFrom (op st : Nat) : Bool :=
  match op with
  | 1 => st == 0 | 2 => st == 1 | 3 => st == 2 | 4 => st == 1 || st == 2 || st == 4 | 5 => st == 0 || st == 4
  | 6 => st == 3 || st == 4 | _ => st == 0

/-- The command scrubs its pages. -/
def shorScrubs (op : Nat) : Bool := op == 1 || op == 4 || op == 6

/-- A page lies in a delegated range. -/
def State.delegated (s : State) (p : Nat) : Bool :=
  (List.range 4).any fun k => decide (s.rd F.SHOR_DELEG_BASE_BASE k ≤ p) && decide (p < s.rd F.SHOR_DELEG_LIMIT_LIMIT k)

/-- REASON for one page, 0 when it passes (R178). -/
def State.shorPageReason (s : State) (c : ShorCmd) (p : Nat) : Nat :=
  let e := s.shorEntry p
  if !c.secure && !s.delegated p then 1
  else if entState e = 3 && c.op ≠ 6 then 2
  else if !shorFrom c.op (entState e) then 3
  else if c.op = 2 && c.reader = entOwner e then 6
  else 0

/-- The first failing page among `n` pages from `p`. -/
def shorFirstFail (s : State) (c : ShorCmd) : Nat → Nat → Option (Nat × Nat)
  | 0, _ => none
  | n + 1, p => if s.shorPageReason c p = 0 then shorFirstFail s c n (p + 1) else some (s.shorPageReason c p, p)

/-- The check of a command: REASON and page of the first failure (R178). -/
def State.shorCheck (s : State) (c : ShorCmd) : Option (Nat × Nat) :=
  if !shorPermits c.secure c.op then some (4, c.first)
  else if c.count = 0 || shorPages < c.first + c.count then some (5, c.first)
  else shorFirstFail s c c.count c.first

/-- The final entry of a page (the To column). -/
def shorFinal (c : ShorCmd) (e : Nat) : Nat :=
  match c.op with
  | 1 => mkEntry 1 c.owner 0
  | 2 => mkEntry 2 (entOwner e) c.reader
  | 3 => mkEntry 1 (entOwner e) 0
  | 5 => mkEntry 3 0 0
  | 7 => mkEntry 1 c.owner 0
  | _ => 0

/-- Set the entries of `n` pages from `p`. -/
def shorSetAll (f : Nat → Nat) : Nat → Nat → State → State
  | 0, _, s => s
  | n + 1, p, s => shorSetAll f n (p + 1) (s.setEntry p (f (s.shorEntry p)))

/-- A command is refused (R178): BUSY falls, REFUSED and REASON record it, event 71. -/
def State.shorRefuse (s : State) (c : ShorCmd) (reason page : Nat) : State :=
  let w := b2n c.secure
  let s1 := ((s.wr F.SHOR_STAT_BUSY 0 w).wr F.SHOR_STAT_REFUSED 1 w).wr F.SHOR_STAT_REASON reason w
  (s1.wr F.SHOR_CMD_REFUSED_PAGE_PAGE page w).raise 71 (reason + 16 * c.op + 256 * w) 0 c.secure

/-- Run a command that passed its check: its pages go to SCRUBBING, or straight to their final entry. -/
def State.shorRun (s : State) (c : ShorCmd) : State :=
  let s1 := shorSetAll (fun e => if shorScrubs c.op then mkEntry 4 0 0 else shorFinal c e) c.count c.first s
  s1.modOwn fun o => { o with running := some c }

/-- Check a command, then run or refuse it. -/
def State.shorBegin (s : State) (c : ShorCmd) : State :=
  match s.shorCheck c with
  | none => s.shorRun c
  | some (reason, page) => s.shorRefuse c reason page

/-- A write of SHOR_CMD with GO (R178, R179). -/
def State.shorGo (s : State) (ini : Initiator) (op owner reader : Nat) : State :=
  let sec := s.isSec ini
  let w := b2n sec
  if !s.isCove0 ini then s.denied ini 0x500000
  else
    let s3 := ((s.wr F.SHOR_CMD_OP op w).wr F.SHOR_CMD_OWNER owner w).wr F.SHOR_CMD_READER reader w
    if s3.on F.SHOR_STAT_BUSY w then s3
    else
      let c : ShorCmd := { secure := sec, op := op, first := s3.rd F.SHOR_CMD_FIRST_FIRST w,
                           count := s3.rd F.SHOR_CMD_COUNT_COUNT w, owner := owner, reader := reader }
      let s4 := s3.wr F.SHOR_STAT_BUSY 1 w
      if s4.own.running.isSome then s4.modOwn fun o => { o with waiting := some c } else s4.shorBegin c

/-- SHOR_ASSIGN (Table 06-8, OP 1). -/
def execShorAssign (ini : Initiator) (owner reader : Fin 32) (s : State) : Ans :=
  s.busBy ini fun s => .next (s.shorGo ini 1 owner.val reader.val)

/-- SHOR_SHARE (OP 2). -/
def execShorShare (ini : Initiator) (owner reader : Fin 32) (s : State) : Ans :=
  s.busBy ini fun s => .next (s.shorGo ini 2 owner.val reader.val)

/-- SHOR_UNSHARE (OP 3). -/
def execShorUnshare (ini : Initiator) (owner reader : Fin 32) (s : State) : Ans :=
  s.busBy ini fun s => .next (s.shorGo ini 3 owner.val reader.val)

/-- SHOR_RELEASE (OP 4). -/
def execShorRelease (ini : Initiator) (owner reader : Fin 32) (s : State) : Ans :=
  s.busBy ini fun s => .next (s.shorGo ini 4 owner.val reader.val)

/-- SHOR_TAKE_SECURE (OP 5). -/
def execShorTakeSecure (ini : Initiator) (owner reader : Fin 32) (s : State) : Ans :=
  s.busBy ini fun s => .next (s.shorGo ini 5 owner.val reader.val)

/-- SHOR_RELEASE_SECURE (OP 6). -/
def execShorReleaseSecure (ini : Initiator) (owner reader : Fin 32) (s : State) : Ans :=
  s.busBy ini fun s => .next (s.shorGo ini 6 owner.val reader.val)

/-- SHOR_ASSIGN_KEEP (OP 7). -/
def execShorAssignKeep (ini : Initiator) (owner reader : Fin 32) (s : State) : Ans :=
  s.busBy ini fun s => .next (s.shorGo ini 7 owner.val reader.val)

/-- SHOR_CMD_START (R179): the waiting command begins once no command runs. -/
def execShorCmdStart (s : State) : Ans :=
  match s.own.waiting, s.own.running with
  | some c, none => .next ((s.modOwn fun o => { o with waiting := none }).shorBegin c)
  | _, _ => .next s

/-- Finish the running command: scrubbed pages read 0 and take their final entries; DONE and event 70 (R178). -/
def State.shorFinish (s : State) (c : ShorCmd) : State :=
  let w := b2n c.secure
  let s1 :=
    if shorScrubs c.op then
      shorSetAll (fun _ => shorFinal c 0) c.count c.first
        ((({ s with dram := memZero s.dram (c.first * 65536) (c.count * 65536) }).unpoison (c.first * 65536)
          (c.count * 65536)).each (List.range' c.first c.count) State.markInit)
    else s
  let s2 := s1.modOwn fun o => { o with running := none }
  ((s2.wr F.SHOR_STAT_BUSY 0 w).wr F.SHOR_STAT_DONE 1 w).raise 70 (c.op + 16 * w) 0 c.secure

/-- SHOR_CMD_DONE (R178, R179): a waiting command that fails its check is refused at once. -/
def execShorCmdDone (s : State) : Ans :=
  match s.own.running with
  | none => .next s
  | some c =>
    let s1 := s.shorFinish c
    match s1.own.waiting with
    | none => .next s1
    | some d =>
      match s1.shorCheck d with
      | none => .next s1
      | some (reason, page) => .next ((s1.modOwn fun o => { o with waiting := none }).shorRefuse d reason page)

/-- SHOR_QUERY (R175): SHOR_QUERY_RESULT shows the entry of the page written. -/
def execShorQuery (ini : Initiator) (page : Fin 524288) (s : State) : Ans :=
  s.busBy ini fun s =>
  let w := b2n (s.isSec ini)
  .next (s.wr F.SHOR_QUERY_PAGE page.val w)

end Sys2Proof.Machine
end

