-- ==== Sys2Proof/Machine/Writes.lean ====
section
/-!
DEFINITION. Register accesses whole: rows REGISTER_WRITE, READ_TO_CLEAR, LOW_WORD_READ and HIGH_WORD_READ. Beside what Registers.lean
does by access type, these are the writes whose register has a rule of its own and no row: commands with an operation that no table
lists, Pool's port, clock and route registers, the alert line; the MRAM aperture, and the window of PF BAR0.
-/
namespace Sys2Proof.Machine

/-- A write that a register's own rule changes: the whole state after it; none where R5 alone applies. -/
def State.commandWrite (s : State) (ini : Initiator) (off w : Nat) : Option State :=
  if off = 0x500000 && bit w 31 && bits w 30 28 == 0 then some (s.shorGo ini 0 (bits w 20 16) (bits w 12 8))
  else if off = 0x800000 && bit w 31 && (bits w 27 24 == 0 || decide (6 < bits w 27 24)) then
    some (s.coveCmd ini (bits w 27 24) (bits w 4 0) [] id)
  else if off = 0x2000040 && bit w 31 && !([1, 2, 3, 4, 5].contains (bits w 18 16)) then some (s.regWrite ini off (w % 2 ^ 31))
  else if off = 0x7800000 && bit w 31 && !([1, 2, 4].contains (bits w 27 24)) then some (s.drgGo ini (bits w 27 24) (bits w 11 0))
  else none

/-- TDM port whose register `k` (byte offset in its block) lies at `off`. -/
def tdmReg (off k : Nat) : Option Nat :=
  if 0x6000100 ≤ off && off < 0x6000180 && off % 0x20 == k then some ((off - 0x6000100) / 0x20) else none

/-- A slave port that is disabled stops (R425). -/
def State.tdmStop (s : State) (n : Nat) : State :=
  if s.on F.POOL_TDM_CFG_ROLE n then
    (((s.modPort n fun p => { p with good := 0 }).wr F.POOL_TDM_STAT_RUNNING 0 n).setLock n false) else s

/-- A write of POOL_TDMn_CFG (R427, Table 15-8): one that sets EN of an unused port is discarded; while EN is 1 the other fields
are kept. -/
def State.tdmCfgWrite (s : State) (ini : Initiator) (n off w : Nat) : State :=
  if bit w 31 && (s.tdmSlot n).slots == 0 then s
  else if s.on F.POOL_TDM_CFG_EN n then (if bit w 31 then s else (s.wr F.POOL_TDM_CFG_EN 0 n).tdmStop n)
  else s.regWrite ini off w

/-- A write of POOL_TDMn_FIFO: MIN_CLR starts MIN again from the current fill. -/
def State.tdmFifoWrite (s : State) (ini : Initiator) (n off w : Nat) : State :=
  (s.regWrite ini off w).when (bit w 31) fun s => s.wr F.POOL_TDM_FIFO_MIN (s.rd F.POOL_TDM_FIFO_FILL n) n

/-- A clock whose four microphones are unused (R427). -/
def State.pdmIdle (s : State) (c : Nat) : Bool := (List.range 4).all fun k => (s.pslot (8 + 4 * c + k)).slots == 0

/-- A write in Pool's register range. -/
def State.poolWrite (s : State) (ini : Initiator) (off w : Nat) : Option State :=
  if !s.mayWrite ini F.POOL_TDM_CFG_EN 0 false then none
  else if off = 0x6000080 then
    (if (bit w 0 && s.pdmIdle 0) || (bit w 1 && s.pdmIdle 1) then some s else none)
  else match tdmReg off 0 with
    | some n => some (s.tdmCfgWrite ini n off w)
    | none => (tdmReg off 8).map fun n => s.tdmFifoWrite ini n off w

/-- A write in the shadow view to a column that crossfades is held (R441). -/
def State.shadowWrite (s : State) (ini : Initiator) (off w : Nat) : Option State :=
  let k := (off - 0x6120000) / 4
  if 0x6120000 ≤ off && k < 15360 && s.columnHeld (k / 160) && s.mayWrite ini F.POOL_SHADOW_GAIN (k / 160) false then
    some (s.modPool fun p => { p with heldWrites := p.heldWrites ++ [(true, k, w % 2 ^ 24)] })
  else none

/-- The aperture byte that an offset leads to. -/
def State.nvmPlace (s : State) (off : Nat) : Option Nat :=
  match s.place off with
  | .nvm o => some o
  | _ => none

/-- A 32-bit write by an initiator other than a PCIe function. -/
def State.busWrite (s : State) (ini : Initiator) (off w : Nat) : State :=
  match s.commandWrite ini off w with
  | some t => t
  | none => match s.poolWrite ini off w with
    | some t => t
    | none => match s.shadowWrite ini off w with
      | some t => t
      | none => match s.nvmPlace off with
        | some o => s.nvmWrite ini o .b4 w
        | none =>
          let s1 := s.regWrite ini off w
          if off = 0x7C00050 then s1.sideband else s1

/-- A read by an initiator other than a PCIe function. -/
def State.busRead (s : State) (ini : Initiator) (off : Nat) (size : RegSize) : State :=
  match s.nvmPlace off with
  | some o => s.nvmRead ini o (match size with | .byte => .b1 | .half => .b2 | .word => .b4) .ok
  | none => s.regRead ini off size

/-- A request to a BAR before RUN, outside the image-load window (R82). -/
def State.barRefused (s : State) : State := (s.send (.pcieCpl 1 [])).answer 0 true

/-- A PCIe function's access at `off` (R82, R87): PF BAR0 is the image-load window; everything else waits for RUN. -/
def State.pcieAccess (s : State) (f off : Nat) (window bus : State → State) : State :=
  if f = 0 && decide (off < 0x10000) then window s else if !s.chip.ran then s.barRefused else bus s

/-- REGISTER_WRITE (R5, R82, R87). -/
def execRegisterWrite (ini : Initiator) (off : Nat) (v : Word) (s : State) : Ans :=
  s.by ini fun s =>
  match ini with
  | .pcie f => .next (s.pcieAccess f.val off (·.windowWrite off v.toNat) (·.regWrite ini off v.toNat))
  | _ => .next (s.busWrite ini off v.toNat)

/-- A read of a register or of the window. -/
def State.readAny (s : State) (ini : Initiator) (off : Nat) (size : RegSize) : State :=
  match ini with
  | .pcie f => s.pcieAccess f.val off (·.windowRead off size) (·.regRead ini off size)
  | _ => s.busRead ini off size

/-- READ_TO_CLEAR (R5, R7, R8, R82, R87): any read of 8, 16 or 32 bits; an RC field is cleared by it. -/
def execReadToClear (ini : Initiator) (off : Nat) (size : RegSize) (s : State) : Ans :=
  s.by ini fun s => .next (s.readAny ini off size)

/-- LOW_WORD_READ (R8): it captures the high word for the initiator. -/
def execLowWordRead (ini : Initiator) (off : Nat) (s : State) : Ans := s.by ini fun s => .next (s.readAny ini off .word)

/-- HIGH_WORD_READ (R8): it returns the initiator's pending capture and consumes it. -/
def execHighWordRead (ini : Initiator) (off : Nat) (s : State) : Ans := s.by ini fun s => .next (s.readAny ini off .word)

end Sys2Proof.Machine
end

