-- ==== Sys2Proof/Machine/Flits.lean ====
section
/-!
DEFINITION. Flits of the Portage links (R537 to R540) and what those addressed to this device do (R547, R548, R552, R553): row
FLIT_RECEIVE.
-/
namespace Sys2Proof.Machine

/-! ### Header (Table 20-1) -/

def flitClass (f : List Byte) : Nat := leAt f 0 1
def flitDest (f : List Byte) : Nat := leAt f 1 1 % 4
def flitSrc (f : List Byte) : Nat := leAt f 2 1 % 4
def flitSeq (f : List Byte) : Nat := leAt f 4 2 % 4096
def flitAck (f : List Byte) : Nat := leAt f 6 2 % 4096

/-- A whole flit whose CHECK holds. -/
def flitGood (f : List Byte) : Bool := f.length == 256 && leAt f 248 4 == ofLe (leBytes 4 (crc32c (f.take 248)))

/-- The flit with another SEQ and ACK, as the next link carries it. -/
def flitStamp (f : List Byte) (seq ack : Nat) : List Byte :=
  let b := f.take 4 ++ leBytes 2 seq ++ leBytes 2 ack ++ (f.drop 8).take 240
  b ++ leBytes 4 (crc32c b) ++ leBytes 4 0

/-! ### Sequence, acknowledgement and replay (R540) -/

/-- SEQ of the oldest flit in the retry buffer. -/
def oldestSeq (k : PtgLink) : Nat := (k.tx + 4096 - k.retry.length % 4096) % 4096

/-- An ACK frees what it covers of the retry buffer; an ACK outside it frees nothing. -/
def ackTake (k : PtgLink) (a : Nat) : PtgLink :=
  let n := (a + 1 + 4096 - oldestSeq k) % 4096
  if n = 0 ∨ k.retry.length < n then k else { k with retry := k.retry.drop n, replays := 0 }

/-- Send a flit on link `l`, keeping it for replay; the buffer holds 512. -/
def State.flitSend (s : State) (l : Nat) (f : List Byte) : State :=
  let k := s.ptgLink l
  let g := flitStamp f k.tx ((k.rx + 4095) % 4096)
  let s1 := s.modLink l fun k => { k with tx := (k.tx + 1) % 4096, retry := (k.retry ++ [g]).drop (k.retry.length + 1 - 512) }
  s1.send (.ptgFlit l k.tx (g.map (·.toNat)))

/-- A NAK for `seq` on link `l`: the flits from it on are replayed; the eighth replay takes the link down. -/
def State.flitReplay (s : State) (l seq : Nat) : State :=
  let s1 := (s.inc F.PTG_LINK_RETRY_COUNT 1 l).modLink l fun k => { k with replays := k.replays + 1 }
  let k := s1.ptgLink l
  if 8 ≤ k.replays then s1.linkLost l 1 (s1.behind l)
  else
    let n := (seq + 4096 - oldestSeq k) % 4096
    s1.each (k.retry.drop n) fun s g => s.send (.ptgFlit l (flitSeq g) (g.map (·.toNat)))

/-! ### Remote accesses (R553) -/

/-- A register access from position `q`: served under the secure tag while REMOTE_EN is 1, else answered with ERR. -/
def State.remoteServe (s : State) (q off : Nat) (v : Option Nat) : State :=
  if !s.on F.PTG_CFG_REMOTE_EN then s.msgTo q 11 [1, 0]
  else match v with
    | some w => { s.busWrite .portage off w with resp := s.resp }.msgTo q 11 [0, 0]
    | none =>
      let t := s.busRead .portage off .word
      { t with resp := s.resp }.msgTo q 11 [0, t.resp.value]

/-- The answer to this device's own access. -/
def State.remoteAnswer (s : State) (err : Bool) (v : Nat) : State :=
  match s.ptg.racc with
  | none => s
  | some (_, write) =>
    let s1 := (s.wr F.PTG_RACC_CTRL_BUSY 0).modPtg fun p => { p with racc := none }
    if err then s1.wr F.PTG_RACC_CTRL_ERR 1
    else if write then s1 else s1.wr F.PTG_RACC_DATA_DATA v

/-! ### Import windows (R547) -/

/-- The lowest window that admits position `q` into a page. -/
def State.importWindow (s : State) (q page : Nat) : Option Nat :=
  (List.range 8).find? fun w =>
    s.on F.PTG_IMP_CFG_EN w && bit (s.rd F.PTG_IMP_CFG_SRC_MASK w) q && decide (s.rd F.PTG_IMP_BASE_PAGE w ≤ page)
      && decide (page < s.rd F.PTG_IMP_LIMIT_PAGE w)

/-- Bytes of one page, written through the window that admits them: whether all were written. -/
def State.importPage (s : State) (q addr : Nat) (l : List Byte) : State × Bool :=
  if l.isEmpty then (s, true)
  else match s.importWindow q (addr / 65536) with
    | none => (s, false)
    | some w => s.dramWrite (s.coveTag (s.rd F.PTG_IMP_CFG_COVE w)) addr l

/-- Bytes from position `q`, which can reach into a second page; the sender hears where some were not written. -/
def State.importBytes (s : State) (q addr : Nat) (l : List Byte) : State :=
  let n := 65536 - addr % 65536
  match s.importPage q addr (l.take n) with
  | (s1, ok1) => match s1.importPage q (addr + n) (l.drop n) with
    | (s2, ok2) => if ok1 && ok2 then s2 else s2.msgTo q 16 [addr]

/-! ### Images and mirrors (R546, R552) -/

/-- Bytes of an image from the master; the last complete it. -/
def State.importImage (s : State) (off : Nat) (l : List Byte) (last : Bool) : State :=
  if !s.portLoadOpen || s.chip.stagedBusy then s
  else
    let s1 := (s.modChip fun c => { c with imgldSize := min 16777216 (max c.imgldSize (off + l.length)) }).stageBytes off l
    if last then s1.modChip fun c => { c with stagedBusy := true, imgldSize := off + l.length } else s1

/-- A changed tile of the stream to mirror `m`. -/
def State.mirrorTile (s : State) (q m k colour : Nat) (l : List Byte) : State :=
  s.modPtg fun p => { p with mirrors := p.mirrors.modify m fun x => x.map fun b =>
    if b.srcPos = q then { b with tiles := b.tiles.filter (fun t => t.1 != k) ++ [(k, colour, l)] } else b }

/-- Mirror `m` of position `q` asks for head `h`'s stream, or no longer wants it; the legal head is declined (R570). -/
def State.streamBind (s : State) (q m h : Nat) (want : Bool) : State :=
  let rest := s.ptg.streams.filter fun e => !(e.1 == q && e.2.1 == m)
  if !want then s.modPtg fun p => { p with streams := rest }
  else if s.legalHead = some h then s.msgTo q 15 [m]
  else s.modPtg fun p => { p with streams := rest ++ [(q, m, h, true)] }

/-- What an accepted flit for this device does. -/
def State.flitAct (s : State) (l q : Nat) (c : FlitContent) : State :=
  match c with
  | .control => s
  | .read off => s.remoteServe q off none
  | .write off v => s.remoteServe q off (some v.toNat)
  | .answer err v => s.remoteAnswer err v.toNat
  | .copy addr data => s.importBytes q addr data
  | .image off data last => s.importImage off data last
  | .fence addr v => s.importBytes q addr (leBytes 8 v.toNat)
  | .tile m k colour data => s.mirrorTile q m.val k colour data
  | .bind m h want => s.streamBind q m.val h.val want
  | .reach mask booting => s.reachTold l mask.toNat booting.toNat
  | .nak seq => s.flitReplay l seq

/-- The class that a content travels in (Table 20-1). -/
def contentClass : FlitContent → List Nat
  | .control => [0, 5]
  | .read _ => [1]
  | .write _ _ => [1]
  | .answer _ _ => [2]
  | .copy _ _ => [3]
  | .image _ _ _ => [3]
  | .fence _ _ => [3]
  | .tile _ _ _ _ => [4]
  | .bind _ _ _ => [5]
  | .reach _ _ => [5]
  | .nak _ => [0]

/-- FLIT_RECEIVE (R538, R539, R540): a flit that fails CHECK or was cut short is NAKed; one out of order is not taken; any other
is acknowledged, and forwarded where it is for another position. -/
def execFlitReceive (l : Fin 2) (flit : List Byte) (content : FlitContent) (s : State) : Ans :=
  let k := s.ptgLink l.val
  if !s.linkUp l.val then .next s
  else if !flitGood flit then .next (s.send (.ptgNak l.val k.rx))
  else if flitSeq flit ≠ k.rx then .next s
  else
    let s1 := s.modLink l.val fun k => ackTake { k with rx := (k.rx + 1) % 4096 } (flitAck flit)
    if flitDest flit = s.pos then
      .next (if (contentClass content).contains (flitClass flit) then s1.flitAct l.val (flitSrc flit) content else s1)
    else if s1.linkUp (1 - l.val) then .next (s1.flitSend (1 - l.val) flit)
    else .next s1

end Sys2Proof.Machine
end

