-- ==== Sys2Proof/Machine/Rays.lean ====
section
/-!
DEFINITION. Ray traversal (R411 to R417): the BVH walk, box and triangle tests in exact arithmetic, candidates and tokens, and
the rows RAY_TRAVERSE and RAY_RESUME.
-/
namespace Sys2Proof.Machine

/-! ### Vectors -/

def vget (a : List Rat) (i : Nat) : Rat := a.getD i 0
def vsub (a b : List Rat) : List Rat := [vget a 0 - vget b 0, vget a 1 - vget b 1, vget a 2 - vget b 2]
def vdot (a b : List Rat) : Rat := vget a 0 * vget b 0 + vget a 1 * vget b 1 + vget a 2 * vget b 2
def vcross (a b : List Rat) : List Rat :=
  [vget a 1 * vget b 2 - vget a 2 * vget b 1, vget a 2 * vget b 0 - vget a 0 * vget b 2,
   vget a 0 * vget b 1 - vget a 1 * vget b 0]

/-- `n` binary32 values of a record; none where one is not finite. -/
def f32s (l : List Byte) (o n : Nat) : Option (List Rat) := (List.range n).mapM fun k => f32 (leAt l (o + 4 * k) 4)

/-! ### Triangles (R414) -/

/-- Sign of the first nonzero number. -/
def leadSign : List Rat → Int
  | [] => 0
  | x :: l => if 0 < x then 1 else if x < 0 then -1 else leadSign l

/-- Side of an edge on which the ray passes; a ray through an edge or a vertex is decided by one fixed displacement of its
direction, the same for every triangle, so that of triangles that share it exactly one is hit. -/
def edgeSide (d a b : List Rat) : Int :=
  let n := vcross a b
  leadSign [vdot d n, vget n 0, vget n 1, vget n 2]

/-- Where a ray meets a triangle, if it does. -/
def RayTri.hit (t : RayTri) : Option RayHit :=
  let v0 := vsub (t.v.take 3) t.o
  let v1 := vsub ((t.v.drop 3).take 3) t.o
  let v2 := vsub ((t.v.drop 6).take 3) t.o
  let n := vcross (vsub v1 v0) (vsub v2 v0)
  let dn := vdot t.d n
  let s01 := edgeSide t.d v0 v1
  let s12 := edgeSide t.d v1 v2
  let s20 := edgeSide t.d v2 v0
  if dn = 0 || s01 ≠ s12 || s12 ≠ s20 || s01 = 0 then none
  else some
    { t := vdot v0 n / dn, u := vdot t.d (vcross v2 v0) / dn, v := vdot t.d (vcross v0 v1) / dn, prim := t.prim,
      geom := t.geom, inst := t.inst, back := decide (0 < dn) }

/-! ### Boxes -/

/-- One bound of a box: a number, or none where it is infinite. -/
def bound (v : Nat) : Option Rat := f32 v

/-- Narrow the interval of a ray by the slab [lo, hi] of one axis; none when it is empty. `hi` of the interval is none when
it has no end. -/
def slab (o d : Rat) (lo hi : Nat) (iv : Rat × Option Rat) : Option (Rat × Option Rat) :=
  if f32Nan lo || f32Nan hi || (f32Inf lo && !fNeg 8 23 lo) || (f32Inf hi && fNeg 8 23 hi) then none
  else if d = 0 then
    let above := match bound lo with | some x => decide (x ≤ o) | none => true
    let below := match bound hi with | some x => decide (o ≤ x) | none => true
    if above && below then some iv else none
  else
    let near := if 0 < d then bound lo else bound hi
    let far := if 0 < d then bound hi else bound lo
    let a := match near with | some x => max iv.1 ((x - o) / d) | none => iv.1
    let b := match far with
      | some x => some (match iv.2 with | some y => min y ((x - o) / d) | none => (x - o) / d)
      | none => iv.2
    match b with
    | some y => if a ≤ y then some (a, b) else none
    | none => some (a, b)

/-- The ray enters child `k`'s box. -/
def boxHit (node : List Byte) (k : Nat) (o d : List Rat) (tmin : Rat) (tmax : Option Rat) : Bool :=
  let b := fun ax mx => leAt node (32 * ax + 16 * mx + 4 * k) 4
  (((slab (vget o 0) (vget d 0) (b 0 0) (b 0 1) (tmin, tmax)).bind fun i =>
    slab (vget o 1) (vget d 1) (b 1 0) (b 1 1) i).bind fun i => slab (vget o 2) (vget d 2) (b 2 0) (b 2 1) i).isSome

/-! ### The walk -/

/-- Why a traversal ends early: a traversal fault (R417), a failed read (recorded already), or numbers for which the manual
states no result. -/
inductive RayErr where
  | fault | access | open_
  deriving DecidableEq, Repr

/-- What a walk knows of its instance: INST_ID, FORCE_OPAQUE and NO_CULL. -/
structure InstCtx where
  id : Nat
  force : Bool
  noCull : Bool
  deriving DecidableEq, Repr

/-- A ray as a walk carries it. -/
structure WalkRay where
  o : List Rat
  d : List Rat
  tmin : Rat
  tmax : Option Rat
  mask : Nat
  flags : Nat
  inst : Option InstCtx
  deriving DecidableEq, Repr

/-- What a walk gathers: the triangles to test, and whether an instance was entered. -/
abbrev Walk := State × Except RayErr (List RayTri × Bool)

/-- The triangle of a record (Table 14-9). -/
def triOf (r : WalkRay) (l : List Byte) : Except RayErr RayTri :=
  let fl := leAt l 0x2B 1
  if 1 < fl || leAt l 0x2C 4 ≠ 0 then .error .fault
  else match f32s l 0 9 with
    | none => .error .open_
    | some v =>
      let force := bit r.flags 3 || (match r.inst with | some i => i.force | none => false)
      .ok { o := r.o, d := r.d, v := v, prim := leAt l 0x24 4, geom := leAt l 0x28 3,
            inst := match r.inst with | some i => i.id | none => 0xFFFFFF,
            opaque_ := force || (bit fl 0 && !bit r.flags 4), noCull := match r.inst with | some i => i.noCull | none => false }

/-- The ray of an instance's space (R413). -/
def WalkRay.into (r : WalkRay) (m : List Rat) (i : InstCtx) : WalkRay :=
  let row := fun k (p : List Rat) (w : Rat) =>
    vget m (4 * k) * vget p 0 + vget m (4 * k + 1) * vget p 1 + vget m (4 * k + 2) * vget p 2 + vget m (4 * k + 3) * w
  { r with o := [row 0 r.o 1, row 1 r.o 1, row 2 r.o 1], d := [row 0 r.d 0, row 1 r.d 0, row 2 r.d 0], inst := some i }

/-- Run walks one after another and join what they gather. -/
def walkAll {α : Type} (f : State → α → Walk) : List α → State → Walk
  | [], s => (s, .ok ([], false))
  | a :: l, s =>
    match f s a with
    | (s1, .error e) => (s1, .error e)
    | (s1, .ok (x, b)) =>
      match walkAll f l s1 with
      | (s2, .ok (y, b2)) => (s2, .ok (x ++ y, b || b2))
      | r => r

/-- Read a record under the context's tag. -/
def State.rayRead (s : State) (c q a n : Nat) : State × Except RayErr (List Byte) :=
  match s.ctxRead c q a n with
  | (s1, l, true) => (s1, .ok l)
  | (s1, _, false) => (s1, .error .access)

/-- Walk the BVH whose root is `root` from the node at `a`: `fuel` nodes may still nest (R412, R413, R417). -/
def walk (c q : Nat) : Nat → Nat → Nat → WalkRay → State → Walk
  | 0, _, _, _, s => (s, .error .fault)
  | fuel + 1, root, a, r, s =>
    match s.rayRead c q a 128 with
    | (s1, .error e) => (s1, .error e)
    | (s1, .ok node) =>
      if !((slice node 0x74 12).all (· == 0)) then (s1, .error .fault)
      else walkAll (fun s k =>
        let ch := leAt node (0x60 + 4 * k) 4
        let count := bits ch 29 26 + 1
        let off := bits ch 25 0 * 64
        if bits ch 31 30 = 0 || leAt node (0x70 + k) 1 &&& r.mask = 0 || !boxHit node k r.o r.d r.tmin r.tmax then
          (s, .ok ([], false))
        else match bits ch 31 30 with
          | 1 => if bits ch 29 26 ≠ 0 then (s, .error .fault) else walk c q fuel root (root + off) r s
          | 2 =>
            if 2 ^ 32 < off + 48 * count then (s, .error .fault)
            else walkAll (fun s i =>
              match s.rayRead c q (root + off + 48 * i) 48 with
              | (s2, .error e) => (s2, .error e)
              | (s2, .ok l) => match triOf r l with
                | .ok t => (s2, .ok ([t], false))
                | .error e => (s2, .error e)) (List.range count) s
          | _ =>
            if r.inst.isSome || decide (2 ^ 32 < off + 64 * count) then (s, .error .fault)
            else walkAll (fun s i =>
              match s.rayRead c q (root + off + 64 * i) 64 with
              | (s2, .error e) => (s2, .error e)
              | (s2, .ok l) =>
                if 3 < leAt l 0x3C 1 || leAt l 0x3D 3 ≠ 0 then (s2, .error .fault)
                else if leAt l 0x3B 1 &&& r.mask = 0 then (s2, .ok ([], false))
                else match f32s l 0 12 with
                  | none => (s2, .error .open_)
                  | some m =>
                    let x : InstCtx := { id := leAt l 0x38 3, force := bit (leAt l 0x3C 1) 0, noCull := bit (leAt l 0x3C 1) 1 }
                    match walk c q fuel (leAt l 0x30 8) (leAt l 0x30 8) (r.into m x) s2 with
                    | (s3, .ok (t, _)) => (s3, .ok (t, true))
                    | w => w) (List.range count) s) (List.range 4) s1

/-! ### Hits in order -/

/-- Identifiers of a hit, in the order that decides a tie (R414). -/
def RayHit.ids (h : RayHit) : List Nat := [h.inst, h.geom, h.prim]

/-- A hit is acceptable: inside the interval, and before the best so far. -/
def acceptable (tmin : Rat) (tmax : Option Rat) (best : Option RayHit) (h : RayHit) : Bool :=
  decide (tmin ≤ h.t) && (match tmax with | some x => decide (h.t < x) | none => true)
    && (match best with | some b => decide (h.t < b.t) || (h.t == b.t && decide (h.ids < b.ids)) | none => true)

/-- A hit is culled by its facing. -/
def culled (flags : Nat) (noCull : Bool) (h : RayHit) : Bool :=
  !noCull && ((bit flags 0 && h.back) || (bit flags 1 && !h.back))

/-- The state of a traversal: what is left to test and the best hit. -/
structure RayRun where
  tmin : Rat
  tmax : Option Rat
  flags : Nat
  best : Option RayHit
  left : List RayTri
  deriving DecidableEq, Repr

/-- Test the remaining triangles. Where the order matters (FIRST_HIT, or a candidate to offer), each next one is chosen by a
free value. Ends with the best hit, or with a candidate. -/
def runRay : Nat → RayRun → State → State × RayRun × Option RayHit
  | 0, r, s => (s, r, none)
  | n + 1, r, s =>
    if r.left.isEmpty then (s, r, none)
    else
      let ordered := bit r.flags 2 || r.left.any fun t => !t.opaque_
      let pick : Nat × State := if ordered && decide (1 < r.left.length) then s.draw else (0, s)
      let i := pick.1 % r.left.length
      match r.left[i]? with
      | none => (pick.2, r, none)
      | some t =>
        let r1 := { r with left := r.left.eraseIdx i }
        match t.hit with
        | none => runRay n r1 pick.2
        | some h =>
          if culled r.flags t.noCull h || !acceptable r.tmin r.tmax r.best h then runRay n r1 pick.2
          else if !t.opaque_ then (pick.2, r1, some h)
          else if bit r.flags 2 then (pick.2, { r1 with best := some h, left := [] }, none)
          else runRay n { r1 with best := some h } pick.2

/-! ### Results (Table 14-10) -/

/-- A result with a status whose other fields the manual does not state: free, but for those given. -/
def State.rayBlank (s : State) (status : Nat) (t : Option Nat) (inst : Option Nat) : State × List Byte :=
  match s.draw with
  | (f1, s1) => match s1.draw with
    | (f2, s2) => match s2.draw with
      | (f3, s3) =>
        (s3, leBytes 4 (t.getD f1) ++ leBytes 8 f2 ++ leBytes 4 f3 ++ leBytes 3 (inst.getD (f3 / 2 ^ 32)) ++ leBytes 1 status
          ++ leBytes 4 (f1 / 2 ^ 32) ++ leBytes 8 0)

/-- The result of a hit or a candidate. -/
def RayHit.result (h : RayHit) (status token : Nat) : List Byte :=
  leBytes 4 (toF32 h.t) ++ leBytes 4 (toF32 h.u) ++ leBytes 4 (toF32 h.v) ++ leBytes 4 h.prim ++ leBytes 3 h.inst
    ++ leBytes 1 status ++ leBytes 3 h.geom ++ leBytes 1 (b2n h.back) ++ leBytes 8 token

/-- Answer the shader. -/
def State.rayAnswer (s : State) (lc : Nat) (r : State × List Byte) : State := { r.1 with sent := .shader lc r.2 :: s.sent }

/-- A traversal fault (R417): REASON 10, and event 386 once per job. -/
def State.rayFault (s : State) (c q : Nat) : State :=
  let s1 := s.jobFault c q 10
  match s1.job c q with
  | some j => if j.rayFault then s1 else (s1.modJob c q fun j => { j with rayFault := true }).raise 386 q c
  | none => s1

/-- The ray of an invocation that waits in a dispatch is given up. -/
def State.dropRay (s : State) (c q n inv : Nat) : State :=
  s.modDisp c q n fun d => { d with rays := d.rays.filter fun r => r.inv != inv }

/-- Go on with a traversal: to its end, or to a candidate and a token. -/
def State.rayGo (s : State) (lc c q n inv : Nat) (r : RayRun) (tmaxBits : Nat) (entered : Bool) : State :=
  match runRay r.left.length r s with
  | (s1, _, none) =>
    match (runRay r.left.length r s).2.1.best with
    | some h => s1.rayAnswer lc (s1, h.result 1 0)
    | none => s1.rayAnswer lc (s1.rayBlank 0 (some tmaxBits) (if entered then none else some 0xFFFFFF))
  | (s1, r1, some h) =>
    let k := s1.loch.token
    let x : RayState := { inv := inv, token := k, flags := r.flags, tmaxBits := tmaxBits, tmin := r.tmin, tmax := r.tmax,
                          best := r1.best, cand := h, left := r1.left, entered := entered }
    let s2 := (s1.modLoch fun l => { l with token := k + 1 }).modDisp c q n fun d => { d with rays := x :: d.rays }
    s2.rayAnswer lc (s2, h.result 2 k)

/-- TMIN as a number. One of minus infinity lies below the t of every hit: finite coordinates give none near it. -/
def tminOf (v : Nat) : Option Rat := if f32Inf v then some (-pow2 8192) else f32 v

/-- Any component of a ray is a NaN, or TMIN ≥ TMAX (R414). -/
def rayInvalid (l : List Byte) : Bool :=
  let v := fun o => leAt l o 4
  let lo := v 0x0C
  let hi := v 0x1C
  ([0, 4, 8, 0x0C, 0x10, 0x14, 0x18, 0x1C].any fun o => f32Nan (v o))
    || (f32Inf lo && !fNeg 8 23 lo) || (f32Inf hi && fNeg 8 23 hi)
    || (match f32 lo, f32 hi with | some a, some b => decide (b ≤ a) | _, _ => false)

/-- A traversal by an invocation of dispatch `n` of context (c, q). -/
def State.traverse (s : State) (lc c q n inv : Nat) (l : List Byte) : State :=
  if rayInvalid l then s.rayAnswer lc (s.rayBlank 0 (some (leAt l 0x1C 4)) (some 0xFFFFFF))
  else match f32s l 0 3, f32s l 0x10 3, tminOf (leAt l 0x0C 4) with
    | some o, some d, some tmin =>
      let r : WalkRay := { o := o, d := d, tmin := tmin, tmax := f32 (leAt l 0x1C 4), mask := leAt l 0x20 1,
                           flags := leAt l 0x21 1, inst := none }
      match walk c q 64 (leAt l 0x28 8) (leAt l 0x28 8) r s with
      | (s1, .ok (ts, entered)) =>
        s1.rayGo lc c q n inv { tmin := tmin, tmax := r.tmax, flags := r.flags, best := none, left := ts } (leAt l 0x1C 4) entered
      | (s1, .error .fault) => let s2 := s1.rayFault c q; s2.rayAnswer lc (s2.rayBlank 3 none none)
      | (s1, .error .access) => s1.rayAnswer lc (s1.rayBlank 3 none none)
      | (s1, .error .open_) => match s1.freeBytes 32 with | (b, s2) => s2.rayAnswer lc (s2, b)
    | _, _, _ => match s.freeBytes 32 with | (b, s1) => s1.rayAnswer lc (s1, b)

/-- RAY_TRAVERSE (R411 to R416): the traversal instruction of invocation `inv` of the dispatch on logical cluster `lc`. -/
def execRayTraverse (lc : Fin 16) (inv : Nat) (ray : List Byte) (s : State) : Ans :=
  match s.jobOn lc.val with
  | none => .next s
  | some j =>
    match j.running lc.val with
    | none => .next s
    | some d => .next ((s.dropRay j.cove j.q d.seq inv).traverse lc.val j.cove j.q d.seq inv ray)

/-- RAY_RESUME (R415): ACCEPT or REJECT of a candidate; a stale token returns FAULT. -/
def execRayResume (lc : Fin 16) (inv : Nat) (token : BitVec 64) (accept : Bool) (s : State) : Ans :=
  match s.jobOn lc.val with
  | none => .next s
  | some j =>
    match j.running lc.val with
    | none => .next s
    | some d =>
      let c := j.cove
      let q := j.q
      let s1 := s.dropRay c q d.seq inv
      match d.rays.find? fun r => r.inv == inv && r.token == token.toNat with
      | none => let s2 := s1.rayFault c q; .next (s2.rayAnswer lc.val (s2.rayBlank 3 none none))
      | some r =>
        let run : RayRun := { tmin := r.tmin, tmax := r.tmax, flags := r.flags,
                              best := if accept then some r.cand else r.best,
                              left := if accept && bit r.flags 2 then [] else r.left }
        .next (s1.rayGo lc.val c q d.seq inv run r.tmaxBits r.entered)

end Sys2Proof.Machine
end

