-- ==== Sys2Proof/Machine/RingCons.lean ====
section
/-!
DEFINITION. What a consumer does to a ring (R149, R150, R454, R496): rows RING_CONS_WRITE and DOORBELL_HOLDOFF.
-/
namespace Sys2Proof.Machine

/-- Offset of a ring's CONS register (Tables 05-15, 15-8, 17-7 and 17-8); none for the rings that no register serves: cove 0's
event ring is the warden ring. -/
def consOff : RingId → Option Nat
  | .sring k => some (0x200104 + 0x10 * k.val)
  | .warden => some 0x200210
  | .cove c => if c.val = 0 then none else some (0x8000000 + 0x200000 * c.val + 0x1FF010)
  | .shaSecure => some 0x6C02004
  | .shaCove c => some (0x8000000 + 0x200000 * c.val + 0x190010)
  | .recorder => some 0x606001C

/-- Only the secure world writes that ring's CONS. -/
def consSecure : RingId → Bool
  | .sring _ => true
  | .shaSecure => true
  | .recorder => true
  | _ => false

/-- Number of an event ring. -/
def eventRing : RingId → Option Nat
  | .sring k => some k.val
  | .warden => some 2
  | .cove c => some (coveRing c.val)
  | _ => none

/-- CONS of event ring `r` takes a value: a ring that is then not full ends its overflow episode, and a DRAM ring that still holds
records has its doorbell signalled. -/
def State.eventCons (s : State) (r v : Nat) : State :=
  let s1 := (s.setRingCons r v).modRing r fun x => { x with signalled := false }
  let s2 := if s1.ringFull r then s1 else s1.modRing r fun x => { x with episode := false }
  if 2 ≤ r && s2.ringProd r != s2.ringCons r then s2.ringDoor r else s2

/-- CONS of receiver `k`'s touch ring takes a value (R496); 32 is the secure ring. -/
def State.touchCons (s : State) (k v : Nat) : State :=
  let s1 := if k = 32 then s.wr F.SHA_SRING_CONS_COUNT v else s.wr F.SHA_RING_CONS_COUNT v k
  if used32 (s1.shaProd k) (s1.shaCons k) < s1.shaSize k then
    s1.modSha fun a => { a with episodes := a.episodes.filter (· != k) }
  else s1

/-- CONS of the recorder's ring takes a value (R454). -/
def State.recCons (s : State) (v : Nat) : State :=
  let s1 := s.wr F.POOL_REC_CONS_COUNT v
  if used32 (s1.rd F.POOL_REC_PROD_COUNT) v = s1.recSize then s1 else s1.modPool fun p => { p with recEpisode := false }

/-- CONS of a ring takes a value. -/
def State.consTake (s : State) (ring : RingId) (v : Nat) : State :=
  match ring with
  | .sring k => s.eventCons k.val v
  | .warden => s.eventCons 2 v
  | .cove c => s.eventCons (coveRing c.val) v
  | .shaSecure => s.touchCons 32 v
  | .shaCove c => s.touchCons c.val v
  | .recorder => s.recCons v

/-- A refused write of a secure ring's CONS (R163): the recorder's and the touch ring's rules deny any write (R459, R499), the
secure event rings' one that would have acted. -/
def State.consRefused (s : State) (ini : Initiator) (ring : RingId) (off v : Nat) : State :=
  match ring with
  | .sring k => if s.ringCons k.val = v then s else s.denied ini off
  | _ => s.denied ini off

/-- RING_CONS_WRITE (R149, R150, R151). -/
def execRingConsWrite (ini : Initiator) (ring : RingId) (v : Word) (s : State) : Ans :=
  s.by ini fun s =>
  match consOff ring with
  | none => .next s
  | some off =>
    match pageCove off with
    | some c => if s.pageOk ini c then .next (s.consTake ring v.toNat) else .next (s.pageDenied ini c off true)
    | none =>
      if noWay ini then .next (s.answer 0 true)
      else if consSecure ring && !s.isSec ini then .next (s.consRefused ini ring off v.toNat)
      else .next (s.consTake ring v.toNat)

/-- DOORBELL_HOLDOFF (R149): a doorbell that waits is signalled once HOLDOFF has passed since the previous one. -/
def execDoorbellHoldoff (ring : RingId) (s : State) : Ans :=
  match eventRing ring with
  | none => .next s
  | some r => if (s.ring r).deferred && s.holdoffOver r then .next (s.ringBell r) else .next s

end Sys2Proof.Machine
end

