-- ==== Sys2Proof/Machine/Shutdown.lean ====
section
/-!
DEFINITION. Shutdowns: the steps of DRAIN (Tables 03-13, 03-14), the crash record (R109), the log stream (R531), TEST and its
results (R519 to R526), power fail and thermal shutdown (R91, R92, R95).
-/
namespace Sys2Proof.Machine

/-! ### Records -/

/-- A register word as the secure world reads it. -/
def State.chipWord (s : State) (off : Nat) : Nat := s.wordAt (.pair 0) (.regs off false)

/-- The newest unconsumed records of secure ring 0, at most `n`, oldest first. -/
def State.ring0Records (s : State) (n : Nat) : List Byte :=
  let prod := s.ringProd 0
  let k := min n (used32 prod (s.ringCons 0))
  (List.range k).flatMap fun i => memRead s.ram (0x204000 + 16 * ((prod + 2 ^ 32 - k + i) % 256)) 16

/-- Entries of the fault log as RIP_FLOG_W0, W1 and TS. -/
def State.flogBytes (s : State) : List Byte :=
  s.fab.flog.flatMap fun e => leBytes 4 e.w0 ++ leBytes 4 e.w1 ++ leBytes 8 e.ts

/-- The crash record of a warning in state `w` (Table 03-25): every field, then CHECK. SEQ counts the record being written: the model's
choice. TJ is the highest temperature that a thermal command has reported since the reset, and a free value where none has. -/
def State.crashBytes (w : State) (tj : Nat) : List Byte :=
  let ev := w.ring0Records 128
  let body :=
    [0x43, 0x52, 0x53, 0x48] ++ leBytes 4 (leAt (memRead w.mram 0x1004 4) 0 4 + 1) ++ leBytes 8 w.tbs.now
      ++ leBytes 4 (w.chipWord 0x10) ++ leBytes 4 (w.chipWord 0x18) ++ leBytes 1 w.gov.code ++ leBytes 1 tj
      ++ leBytes 2 w.fab.flog.length ++ leBytes 2 (ev.length / 16) ++ leBytes 2 0
      ++ ((List.range 8).flatMap fun h => leBytes 4 (w.rd F.OUT_HEAD_SEQ_SEQ h))
      ++ List.replicate 192 0 ++ padTo 1024 w.flogBytes ++ padTo 2048 ev ++ List.replicate 764 0
  body ++ leBytes 4 (crc32c body)

/-- CRASH_RECORD_WRITE (R109): the record of a warning in state `w`. -/
def State.crashWrite (s w : State) : State :=
  match w.chip.tjMax with
  | some t => { s with mram := memWrite s.mram 0x1000 (w.crashBytes (toTwos 8 t)) }
  | none => { s.draw.2 with mram := memWrite s.mram 0x1000 (w.crashBytes s.draw.1) }

/-- A valid crash record. -/
def State.crashValid (s : State) : Bool :=
  let l := memRead s.mram 0x1000 4096
  slice l 0 4 == [0x43, 0x52, 0x53, 0x48] && crc32c (slice l 0 4092) == leAt l 4092 4

/-- A record of the DRAIN log (R531). -/
def logRecord (type : Nat) (body : List Byte) : List Byte :=
  let h := [0xA5, 0x5A] ++ leBytes 1 type ++ [0] ++ leBytes 4 body.length ++ body
  h ++ leBytes 4 (crc32c h)

/-- The map copy in force, whole. -/
def State.mapBytes (s : State) : List Byte :=
  if s.on F.DRG_MAP_STAT_VALID then memRead s.mram (mapCopy (s.rd F.DRG_MAP_STAT_COPY)) (16 + 8 * s.rd F.DRG_MAP_STAT_COUNT) else []

/-- The fail records of the last TEST with their header. -/
def State.failBytes (s : State) : List Byte := memRead s.mram 0x120000 (16 + 16 * leAt (memRead s.mram 0x120000 2) 0 2)

/-- Bytes on LOG_D3 to LOG_D0 (R61): one nibble for each rising edge of LOG_CLK, the most significant first, with LOG_VALID high. -/
def State.logStream (s : State) (l : List Byte) : State :=
  s.each (l.flatMap fun b => [b.toNat / 16, b.toNat % 16]) fun s n => s.send (.logEdge true n)

/-- The records of Table 19-5, in order. -/
def State.drainLog (s : State) : State :=
  let start := leBytes 4 (s.chipWord 0) ++ leBytes 4 (s.chipWord 0x18) ++ leBytes 1 (kindCode s.chip.kind) ++ [0, 0, 0]
    ++ leBytes 8 s.chip.drainTs
  let fw := s.dramRead (secTag s) (s.rd F.DRG_LOG_ADDR_ADDR) (min 458752 (s.rd F.DRG_LOG_LEN_LEN))
  let l := logRecord 1 start ++ logRecord 2 s.flogBytes ++ logRecord 3 s.mapBytes ++ logRecord 4 s.failBytes
    ++ logRecord 5 (if s.crashValid then memRead s.mram 0x1000 4096 else []) ++ logRecord 6 (s.ring0Records 256)
    ++ logRecord 7 (fw.2.getD [])
  fw.1.logStream (l ++ logRecord 15 (leBytes 4 l.length))

/-! ### Steps of DRAIN -/

/-- In-flight work is discarded (step 2 of Table 03-13): compositions, dispatches, fetched descriptors, running checks. -/
def State.dropWork (s : State) : State :=
  let s1 := (s.each (List.range 8) State.abandonComp).each (List.range 32) State.lochReset
  ((s1.modBas fun b => { b with queue := [] }).modPool fun p => { p with fetched := [] }).modSnd fun d =>
    { d with gens := d.gens.map fun _ => none }

/-- Alert-class outputs and tone generators have stopped (step 4). -/
def State.soundOff (s : State) : State :=
  (s.each (List.range 16) fun s g => s.wr F.POOL_TONE_STAT_PLAYING 0 g).modPool fun p => { p with mute := 192 }

/-- Every head that is on is to be switched off (step 5, R332). -/
def State.headsClose (s : State) : State :=
  s.each (List.range 8) fun s h => if (s.oh h).stage == .off then s else s.modOh h fun o => { o with disabling := true }

/-- Trained channels enter self-refresh, their write queues emptied first (R79, R229). -/
def State.selfRefresh (s : State) : State :=
  let all := (List.range 4).all s.chanReady
  (s.each (List.range 4) fun s n =>
    if s.chanReady n then (s.wr F.RES_CH_STAT_STATE 2 n).modChan n fun c => { c with wq := [] } else s).modChip fun c =>
      { c with selfRefresh := all }

/-- Every head is off. -/
def State.headsOff (s : State) : Bool := (List.range 8).all fun h => (s.oh h).stage == .off

/-- What step `n` of Table 03-13 has done when it completes; step 6 runs beside steps 3 to 5. -/
def State.drainDo (s : State) (n : Nat) : State :=
  match n with
  | 2 => s.dropWork
  | 3 => s.plaDead.wr F.PLA_BOOST_STAT_V_B 0
  | 4 => s.soundOff.headsClose
  | 6 => s.drainLog.modChip fun c => { c with drainLogged := true }
  | 7 => s.selfRefresh
  | _ => s

/-- The step of Table 03-13 that follows step `n`, step 6 apart. -/
def stepAfter (n : Nat) : Nat := if n = 5 then 7 else n + 1

/-- Step `n` of Table 03-13 may complete: step 5 when every head is off, step 7 after steps 5 and 6. -/
def State.drainMay (s : State) (n : Nat) : Bool :=
  decide (n ≤ 7) && (n != 5 || s.headsOff) && (n != 7 || s.chip.drainLogged)

/-- DRAIN_STEP_DONE (R90 to R92): the next step of Table 03-13 (THERMAL: to step 7), its step 6 (`log`), or step 3 of Table 03-14, is
complete. -/
def execDrainStepDone (log : Bool) (s : State) : Ans :=
  let n := stepAfter s.chip.drainStep
  if s.chip.phase ≠ .drain then .next s
  else if s.chip.kind = .powerFail then
    (if s.chip.drainStep = 2 && !log then .next (s.selfRefresh.modChip fun c => { c with drainStep := 3 }) else .next s)
  else if log then .next (if decide (2 ≤ s.chip.drainStep) && !s.chip.drainLogged then s.drainDo 6 else s)
  else .next (if s.drainMay n then (s.drainDo n).modChip fun c => { c with drainStep := n } else s)

/-- DRAIN_COMPLETE (R70, R90, R91). -/
def execDrainComplete (s : State) : Ans :=
  if s.chip.phase ≠ .drain then .next s
  else match s.chip.kind with
    | .powerFail => if s.chip.drainStep = 3 then .next (s.enterSeep 2) else .next s
    | .thermal => if s.chip.drainStep = 7 then .next (s.enterSeep 3) else .next s
    | .off => if s.chip.drainStep = 7 then .next (s.phaseGo .test) else .next s
    | .restart => if s.chip.drainStep = 7 then .next (s.phaseGo .test) else .next s

/-! ### TEST -/

/-- What was decided of each instance whose march had ended, in instance order; those that answered every read as expected have
PASSED and are left out. -/
def State.marchResults (s : State) (r : MarchReport) (whole : Bool) : List (Nat × MarchKept × Nat × List RepEntry) :=
  ((List.range 1024).filter fun x => instOk x && (whole || (marchEnded r).contains x)).filterMap fun x =>
    (r.insts.find? fun m => m.inst.val == x).map fun m => (x, marchKept m, decideInst s.drg.applied x (marchKept m))

/-- The results and failing addresses are written to MRAM (R522 to R526): at most 256 fail records behind their header, and a
new map. `whole`: the march was not stopped. -/
def State.testRecord (s : State) (r : MarchReport) (whole : Bool) : State :=
  let ds := s.marchResults r whole
  let recs := ds.flatMap fun d => d.2.1.rows.map (failRecord d.2.2.1 d.1)
  let kept := recs.take 256
  let body := kept.flatMap (leBytes 16)
  let unrep := (ds.filter fun d => d.2.2.1 == 2).length
  let head := leBytes 2 kept.length ++ leBytes 2 (recs.length - kept.length) ++ leBytes 2 unrep ++ List.replicate 6 0
    ++ leBytes 4 (crc32c body)
  let s1 := { s with mram := memWrite s.mram 0x120000 (head ++ body) }
  let m := s1.mapWith (ds.flatMap fun d => d.2.2.2)
  let s2 := (m.1.mapWrite m.2).wrB F.CHIP_RESET_CAUSE_TEST_FAIL (!kept.isEmpty)
  if whole then s2.wr F.CHIP_RESET_CAUSE_TEST_DONE 1 else s2

/-- TEST_COMPLETE (R90): RESET for RESTART, its internal reset ending 1 ms later; SEEP for OFF. -/
def execTestComplete (r : MarchReport) (s : State) : Ans :=
  if s.chip.phase ≠ .test then .next s
  else
    let s1 := s.testRecord r true
    if s.chip.kind = .restart then .next (s1.enterReset .restart 4 (some 1000000)) else .next (s1.enterSeep 1)

/-! ### Power fail and thermal shutdown -/

/-- Steps 1 and 2 of Table 03-14 for a warning in state `w`: drive stops and discharges, every BL_ENn and PANEL_ENn goes low, and
the crash record is written. -/
def State.powerFailSteps (s w : State) : State :=
  let s1 := s.plaDead.wr F.PLA_BOOST_STAT_V_B 0
  let s2 := (s1.each (List.range 8) fun s h => if (s.oh h).stage == .off then s else s.headDown h).modPins fun p =>
    { p with blEn := 0, panelEn := 0 }
  (s2.crashWrite w).modChip fun c => { c with drainStep := 2 }

/-- CHIP_PFAIL.THRESH in volts: the nearer limit for a value outside 10 to 46 (Table 03-15). -/
def State.pfailVolts (s : State) : Nat := clampN 10 46 (s.rd F.CHIP_PFAIL_THRESH)

/-- POWER_FAIL_WARNING (R70, R92, R94): VBST_IN has been at `mV` for `us`; below the threshold for 10 µs, while warnings are enabled, it
is a warning. `march`: what the marches that had ended met, when it stops TEST. -/
def execPowerFailWarning (mV us : Nat) (march : MarchReport) (s : State) : Ans :=
  if us < 10 || s.pfailVolts * 1000 ≤ mV || !s.on F.CHIP_PFAIL_EN || !s.powered then .next s
  else
    let s1 := s.raise 4
    match s.chip.phase with
    | .test => .next (((s1.testRecord march false).powerFailSteps s).enterSeep 2)
    | .drain =>
      if s.chip.kind = .powerFail then .next s1
      else .next ((s1.modChip fun c => { c with kind := .powerFail }).powerFailSteps s)
    | _ => .next ((s1.enterDrain .powerFail).powerFailSteps s)

/-- THERMAL_LIMIT (R70, R91, R95): 130 °C. -/
def execThermalLimit (tj : Int) (march : MarchReport) (s0 : State) : Ans :=
  let s := s0.tjSeen tj
  if tj < 130 then .next s
  else match s.chip.phase with
    | .boot => .next (s.enterDrain .thermal)
    | .run => .next (s.enterDrain .thermal)
    | .dip => .next (s.enterDrain .thermal)
    | .drain =>
      if s.chip.kind = .off || s.chip.kind = .restart then .next (s.modChip fun c => { c with kind := .thermal }) else .next s
    | .test => .next ((s.testRecord march false).enterSeep 3)
    | _ => .next s

end Sys2Proof.Machine
end

