-- ==== Sys2Proof/Machine/Spillway.lean ====
section
/-!
DEFINITION. Containment and the Spillway (01.3.2, 05.5): the isolation of a faulted block with what its unit does about it
(Tables 01-4, 11-5, 19-4, R387), the commands and the timer of the Spillway (R140, R142), lockstep failures and chip safe state
(R21, R141).
-/
namespace Sys2Proof.Machine

/-! ### Faulted blocks -/

/-- Dredge's instances that lie in a block with spares. -/
def blockInsts (b : BlockId) : List Nat :=
  match b.unit.val with
  | 10 => if b.inst.val < 264 then [b.inst.val] else []
  | 11 => if b.inst.val < 12 then engInsts b.inst.val else []
  | 13 => if b.inst.val < 17 then [0x160 + b.inst.val] else []
  | _ => []

/-- The block goes out of use: its instances are isolated and no spare. -/
def State.blockOff (s : State) (b : BlockId) : State :=
  (s.each (blockInsts b) fun s x => s.instState x 3).modDrg fun d => { d with ready := d.ready.filter fun x => !(blockInsts b).contains x }

/-- Isolation and drain (Table 01-4, R139): event 35, and the entries of both actions. -/
def State.isolate (s : State) (b : BlockId) (w : WorkTag) (kind : Nat) (hasWork : Bool) : State :=
  let s1 := s.modFab fun f =>
    { f with isolated := f.isolated ++ [b], faulted := f.faulted.filter (· != b), covered := f.covered.filter (· != b) }
  let s2 := ((s1.blockOff b).flogAdd 2 2 kind b w).raise 35 (blockInfo b) w.cove w.secure
  if hasWork then s2.flogAdd 2 4 kind b w else s2

/-- Tiles of physical bank `p` are lost (Table 19-4): LOST and forced, and their entries name no granule any longer. -/
def State.bankLost (s : State) (p : Nat) : State :=
  let here := fun g => s.physBank g == p
  let lose := fun (e : TileEntry) => if e.count ≠ 0 && e.grans.any here then { e with lost := true, grans := [] } else e
  let hit := fun (e : TileEntry) => e.count ≠ 0 && e.grans.any here
  let s1 := s.each (List.range 8) fun s h =>
    let ks := (List.range (s.hc h).disp.length).filter fun k => hit (s.entry h k) || hit (nth (s.hc h).comp k default)
    (s.each ks fun s k => s.force h k).modHc h fun c => { c with disp := c.disp.map lose, comp := c.comp.map lose }
  let nvr := s.tst.nvr.any hit
  let s2 := s1.modTst fun t => { t with nvr := t.nvr.map lose, bad := t.bad.filter fun w => !here (w / 128) }
  match s.legalHead with
  | some h => if nvr then s2.modHc h fun c => { c with nvrForced := s.legalTiles h } else s2
  | none => s2

/-- A faulted Tarn bank (Table 19-4). -/
def State.tarnBankOut (s : State) (p : Nat) (e : FlogEntry) : State :=
  match s.logicalOf p with
  | none => s
  | some b =>
    let s1 := (s.drgAbort drgSameBank).bankLost p
    match s1.spareBanks with
    | [] => s1.bankCheck.spillRaise 5 e
    | q :: _ =>
      let s2 := ((s1.wr F.TARN_BANK_MAP_PHYS q b).served q).bankCheck
      (s2.spareIn { unit := 10, inst := Fin.ofNat 512 p } e).spareNone q

/-- A faulted Outlet engine (R323, Table 11-5): its substitute comes at a frame start. -/
def State.outletOut (s : State) (k : Nat) (e : FlogEntry) (ahead : Bool) : State :=
  if !(s.role k == 1 || s.role k == 2) then s.engineOut k ahead
  else
    let s1 := s.drgAbort sameEng
    let s2 := s1.modFab fun f => { f with uncovered := f.uncovered ++ [({ unit := 11, inst := Fin.ofNat 512 k }, e)] }
    let s3 := if (s.head (s.rd F.OUT_ENG_STAT_HEAD k)).safety || s2.spareEng.isNone then s2.spillRaise 5 e else s2
    s3.engineOut k ahead

/-- A faulted Loch cluster (R387). -/
def State.clusterFault (s : State) (p : Nat) (e : FlogEntry) : State :=
  if !s.clActive p then s.clusterOut p
  else
    let s1 := s.drgAbort sameCluster
    match (List.range 17).find? fun q => q != p && s1.rd F.LOCH_CLUSTER_STAT_ROLE q == 1 with
    | some q => ((((s1.clusterOut p).served (0x160 + q)).spareIn { unit := 13, inst := Fin.ofNat 512 p } e).spareNone (0x160 + q))
    | none => (s1.spillRaise 4 e).clusterOut p

/-- The composition of head `h` ends and starts again at a latch point on the spare (Table 19-4). -/
def State.compRestart (s : State) (h : Nat) : State :=
  match (s.hc h).cur with
  | some c =>
    if c.complete then s
    else
      ((s.freeJobs c.jobs).modHc h fun k =>
        { k with comp := k.disp, ownNew := k.own,
                 cur := some { c with granted := false, resv := 0, jobs := [], left := [], restart := true } }).bankCheck
  | none => s

/-- A faulted composition engine (09.10, Table 19-4): instances 0 to 8 of Basin. Engine 8 is the spare of all. -/
def State.composerOut (s : State) (k : Nat) (e : FlogEntry) : State :=
  let spare : BlockId := { unit := 9, inst := 8 }
  if k = 8 then
    (match s.fab.covered.find? fun b => b.unit == 9 with
     | some b => (s.compRestart (if (s.head b.inst.val).follow then b.inst.val - 1 else b.inst.val)).spillRaise 5 e
     | none => s)
  else
    let h := if (s.head k).follow then k - 1 else k
    let s1 := s.compRestart h
    if s.isIsolated spare || s.fab.covered.any fun b => b.unit == 9 then s1.spillRaise 5 e
    else s1.spareIn { unit := 9, inst := Fin.ofNat 512 k } e

/-- Work that isolation strands ends: a channel's requests with an error, a queue's work with CODE 4 (R20, R127, Table 07-11). -/
def State.strand (s : State) (b : BlockId) (w : Source) (hasWork : Bool) : State :=
  let s1 := if b.unit.val = 8 && decide (b.inst.val < 4) then s.chanDrain b.inst.val else s
  match w with
  | .queue c q => if hasWork then s1.queueStop c.val q.val 4 else s1
  | _ => s1

/-- What the unit of an isolated block does: the spare where there is one, else the Spillway (Table 01-4). -/
def State.blockOut (s : State) (b : BlockId) (w : Source) (e : FlogEntry) (hasWork : Bool) : State :=
  let i := b.inst.val
  match b.unit.val with
  | 10 => if i < 264 then s.tarnBankOut i e else s.spillRaise 5 e
  | 11 => if i < 12 then s.outletOut i e hasWork else s.spillRaise 5 e
  | 13 => if i < 17 then s.clusterFault i e else s.spillRaise 4 e
  | 9 => if i < 9 then s.composerOut i e else s.spillRaise 5 e
  | _ => (s.strand b w hasWork).spillRaise (regionOf b) e

/-- BLOCK_FAULTED (R20, R139): `kind` as the fault log numbers it; `hasWork`: the block has work to drain, for an Outlet engine
pixels still to come in this frame. -/
def execBlockFaulted (b : BlockId) (w : Source) (kind : Fin 6) (hasWork : Bool) (s : State) : Ans :=
  if s.isIsolated b then .next s
  else
    let t := s.srcTag w
    .next ((s.isolate b t kind.val hasWork).blockOut b w (s.flogEntry 3 5 kind.val (regionOf b) b t) hasWork)

/-! ### Chip safe state -/

/-- Regions that are pending. -/
def State.pendingRegions (s : State) : List Nat := setBitsList 7 (s.rd F.RIP_SPILL_STAT_PENDING)

/-- Chip safe state is declared (R21, R141, R305, R473, R543, R577, Table 18-3). Each pending region's fault has its entry with
ACTION 6; with none pending one entry is added. -/
def State.declareSafe (s : State) (byTimeout : Bool) : State :=
  let noFault : BlockId := { unit := 0, inst := 0 }
  let es := s.pendingRegions.map fun r => nth s.fab.spillFault r { w0 := 0, w1 := 0, ts := 0 }
  let es := if es.isEmpty then [s.flogEntry 3 6 0 0 noFault (secTag s)] else es
  let s1 := (s.wr F.RIP_SPILL_STAT_SAFE 1).wrB F.RIP_SPILL_STAT_BY_TIMEOUT byTimeout
  let s2 := (s1.each es fun s e => s.flogPut (e.again 3 6)).modPins fun p => { p with safeOk := false }
  let s3 := ((s2.raise 39 (b2n byTimeout)).basSafe).plaStopAll
  (if s.isMA then s3.reason 3 true else s3).dipEnds.sideband

/-- SPILL_CLEAR (R140, R142): a CLEAR of the Display region clears head faults too (R320). -/
def execSpillClear (ini : Initiator) (r : Fin 8) (s : State) : Ans :=
  s.busBy ini fun s =>
  if !s.isSec ini then .next (s.denied ini 0x100064)
  else if s.safe || !bit (s.rd F.RIP_SPILL_STAT_PENDING) r.val || r.val = 7 then .next s
  else
    let s1 := s.spillClearRegion r.val
    .next (if r.val = 5 then s1.each (List.range 8) fun s h => s.wr F.OUT_HEAD_STAT_FAULT 0 h else s1)

/-- SPILL_CONFIRM (R140, R142). -/
def execSpillConfirm (ini : Initiator) (s : State) : Ans :=
  s.busBy ini fun s =>
  if !s.isSec ini then .next (s.denied ini 0x100064)
  else if s.safe then .next s
  else .next (s.declareSafe false)

/-- SPILL_TIMEOUT (R140): 1 ms after the region raised. -/
def execSpillTimeout (r : Fin 7) (s : State) : Ans :=
  if s.safe || !bit (s.rd F.RIP_SPILL_STAT_PENDING) r.val || s.elapsed < nth s.fab.spillStart r.val 0 + 1000000 then .next s
  else .next ((s.raise 38 r.val).declareSafe true)

/-- LOCKSTEP_COMPARE_FAILURE (R141, R184, Table 01-4): the pair is isolated, held in reset, and its Sluice ports are abandoned;
the Core region raises the Spillway. The fault log numbers pair k as instance k of the CHIP range (Table 01-10 gives the pairs no
range: DESIGN CHOICE). -/
def execLockstepCompareFailure (k : Fin 2) (s : State) : Ans :=
  if s.pairHeld k.val then .next s
  else
    let b : BlockId := { unit := 0, inst := Fin.ofNat 512 k.val }
    let s1 := s.modFab fun f => { f with pairReset := f.pairReset.set k.val true }
    let s2 := (s1.flogPut (s.flogEntry 2 2 4 2 b (secTag s))).raise 35 (blockInfo b)
    .next ((s2.sluAbandon fun p => decide (512 + 8 * k.val ≤ p) && decide (p < 520 + 8 * k.val)).spillRaise 2 (s.flogEntry 3 5 4 2 b (secTag s)))

end Sys2Proof.Machine
end

