-- ==== Sys2Proof/Machine/Textures.lean ====
section
/-!
DEFINITION. Sparse textures (R405 to R410): the header, levels and entries, and the row SPARSE_FETCH.
-/
namespace Sys2Proof.Machine

/-- A sparse header (Table 14-5). -/
structure SparseHdr where
  w : Nat
  h : Nat
  levels : Nat
  bpt : Nat
  layers : Nat
  base : Nat
  residency : Nat
  clamp : Nat
  counters : Nat
  mapStride : Nat
  clampStride : Nat
  fill : Nat
  pad : Bool
  deriving DecidableEq, Repr

/-- The header that 64 bytes spell. -/
def parseSparse (l : List Byte) : SparseHdr :=
  { w := leAt l 0 2, h := leAt l 2 2, levels := leAt l 4 1, bpt := leAt l 5 1, layers := leAt l 6 2, base := leAt l 8 8,
    residency := leAt l 0x10 8, clamp := leAt l 0x18 8, counters := leAt l 0x20 8, mapStride := leAt l 0x28 4,
    clampStride := leAt l 0x2C 4, fill := leAt l 0x30 1, pad := (slice l 0x31 15).all (· == 0) }

/-- Tile width and height for BPT (Table 14-6). -/
def sparseTile : Nat → Nat × Nat
  | 0 => (256, 256) | 1 => (256, 128) | 2 => (128, 128) | 3 => (128, 64) | _ => (64, 64)

/-- Size of level `k` (R406). -/
def SparseHdr.lw (t : SparseHdr) (k : Nat) : Nat := max 1 (t.w / 2 ^ k)
def SparseHdr.lh (t : SparseHdr) (k : Nat) : Nat := max 1 (t.h / 2 ^ k)

/-- Bytes of the levels from `k` on. -/
def SparseHdr.bytesFrom (t : SparseHdr) (k : Nat) : Nat :=
  (((List.range t.levels).drop k).map fun i => t.lw i * t.lh i * 2 ^ t.bpt).sum

/-- First level of the tail; LEVELS when no level qualifies. -/
def SparseHdr.tail (t : SparseHdr) : Nat := ((List.range t.levels).find? fun k => decide (t.bytesFrom k ≤ 65536)).getD t.levels

/-- Tiles across and in all of level `k`. -/
def SparseHdr.tilesW (t : SparseHdr) (k : Nat) : Nat := ceilDiv (t.lw k) (sparseTile t.bpt).1
def SparseHdr.tiles (t : SparseHdr) (k : Nat) : Nat := t.tilesW k * ceilDiv (t.lh k) (sparseTile t.bpt).2

/-- Entries of the levels below `k`. -/
def SparseHdr.before (t : SparseHdr) (k : Nat) : Nat := ((List.range k).map t.tiles).sum

/-- Entries of a layer, N. -/
def SparseHdr.entries (t : SparseHdr) : Nat := t.before t.tail + (if t.tail < t.levels then 1 else 0)

/-- Entry of texel (x, y) of level `k`. -/
def SparseHdr.entryOf (t : SparseHdr) (k x y : Nat) : Nat :=
  if t.tail ≤ k then t.before t.tail
  else t.before k + y / (sparseTile t.bpt).2 * t.tilesW k + x / (sparseTile t.bpt).1

/-- The header keeps Table 14-5. -/
def SparseHdr.ok (t : SparseHdr) : Bool :=
  decide (1 ≤ t.w) && decide (t.w ≤ 16384) && decide (1 ≤ t.h) && decide (t.h ≤ 16384) && decide (1 ≤ t.levels)
    && decide (t.levels ≤ 15) && decide (t.levels ≤ Nat.log2 (max t.w t.h) + 1) && decide (t.bpt ≤ 4)
    && decide (1 ≤ t.layers) && decide (t.layers ≤ 2048) && t.base % 65536 == 0 && t.residency % 64 == 0
    && t.clamp % 64 == 0 && t.counters % 64 == 0 && t.mapStride % 64 == 0 && decide (t.entries ≤ t.mapStride)
    && (if t.clamp = 0 then t.clampStride == 0 else t.clampStride % 64 == 0 && decide (t.tiles 0 ≤ t.clampStride))
    && decide (t.fill ≤ 1) && t.pad

/-- Read a map byte through the cache of a dispatch (R410): a change since its first reading may or may not be seen. -/
def State.mapByte (s : State) (c q n a : Nat) : State × Option Nat :=
  match s.ctxRead c q a 1 with
  | (s1, _, false) => (s1, none)
  | (s1, l, true) =>
    let now := ofLe l
    let old := match s1.job c q with
      | some j => (j.disps.find? fun d => d.seq == n).bind fun d => (d.cache.find? fun e => e.1 == a).map (·.2)
      | none => none
    match old with
    | some v =>
      if v = now then (s1, some v)
      else match s1.draw with
        | (f, s2) => (s2, some (if f % 2 = 0 then v else now))
    | none => (s1.modDisp c q n fun d => { d with cache := (a, now) :: d.cache }, some now)

/-- Residency of each entry, in turn: none where a map byte cannot be read. -/
def readResidency (c q n : Nat) (addr : Nat → Nat) : List Nat → State → State × Option (List (Nat × Bool))
  | [], s => (s, some [])
  | e :: es, s =>
    match s.mapByte c q n (addr e) with
    | (s1, none) => (s1, none)
    | (s1, some b) =>
      match readResidency c q n addr es s1 with
      | (s2, some l) => (s2, some ((e, b == 1) :: l))
      | r => r

/-- Note an access of an entry for its counter (R409). -/
def bumpCount (a : Nat) (missed : Bool) (l : List (Nat × Nat × Bool)) : List (Nat × Nat × Bool) :=
  match l with
  | [] => [(a, 1, missed)]
  | (b, n, m) :: t => if b = a then (b, n + 1, m || missed) :: t else (b, n, m) :: bumpCount a missed t

/-- Count the fetch in every entry that it touches. -/
def State.countFetch (s : State) (c q n : Nat) (t : SparseHdr) (layer : Nat) (l : List (Nat × Bool)) : State :=
  if t.counters = 0 then s
  else s.modDisp c q n fun d =>
    { d with counts := l.foldl (fun acc e => bumpCount (t.counters + 2 * (layer * t.mapStride + e.1)) (!e.2) acc) d.counts }

/-- Levels that a filter at LOD `eff` (unsigned Q4.4) reads. -/
def lodLevels (eff levels : Nat) : List Nat :=
  let a := min (eff / 16) (levels - 1)
  if eff % 16 = 0 then [a] else [a, min (a + 1) (levels - 1)].eraseDups

/-- FILL for every channel, as binary32 (R407). -/
def fillBytes (fill : Nat) : List Byte := leBytes 12 0 ++ leBytes 4 (if fill = 1 then 0x3F800000 else 0)

/-- Read the texels of a fetch. -/
def readTexels (c q : Nat) (addr : Nat × Nat × Nat × Nat → Nat) (e : Nat) :
    List (Nat × Nat × Nat × Nat) → State → State × List Byte
  | [], s => (s, [])
  | x :: xs, s =>
    match s.ctxRead c q (addr x) e with
    | (s1, l, _) => match readTexels c q addr e xs s1 with | (s2, r) => (s2, l ++ r)

/-- The fetch after its header has been read and found good. -/
def State.sparseFetch (s : State) (lc c q n : Nat) (t : SparseHdr) (layer eff : Nat) (foot : List (Nat × Nat × Nat × Nat)) :
    State :=
  let lv := lodLevels eff t.levels
  let tx := foot.filter fun x => lv.contains x.1 && decide (x.2.1 < t.lw x.1) && decide (x.2.2.1 < t.lh x.1)
  let es := (tx.map fun x => t.entryOf x.1 x.2.1 x.2.2.1).eraseDups
  match readResidency c q n (fun e => t.residency + layer * t.mapStride + e) es s with
  | (s1, none) => s1.send (.shader lc (leBytes 1 0 ++ leBytes 16 0))
  | (s1, some l) =>
    let s2 := s1.countFetch c q n t layer l
    if l.all (·.2) then
      match readTexels c q (fun x => t.base + (layer * t.entries + t.entryOf x.1 x.2.1 x.2.2.1) * 65536 + x.2.2.2 % 65536)
          (2 ^ t.bpt) tx s2 with
      | (s3, b) => s3.send (.shader lc (leBytes 1 0 ++ b))
    else
      let s3 := (s2.incSat F.LOCH_CTX_NONRES_COUNT 1 c q).send (.shader lc (leBytes 1 1 ++ fillBytes t.fill))
      match s3.job c q with
      | some j => if j.nonres then s3 else (s3.modJob c q fun j => { j with nonres := true }).raise 385 q c
      | none => s3

/-- SPARSE_FETCH (R405 to R410): a fetch by the dispatch on logical cluster `lc` at level-0 texel (px, py) with a computed LOD
in Q4.4; past LAYERS the manual states no result; `foot` lists, for every level, the texels that its filter weights there (level, x, y, byte in its entry). -/
def execSparseFetch (lc : Fin 16) (hdr layer px py lod : Nat) (foot : List (Nat × Nat × Nat × Nat)) (s : State) : Ans :=
  match s.jobOn lc.val with
  | none => .next s
  | some j =>
    match j.running lc.val with
    | none => .next s
    | some d =>
      let c := j.cove
      let q := j.q
      match s.ctxRead c q hdr 64 with
      | (s1, _, false) => .next (s1.send (.shader lc.val (leBytes 1 0 ++ leBytes 16 0)))
      | (s1, l, true) =>
        let t := parseSparse l
        if hdr % 64 ≠ 0 || !t.ok then .next (s1.jobFault c q 10)
        else if t.layers ≤ layer then
          match s1.freeBytes 17 with | (b, s2) => .next (s2.send (.shader lc.val b))
        else if t.clamp = 0 then .next (s1.sparseFetch lc.val c q d.seq t layer lod foot)
        else
          let a := t.clamp + layer * t.clampStride + py / (sparseTile t.bpt).2 * t.tilesW 0 + px / (sparseTile t.bpt).1
          match s1.mapByte c q d.seq a with
          | (s2, none) => .next (s2.send (.shader lc.val (leBytes 1 0 ++ leBytes 16 0)))
          | (s2, some b) => .next (s2.sparseFetch lc.val c q d.seq t layer (max lod b) foot)

end Sys2Proof.Machine
end

