-- ==== Sys2Proof/Machine/Visits.lean ====
section
/-!
DEFINITION. The region arbiters at work (R18, R137, R198, R580): rows REGION_VISIT and REGION_SLOT_RELEASE. The requests of the
Memory and Sense regions come as operands and wait in `State.fab`; those of Graphics are Loch's dispatches, those of Display the layer jobs of the
compositions that hold their reservation.
-/
namespace Sys2Proof.Machine

/-- A layer job that waits for its slot: when its composition was latched, its head and the job. -/
structure WaitingJob where
  latched : Nat
  head : Nat
  job : LayerJob
  deriving DecidableEq, Repr

/-- Layer jobs that wait for a slot, in ascending head number, then slot. -/
def State.waitingJobs (s : State) : List WaitingJob :=
  (List.range 8).flatMap fun h =>
    match (s.hc h).cur with
    | none => []
    | some c =>
      if c.granted then (c.jobs.filter fun j => j.kind.isNone && !j.done).map fun j => { latched := c.at_, head := h, job := j }
      else []

/-- Put a waiting job in its place: by latch point, jobs latched at one instant as they come (R580). -/
def jobInsert (w : WaitingJob) : List WaitingJob → List WaitingJob
  | [] => [w]
  | x :: l => if w.latched ≤ x.latched then w :: x :: l else x :: jobInsert w l

/-- The order of R580. -/
def jobOrder (l : List WaitingJob) : List WaitingJob := l.foldr jobInsert []

/-- Waiting jobs queued for a cove, or for the secure world. -/
def State.jobsFor (s : State) (c : Option Nat) : List WaitingJob := jobOrder (s.waitingJobs.filter fun w => w.job.cove == c)

/-- A waiting job has taken a slot of kind `k`. -/
def State.jobTakes (s : State) (k : SlotKind) (w : WaitingJob) : State :=
  s.modComp w.head fun c => { c with jobs := c.jobs.map fun j => if j.slot = w.job.slot then { j with kind := some k } else j }

/-- Secure jobs, ahead of every cove (R18), while a slot serves them. -/
def secureJobs : List WaitingJob → State → State
  | [], s => s
  | w :: l, s =>
    let free := decide (nth s.fab.secSlots 2 0 < secureSlots)
    match s.admitSecure .display with
    | (s1, true) => secureJobs l (s1.jobTakes (if free then .secure else .securePool) w)
    | (s1, false) => s1

/-- Jobs admitted ahead of the round: each takes a free pool slot, uncharged (R580). -/
def aheadJobs (c : Nat) : List WaitingJob → State → State
  | [], s => s
  | w :: l, s => if 0 < s.freeSlots .display then aheadJobs c l ((s.takeSlot .display c).jobTakes .cove w) else s

/-- A cove's jobs are admitted ahead: it is marked OVER_SHARE, or its queues admit nothing while a composition that has started
runs to its end (R576, R580). -/
def State.aheadCove (s : State) (c : Nat) : Bool := s.overShare .display c || !s.admits c

/-- The Display arbiter's next visit. -/
def State.displayVisit (s : State) : State × Nat :=
  let s1 := secureJobs (s.jobsFor none) s
  let s2 := s1.each ((List.range 32).filter s1.aheadCove) fun s d => aheadJobs d (s.jobsFor (some d)) s
  let pending := fun c => !(s2.jobsFor (some c)).isEmpty
  let s3 := s2.idleDeficits .display pending
  match s3.nextCove .display pending with
  | none => (s3, 0)
  | some c =>
    let js := s3.jobsFor (some c)
    match s3.visit .display c (js.map fun w => w.job.cost) 0 false with
    | (s4, n) => ((s4.roundOn .display c).each (js.take n) fun s w => s.jobTakes .cove w, n)

/-- The Graphics arbiter's next visit (R360): each dispatch costs one unit, and every one is a cove's. -/
def State.graphicsVisit (s : State) : State × Nat :=
  let pending := fun c => !(s.lochCosts c).isEmpty
  let s1 := s.idleDeficits .graphics pending
  match s1.nextCove .graphics pending with
  | none => (s1, 0)
  | some c =>
    match s1.visit .graphics c (s1.lochCosts c) 0 false with
    | (s2, n) => ((s2.roundOn .graphics c).each (List.range n) fun s _ => s.lochAdmit c, n)

/-- The next visit of the Memory or the Sense arbiter, whose requests `State.fab` holds. -/
def State.queueVisit (s : State) (r : ShareRegion) : State × Nat :=
  let s1 := admitSecureWaiting r (s.secureWaiting r) s
  let pending := fun c => !(s1.waitingFor r c).isEmpty
  let s2 := s1.idleDeficits r pending
  match s2.nextCove r pending with
  | none => (s2, 0)
  | some c =>
    let l := s2.waitingFor r c
    let costs := openCosts s2 r l
    match s2.visit r c costs (l.length - costs.length) false with
    | (s3, n) => ((s3.roundOn r c).dropWaiting r c n, n)

/-- Requests that have come to the Memory or the Sense arbiter join those that wait. -/
def State.regionQueue (s : State) (r : ShareRegion) (queued : List (Fin 32 × RegionReq)) (secureReqs : List RegionReq) : State :=
  s.modFab fun f =>
    { f with waiting := f.waiting ++ queued.map fun e => (srIx r, e.1.val, e.2),
             secWaiting := f.secWaiting ++ secureReqs.map fun q => (srIx r, q) }

/-- REGION_VISIT (R18, R137, R198, R221): the region's next visit of its round; the response tells how many requests of the cove were
admitted. -/
def execRegionVisit (r : ShareRegion) (queued : List (Fin 32 × RegionReq)) (secureReqs : List RegionReq) (s : State) : Ans :=
  match r with
  | .display => match s.displayVisit with | (s1, n) => .next (s1.answer n)
  | .graphics => match s.graphicsVisit with | (s1, n) => .next (s1.answer n)
  | _ => match (s.regionQueue r queued secureReqs).queueVisit r with | (s1, n) => .next (s1.answer n)

/-- REGION_SLOT_RELEASE (R198): completed work frees the kind of slot that it took. A dispatch and a layer job free theirs as they
end. -/
def execRegionSlotRelease (r : ShareRegion) (c : Fin 32) (k : SlotKind) (s : State) : Ans :=
  match r with
  | .memory => .next (s.slotRelease r c.val k)
  | .sense => .next (s.slotRelease r c.val k)
  | _ => .next s

end Sys2Proof.Machine
end

