-- ==== Sys2Proof/Machine/Weir.lean ====
section
/-!
DEFINITION. Weir calls (R165 to R167), the L3's secure ways (R171) and IOTLB invalidation (R173).
-/
namespace Sys2Proof.Machine

/-- Hart `h`'s Weir state. -/
def State.hart (s : State) (h : Nat) : WeirHart :=
  s.own.harts.getD h { normal := zeroBank, current := zeroBank, enteredAt := 0, secTlb := false,
                       predictor := false }

def State.modHart (s : State) (h : Nat) (f : WeirHart → WeirHart) : State :=
  s.modOwn fun o => { o with harts := o.harts.modify h f }

/-- Registers a0 to a7 are x10 to x17. -/
def argRegs (x : List (BitVec 64)) : List (BitVec 64) := (x.drop 10).take 8

/-- A bank with a0 to a7 replaced. -/
def withArgs (b : HartBank) (a : List (BitVec 64)) : HartBank :=
  { b with x := b.x.take 10 ++ (a ++ List.replicate 8 0).take 8 ++ b.x.drop 18 }

/-- The secure bank at entry (Table 06-1): reset state in machine mode, pc at WEIR_SVEC, a0 to a7 copied. -/
def secureEntry (svec : Nat) (b : HartBank) : HartBank :=
  { x := List.replicate 10 0 ++ (argRegs b.x ++ List.replicate 8 0).take 8 ++ List.replicate 14 0,
    pc := BitVec.ofNat 64 svec, rest := 0, machineMode := true, hpm := List.replicate 29 0, cycle := 0 }

/-- A debug access that reaches hart `h` ends when the hart becomes secure, unless SEC_DEBUG is 1 (R50). -/
def State.debugLeave (s : State) (h : Nat) : State :=
  if s.on F.CHIP_DEBUG_SEC_DEBUG then s
  else s.modChip fun c =>
    { c with debugReach := c.debugReach.filter fun t => match t with | .hart k => k.val != h | _ => true }

/-- Hart `h` enters the secure world (Table 06-1). -/
def State.weirEnter (s : State) (h service : Nat) (bank : HartBank) : State :=
  let s1 := (s.debugLeave h).modHart h fun _ =>
    { normal := bank, current := secureEntry (s.rd F.WEIR_SVEC_ENTRY * 4) bank, enteredAt := s.elapsed, secTlb := true, predictor := true }
  (s1.wr F.WEIR_HART_STAT_SECURE 1 h).wr F.WEIR_HART_STAT_SERVICE service h

/-- WEIR_ENTER (R165). `bank` is the hart's normal bank, its pc at the instruction after the store. -/
def execWeirEnter (ini : Initiator) (h : Fin 8) (service : BitVec 16) (bank : HartBank) (s : State) : Ans :=
  s.busBy ini fun s =>
  let t := s.tag ini
  if ini ≠ .hart h || t.secure then .next (s.raise 66 h.val t.cove t.secure)
  else if !s.on F.WEIR_CFG_EN then .next (s.wr F.WEIR_HART_STAT_LAST 0xF0 h.val)
  else .next (s.weirEnter h.val service.toNat bank)

/-- The normal bank as it is restored (Table 06-3): the performance counters as saved, since they count no secure-world event, and the
cycle counter as far as it has advanced. -/
def weirBank (b : HartBank) (a : List (BitVec 64)) (cycles : Word) : HartBank :=
  { withArgs b a with cycle := b.cycle + cycles.setWidth 64 }

/-- The steps of Table 06-2 and the state of Table 06-3; `cycles` passed during the call. -/
def State.weirLeave (s : State) (h last : Nat) (a : List (BitVec 64)) (cycles : Word) : State :=
  let s1 := (s.cacheScrub h (s.on F.WEIR_CFG_L2_KEEP)).modHart h fun w =>
    { w with normal := zeroBank, current := weirBank w.normal a cycles, secTlb := false, predictor := false }
  (s1.wr F.WEIR_HART_STAT_SECURE 0 h).wr F.WEIR_HART_STAT_LAST last h

/-- WEIR_RETURN (R166): STATUS above 0xEF is taken as 0xEF; `a` holds the secure a0 to a7. -/
def execWeirReturn (ini : Initiator) (h : Fin 8) (status : BitVec 8) (a : List (BitVec 64)) (cycles : Word) (s : State) : Ans :=
  s.busBy ini fun s =>
  if !s.isSec ini then .next (s.denied ini (0x400104 + 0x20 * h.val))
  else if !s.on F.WEIR_HART_STAT_SECURE h.val then .next s
  else .next (s.weirLeave h.val (min status.toNat 0xEF) a cycles)

/-- WEIR_TIMEOUT (R167): MAX_RES_US (0 is taken as 1) has passed since the entry. -/
def execWeirTimeout (h : Fin 8) (cycles : Word) (s : State) : Ans :=
  if !s.on F.WEIR_HART_STAT_SECURE h.val then .next s
  else if s.elapsed ≤ (s.hart h.val).enteredAt + 1000 * max (s.rd F.WEIR_CFG_MAX_RES_US) 1 then .next s
  else
    let s1 := s.weirLeave h.val 0xF1 (List.replicate 8 0) cycles
    .next ((s1.sluAbandon fun p => p == 512 + 16 + h.val).raise 65 h.val)

/-- L3_SEC_WAYS_WRITE (R171): cleaning starts; a write while BUSY is discarded. -/
def execL3SecWaysWrite (ini : Initiator) (ways : BitVec 16) (s : State) : Ans :=
  s.busBy ini fun s =>
  if s.on F.WEIR_L3_STAT_BUSY || ways.toNat = s.rd F.WEIR_L3_SEC_WAYS_WAYS then .next s
  else if !s.isSec ini then .next (s.denied ini 0x400040)
  else .next ((s.modOwn fun o => { o with l3New := ways.toNat }).wr F.WEIR_L3_STAT_BUSY 1)

/-- L3_REPART_DONE (R171): every way that enters or leaves the secure set is clean, and the new mask applies. -/
def execL3RepartDone (s : State) : Ans :=
  if s.on F.WEIR_L3_STAT_BUSY then
    .next ((((s.l3Clean (s.rd F.WEIR_L3_SEC_WAYS_WAYS) s.own.l3New).wr F.WEIR_L3_SEC_WAYS_WAYS s.own.l3New).wr F.WEIR_L3_STAT_BUSY 0).raise 67)
  else .next s

/-- COVE_IOT_ATPc as written. -/
def State.atpReg (s : State) (c : Nat) : Nat :=
  s.rd F.COVE_IOT_ATP_MODE c * 2 ^ 60 + s.rd F.COVE_IOT_ATP_VMID c * 2 ^ 44 + s.rd F.COVE_IOT_ATP_PPN c

/-- IOT_INVAL (R173): the entries go, and the written ATP takes effect. -/
def execIotInval (ini : Initiator) (all : Bool) (c : Fin 32) (s : State) : Ans :=
  s.busBy ini fun s =>
  if !s.isCove0 ini then .next (s.denied ini 0x1F00400)
  else .next (s.modOwn fun o =>
    { o with iotlb := o.iotlb.filter fun e => !(all || e.cove == c.val),
             atp := o.atp.mapIdx fun k a => if all || k == c.val then s.atpReg k else a })

end Sys2Proof.Machine
end

