-- ==== Sys2Proof/Machine/Dispatch.lean ====
section
/-!
DEFINITION. One arm per command: each calls the meaning of its row.
-/
namespace Sys2Proof.Machine

def exec (i : Instr) (s : State) : Host.Outcome State Fault Refusal :=
  match i with
  | .registerWrite ini off v => Sys2Proof.Machine.execRegisterWrite ini off v s
  | .readToClear ini off size => Sys2Proof.Machine.execReadToClear ini off size s
  | .narrowRegisterWrite ini off half v => Sys2Proof.Machine.execNarrowRegisterWrite ini off half v s
  | .lowWordRead ini off => Sys2Proof.Machine.execLowWordRead ini off s
  | .highWordRead ini off => Sys2Proof.Machine.execHighWordRead ini off s
  | .unassignedAccess ini addr write => Sys2Proof.Machine.execUnassignedAccess ini addr write s
  | .dramAccess src addr len write tableUe => Sys2Proof.Machine.execDramAccess src addr len write tableUe s
  | .arbitrationPhase n reqs ready => Sys2Proof.Machine.execArbitrationPhase n reqs ready s
  | .requesterMasked n input => Sys2Proof.Machine.execRequesterMasked n input s
  | .regionVisit r queued secureReqs => Sys2Proof.Machine.execRegionVisit r queued secureReqs s
  | .regionSlotRelease r c k => Sys2Proof.Machine.execRegionSlotRelease r c k s
  | .cellStall b w us => Sys2Proof.Machine.execCellStall b w us s
  | .transferError b w ue fails => Sys2Proof.Machine.execTransferError b w ue fails s
  | .blockFaulted b w kind hasWork => Sys2Proof.Machine.execBlockFaulted b w kind hasWork s
  | .requestTimeout src addr write us => Sys2Proof.Machine.execRequestTimeout src addr write us s
  | .lateResponse cove => Sys2Proof.Machine.execLateResponse cove s
  | .arbiterFreezeWrite ini n v => Sys2Proof.Machine.execArbiterFreezeWrite ini n v s
  | .flogPop ini => Sys2Proof.Machine.execFlogPop ini s
  | .spillRaised r b kind w => Sys2Proof.Machine.execSpillRaised r b kind w s
  | .spillClear ini r => Sys2Proof.Machine.execSpillClear ini r s
  | .spillConfirm ini => Sys2Proof.Machine.execSpillConfirm ini s
  | .spillTimeout r => Sys2Proof.Machine.execSpillTimeout r s
  | .govMargin f fill active => Sys2Proof.Machine.execGovMargin f fill active s
  | .govRaiseStep below => Sys2Proof.Machine.execGovRaiseStep below s
  | .govLowerStep monitorsFast => Sys2Proof.Machine.execGovLowerStep monitorsFast s
  | .speedMonitorSlow r => Sys2Proof.Machine.execSpeedMonitorSlow r s
  | .chipDebugWrite ini v => Sys2Proof.Machine.execChipDebugWrite ini v s
  | .debugLock ini v => Sys2Proof.Machine.execDebugLock ini v s
  | .jtagInstruction j => Sys2Proof.Machine.execJtagInstruction j s
  | .genlockPulse ns => Sys2Proof.Machine.execGenlockPulse ns s
  | .markPulse ns => Sys2Proof.Machine.execMarkPulse ns s
  | .invalidPulse ns => Sys2Proof.Machine.execInvalidPulse ns s
  | .markPulseSend nextGenlock => Sys2Proof.Machine.execMarkPulseSend nextGenlock s
  | .heartbeatLost => Sys2Proof.Machine.execHeartbeatLost s
  | .turnContention ns => Sys2Proof.Machine.execTurnContention ns s
  | .vbatRise mV => Sys2Proof.Machine.execVbatRise mV s
  | .vbatFall mV => Sys2Proof.Machine.execVbatFall mV s
  | .wakeEdge w falling us => Sys2Proof.Machine.execWakeEdge w falling us s
  | .seepAlarm => Sys2Proof.Machine.execSeepAlarm s
  | .porstFall => Sys2Proof.Machine.execPorstFall s
  | .porstRise turn => Sys2Proof.Machine.execPorstRise turn s
  | .warmReset us => Sys2Proof.Machine.execWarmReset us s
  | .wrstRise => Sys2Proof.Machine.execWrstRise s
  | .internalResetEnd => Sys2Proof.Machine.execInternalResetEnd s
  | .vcoreFault us => Sys2Proof.Machine.execVcoreFault us s
  | .brownOut us => Sys2Proof.Machine.execBrownOut us s
  | .vcoreOkRise => Sys2Proof.Machine.execVcoreOkRise s
  | .bootStepDone r => Sys2Proof.Machine.execBootStepDone r s
  | .imgldDataWrite off data => Sys2Proof.Machine.execImgldDataWrite off data s
  | .imgldComplete => Sys2Proof.Machine.execImgldComplete s
  | .imgldAbort => Sys2Proof.Machine.execImgldAbort s
  | .imgldCheckDone => Sys2Proof.Machine.execImgldCheckDone s
  | .enterDip ini limit => Sys2Proof.Machine.execEnterDip ini limit s
  | .endDip ini => Sys2Proof.Machine.execEndDip ini s
  | .dipLimit => Sys2Proof.Machine.execDipLimit s
  | .dipEndComplete => Sys2Proof.Machine.execDipEndComplete s
  | .flashCommand ini v => Sys2Proof.Machine.execFlashCommand ini v s
  | .flashTransferDone data => Sys2Proof.Machine.execFlashTransferDone data s
  | .shutdownOff ini => Sys2Proof.Machine.execShutdownOff ini s
  | .shutdownRestart ini => Sys2Proof.Machine.execShutdownRestart ini s
  | .chipReset ini => Sys2Proof.Machine.execChipReset ini s
  | .drainStepDone log => Sys2Proof.Machine.execDrainStepDone log s
  | .drainComplete => Sys2Proof.Machine.execDrainComplete s
  | .testComplete r => Sys2Proof.Machine.execTestComplete r s
  | .powerFailWarning mV us march => Sys2Proof.Machine.execPowerFailWarning mV us march s
  | .thermWarn tj => Sys2Proof.Machine.execThermWarn tj s
  | .thermRelease tj => Sys2Proof.Machine.execThermRelease tj s
  | .thermalLimit tj march => Sys2Proof.Machine.execThermalLimit tj march s
  | .pdVoteWrite ini reg v => Sys2Proof.Machine.execPdVoteWrite ini reg v s
  | .pdSwitchDone d => Sys2Proof.Machine.execPdSwitchDone d s
  | .pcapWindow fixedMw lochMw rankMw coresMw => Sys2Proof.Machine.execPcapWindow fixedMw lochMw rankMw coresMw s
  | .nvmApertureRead ini off size ecc => Sys2Proof.Machine.execNvmApertureRead ini off size ecc s
  | .nvmApertureWrite ini off size v => Sys2Proof.Machine.execNvmApertureWrite ini off size v s
  | .deltaSubmit ini => Sys2Proof.Machine.execDeltaSubmit ini s
  | .deltaCheckDone => Sys2Proof.Machine.execDeltaCheckDone s
  | .deltaSectionApply type => Sys2Proof.Machine.execDeltaSectionApply type s
  | .keyProgramSlot0 ini => Sys2Proof.Machine.execKeyProgramSlot0 ini s
  | .keyProgramSlot1 ini => Sys2Proof.Machine.execKeyProgramSlot1 ini s
  | .keyRevokeSlot0 ini => Sys2Proof.Machine.execKeyRevokeSlot0 ini s
  | .keyRevokeSlot1 ini => Sys2Proof.Machine.execKeyRevokeSlot1 ini s
  | .minverWrite ini v => Sys2Proof.Machine.execMinverWrite ini v s
  | .imageCacheInvalidate ini => Sys2Proof.Machine.execImageCacheInvalidate ini s
  | .imageCacheRewrite => Sys2Proof.Machine.execImageCacheRewrite s
  | .eventCapture => Sys2Proof.Machine.execEventCapture s
  | .routeWrite ini n v => Sys2Proof.Machine.execRouteWrite ini n v s
  | .ringConsWrite ini ring v => Sys2Proof.Machine.execRingConsWrite ini ring v s
  | .doorbellHoldoff ring => Sys2Proof.Machine.execDoorbellHoldoff ring s
  | .slewWrite ini v => Sys2Proof.Machine.execSlewWrite ini v s
  | .slewDone => Sys2Proof.Machine.execSlewDone s
  | .timebaseStep ini hi => Sys2Proof.Machine.execTimebaseStep ini hi s
  | .ppsCapture falling => Sys2Proof.Machine.execPpsCapture falling s
  | .ppsLost => Sys2Proof.Machine.execPpsLost s
  | .refclkLost => Sys2Proof.Machine.execRefclkLost s
  | .refclkReturn => Sys2Proof.Machine.execRefclkReturn s
  | .tbsWindow n => Sys2Proof.Machine.execTbsWindow n s
  | .weirEnter ini h service bank => Sys2Proof.Machine.execWeirEnter ini h service bank s
  | .weirReturn ini h status a cycles => Sys2Proof.Machine.execWeirReturn ini h status a cycles s
  | .weirTimeout h cycles => Sys2Proof.Machine.execWeirTimeout h cycles s
  | .l3SecWaysWrite ini ways => Sys2Proof.Machine.execL3SecWaysWrite ini ways s
  | .l3RepartDone => Sys2Proof.Machine.execL3RepartDone s
  | .iotInval ini all c => Sys2Proof.Machine.execIotInval ini all c s
  | .shorAssign ini owner reader => Sys2Proof.Machine.execShorAssign ini owner reader s
  | .shorShare ini owner reader => Sys2Proof.Machine.execShorShare ini owner reader s
  | .shorUnshare ini owner reader => Sys2Proof.Machine.execShorUnshare ini owner reader s
  | .shorRelease ini owner reader => Sys2Proof.Machine.execShorRelease ini owner reader s
  | .shorTakeSecure ini owner reader => Sys2Proof.Machine.execShorTakeSecure ini owner reader s
  | .shorReleaseSecure ini owner reader => Sys2Proof.Machine.execShorReleaseSecure ini owner reader s
  | .shorAssignKeep ini owner reader => Sys2Proof.Machine.execShorAssignKeep ini owner reader s
  | .shorCmdStart => Sys2Proof.Machine.execShorCmdStart s
  | .shorCmdDone => Sys2Proof.Machine.execShorCmdDone s
  | .shorQuery ini page => Sys2Proof.Machine.execShorQuery ini page s
  | .sluAcquire ini port lock wait same => Sys2Proof.Machine.execSluAcquire ini port lock wait same s
  | .sluRelease ini port lock => Sys2Proof.Machine.execSluRelease ini port lock s
  | .sluCancel ini port => Sys2Proof.Machine.execSluCancel ini port s
  | .sluForce ini lock => Sys2Proof.Machine.execSluForce ini lock s
  | .sluLockConfigWrite ini lock coves v => Sys2Proof.Machine.execSluLockConfigWrite ini lock coves v s
  | .queueProdWrite ini c q v => Sys2Proof.Machine.execQueueProdWrite ini c q v s
  | .descriptorFetch c q => Sys2Proof.Machine.execDescriptorFetch c q s
  | .queueCfgWrite ini c q v => Sys2Proof.Machine.execQueueCfgWrite ini c q v s
  | .queueFaultClear ini c q => Sys2Proof.Machine.execQueueFaultClear ini c q s
  | .covePageDenied ini c off write => Sys2Proof.Machine.execCovePageDenied ini c off write s
  | .vfFlr c => Sys2Proof.Machine.execVfFlr c s
  | .pfFlr clearVfEnable => Sys2Proof.Machine.execPfFlr clearVfEnable s
  | .vfBar2Request c off len write => Sys2Proof.Machine.execVfBar2Request c off len write s
  | .pcieStarved => Sys2Proof.Machine.execPcieStarved s
  | .pcieLink up speed width vfEnable busMaster => Sys2Proof.Machine.execPcieLink up speed width vfEnable busMaster s
  | .pcieAerError c sev status => Sys2Proof.Machine.execPcieAerError c sev status s
  | .shareWrite ini c regB v => Sys2Proof.Machine.execShareWrite ini c regB v s
  | .coveReset ini c => Sys2Proof.Machine.execCoveReset ini c s
  | .coveFreeze ini c => Sys2Proof.Machine.execCoveFreeze ini c s
  | .coveThaw ini c => Sys2Proof.Machine.execCoveThaw ini c s
  | .coveSave ini c => Sys2Proof.Machine.execCoveSave ini c s
  | .coveRestore ini c => Sys2Proof.Machine.execCoveRestore ini c s
  | .coveConfine ini c => Sys2Proof.Machine.execCoveConfine ini c s
  | .coveQuiesced c => Sys2Proof.Machine.execCoveQuiesced c s
  | .coveResetDone c => Sys2Proof.Machine.execCoveResetDone c s
  | .coveSaved c => Sys2Proof.Machine.execCoveSaved c s
  | .coveRestored c => Sys2Proof.Machine.execCoveRestored c s
  | .resRequestEnter src user pa len write => Sys2Proof.Machine.execResRequestEnter src user pa len write s
  | .resCommandIssue ch busy wdataReady readSpace => Sys2Proof.Machine.execResCommandIssue ch busy wdataReady readSpace s
  | .resReadData ch ecc link => Sys2Proof.Machine.execResReadData ch ecc link s
  | .mr4Poll ch rank rate hot => Sys2Proof.Machine.execMr4Poll ch rank rate hot s
  | .refreshDue ch rank rfm => Sys2Proof.Machine.execRefreshDue ch rank rfm s
  | .patrolScrub ch ecc link => Sys2Proof.Machine.execPatrolScrub ch ecc link s
  | .pageInit => Sys2Proof.Machine.execPageInit s
  | .pprStart ini noResource => Sys2Proof.Machine.execPprStart ini noResource s
  | .pprDone ok badCols => Sys2Proof.Machine.execPprDone ok badCols s
  | .trnWritePattern ini chmask pat lines => Sys2Proof.Machine.execTrnWritePattern ini chmask pat lines s
  | .trnReadCompare ini chmask pat lines => Sys2Proof.Machine.execTrnReadCompare ini chmask pat lines s
  | .trnWriteReadCompare ini chmask pat lines => Sys2Proof.Machine.execTrnWriteReadCompare ini chmask pat lines s
  | .trnCmdBusCompare ini chmask pat lines => Sys2Proof.Machine.execTrnCmdBusCompare ini chmask pat lines s
  | .trnWckSample ini chmask pat lines => Sys2Proof.Machine.execTrnWckSample ini chmask pat lines s
  | .trnDone errs counts mrr => Sys2Proof.Machine.execTrnDone errs counts mrr s
  | .modeRegisterWrite ini ch rank sc ma op => Sys2Proof.Machine.execModeRegisterWrite ini ch rank sc ma op s
  | .modeRegisterRead ini ch rank sc ma => Sys2Proof.Machine.execModeRegisterRead ini ch rank sc ma s
  | .trainingFail ch => Sys2Proof.Machine.execTrainingFail ch s
  | .slotCommit ini slot v => Sys2Proof.Machine.execSlotCommit ini slot v s
  | .queueCommitAccept c q => Sys2Proof.Machine.execQueueCommitAccept c q s
  | .latchPoint h => Sys2Proof.Machine.execLatchPoint h s
  | .reservationGrant h => Sys2Proof.Machine.execReservationGrant h s
  | .tileComposed h tile nvr mapEcc => Sys2Proof.Machine.execTileComposed h tile nvr mapEcc s
  | .layerJobDone h slot => Sys2Proof.Machine.execLayerJobDone h slot s
  | .compositionComplete h => Sys2Proof.Machine.execCompositionComplete h s
  | .layerFault h slot => Sys2Proof.Machine.execLayerFault h slot s
  | .frameStart h mapEcc => Sys2Proof.Machine.execFrameStart h mapEcc s
  | .tarnDebugWrite ini off data ecc => Sys2Proof.Machine.execTarnDebugWrite ini off data ecc s
  | .tarnPatrolRead word ecc mapEcc => Sys2Proof.Machine.execTarnPatrolRead word ecc mapEcc s
  | .bankRetire ini b v => Sys2Proof.Machine.execBankRetire ini b v s
  | .bankRemap ini b v => Sys2Proof.Machine.execBankRemap ini b v s
  | .stripDecode e strip fill reads mapEcc bufUe => Sys2Proof.Machine.execStripDecode e strip fill reads mapEcc bufUe s
  | .scanUnderrun h line col => Sys2Proof.Machine.execScanUnderrun h line col s
  | .frameAbort h line col => Sys2Proof.Machine.execFrameAbort h line col s
  | .lockstepMismatch h line col => Sys2Proof.Machine.execLockstepMismatch h line col s
  | .pllUnlock p => Sys2Proof.Machine.execPllUnlock p s
  | .pllSpareIn => Sys2Proof.Machine.execPllSpareIn s
  | .portRetrain ini n => Sys2Proof.Machine.execPortRetrain ini n s
  | .linkTrainingEnd n ok => Sys2Proof.Machine.execLinkTrainingEnd n ok s
  | .hpdUnplug n us => Sys2Proof.Machine.execHpdUnplug n us s
  | .hpdIrq n us loss => Sys2Proof.Machine.execHpdIrq n us loss s
  | .hpdPlug n => Sys2Proof.Machine.execHpdPlug n s
  | .auxNativeWrite ini n len => Sys2Proof.Machine.execAuxNativeWrite ini n len s
  | .auxNativeRead ini n len code => Sys2Proof.Machine.execAuxNativeRead ini n len code s
  | .auxI2cWrite ini n len => Sys2Proof.Machine.execAuxI2cWrite ini n len s
  | .auxI2cRead ini n len => Sys2Proof.Machine.execAuxI2cRead ini n len s
  | .auxI2cWriteMot ini n len => Sys2Proof.Machine.execAuxI2cWriteMot ini n len s
  | .auxI2cReadMot ini n len => Sys2Proof.Machine.execAuxI2cReadMot ini n len s
  | .auxReply n reply data => Sys2Proof.Machine.execAuxReply n reply data s
  | .auxDeferRetry n => Sys2Proof.Machine.execAuxDeferRetry n s
  | .auxTimeout n => Sys2Proof.Machine.execAuxTimeout n s
  | .panelDelayElapsed h => Sys2Proof.Machine.execPanelDelayElapsed h s
  | .hpdWaitTimeout h => Sys2Proof.Machine.execHpdWaitTimeout h s
  | .headDisable h => Sys2Proof.Machine.execHeadDisable h s
  | .blPwmPeriod h => Sys2Proof.Machine.execBlPwmPeriod h s
  | .alsSample b data => Sys2Proof.Machine.execAlsSample b data s
  | .alsErr b => Sys2Proof.Machine.execAlsErr b s
  | .genlockReference h err refNs => Sys2Proof.Machine.execGenlockReference h err refNs s
  | .genlockLost h => Sys2Proof.Machine.execGenlockLost h s
  | .fifoMinClr ini h v => Sys2Proof.Machine.execFifoMinClr ini h v s
  | .sealExpPush ini u tag flush => Sys2Proof.Machine.execSealExpPush ini u tag flush s
  | .sealExpFlush ini u => Sys2Proof.Machine.execSealExpFlush ini u s
  | .sealResult u overflow noLink => Sys2Proof.Machine.execSealResult u overflow noLink s
  | .genCheckStart ini g c compare => Sys2Proof.Machine.execGenCheckStart ini g c compare s
  | .genDone g => Sys2Proof.Machine.execGenDone g s
  | .lochJobStart c q => Sys2Proof.Machine.execLochJobStart c q s
  | .lochJobEnd c q => Sys2Proof.Machine.execLochJobEnd c q s
  | .fencePoll => Sys2Proof.Machine.execFencePoll s
  | .fenceKick ini c => Sys2Proof.Machine.execFenceKick ini c s
  | .waitTimeout c q k => Sys2Proof.Machine.execWaitTimeout c q k s
  | .dispatchPlace lc => Sys2Proof.Machine.execDispatchPlace lc s
  | .dispatchComplete lc ns rep => Sys2Proof.Machine.execDispatchComplete lc ns rep s
  | .partialRender c q tiles => Sys2Proof.Machine.execPartialRender c q tiles s
  | .poolAdd ini c q n => Sys2Proof.Machine.execPoolAdd ini c q n s
  | .jobTimeout c q => Sys2Proof.Machine.execJobTimeout c q s
  | .jobUrgent c q => Sys2Proof.Machine.execJobUrgent c q s
  | .preemptStart => Sys2Proof.Machine.execPreemptStart s
  | .preemptSaveDone lc ns ran bytes => Sys2Proof.Machine.execPreemptSaveDone lc ns ran bytes s
  | .preemptMaxClear ini => Sys2Proof.Machine.execPreemptMaxClear ini s
  | .sparseFetch lc hdr layer px py lod foot => Sys2Proof.Machine.execSparseFetch lc hdr layer px py lod foot s
  | .rayTraverse lc inv ray => Sys2Proof.Machine.execRayTraverse lc inv ray s
  | .rayResume lc inv token accept => Sys2Proof.Machine.execRayResume lc inv token accept s
  | .mixTick starved => Sys2Proof.Machine.execMixTick starved s
  | .tdmRxFrame n slots => Sys2Proof.Machine.execTdmRxFrame n slots s
  | .tdmTxFrame n => Sys2Proof.Machine.execTdmTxFrame n s
  | .tdmFsync n ps => Sys2Proof.Machine.execTdmFsync n ps s
  | .tdmFsyncLost n => Sys2Proof.Machine.execTdmFsyncLost n s
  | .xpNodeWrite ini o inp g => Sys2Proof.Machine.execXpNodeWrite ini o inp g s
  | .xpSwap ini => Sys2Proof.Machine.execXpSwap ini s
  | .xpSwapDone => Sys2Proof.Machine.execXpSwapDone s
  | .biquadCommit ini n => Sys2Proof.Machine.execBiquadCommit ini n s
  | .streamDescAccept c q => Sys2Proof.Machine.execStreamDescAccept c q s
  | .streamStalled c q => Sys2Proof.Machine.execStreamStalled c q s
  | .toneStart ini g at_ => Sys2Proof.Machine.execToneStart ini g at_ s
  | .toneStop ini g => Sys2Proof.Machine.execToneStop ini g s
  | .toneStopNow ini g => Sys2Proof.Machine.execToneStopNow ini g s
  | .toneSegmentEnd g => Sys2Proof.Machine.execToneSegmentEnd g s
  | .recBlock => Sys2Proof.Machine.execRecBlock s
  | .controlSample slew => Sys2Proof.Machine.execControlSample slew s
  | .effectGo ini port tag => Sys2Proof.Machine.execEffectGo ini port tag s
  | .effectStop ini port => Sys2Proof.Machine.execEffectStop ini port s
  | .waveEnd c => Sys2Proof.Machine.execWaveEnd c s
  | .settled c => Sys2Proof.Machine.execSettled c s
  | .sequencerTimer c => Sys2Proof.Machine.execSequencerTimer c s
  | .touchTrigger => Sys2Proof.Machine.execTouchTrigger s
  | .senseGap c vs cross => Sys2Proof.Machine.execSenseGap c vs cross s
  | .driveFault code c vg5 => Sys2Proof.Machine.execDriveFault code c vg5 s
  | .faultClear ini c ended => Sys2Proof.Machine.execFaultClear ini c ended s
  | .accRead k b0 b1 => Sys2Proof.Machine.execAccRead k b0 b1 s
  | .accRetry ini => Sys2Proof.Machine.execAccRetry ini s
  | .boostIdleTimeout => Sys2Proof.Machine.execBoostIdleTimeout s
  | .scanFrameStart sn noise => Sys2Proof.Machine.execScanFrameStart sn noise s
  | .scanFrameEnd sn nodes tx rx => Sys2Proof.Machine.execScanFrameEnd sn nodes tx rx s
  | .touchFrameDropped sn cause => Sys2Proof.Machine.execTouchFrameDropped sn cause s
  | .hello => Sys2Proof.Machine.execHello s
  | .keepalive => Sys2Proof.Machine.execKeepalive s
  | .welSendTimer slow => Sys2Proof.Machine.execWelSendTimer slow s
  | .welLinkDown => Sys2Proof.Machine.execWelLinkDown s
  | .welMsgErr => Sys2Proof.Machine.execWelMsgErr s
  | .planeBegin id nvr w hgt validMs => Sys2Proof.Machine.execPlaneBegin id nvr w hgt validMs s
  | .planeData id offset data => Sys2Proof.Machine.execPlaneData id offset data s
  | .planeEnd id crc => Sys2Proof.Machine.execPlaneEnd id crc s
  | .refresh id validMs => Sys2Proof.Machine.execRefresh id validMs s
  | .showNvr => Sys2Proof.Machine.execShowNvr s
  | .expect seq value tag => Sys2Proof.Machine.execExpect seq value tag s
  | .flush => Sys2Proof.Machine.execFlush s
  | .reading c status unit decimals value measSeq => Sys2Proof.Machine.execReading c status unit decimals value measSeq s
  | .ident payload => Sys2Proof.Machine.execIdent payload s
  | .nvrExpired => Sys2Proof.Machine.execNvrExpired s
  | .forceNvrWrite ini v => Sys2Proof.Machine.execForceNvrWrite ini v s
  | .paletteWrite ini k colour => Sys2Proof.Machine.execPaletteWrite ini k colour s
  | .bind head window depth30 x0 y0 x1 y1 seq => Sys2Proof.Machine.execBind head window depth30 x0 y0 x1 y1 seq s
  | .planeAck id status missing nvr data => Sys2Proof.Machine.execPlaneAck id status missing nvr data s
  | .result seq status tag => Sys2Proof.Machine.execResult seq status tag s
  | .time t => Sys2Proof.Machine.execTime t s
  | .resultTimeout => Sys2Proof.Machine.execResultTimeout s
  | .whReset => Sys2Proof.Machine.execWhReset s
  | .sealSwitch isOpen => Sys2Proof.Machine.execSealSwitch isOpen s
  | .checksumCheck computed => Sys2Proof.Machine.execChecksumCheck computed s
  | .idCmd => Sys2Proof.Machine.execIdCmd s
  | .audit n => Sys2Proof.Machine.execAudit n s
  | .read c status unit decimals value measSeq => Sys2Proof.Machine.execRead c status unit decimals value measSeq s
  | .param k => Sys2Proof.Machine.execParam k s
  | .setCmd k v => Sys2Proof.Machine.execSetCmd k v s
  | .showid => Sys2Proof.Machine.execShowid s
  | .drgTest ini inst => Sys2Proof.Machine.execDrgTest ini inst s
  | .drgSwapIn ini inst => Sys2Proof.Machine.execDrgSwapIn ini inst s
  | .drgFuse ini entry => Sys2Proof.Machine.execDrgFuse ini entry s
  | .testDone marches => Sys2Proof.Machine.execTestDone marches s
  | .swapDone => Sys2Proof.Machine.execSwapDone s
  | .fuseProgramDone ok => Sys2Proof.Machine.execFuseProgramDone ok s
  | .portageLinkUp l partner chipId reach booting => Sys2Proof.Machine.execPortageLinkUp l partner chipId reach booting s
  | .portageLinkDown l cause reach => Sys2Proof.Machine.execPortageLinkDown l cause reach s
  | .flitReceive l flit content => Sys2Proof.Machine.execFlitReceive l flit content s
  | .ptgStarved l => Sys2Proof.Machine.execPtgStarved l s
  | .mark t late => Sys2Proof.Machine.execMark t late s
  | .dipTokenRequest pos => Sys2Proof.Machine.execDipTokenRequest pos s
  | .dipAnnounce limitMs => Sys2Proof.Machine.execDipAnnounce limitMs s
  | .failoverWaitEnd => Sys2Proof.Machine.execFailoverWaitEnd s
  | .role pos => Sys2Proof.Machine.execRole pos s
  | .masterStartupTimeout => Sys2Proof.Machine.execMasterStartupTimeout s
  | .releaseTo ini target => Sys2Proof.Machine.execReleaseTo ini target s
  | .sbAlert level => Sys2Proof.Machine.execSbAlert level s
  | .remoteRead ini dest => Sys2Proof.Machine.execRemoteRead ini dest s
  | .remoteWrite ini dest => Sys2Proof.Machine.execRemoteWrite ini dest s
  | .copyStart ini k v => Sys2Proof.Machine.execCopyStart ini k v s
  | .copyDone k far => Sys2Proof.Machine.execCopyDone k far s
  | .mirrorBind ini m v alike srcSafety => Sys2Proof.Machine.execMirrorBind ini m v alike srcSafety s
  | .swapEnd m frame => Sys2Proof.Machine.execSwapEnd m frame s
  | .lockstepCompareFailure k => Sys2Proof.Machine.execLockstepCompareFailure k s
  | .endMessage => Sys2Proof.Machine.execEndMessage s
  | .dipTokenGrant => Sys2Proof.Machine.execDipTokenGrant s
  | .dipTokenReturn pos => Sys2Proof.Machine.execDipTokenReturn pos s

end Sys2Proof.Machine
end

