-- ==== Sys2Proof/Safety.lean ====
section
/-!
DEFINITION. The terms in which claims about the block are stated: what a command changes at most (its frame), what
an event raise does, and the invariants that every step keeps.
-/
namespace Sys2Proof.Machine

/-- The parts of the state beside the register fields. -/
inductive Part where
  | pending | hold | dram | mram | tarn | ram | chip | pins | img | gov | fab | inl | tbs | own | locks | host | res
  | bas | tst | out | snd | ptg | wel | loch | whd | pool | pla | sha | drg | elapsed | fresh | sent | resp
  deriving DecidableEq, Repr

/-- Part `p` holds the same in both states. -/
def Part.same (p : Part) (s t : State) : Prop :=
  match p with
  | .pending => t.pending = s.pending
  | .hold => t.hold = s.hold
  | .dram => t.dram = s.dram
  | .mram => t.mram = s.mram
  | .tarn => t.tarn = s.tarn
  | .ram => t.ram = s.ram
  | .chip => t.chip = s.chip
  | .pins => t.pins = s.pins
  | .img => t.img = s.img
  | .gov => t.gov = s.gov
  | .fab => t.fab = s.fab
  | .inl => t.inl = s.inl
  | .tbs => t.tbs = s.tbs
  | .own => t.own = s.own
  | .locks => t.locks = s.locks
  | .host => t.host = s.host
  | .res => t.res = s.res
  | .bas => t.bas = s.bas
  | .tst => t.tst = s.tst
  | .out => t.out = s.out
  | .snd => t.snd = s.snd
  | .ptg => t.ptg = s.ptg
  | .wel => t.wel = s.wel
  | .loch => t.loch = s.loch
  | .whd => t.whd = s.whd
  | .pool => t.pool = s.pool
  | .pla => t.pla = s.pla
  | .sha => t.sha = s.sha
  | .drg => t.drg = s.drg
  | .elapsed => t.elapsed = s.elapsed
  | .fresh => t.fresh = s.fresh
  | .sent => t.sent = s.sent
  | .resp => t.resp = s.resp

/-- The frame of a command: from `s` to `t` no register field changes but those whose keys are in `ks`, and no part of the
state but those in `ps` (the bytes of every memory are parts). -/
def State.changes (s t : State) (ks : List Nat) (ps : List Part) : Prop :=
  (∀ k d, k ∉ ks → spGet t.regs k d = spGet s.regs k d) ∧ ∀ p, p ∉ ps → p.same s t

/-- The key of the counter of lost raises (R144). -/
def lostKey : Nat := F.INL_RAISE_LOST_COUNT.key 0 0

/-- The keys of RIP_AERR_ADDR and RIP_AERR_INFO of world `w`. -/
def aerrKeys (w : Nat) : List Nat :=
  [F.RIP_AERR_ADDR_ADDR.key w 0, F.RIP_AERR_INFO_VALID.key w 0, F.RIP_AERR_INFO_WORLD.key w 0,
   F.RIP_AERR_INFO_COVE.key w 0, F.RIP_AERR_INFO_KIND.key w 0, F.RIP_AERR_INFO_WRITE.key w 0,
   F.RIP_AERR_INFO_OVERRUN.key w 0]

/-- Inlet has room for a raise of source `src`, and the part raises that source (R3, R144). -/
def State.room (s : State) (src : Nat) : Prop :=
  (s.inl.awaiting.filter (fun x => x.src == src)).length < 4 ∧ (s.isMA = true ∨ src < 480 ∨ 487 < src)

/-- The raise of event `src` with these INFO bits for cove `cove`, at state `s` (R144). -/
def State.ev (s : State) (src info cove : Nat) (secure : Bool) : EvRaise :=
  { src := src, cove := cove, gen := s.gen cove, secure := secure, info := info % 65536, boot := !s.chip.ran }

/-- Between `s` and `t` exactly these raises were put in Inlet. -/
def State.raises (s t : State) (l : List EvRaise) : Prop := t.inl = { s.inl with awaiting := s.inl.awaiting ++ l }

/-- The command answers a next state, and that state satisfies `P`. -/
def execNext (c : Instr) (s : State) (P : State → Prop) : Prop := ∃ t, exec c s = .next t ∧ P t

/-- A write at `off` meets no register with a rule of its own beside its access type. -/
def State.plainWrite (s : State) (ini : Initiator) (off v : Nat) : Prop :=
  s.commandWrite ini off v = none ∧ s.poolWrite ini off v = none ∧ s.shadowWrite ini off v = none ∧ off ≠ 0x7C00050

/-- A field without a writer of its own: neither the step and window registers of the timebase nor a PHY setting nor the scrub
period. -/
def Fld.ordinary (f : Fld) : Prop :=
  f.off ≠ 0x300020 ∧ f.off ≠ 0x300040 ∧ f.off ≠ 0x2010024 ∧ f.off ≠ 0x2000010 ∧ f.off ≠ 0x300100 ∧ f.off ≠ 0x300108

/-- `ini` can issue a request to a register outside the cove pages (R82, R141, Table 07-4). -/
def State.onBus (s : State) (ini : Initiator) : Prop := s.issues ini = true ∧ noWay ini = false

/-- `ini` can issue an access to the register at `off`, and the access gets there (R82, R192, R194). -/
def State.reaches (s : State) (ini : Initiator) (off : Nat) : Prop :=
  s.issues ini = true ∧ s.unreached ini off true = none ∧ ∀ f, ini = .pcie f → s.chip.ran = true

/-- The response of an access that has taken effect (R125). -/
def State.done (t : State) : Prop := t.resp = { value := 0, err := false }

/-- The initiator may use the registers of port `p` (R192): the secure world a secure port's, one with the page rights a cove's. -/
def State.hasPort (s : State) (ini : Initiator) (p : Nat) : Prop :=
  s.issues ini = true ∧ if 512 ≤ p then s.isSec ini = true else s.pageOk ini (p / 16) = true

/-- Lock `n` admits port `p` (Table 06-10), which waits for nothing and holds no lock. -/
def State.mayLock (s : State) (p n : Nat) : Prop :=
  (512 ≤ p ∨ s.rd F.SLU_LOCK_CFG_SECURE n = 0 ∧ (s.rd F.SLU_LOCK_COVES_COVES n).testBit (portCove p) = true) ∧
  s.waitsFor p = none ∧ s.heldBy p = []

/-- A request of `n` bytes of one line at `pa` is granted at its channel (R33, R127, R221, R237): its source can issue it, the bytes are
installed DRAM below the Tarn window that Shoreline allows, and the channel is READY, on line and not full. -/
def State.resTakes (s : State) (src : Source) (pa n : Nat) (write : Bool) : Prop :=
  s.srcIssues src = true ∧ 0 < n ∧ pa % 64 + n ≤ 64 ∧ pa + n ≤ tarnBase ∧ pa + n ≤ s.dramBytes ∧ s.fab.isolated = [] ∧
  shorAllows (s.shorEntry (pa / 65536)) (s.srcTag src) write = true ∧ s.chanWaits (chanOf pa) write = false

/-- The channel as the slot of its next command finds it (R223, R225). -/
def State.atSlot (s : State) (ch : Nat) : State :=
  (s.chanTurn ch).modChan ch fun k => { k with draining := (s.chanTurn ch).drains ch }

/-- Candidate `c` is chosen for the next command of a channel that may issue one (R225, R237). -/
def State.chooses (s : State) (ch : Nat) (busy : List Nat) (readSpace : Bool) (c : Cand) : Prop :=
  s.chanReady ch = true ∧ s.chanOff ch = false ∧ s.chanCut ch = false ∧ (s.atSlot ch).choose ch busy readSpace = some c

/-- Between `s` and `t` channel `ch` sent this command, and after it at most the burst of a check line (R217). -/
def State.issued (s t : State) (ch : Nat) (args : List Nat) : Prop :=
  ∃ l, (l = [] ∨ ∃ b r a o, l = [Sent.dramCmd ch [8, b, r, a, o]]) ∧ t.sent = l ++ Sent.dramCmd ch args :: s.sent

/-- The keys of the RC fields of the register at `off` that the initiator sees. -/
def State.rcKeys (s : State) (ini : Initiator) (off : Nat) : List Nat :=
  match s.place off with
  | .regs a page => ((hitsAt a (b2n (s.isSec ini))).filter fun h => h.f.acc == .rc && s.maySee ini h.f page).map
      fun h => h.f.key h.i h.j
  | _ => []

/-- The state in which a command of the cove manager on cove `c` has been taken (R202): BUSY is 1. -/
def State.cmdTaken (s : State) (cmd c : Nat) : State :=
  (((s.wr F.COVE_CMD_CMD cmd).wr F.COVE_CMD_COVE c).modHost fun h => { h with cmd := some (cmd, c) }).wr F.COVE_CMD_STAT_BUSY 1

/-- Cove `c`'s work reaches installed DRAM at `pa` untranslated: its table is Bare, its IOTLB holds nothing, no channel is isolated,
no line is poisoned, the `len` bytes end below the Tarn window and Shoreline allows every page of them. -/
def State.bareOk (s : State) (c pa len : Nat) (write : Bool) : Prop :=
  bits (s.own.atp.getD c 0) 63 60 = 0 ∧ s.own.iotlb = [] ∧ s.fab.isolated = [] ∧ s.res.poison = [] ∧ pa + len ≤ tarnBase ∧
  pa + len ≤ s.dramBytes ∧
  ∀ p, pa / 65536 ≤ p → p ≤ (pa + len - 1) / 65536 → shorAllows (s.shorEntry p) (s.coveTag c) write = true

/-- Canonical form of the four memories. -/
def memsOk (dram mram tarn ram : List Host.Cell) : Prop :=
  Memory.wf dram = true ∧ Memory.wf mram = true ∧ Memory.wf tarn = true ∧ Memory.wf ram = true

/-- DRAM, the MRAM array, the Tarn store and the register memories are in canonical form. -/
def State.memOk (s : State) : Prop := memsOk s.dram s.mram s.tarn s.ram

/-- World `ini` may use the registers of head `h` (R330): the secure world for a safety head, else the secure world or cove 0. -/
def State.mayHead (s : State) (ini : Initiator) (h : Nat) : Prop :=
  (if (s.head h).safety then s.isSec ini else s.isCove0 ini) = true

/-- No window of head `h` is without a result in this frame. -/
def State.windowsDone (s : State) (h : Nat) : Prop :=
  ∀ k, k < 8 → (s.unit (8 * h + k)).cfg.en = false ∨ (s.unit (8 * h + k)).done = true

/-- The fields that a tick of the mix clock may change when no stream plays: the state of the tone generators, what the outputs
count, the fill of the transmit FIFOs and the lost raises. -/
def mixKeys : List Nat :=
  lostKey :: ((List.range 16).map fun g =>
      [F.POOL_TONE_STAT_PLAYING.key g 0, F.POOL_TONE_STAT_LOOPS.key g 0, F.POOL_TONE_STAT_SEG.key g 0]).flatten ++
    ((List.range 96).map fun o => [F.POOL_OUT_STAT_ACTIVE.key o 0, F.POOL_OUT_CLIP_COUNT.key o 0]).flatten ++
    ((List.range 4).map fun n => [F.POOL_TDM_FIFO_FILL.key n 0, F.POOL_TDM_FIFO_MIN.key n 0]).flatten

/-- No channel is a piezo channel, so the boost rail stands at IDLE_V (R463). -/
def State.noPiezo (s : State) : Prop := (∀ k, (s.haptic k).kind ≠ 1) ∧ s.rd F.PLA_BOOST_STAT_V_B ≤ s.idleV

/-- From `s` to `t` the set of no-valid-reading reasons became `r`: NVR_STATE went out and event 483 was raised (R509). -/
def State.toReasons (s t : State) (r : Nat) : Prop :=
  t.rd F.WEL_STAT_REASONS = r ∧ s.raises t [s.ev 483 r 0 false] ∧
  t.sent = .welFrame true (welBytes (s.wel.linkSeq % 65536) 0x92 (leBytes 2 r ++ leBytes 2 0 ++ leBytes 4 s.legalNextSeq)) :: s.sent

/-- What Wellhead holds once it has recorded a finding of KIND `kind` in its audit trail (R513). -/
def Whd.noted (w : Whd) (kind param old new : Nat) : Whd := { w with audit := w.audit ++ [w.mkRecord kind param old new] }

/-- A fault-free array of words under the march (R519): a write stores its word, and a read must find the word it expects. -/
def marchRun (m : List (BitVec 72)) : List (Nat × Nat × Nat × MarchOp) → Option (List (BitVec 72))
  | [] => some m
  | (j, _, a, .w i) :: l => marchRun (m.set a ((MarchOp.w i).word j a)) l
  | (j, _, a, .r i) :: l => if m[a]? = some ((MarchOp.r i).word j a) then marchRun m l else none

/-- One message to every position that can be reached, the last one first (R535). -/
def State.toAll (s : State) (type : Nat) (body : List Nat) : List Sent :=
  ((setBitsList 4 (s.rd F.PTG_CFG_PRESENT)).map fun q => Sent.ptgMsg q type body).reverse

/-- What the partner on the link other than `l` is told of the positions behind link `l` (R535). -/
def State.reachNews (s : State) (l booting : Nat) : List Sent :=
  if s.rd F.PTG_LINK_STAT_UP (1 - l) = 1 then
    [.ptgMsg (s.rd F.PTG_LINK_STAT_PARTNER (1 - l)) 17 [(s.rd F.PTG_CFG_PRESENT &&& s.behind l) ||| 2 ^ s.pos, booting]]
  else []

/-- What a chip reset and SEEP leave of the registers (Table 03-5): those of the seep domain, of the fuses, the straps and MRAM hold
their values, and every other field but those of `except` is at its reset value. -/
def State.regsKept (s t : State) (except : List Nat) : Prop :=
  ∀ f i j, f.key i j ∉ except →
    t.rd f i j = if f.key i j ∈ (seepFlds ++ heldFlds).flatMap Fld.keys then s.rd f i j else f.rst i j % 2 ^ f.width

/-- RESET entered from `s` with cause code `cause` (Tables 03-5 and 03-6): PWR_REQ is high, MRAM holds, DRAM holds where `keep`. -/
def State.atReset (s t : State) (cause : Nat) (keep : Bool) : Prop :=
  t.chip.phase = .reset ∧ t.pins.pwrReq = true ∧ t.rd F.CHIP_RESET_CAUSE_CAUSE = cause ∧
  t.rd F.CHIP_RESET_CAUSE_DRAM_KEPT = b2n keep ∧ t.dram = (if keep then s.dram else []) ∧ t.mram = s.mram ∧
  s.regsKept t [F.CHIP_RESET_CAUSE_CAUSE.key 0 0, F.CHIP_RESET_CAUSE_DRAM_KEPT.key 0 0]

/-- SEEP entered from `s` (Table 03-5); `wake` is the cause that a later wake reports. -/
def State.atSeep (s t : State) (wake : Nat) : Prop :=
  t.chip.phase = .seep ∧ t.chip.wakeCause = wake ∧ t.pins.pwrReq = false ∧ t.dram = [] ∧ t.mram = s.mram ∧ s.regsKept t []

/-- BOOT entered from `s` (Table 03-2): BOOT_COUNT counts, and TURN1 to TURN11 are a flash port where the straps name a flash. -/
def State.atBoot (s t : State) : Prop :=
  t.chip.phase = .boot ∧ t.rd F.CHIP_RESET_CAUSE_BOOT_COUNT = min (s.rd F.CHIP_RESET_CAUSE_BOOT_COUNT + 1) 255 ∧
  t.pins.turnFlash = s.flashBoot ∧ t.mram = s.mram ∧ t.dram = s.dram

end Sys2Proof.Machine
end

