-- ==== Sys2Proof/Certificates/Slice0/Obligations.lean ====
section
/-!
DEFINITION. The statements about the block.
-/
open Sys2Proof Sys2Proof.Machine

/-! ### Register and memory accesses (00.5, 01.4, 05.3, 06.1) -/

/-- R5, R7, R8, R125, R128, R163: a 32-bit write that reaches a register with one field writes that field by its access type, changes
nothing else and is answered; one that the field's world or cove restriction refuses leaves the register as it is, and where it would
have acted, event 64 is raised and the denial is recorded with KIND 2; a read answers the bytes it addresses of the register's word
as the initiator sees it, and clears the RC fields among them; a narrow write is discarded and recorded with KIND 1; a 64-bit
register's low-word read captures the high word for its initiator, which a high-word read of that register answers and consumes. -/
def Obligations.RegisterAccess : Prop :=
  (∀ (ini : Initiator) (off : Nat) (v : Word) (s : State) (a : Nat) (page : Bool) (h : Hit),
    s.reaches ini off → s.plainWrite ini off v.toNat → s.place off = .regs a page →
    hitsAt a (b2n (s.isSec ini)) = [h] → h.w = 0 → h.f.lo ≤ h.f.hi → h.f.hi < 32 → h.f.own = false → h.f.ordinary →
    s.writeBlocked h v.toNat = false → s.mayWrite ini h.f h.i page = true →
    execNext (.registerWrite ini off v) s fun t =>
      s.changes t [h.f.key h.i h.j] [.resp] ∧ t.done ∧
      t.rd h.f h.i h.j = match h.f.acc with
        | .rw => bits v.toNat h.f.hi h.f.lo
        | .rw1c => s.fld h.f h.i h.j % 2 ^ h.f.width &&& (2 ^ h.f.width - 1 - bits v.toNat h.f.hi h.f.lo)
        | .rw1s => s.fld h.f h.i h.j % 2 ^ h.f.width ||| bits v.toNat h.f.hi h.f.lo
        | _ => s.rd h.f h.i h.j) ∧
  (∀ (ini : Initiator) (off : Nat) (v : Word) (s : State) (a : Nat) (page : Bool) (h : Hit),
    s.reaches ini off → s.plainWrite ini off v.toNat → s.place off = .regs a page →
    hitsAt a (b2n (s.isSec ini)) = [h] → h.f.ordinary → s.mayWrite ini h.f h.i page = false →
    s.wouldAct h v.toNat = true →
    execNext (.registerWrite ini off v) s fun t =>
      s.changes t (lostKey :: aerrKeys (b2n (s.isSec ini))) [.inl, .resp] ∧ t.done ∧
      (s.room 64 → s.raises t [s.ev 64 (unitOf off + 32) (s.tag ini).cove (s.isSec ini)]) ∧
      (s.rd F.RIP_AERR_INFO_VALID (b2n (s.isSec ini)) = 0 →
        t.rd F.RIP_AERR_INFO_KIND (b2n (s.isSec ini)) = 2 ∧ t.rd F.RIP_AERR_INFO_WRITE (b2n (s.isSec ini)) = 1 ∧
        t.rd F.RIP_AERR_INFO_VALID (b2n (s.isSec ini)) = 1) ∧
      (s.rd F.RIP_AERR_INFO_VALID (b2n (s.isSec ini)) = 1 → t.rd F.RIP_AERR_INFO_OVERRUN (b2n (s.isSec ini)) = 1)) ∧
  (∀ (ini : Initiator) (c : Fin 32) (off : Nat) (v : Word) (s : State), (∀ f, ini ≠ .pcie f) → s.issues ini = true →
    off < 0x200000 → s.pageOk ini c = false → s.plainWrite ini (0x8000000 + c * 0x200000 + off) v.toNat →
    execNext (.registerWrite ini (0x8000000 + c * 0x200000 + off) v) s fun t =>
      s.changes t (lostKey :: aerrKeys 0) [.inl, .resp] ∧ t.done ∧
      (s.room 106 → s.raises t [s.ev 106 (s.tag ini).cove c false])) ∧
  (∀ (ini : Initiator) (off : Nat) (size : RegSize) (s : State), s.reaches ini off → s.nvmPlace off = none →
    s.isWide ini (off / 4 * 4) 1 = false →
    execNext (.readToClear ini off size) s fun t =>
      s.changes t (s.rcKeys ini (off / 4 * 4)) [.resp, .hold] ∧
      t.resp = { value := s.wordAt ini (s.place (off / 4 * 4)) / 2 ^ (8 * (off % 4)) % 2 ^ (8 * size.bytes), err := false } ∧
      ∀ a page h, s.place (off / 4 * 4) = .regs a page → hitsAt a (b2n (s.isSec ini)) = [h] → h.f.acc = .rc →
        s.maySee ini h.f page = true → h.f.wmask h.w &&& byteSel (off % 4) size.bytes ≠ 0 → t.rd h.f h.i h.j = 0) ∧
  (∀ (ini : Initiator) (off : Nat) (half : Bool) (v : Word) (s : State), s.reaches ini off →
    execNext (.narrowRegisterWrite ini off half v) s fun t =>
      s.changes t (lostKey :: aerrKeys (b2n (s.isSec ini))) [.inl, .resp] ∧
      (s.room 32 → s.raises t
        [s.ev 32 (2 + 1 + b2n (s.isSec ini) * 32768) (s.tag ini).cove (s.isSec ini)]) ∧
      (s.rd F.RIP_AERR_INFO_VALID (b2n (s.isSec ini)) = 0 →
        t.rd F.RIP_AERR_INFO_KIND (b2n (s.isSec ini)) = 1 ∧
        t.rd F.RIP_AERR_ADDR_ADDR (b2n (s.isSec ini)) = (0xF000000000 + off) % 2 ^ 40)) ∧
  (∀ (ini : Initiator) (k : Nat) (s : State), s.reaches ini (4 * k) → s.nvmPlace (4 * k) = none →
    s.isWide ini (4 * k) 1 = false → s.isWide ini (4 * k + 4) 1 = true → s.seenMask ini (4 * k) ≠ 0 →
    execNext (.lowWordRead ini (4 * k)) s fun t =>
      s.changes t (s.rcKeys ini (4 * k)) [.resp, .hold] ∧
      t.resp = { value := s.wordAt ini (s.place (4 * k)) % 2 ^ 32, err := false } ∧
      t.hold = (ini, 4 * k, s.wordAt ini (s.place (4 * k + 4))) :: s.hold.filter fun e => e.1 != ini) ∧
  (∀ (ini : Initiator) (k hi : Nat) (l : List (Initiator × Nat × Nat)) (s : State), s.reaches ini (4 * k + 4) →
    s.nvmPlace (4 * k + 4) = none → s.isWide ini (4 * k + 4) 1 = true → s.isWide ini (4 * k + 8) 1 = false →
    s.hold = (ini, 4 * k, hi) :: l → s.seenMask ini (4 * k + 4) ≠ 0 →
    execNext (.highWordRead ini (4 * k + 4)) s fun t =>
      s.changes t (s.rcKeys ini (4 * k + 4)) [.resp, .hold] ∧
      t.resp = { value := (hi &&& s.seenMask ini (4 * k + 4)) % 2 ^ 32, err := false } ∧ t.hold = l.filter fun e => e.1 != ini) ∧
  (∀ (ini : Initiator) (k : Nat) (s : State), s.reaches ini (4 * k) → s.nvmPlace (4 * k) = none → s.isWide ini (4 * k) 1 = true →
    (∀ e ∈ s.hold, e.1 = ini → e.2.1 + 4 ≠ 4 * k) →
    execNext (.highWordRead ini (4 * k)) s fun t =>
      s.changes t (s.rcKeys ini (4 * k)) [.resp, .hold] ∧
      t.resp = { value := s.wordAt ini (s.place (4 * k)) % 2 ^ 32, err := false })

/-- R9, R37: an access to an address that nothing occupies reads 0 or is discarded; a write to an unassigned register
offset and every access to an unassigned address is recorded with KIND 0; a read of an unassigned register offset is not. -/
def Obligations.UnassignedAccess : Prop :=
  (∀ (ini : Initiator) (addr : Nat) (write : Bool) (s : State), s.issues ini = true → s.dramBytes ≤ addr → inTarn addr 1 = false →
    addr < 0xF000000000 ∨ 0xF010000000 ≤ addr →
    execNext (.unassignedAccess ini addr write) s fun t =>
      s.changes t (lostKey :: aerrKeys (b2n (s.isSec ini))) [.inl, .resp] ∧ t.resp = { value := 0, err := true } ∧
      (s.room 32 → s.raises t [s.ev 32 (b2n write + b2n (s.isSec ini) * 32768) (s.tag ini).cove (s.isSec ini)])) ∧
  (∀ (ini : Initiator) (off : Nat) (s : State), s.reaches ini off → off < 0x10000000 → s.assigned ini off = false →
    execNext (.unassignedAccess ini (0xF000000000 + off) false) s fun t => s.changes t [] [.resp] ∧ t.done) ∧
  (∀ (ini : Initiator) (off : Nat) (s : State), s.reaches ini off → off < 0x10000000 → s.assigned ini off = false →
    execNext (.unassignedAccess ini (0xF000000000 + off) true) s fun t =>
      s.changes t (lostKey :: aerrKeys (b2n (s.isSec ini))) [.inl, .resp] ∧ t.done ∧
      (s.room 32 → s.raises t [s.ev 32 (1 + b2n (s.isSec ini) * 32768) (s.tag ini).cove (s.isSec ini)]))

/-- R33, R37, R170, R175, R176: a DRAM access that lies in installed DRAM and that every owner entry allows reads or writes exactly
its bytes; a hart's line that hits in its L1 is read without any check; a denied access reads and writes nothing and answers an
error, and the first denied page is recorded in SHOR_DENY and raises event 68. -/
def Obligations.DramAccess : Prop :=
  (∀ (src : Source) (addr : Nat) (l : List Byte) (s : State), s.srcIssues src = true → usesCpa src = false → (∀ h, src ≠ .ini (.hart h)) →
    addr + l.length ≤ tarnBase → addr + l.length ≤ s.dramBytes → s.fab.isolated = [] →
    (∀ p, addr / 65536 ≤ p → p ≤ (addr + l.length - 1) / 65536 → shorAllows (s.shorEntry p) (s.srcTag src) true = true) →
    execNext (.dramAccess src addr l.length (some l) false) s fun t =>
      s.changes t [] [.dram, .res, .resp] ∧ memRead t.dram addr l.length = l ∧
      (∀ b n, b + n ≤ addr ∨ addr + l.length ≤ b → memRead t.dram b n = memRead s.dram b n) ∧ t.done) ∧
  (∀ (src : Source) (addr len : Nat) (s : State), s.srcIssues src = true → usesCpa src = false → (∀ h, src ≠ .ini (.hart h)) →
    addr + len ≤ tarnBase → addr + len ≤ s.dramBytes → s.fab.isolated = [] → s.res.poison = [] →
    (∀ p, addr / 65536 ≤ p → p ≤ (addr + len - 1) / 65536 → shorAllows (s.shorEntry p) (s.srcTag src) false = true) →
    execNext (.dramAccess src addr len none false) s fun t =>
      s.changes t [] [.resp] ∧ t.resp = { value := ofLe (memRead s.dram addr len), err := false }) ∧
  (∀ (c : Fin 32) (q : Fin 64) (addr : Nat) (l : List Byte) (s : State), s.srcIssues (.queue c q) = true →
    s.bareOk c addr l.length true →
    execNext (.dramAccess (.queue c q) addr l.length (some l) false) s fun t =>
      s.changes t [] [.dram, .res, .resp] ∧ memRead t.dram addr l.length = l ∧
      (∀ b n, b + n ≤ addr ∨ addr + l.length ≤ b → memRead t.dram b n = memRead s.dram b n) ∧ t.done) ∧
  (∀ (c : Fin 32) (q : Fin 64) (addr len : Nat) (s : State), s.srcIssues (.queue c q) = true → s.bareOk c addr len false →
    execNext (.dramAccess (.queue c q) addr len none false) s fun t =>
      s.changes t [] [.resp] ∧ t.resp = { value := ofLe (memRead s.dram addr len), err := false }) ∧
  (∀ (h : Fin 8) (addr len : Nat) (s : State), s.issues (.hart h) = true → 0 < len →
    s.coreHit h (s.tag (.hart h)) false (linesOf addr len) = true →
    execNext (.dramAccess (.ini (.hart h)) addr len none false) s fun t =>
      s.changes t [] [.resp] ∧ t.resp = { value := ofLe (memRead s.dram addr len), err := false }) ∧
  (∀ (src : Source) (addr len : Nat) (s : State), s.srcIssues src = true → usesCpa src = false →
    (∀ h, src = .ini (.hart h) → s.coreHit h (s.srcTag src) false (linesOf addr len) = false) →
    0 < len → addr + len ≤ tarnBase → addr + len ≤ s.dramBytes →
    shorAllows (s.shorEntry (addr / 65536)) (s.srcTag src) false = false → s.rd F.SHOR_DENY_INFO_VALID = 0 →
    execNext (.dramAccess src addr len none false) s fun t =>
      t.dram = s.dram ∧ t.resp = { value := 0, err := true } ∧ t.rd F.SHOR_DENY_INFO_VALID = 1 ∧
      t.rd F.SHOR_DENY_INFO_STATE = s.shorEntry (addr / 65536) % 8 ∧ t.rd F.SHOR_DENY_INFO_WRITE = 0 ∧
      (s.room 68 → s.raises t
        [s.ev 68 (s.shorEntry (addr / 65536) % 8) (s.srcTag src).cove (s.srcTag src).secure])) ∧
  (∀ (src : Source) (addr : Nat) (l : List Byte) (s : State), s.srcIssues src = true → usesCpa src = false →
    (∀ h, src = .ini (.hart h) → s.coreHit h (s.srcTag src) true (linesOf addr l.length) = false) →
    l ≠ [] → addr + l.length ≤ tarnBase → addr + l.length ≤ s.dramBytes →
    shorAllows (s.shorEntry (addr / 65536)) (s.srcTag src) true = false →
    execNext (.dramAccess src addr l.length (some l) false) s fun t =>
      t.dram = s.dram ∧ t.resp = { value := 0, err := true })

/-! ### Fabric: arbiters, cells, requests, the fault log and the regions (01.3, 05.2 to 05.5, 07.5) -/

/-- The keys of the grant of arbiter `n`. -/
def arbKeys (n : Nat) : List Nat :=
  [F.RIP_ARB_STAT_MASKED.key n 0, F.RIP_ARB_STAT_OWNER.key n 0, F.RIP_ARB_STAT_BUSY.key n 0]

/-- R17, R132, R133, R134, R135, R136: an arbitration phase grants the highest-numbered unmasked request, or nobody; Outlet engine k
asks a bank's arbiter at input 12 + k; a frozen arbiter keeps its grant; a masked owner loses it; a FREEZE write by the secure world
acts unless the bank still holds a named granule, and any other world's is denied. -/
def Obligations.Arbiters : Prop :=
  (∀ (n : Fin 289) (reqs ready : List Requester) (w m : Nat) (s : State), s.rd F.RIP_ARB_CTRL_FREEZE n.val = 0 →
    m = clearMask 24 (s.rd F.RIP_ARB_STAT_MASKED n.val) (arbMask n.val ready) →
    w < arbInputs n.val → (arbMask n.val reqs).testBit w = true → (m ||| s.sideMask n.val).testBit w = false →
    (∀ v, w < v → v < arbInputs n.val → (arbMask n.val reqs).testBit v = true → (m ||| s.sideMask n.val).testBit v = true) →
    execNext (.arbitrationPhase n reqs ready) s fun t =>
      s.changes t (arbKeys n.val) [] ∧ t.rd F.RIP_ARB_STAT_OWNER n.val = w ∧ t.rd F.RIP_ARB_STAT_BUSY n.val = 1 ∧
      t.rd F.RIP_ARB_STAT_MASKED n.val = m) ∧
  (∀ (n : Fin 289) (reqs ready : List Requester) (m : Nat) (s : State), s.rd F.RIP_ARB_CTRL_FREEZE n.val = 0 →
    m = clearMask 24 (s.rd F.RIP_ARB_STAT_MASKED n.val) (arbMask n.val ready) →
    (∀ v, v < arbInputs n.val → (arbMask n.val reqs).testBit v = true → (m ||| s.sideMask n.val).testBit v = true) →
    execNext (.arbitrationPhase n reqs ready) s fun t =>
      s.changes t (arbKeys n.val) [] ∧ t.rd F.RIP_ARB_STAT_OWNER n.val = 0x1F ∧ t.rd F.RIP_ARB_STAT_BUSY n.val = 0) ∧
  (∀ (n : Fin 289) (k : Fin 12) (s : State), n.val < 264 → s.rd F.RIP_ARB_CTRL_FREEZE n.val = 0 →
    (s.rd F.RIP_ARB_STAT_MASKED n.val).testBit (12 + k.val) = false →
    execNext (.arbitrationPhase n [.dredge, .portage, .outlet k] []) s fun t =>
      t.rd F.RIP_ARB_STAT_OWNER n.val = 12 + k.val ∧ t.rd F.RIP_ARB_STAT_BUSY n.val = 1) ∧
  (∀ (n : Fin 289) (reqs ready : List Requester) (s : State), s.rd F.RIP_ARB_CTRL_FREEZE n.val = 1 →
    execNext (.arbitrationPhase n reqs ready) s fun t =>
      s.changes t [F.RIP_ARB_STAT_MASKED.key n.val 0] [] ∧
      t.rd F.RIP_ARB_STAT_MASKED n.val = clearMask 24 (s.rd F.RIP_ARB_STAT_MASKED n.val) (arbMask n.val ready)) ∧
  (∀ (n : Fin 289) (input : Fin 24) (s : State), input.val < arbInputs n.val →
    execNext (.requesterMasked n input) s fun t =>
      s.changes t (arbKeys n.val) [] ∧
      t.rd F.RIP_ARB_STAT_MASKED n.val = s.rd F.RIP_ARB_STAT_MASKED n.val ||| 2 ^ input.val ∧
      (s.rd F.RIP_ARB_STAT_BUSY n.val = 1 ∧ s.rd F.RIP_ARB_STAT_OWNER n.val = input.val →
        t.rd F.RIP_ARB_STAT_OWNER n.val = 0x1F ∧ t.rd F.RIP_ARB_STAT_BUSY n.val = 0) ∧
      (s.rd F.RIP_ARB_STAT_OWNER n.val ≠ input.val → (s.arbMasked n.val).testBit (s.rd F.RIP_ARB_STAT_OWNER n.val) = false →
        t.rd F.RIP_ARB_STAT_OWNER n.val = s.rd F.RIP_ARB_STAT_OWNER n.val ∧
        t.rd F.RIP_ARB_STAT_BUSY n.val = s.rd F.RIP_ARB_STAT_BUSY n.val)) ∧
  (∀ (ini : Initiator) (n : Fin 289) (v : Word) (s : State), s.onBus ini → s.isSec ini = true →
    execNext (.arbiterFreezeWrite ini n v) s fun t =>
      s.changes t [F.RIP_ARB_CTRL_FREEZE.key n.val 0, F.RIP_ARB_STAT_FREEZE_REFUSED.key n.val 0] [.resp] ∧ t.done ∧
      (v.toNat % 2 = 0 → t.rd F.RIP_ARB_CTRL_FREEZE n.val = 0) ∧
      (v.toNat % 2 = 1 → s.bankHeld n.val = false → t.rd F.RIP_ARB_CTRL_FREEZE n.val = 1) ∧
      (v.toNat % 2 = 1 → s.bankHeld n.val = true → t.rd F.RIP_ARB_STAT_FREEZE_REFUSED n.val = 1 ∧
        t.rd F.RIP_ARB_CTRL_FREEZE n.val = s.rd F.RIP_ARB_CTRL_FREEZE n.val)) ∧
  (∀ (ini : Initiator) (n : Fin 289) (v : Word) (s : State), s.onBus ini → s.isSec ini = false →
    v.toNat % 2 ≠ s.rd F.RIP_ARB_CTRL_FREEZE n.val → s.room 64 →
    execNext (.arbiterFreezeWrite ini n v) s fun t =>
      s.changes t (lostKey :: aerrKeys 0) [.inl, .resp] ∧ t.done ∧ s.raises t [s.ev 64 (1 + 32) (s.tag ini).cove false])

/-- R20, R127, R129, R139, R203: a stall within the limit changes nothing and a longer one is logged, marks the block and
raises event 33; retries are logged and a fourth failure raises event 34; a request without a response for 2 ms ends with
an error; a late response is counted; a pop removes the log's head for the secure world only. -/
def Obligations.CellsAndRequests : Prop :=
  (∀ (b : BlockId) (w : Source) (us : Nat) (s : State), us ≤ max (s.rd F.RIP_RGN_CFG_STALL_US (regionOf b)) 1 →
    execNext (.cellStall b w us) s fun t => t = s) ∧
  (∀ (b : BlockId) (w : Source) (us : Nat) (s : State), max (s.rd F.RIP_RGN_CFG_STALL_US (regionOf b)) 1 < us →
    s.fab.flog.length < 64 → s.isIsolated b = false → s.room 33 →
    execNext (.cellStall b w us) s fun t =>
      s.changes t [lostKey] [.fab, .inl] ∧ t.fab.flog = s.fab.flog ++ [s.flogEntry 0 0 0 (regionOf b) b (s.srcTag w)] ∧
      b ∈ t.fab.faulted ∧
      s.raises t [s.ev 33 (b.inst.val + b.unit.val * 512) (s.srcTag w).cove (s.srcTag w).secure]) ∧
  (∀ (b : BlockId) (w : Source) (ue : Bool) (fails : Nat) (s : State), 1 ≤ fails → fails ≤ 3 → s.fab.flog.length < 64 →
    execNext (.transferError b w ue fails) s fun t =>
      s.changes t [] [.fab] ∧ t.fab.faulted = s.fab.faulted ∧ t.fab.isolated = s.fab.isolated ∧
      t.fab.flog = s.fab.flog ++ [s.flogEntry 1 1 (if ue then 2 else 1) (regionOf b) b (s.srcTag w)]) ∧
  (∀ (b : BlockId) (w : Source) (ue : Bool) (fails : Nat) (s : State), 4 ≤ fails → s.fab.flog.length < 64 →
    s.isIsolated b = false → s.room 34 →
    execNext (.transferError b w ue fails) s fun t =>
      s.changes t [lostKey] [.fab, .inl] ∧ t.fab.flog = s.fab.flog ++ [s.flogEntry 1 1 3 (regionOf b) b (s.srcTag w)] ∧
      b ∈ t.fab.faulted ∧
      s.raises t [s.ev 34 (b.inst.val + b.unit.val * 512) (s.srcTag w).cove (s.srcTag w).secure]) ∧
  (∀ (src : Source) (addr us : Nat) (write : Bool) (s : State), 2000 ≤ us →
    execNext (.requestTimeout src addr write us) s fun t =>
      s.changes t (lostKey :: aerrKeys (b2n (s.srcTag src).secure)) [.fab, .inl, .resp] ∧ t.resp = { value := 0, err := true } ∧
      t.fab = { s.fab with timedOut := s.fab.timedOut ++ [((s.srcTag src).cove, s.elapsed)] } ∧
      (s.room 32 → s.raises t
        [s.ev 32 (6 + b2n write + b2n (s.srcTag src).secure * 32768) (s.srcTag src).cove (s.srcTag src).secure])) ∧
  (∀ (c : Fin 32) (s : State),
    execNext (.lateResponse c) s fun t =>
      s.changes t [F.COVE_DISCARD_COUNT.key c.val 0] [.fab] ∧
      t.rd F.COVE_DISCARD_COUNT c.val = (s.rd F.COVE_DISCARD_COUNT c.val + 1) % 2 ^ F.COVE_DISCARD_COUNT.width) ∧
  (∀ (ini : Initiator) (s : State), s.onBus ini → s.isSec ini = true →
    execNext (.flogPop ini) s fun t =>
      s.changes t [] [.fab, .resp] ∧ t.done ∧ t.fab = { s.fab with flog := s.fab.flog.tail }) ∧
  (∀ (ini : Initiator) (s : State), s.onBus ini → s.isSec ini = false → s.room 64 →
    execNext (.flogPop ini) s fun t =>
      s.changes t (lostKey :: aerrKeys 0) [.inl, .resp] ∧ t.done ∧ s.raises t [s.ev 64 (1 + 32) (s.tag ini).cove false])

/-- R18, R137, R197, R198, R200, R221: a visit of the Memory or Sense arbiter admits a request that the deficit and a slot allow,
charges it and counts it in the cove's held slots; a cost beyond the deficit admits nothing, the request waits and the deficit grows
by share times quantum; a cove whose queues do not admit gets nothing; a secure request takes a secure slot; a visit of the Display
and the Graphics arbiter gives a waiting layer job and a waiting dispatch their slots; completed work frees the slot that it took. -/
def Obligations.RegionVisits : Prop :=
  (∀ (r : ShareRegion) (c : Fin 32) (q : RegionReq) (s : State), r = .memory ∨ r = .sense → s.fab.waiting = [] →
    s.fab.secWaiting = [] → s.admits c.val = true → s.overShare r c.val = false → s.share r c.val ≠ 0 → s.slotFor r c.val = true →
    s.memFull r q = false → (ceilDiv q.bytes 64 : Int) ≤ s.deficit r c.val + s.share r c.val * s.quantum r →
    execNext (.regionVisit r [(c, q)] []) s fun t =>
      s.changes t [(srHold r).key c.val 0] [.fab, .resp] ∧ t.resp = { value := 1, err := false } ∧
      t.held r c.val = (s.held r c.val + 1) % 2 ^ (srHold r).width ∧ t.fab.waiting = []) ∧
  (∀ (r : ShareRegion) (c : Fin 32) (q : RegionReq) (s : State), r = .memory ∨ r = .sense → s.fab.waiting = [] →
    s.fab.secWaiting = [] → s.admits c.val = true → s.overShare r c.val = false → s.share r c.val ≠ 0 →
    s.memFull r q = false → s.deficit r c.val + s.share r c.val * s.quantum r < (ceilDiv q.bytes 64 : Int) →
    execNext (.regionVisit r [(c, q)] []) s fun t =>
      s.changes t [] [.fab, .resp] ∧ t.resp = { value := 0, err := false } ∧ t.fab.waiting = [(srIx r, c.val, q)] ∧
      (c.val < (nth s.fab.deficit (srIx r) []).length → srIx r < s.fab.deficit.length →
        t.deficit r c.val = s.deficit r c.val + s.share r c.val * s.quantum r)) ∧
  (∀ (r : ShareRegion) (c : Fin 32) (q : RegionReq) (s : State), r = .memory ∨ r = .sense → s.fab.waiting = [] →
    s.fab.secWaiting = [] → s.admits c.val = false ∨ s.overShare r c.val = true →
    execNext (.regionVisit r [(c, q)] []) s fun t =>
      s.changes t [] [.fab, .resp] ∧ t.resp = { value := 0, err := false } ∧ t.fab.waiting = [(srIx r, c.val, q)]) ∧
  (∀ (r : ShareRegion) (q : RegionReq) (s : State), r = .memory ∨ r = .sense → s.fab.waiting = [] → s.fab.secWaiting = [] →
    s.memFull r q = false → nth s.fab.secSlots (srIx r) 0 < 8 →
    execNext (.regionVisit r [] [q]) s fun t =>
      s.changes t [] [.fab, .resp] ∧ t.fab.secWaiting = [] ∧ t.fab.secPool = s.fab.secPool ∧
      t.fab.secSlots = s.fab.secSlots.modify (srIx r) (· + 1)) ∧
  (∀ (c : Fin 32) (w : WaitingJob) (s : State), s.waitingJobs = [w] → w.job.cove = some c.val → s.admits c.val = true →
    s.overShare .display c.val = false → s.share .display c.val ≠ 0 → s.slotFor .display c.val = true →
    (w.job.cost : Int) ≤ s.deficit .display c.val + s.share .display c.val * s.quantum .display →
    execNext (.regionVisit .display [] []) s fun t =>
      s.changes t [F.COVE_HOLD_DISP.key c.val 0] [.fab, .bas, .resp] ∧ t.resp = { value := 1, err := false } ∧
      t.held .display c.val = (s.held .display c.val + 1) % 2 ^ F.COVE_HOLD_DISP.width ∧
      t.bas = (s.jobTakes .cove w).bas) ∧
  (∀ (c : Fin 32) (s : State), s.lochCosts c.val = [1] → (∀ d, d ≠ c.val → s.lochCosts d = []) → s.admits c.val = true →
    s.overShare .graphics c.val = false → s.share .graphics c.val ≠ 0 → s.slotFor .graphics c.val = true →
    (1 : Int) ≤ s.deficit .graphics c.val + s.share .graphics c.val * s.quantum .graphics →
    execNext (.regionVisit .graphics [] []) s fun t =>
      s.changes t [F.COVE_HOLD_GFX.key c.val 0] [.fab, .loch, .resp] ∧ t.resp = { value := 1, err := false } ∧
      t.held .graphics c.val = (s.held .graphics c.val + 1) % 2 ^ F.COVE_HOLD_GFX.width ∧
      t.loch = (s.lochAdmit c.val).loch) ∧
  (∀ (r : ShareRegion) (c : Fin 32) (s : State), r = .memory ∨ r = .sense → s.overShare r c.val = false →
    0 < s.held r c.val →
    execNext (.regionSlotRelease r c .cove) s fun t =>
      s.changes t [(srHold r).key c.val 0] [] ∧ t.held r c.val = s.held r c.val - 1) ∧
  (∀ (r : ShareRegion) (c : Fin 32) (s : State), r = .memory ∨ r = .sense → s.overShare r c.val = true → 0 < s.held r c.val →
    s.held r c.val ≤ s.entitled r c.val → s.room 99 →
    execNext (.regionSlotRelease r c .cove) s fun t =>
      t.held r c.val = s.held r c.val - 1 ∧ t.overShare r c.val = false ∧ s.raises t [s.ev 99 (srIx r) c.val false]) ∧
  (∀ (r : ShareRegion) (c : Fin 32) (s : State), r = .memory ∨ r = .sense →
    execNext (.regionSlotRelease r c .secure) s fun t =>
      s.changes t [] [.fab] ∧ t.fab = { s.fab with secSlots := s.fab.secSlots.modify (srIx r) (· - 1) }) ∧
  (∀ (r : ShareRegion) (c : Fin 32) (s : State), r = .memory ∨ r = .sense →
    execNext (.regionSlotRelease r c .securePool) s fun t =>
      s.changes t [] [.fab] ∧ t.fab = { s.fab with secPool := s.fab.secPool.modify (srIx r) (· - 1) }) ∧
  (∀ (r : ShareRegion) (c : Fin 32) (k : SlotKind) (s : State), r = .display ∨ r = .graphics →
    execNext (.regionSlotRelease r c k) s fun t => t = s)

/-- R20, R21, R139, R140, R142: a raised Spillway sets its region's PENDING bit with event 37; a CLEAR by the secure world
drops it; a CONFIRM, or 1 ms without an answer, declares chip safe state and drops SAFE_OK; a fault of a block without a
spare isolates it with event 35 and raises its region's Spillway; a failed lockstep pair is held in reset. -/
def Obligations.Spillway : Prop :=
  (∀ (r : Fin 7) (b : BlockId) (kind : Fin 6) (w : Source) (s : State), s.safe = false →
    (s.rd F.RIP_SPILL_STAT_PENDING).testBit r.val = false → s.room 37 →
    execNext (.spillRaised r b kind w) s fun t =>
      s.changes t [F.RIP_SPILL_STAT_PENDING.key 0 0, F.RIP_FLOG_STAT_OVERFLOW.key 0 0, lostKey] [.fab, .inl, .sent] ∧
      t.rd F.RIP_SPILL_STAT_PENDING = s.rd F.RIP_SPILL_STAT_PENDING + 2 ^ r.val ∧ t.sent = .spillLine r.val :: s.sent ∧ s.raises t [s.ev 37 r.val 0 false] ∧
      t.fab.spillStart = s.fab.spillStart.set r.val s.elapsed) ∧
  (∀ (ini : Initiator) (r : Fin 8) (s : State), s.onBus ini → s.isSec ini = true → s.safe = false →
    r.val < 7 → r.val ≠ 5 → (s.rd F.RIP_SPILL_STAT_PENDING).testBit r.val = true →
    execNext (.spillClear ini r) s fun t =>
      s.changes t [F.RIP_SPILL_STAT_PENDING.key 0 0] [.resp] ∧ t.done ∧
      t.rd F.RIP_SPILL_STAT_PENDING = s.rd F.RIP_SPILL_STAT_PENDING - 2 ^ r.val) ∧
  (∀ (ini : Initiator) (s : State), s.onBus ini → s.isSec ini = true → s.safe = false →
    execNext (.spillConfirm ini) s fun t =>
      t.rd F.RIP_SPILL_STAT_SAFE = 1 ∧ t.rd F.RIP_SPILL_STAT_BY_TIMEOUT = 0 ∧ t.pins.safeOk = false ∧
      t.dram = s.dram ∧ t.mram = s.mram) ∧
  (∀ (r : Fin 7) (s : State), s.safe = false → (s.rd F.RIP_SPILL_STAT_PENDING).testBit r.val = true →
    nth s.fab.spillStart r.val 0 + 1000000 ≤ s.elapsed →
    execNext (.spillTimeout r) s fun t =>
      t.rd F.RIP_SPILL_STAT_SAFE = 1 ∧ t.rd F.RIP_SPILL_STAT_BY_TIMEOUT = 1 ∧ t.pins.safeOk = false ∧
      t.dram = s.dram ∧ t.mram = s.mram) ∧
  (∀ (b : BlockId) (w : Source) (kind : Fin 6) (s : State), s.isIsolated b = false → 14 ≤ b.unit.val → s.safe = false →
    (s.rd F.RIP_SPILL_STAT_PENDING).testBit (regionOf b) = false → s.room 35 → s.room 37 →
    execNext (.blockFaulted b w kind false) s fun t =>
      s.changes t [F.RIP_SPILL_STAT_PENDING.key 0 0, F.RIP_FLOG_STAT_OVERFLOW.key 0 0, lostKey] [.fab, .inl, .drg, .sent] ∧
      t.fab.isolated = s.fab.isolated ++ [b] ∧
      t.rd F.RIP_SPILL_STAT_PENDING = s.rd F.RIP_SPILL_STAT_PENDING + 2 ^ regionOf b ∧
      s.raises t
        [s.ev 35 (b.inst.val + b.unit.val * 512) (s.srcTag w).cove (s.srcTag w).secure, s.ev 37 (regionOf b) 0 false]) ∧
  (∀ (k : Fin 2) (s : State), nth s.fab.pairReset k.val false = false → s.safe = false →
    (s.rd F.RIP_SPILL_STAT_PENDING).testBit 2 = false →
    execNext (.lockstepCompareFailure k) s fun t =>
      t.fab.pairReset = s.fab.pairReset.set k.val true ∧ t.rd F.RIP_SPILL_STAT_PENDING = s.rd F.RIP_SPILL_STAT_PENDING + 4 ∧
      t.dram = s.dram ∧ t.bas = s.bas ∧ t.host = s.host)

/-! ### Inlet and the timebase (05.6 to 05.9) -/

/-- R144: with several raises waiting, the capture arbiter grants the highest source. -/
def Obligations.CaptureOrder : Prop :=
  ∀ (l : List EvRaise) (e : EvRaise), nextGrant l = some e → e ∈ l ∧ ∀ x ∈ l, x.src ≤ e.src

/-- R144 to R150: a capture takes the granted raise out of Inlet; a disabled route discards it, a closed gate counts it, a
secure ring with room stores its 16-byte record at PROD and a full ring loses it and raises event 40 once; a record of a cove whose
mask bit is 0 is discarded, and one of an earlier generation is counted. -/
def Obligations.EventCapture : Prop :=
  (∀ (s : State), s.inl.awaiting = [] → execNext .eventCapture s fun t => t = s) ∧
  (∀ (e : EvRaise) (s : State), s.inl.awaiting = [e] → s.rd F.INL_ROUTE_EN e.src = 0 →
    execNext .eventCapture s fun t => s.changes t [] [.inl] ∧ t.inl = { s.inl with awaiting := [] }) ∧
  (∀ (e : EvRaise) (s : State), s.inl.awaiting = [e] → s.rd F.INL_ROUTE_EN e.src = 1 → s.rd F.INL_ROUTE_DEST e.src ≠ 7 →
    e.src ≠ 12 → s.rd F.INL_ROUTE_GATE e.src = 1 → s.inWindow (s.rd F.INL_ROUTE_WIN e.src) s.tbs.now = false →
    execNext .eventCapture s fun t =>
      s.changes t [F.INL_GATED_CNT_COUNT.key 0 0] [.inl] ∧ t.inl = { s.inl with awaiting := [] } ∧
      t.rd F.INL_GATED_CNT_COUNT = (s.rd F.INL_GATED_CNT_COUNT + 1) % 2 ^ 32) ∧
  (∀ (e : EvRaise) (s : State), s.inl.awaiting = [e] → s.rd F.INL_ROUTE_EN e.src = 1 → s.rd F.INL_ROUTE_DEST e.src = 0 →
    e.src ≠ 12 → s.rd F.INL_ROUTE_GATE e.src = 0 →
    used32 (s.rd F.INL_SRING_PROD_PROD 0) (s.rd F.INL_SRING_CONS_CONS 0) < 256 →
    execNext .eventCapture s fun t =>
      s.changes t [F.INL_SRING_PROD_PROD.key 0 0] [.inl, .ram] ∧ t.inl.awaiting = [] ∧
      t.rd F.INL_SRING_PROD_PROD 0 = (s.rd F.INL_SRING_PROD_PROD 0 + 1) % 2 ^ 32 ∧
      memRead t.ram (0x204000 + 16 * (s.rd F.INL_SRING_PROD_PROD 0 % 256)) 16 =
        recordBytes e s.tbs.now (s.ring 0).afterLoss ∧
      ∀ a n, a + n ≤ 0x204000 + 16 * (s.rd F.INL_SRING_PROD_PROD 0 % 256) ∨
        0x204000 + 16 * (s.rd F.INL_SRING_PROD_PROD 0 % 256) + 16 ≤ a → memRead t.ram a n = memRead s.ram a n) ∧
  (∀ (e : EvRaise) (s : State), s.inl.awaiting = [e] → e.src ≠ 40 → s.rd F.INL_ROUTE_EN e.src = 1 →
    s.rd F.INL_ROUTE_DEST e.src = 0 → e.src ≠ 12 → s.rd F.INL_ROUTE_GATE e.src = 0 →
    256 ≤ used32 (s.rd F.INL_SRING_PROD_PROD 0) (s.rd F.INL_SRING_CONS_CONS 0) → (s.ring 0).episode = false →
    execNext .eventCapture s fun t =>
      s.changes t [F.INL_SRING_LOST_LOST.key 0 0, lostKey] [.inl] ∧ t.inl.awaiting = [s.ev 40 0 0 false] ∧
      t.rd F.INL_SRING_LOST_LOST 0 = (s.rd F.INL_SRING_LOST_LOST 0 + 1) % 2 ^ 32) ∧
  (∀ (e : EvRaise) (s : State), s.inl.awaiting = [e] → s.rd F.INL_ROUTE_EN e.src = 1 → s.rd F.INL_ROUTE_DEST e.src = 3 →
    e.src ≠ 12 → s.rd F.INL_ROUTE_GATE e.src = 0 → e.cove ≠ 0 →
    (s.rd F.COVE_EVT_MASK_MASK e.cove (e.src / 32)).testBit (e.src % 32) = false →
    execNext .eventCapture s fun t => s.changes t [] [.inl] ∧ t.inl = { s.inl with awaiting := [] }) ∧
  (∀ (e : EvRaise) (s : State), s.inl.awaiting = [e] → s.rd F.INL_ROUTE_EN e.src = 1 → s.rd F.INL_ROUTE_DEST e.src = 3 →
    e.src ≠ 12 → s.rd F.INL_ROUTE_GATE e.src = 0 → e.cove ≠ 0 →
    (s.rd F.COVE_EVT_MASK_MASK e.cove (e.src / 32)).testBit (e.src % 32) = true → e.gen ≠ s.gen e.cove →
    execNext .eventCapture s fun t =>
      s.changes t [F.COVE_DISCARD_COUNT.key e.cove 0] [.inl] ∧ t.inl = { s.inl with awaiting := [] } ∧
      t.rd F.COVE_DISCARD_COUNT e.cove = (s.rd F.COVE_DISCARD_COUNT e.cove + 1) % 2 ^ F.COVE_DISCARD_COUNT.width)

/-- R146, R147, R149, R163: routes are written whole by the secure world, a locked route refuses the normal world with event 64; a
consumer's write of CONS, and a doorbell that HOLDOFF has delayed. -/
def Obligations.RoutesAndRings : Prop :=
  (∀ (ini : Initiator) (n : Fin 512) (v : Word) (s : State), s.onBus ini → s.isSec ini = true → routeFixed n.val = false →
    execNext (.routeWrite ini n v) s fun t =>
      s.changes t [F.INL_ROUTE_EN.key n.val 0, F.INL_ROUTE_DEST.key n.val 0, F.INL_ROUTE_WIN.key n.val 0,
        F.INL_ROUTE_GATE.key n.val 0, F.INL_ROUTE_LOCK.key n.val 0] [.resp] ∧ t.done ∧
      t.rd F.INL_ROUTE_EN n.val = v.toNat % 2 ∧ t.rd F.INL_ROUTE_DEST n.val = v.toNat / 2 % 8 ∧
      t.rd F.INL_ROUTE_WIN n.val = v.toNat / 16 % 8 ∧ t.rd F.INL_ROUTE_GATE n.val = v.toNat / 128 % 4 ∧
      t.rd F.INL_ROUTE_LOCK n.val = v.toNat / 2 ^ 30 % 2) ∧
  (∀ (ini : Initiator) (n : Fin 512) (v : Word) (s : State), s.onBus ini → s.isSec ini = true → routeFixed n.val = true →
    execNext (.routeWrite ini n v) s fun t =>
      s.changes t [F.INL_ROUTE_EN.key n.val 0, F.INL_ROUTE_WIN.key n.val 0, F.INL_ROUTE_GATE.key n.val 0] [.resp] ∧ t.done ∧
      t.rd F.INL_ROUTE_EN n.val = v.toNat % 2) ∧
  (∀ (ini : Initiator) (n : Fin 512) (v : Word) (s : State), s.onBus ini → s.isSec ini = false → s.rd F.INL_ROUTE_LOCK n.val = 1 →
    s.room 64 →
    execNext (.routeWrite ini n v) s fun t =>
      s.changes t (lostKey :: aerrKeys 0) [.inl, .resp] ∧ t.done ∧ s.raises t [s.ev 64 (2 + 32) (s.tag ini).cove false]) ∧
  (∀ (ini : Initiator) (n : Fin 512) (v : Word) (s : State), s.onBus ini → s.isSec ini = false → s.rd F.INL_ROUTE_LOCK n.val = 0 →
    routeFixed n.val = false → v.toNat / 2 % 8 = 2 ∨ v.toNat / 2 % 8 = 3 ∨ v.toNat / 2 % 8 = 4 ∨ v.toNat / 2 % 8 = 5 →
    v.toNat / 128 % 4 = 0 → v.toNat / 2 ^ 30 % 2 = 0 →
    execNext (.routeWrite ini n v) s fun t =>
      s.changes t [F.INL_ROUTE_EN.key n.val 0, F.INL_ROUTE_DEST.key n.val 0, F.INL_ROUTE_WIN.key n.val 0,
        F.INL_ROUTE_GATE.key n.val 0] [.resp] ∧ t.done ∧
      t.rd F.INL_ROUTE_EN n.val = v.toNat % 2 ∧ t.rd F.INL_ROUTE_DEST n.val = v.toNat / 2 % 8) ∧
  (∀ (ini : Initiator) (k : Fin 2) (v : Word) (s : State), s.onBus ini → s.isSec ini = true →
    execNext (.ringConsWrite ini (.sring k) v) s fun t =>
      s.changes t [F.INL_SRING_CONS_CONS.key k.val 0] [.inl, .resp] ∧ t.done ∧ t.inl.awaiting = s.inl.awaiting ∧
      t.rd F.INL_SRING_CONS_CONS k.val = v.toNat) ∧
  (∀ (ini : Initiator) (v : Word) (s : State), s.onBus ini → v.toNat = s.rd F.INL_WRING_PROD_COUNT →
    execNext (.ringConsWrite ini .warden v) s fun t =>
      s.changes t [F.INL_WRING_CONS_COUNT.key 0 0] [.inl, .resp] ∧ t.done ∧ t.rd F.INL_WRING_CONS_COUNT = v.toNat) ∧
  (∀ (ini : Initiator) (v : Word) (s : State), s.onBus ini → s.isSec ini = true →
    execNext (.ringConsWrite ini .recorder v) s fun t =>
      s.changes t [F.POOL_REC_CONS_COUNT.key 0 0] [.pool, .resp] ∧ t.done ∧ t.rd F.POOL_REC_CONS_COUNT = v.toNat) ∧
  (∀ (ini : Initiator) (v : Word) (s : State), s.onBus ini → s.isSec ini = true →
    execNext (.ringConsWrite ini .shaSecure v) s fun t =>
      s.changes t [F.SHA_SRING_CONS_COUNT.key 0 0] [.sha, .resp] ∧ t.done ∧ t.rd F.SHA_SRING_CONS_COUNT = v.toNat) ∧
  (∀ (ini : Initiator) (c : Fin 32) (v : Word) (s : State), s.issues ini = true → c.val ≠ 0 → s.pageOk ini c.val = true →
    v.toNat = s.rd F.COVE_EVT_PROD_COUNT c.val →
    execNext (.ringConsWrite ini (.cove c) v) s fun t =>
      s.changes t [F.COVE_EVT_CONS_COUNT.key c.val 0] [.inl, .resp] ∧ t.done ∧ t.rd F.COVE_EVT_CONS_COUNT c.val = v.toNat) ∧
  (∀ (ini : Initiator) (c : Fin 32) (v : Word) (s : State), s.issues ini = true → s.pageOk ini c.val = true →
    execNext (.ringConsWrite ini (.shaCove c) v) s fun t =>
      s.changes t [F.SHA_RING_CONS_COUNT.key c.val 0] [.sha, .resp] ∧ t.done ∧ t.rd F.SHA_RING_CONS_COUNT c.val = v.toNat) ∧
  (∀ (s : State), (s.ring 2).deferred = false → execNext (.doorbellHoldoff .warden) s fun t => t = s) ∧
  (∀ (s : State), (s.ring 2).deferred = true → s.holdoffOver 2 = true →
    execNext (.doorbellHoldoff .warden) s fun t =>
      s.changes t [] [.inl, .sent] ∧ t.inl.awaiting = s.inl.awaiting ∧
      t.sent = .msi (s.rd F.INL_WRING_DOOR_HART) 0 (s.rd F.INL_WRING_DOOR_IDENTITY) :: s.sent) ∧
  (∀ (c : Fin 32) (s : State), c.val ≠ 0 → (s.cove c.val).ext = false → (s.ring (3 + c.val)).deferred = true →
    s.holdoffOver (3 + c.val) = true →
    execNext (.doorbellHoldoff (.cove c)) s fun t =>
      s.changes t [] [.inl, .sent] ∧ t.inl.awaiting = s.inl.awaiting ∧
      t.sent = .msi (s.rd F.INL_COVE_DOOR_HART c.val) (s.rd F.INL_COVE_DOOR_GUEST c.val) (s.rd F.INL_COVE_DOOR_IDENTITY c.val) :: s.sent)

/-- R152, R154, R155, R156, R160: slews and steps by the secure world, 1PPS captures and their loss, the reference's loss and
return, and the edges of time windows. -/
def Obligations.Timebase : Prop :=
  (∀ (ini : Initiator) (v : Word) (s : State), s.onBus ini → s.isSec ini = true →
    execNext (.slewWrite ini v) s fun t => s.changes t [] [.tbs, .resp] ∧ t.done ∧ t.tbs.slew = v.toInt ∧ t.tbs.now = s.tbs.now) ∧
  (∀ (s : State), s.tbs.slewing = true → s.tbs.slew = 0 → s.room 510 →
    execNext .slewDone s fun t =>
      s.changes t [lostKey] [.tbs, .inl] ∧ t.tbs = { s.tbs with slewing := false } ∧ s.raises t [s.ev 510 0 0 false]) ∧
  (∀ (ini : Initiator) (hi : Word) (s : State), s.onBus ini → s.isSec ini = true → s.tbs.running = true →
    execNext (.timebaseStep ini hi) s fun t =>
      s.changes t [] [.tbs, .resp] ∧ t.done ∧
      t.tbs.now = min (2 ^ 64 - 1) (s.tbs.now + hi.toNat * 2 ^ 32 + s.tbs.stepLow) ∧
      t.tbs.stepLow = 0) ∧
  (∀ (ini : Initiator) (hi : Word) (s : State), s.onBus ini → s.isSec ini = false → hi.toNat ≠ 0 → s.room 64 →
    execNext (.timebaseStep ini hi) s fun t =>
      s.changes t (lostKey :: aerrKeys 0) [.inl, .resp] ∧ t.done ∧ s.raises t [s.ev 64 (3 + 32) (s.tag ini).cove false]) ∧
  (∀ (falling : Bool) (s : State), s.rd F.TBS_CFG_SRC = 1 → s.rd F.TBS_CFG_PPS_FALL = b2n falling → s.tbs.ppsSeen = false →
    s.room 504 →
    execNext (.ppsCapture falling) s fun t =>
      s.changes t [F.TBS_PPS_CAP_CAP.key 0 0, F.TBS_STAT_PPS_VALID.key 0 0, lostKey] [.tbs, .inl] ∧
      t.rd F.TBS_PPS_CAP_CAP = s.tbs.now % 2 ^ 64 ∧ t.rd F.TBS_STAT_PPS_VALID = 0 ∧ s.raises t [s.ev 504 0 0 false]) ∧
  (∀ (falling : Bool) (s : State), s.rd F.TBS_CFG_SRC = 1 → s.rd F.TBS_CFG_PPS_FALL = b2n falling → s.tbs.ppsSeen = true →
    s.rd F.TBS_PPS_CAP_CAP + 999900000 ≤ s.tbs.now → s.tbs.now ≤ s.rd F.TBS_PPS_CAP_CAP + 1000100000 → s.room 504 →
    execNext (.ppsCapture falling) s fun t =>
      s.changes t [F.TBS_PPS_CAP_CAP.key 0 0, F.TBS_STAT_PPS_VALID.key 0 0, lostKey] [.tbs, .inl] ∧
      t.rd F.TBS_PPS_CAP_CAP = s.tbs.now % 2 ^ 64 ∧ t.rd F.TBS_STAT_PPS_VALID = 1 ∧ s.raises t [s.ev 504 0 0 false]) ∧
  (∀ (s : State), s.rd F.TBS_CFG_SRC = 1 → s.tbs.ppsSeen = true → s.tbs.ppsLost = false →
    s.rd F.TBS_PPS_CAP_CAP + 1100000000 ≤ s.tbs.now → s.room 505 →
    execNext .ppsLost s fun t =>
      s.changes t [F.TBS_STAT_PPS_VALID.key 0 0, lostKey] [.tbs, .inl] ∧ t.rd F.TBS_STAT_PPS_VALID = 0 ∧
      s.raises t [s.ev 505 0 0 false]) ∧
  (∀ (s : State), s.powered = true → s.rd F.TBS_STAT_REF_LOST = 0 → s.room 511 →
    execNext .refclkLost s fun t =>
      s.changes t [F.TBS_STAT_REF_LOST.key 0 0, lostKey] [.inl] ∧ t.rd F.TBS_STAT_REF_LOST = 1 ∧
      s.raises t [s.ev 511 0 0 false]) ∧
  (∀ (s : State), execNext .refclkReturn s fun t =>
    s.changes t [F.TBS_STAT_REF_LOST.key 0 0] [] ∧ t.rd F.TBS_STAT_REF_LOST = 0) ∧
  (∀ (n : Fin 8) (s : State), (s.rd F.TBS_WIN_CTRL_EN).testBit n.val = true → (s.win n.val).startDone = false →
    s.rd F.TBS_WIN_START_START n.val ≤ s.tbs.now → s.room 507 →
    execNext (.tbsWindow n) s fun t =>
      s.changes t [lostKey] [.tbs, .inl] ∧ t.tbs.now = s.tbs.now ∧
      s.raises t [s.ev 507 (n.val + 16 * b2n (s.win n.val).skipStart) 0 false]) ∧
  (∀ (n : Fin 8) (s : State), (s.rd F.TBS_WIN_CTRL_EN).testBit n.val = true → (s.win n.val).startDone = true →
    (s.win n.val).endDone = false → s.rd F.TBS_WIN_END_END n.val ≤ s.tbs.now → s.room 507 →
    execNext (.tbsWindow n) s fun t =>
      s.changes t [lostKey] [.tbs, .inl] ∧ t.tbs.now = s.tbs.now ∧
      s.raises t [s.ev 507 (n.val + 8 + 16 * b2n (s.win n.val).skipEnd) 0 false])

/-! ### Worlds, ownership and locks (chapter 06) -/

/-- What a Weir return leaves of the harts and their caches (Table 06-3): the hart's banks, and no line of the secure world in its L1,
nor in its L2 but with L2_KEEP. -/
def weirOwn (s : State) (h : Nat) (a : List (BitVec 64)) (cycles : Word) : Owner :=
  { s.own with
    harts := s.own.harts.modify h fun w =>
      { w with normal := zeroBank, current := { withArgs w.normal a with cycle := w.normal.cycle + cycles.setWidth 64 },
               secTlb := false, predictor := false },
    l1 := s.own.l1.modify h (·.filter fun x => !x.secure),
    l2 := if s.rd F.WEIR_CFG_L2_KEEP = 1 then s.own.l2
      else s.own.l2.modify (h / 4) (·.filter fun x => !(x.secure && x.hart == h)) }

/-- R50, R165, R166, R167, R171, R173: a hart enters the secure world through its own Weir register only while calls are enabled, and
leaves the debug port's reach; a return restores nothing but the argument registers, clears SECURE and leaves no secure line in the
caches of Table 06-3; a residency over its limit is ended with LAST 0xF1; secure ways take effect when the repartition ends, their
lines gone; an IOTLB invalidation drops the cove's entries and takes the written table into force. -/
def Obligations.Weir : Prop :=
  (∀ (h : Fin 8) (service : BitVec 16) (bank : HartBank) (s : State), s.onBus (.hart h) → s.rd F.WEIR_HART_STAT_SECURE h.val = 0 →
    s.rd F.WEIR_CFG_EN = 1 →
    execNext (.weirEnter (.hart h) h service bank) s fun t =>
      s.changes t [F.WEIR_HART_STAT_SECURE.key h.val 0, F.WEIR_HART_STAT_SERVICE.key h.val 0] [.own, .chip, .resp] ∧ t.done ∧
      t.rd F.WEIR_HART_STAT_SECURE h.val = 1 ∧ t.rd F.WEIR_HART_STAT_SERVICE h.val = service.toNat ∧
      t.own = { s.own with harts := s.own.harts.modify h.val fun _ =>
        { normal := bank, current := secureEntry (s.rd F.WEIR_SVEC_ENTRY * 4) bank, enteredAt := s.elapsed,
          secTlb := true, predictor := true } } ∧
      t.chip = if s.rd F.CHIP_DEBUG_SEC_DEBUG = 1 then s.chip
        else { s.chip with debugReach := s.chip.debugReach.filter fun d => d != .hart h }) ∧
  (∀ (h : Fin 8) (service : BitVec 16) (bank : HartBank) (s : State), s.onBus (.hart h) → s.rd F.WEIR_HART_STAT_SECURE h.val = 0 →
    s.rd F.WEIR_CFG_EN = 0 →
    execNext (.weirEnter (.hart h) h service bank) s fun t =>
      s.changes t [F.WEIR_HART_STAT_LAST.key h.val 0] [.resp] ∧ t.done ∧ t.rd F.WEIR_HART_STAT_LAST h.val = 0xF0) ∧
  (∀ (ini : Initiator) (h : Fin 8) (service : BitVec 16) (bank : HartBank) (s : State), s.onBus ini →
    ini ≠ .hart h ∨ s.isSec ini = true → s.room 66 →
    execNext (.weirEnter ini h service bank) s fun t =>
      s.changes t [lostKey] [.inl, .resp] ∧ t.done ∧ s.raises t [s.ev 66 h.val (s.tag ini).cove (s.isSec ini)]) ∧
  (∀ (ini : Initiator) (h : Fin 8) (status : BitVec 8) (a : List (BitVec 64)) (cycles : Word) (s : State), s.onBus ini →
    s.isSec ini = true → s.rd F.WEIR_HART_STAT_SECURE h.val = 1 →
    execNext (.weirReturn ini h status a cycles) s fun t =>
      s.changes t [F.WEIR_HART_STAT_SECURE.key h.val 0, F.WEIR_HART_STAT_LAST.key h.val 0] [.own, .resp] ∧ t.done ∧
      t.rd F.WEIR_HART_STAT_SECURE h.val = 0 ∧ t.rd F.WEIR_HART_STAT_LAST h.val = min status.toNat 0xEF ∧
      t.own = weirOwn s h.val a cycles) ∧
  (∀ (h : Fin 8) (cycles : Word) (s : State), s.rd F.WEIR_HART_STAT_SECURE h.val = 1 →
    (s.hart h.val).enteredAt + 1000 * max (s.rd F.WEIR_CFG_MAX_RES_US) 1 < s.elapsed →
    execNext (.weirTimeout h cycles) s fun t =>
      t.rd F.WEIR_HART_STAT_SECURE h.val = 0 ∧ t.rd F.WEIR_HART_STAT_LAST h.val = 0xF1 ∧ t.dram = s.dram ∧
      t.host = s.host ∧ t.own = weirOwn s h.val (List.replicate 8 0) cycles) ∧
  (∀ (h : Fin 8) (cycles : Word) (s : State), s.rd F.WEIR_HART_STAT_SECURE h.val = 1 →
    s.elapsed ≤ (s.hart h.val).enteredAt + 1000 * max (s.rd F.WEIR_CFG_MAX_RES_US) 1 →
    execNext (.weirTimeout h cycles) s fun t => t = s) ∧
  (∀ (ini : Initiator) (ways : BitVec 16) (s : State), s.onBus ini → s.isSec ini = true → s.rd F.WEIR_L3_STAT_BUSY = 0 →
    ways.toNat ≠ s.rd F.WEIR_L3_SEC_WAYS_WAYS →
    execNext (.l3SecWaysWrite ini ways) s fun t =>
      s.changes t [F.WEIR_L3_STAT_BUSY.key 0 0] [.own, .resp] ∧ t.done ∧ t.rd F.WEIR_L3_STAT_BUSY = 1 ∧
      t.own = { s.own with l3New := ways.toNat }) ∧
  (∀ (s : State), s.rd F.WEIR_L3_STAT_BUSY = 1 → s.room 67 →
    execNext .l3RepartDone s fun t =>
      s.changes t [F.WEIR_L3_STAT_BUSY.key 0 0, F.WEIR_L3_SEC_WAYS_WAYS.key 0 0, lostKey] [.own, .inl] ∧
      t.rd F.WEIR_L3_STAT_BUSY = 0 ∧ t.rd F.WEIR_L3_SEC_WAYS_WAYS = s.own.l3New % 2 ^ 16 ∧
      t.own = { s.own with l3 := s.own.l3.filter fun x =>
        (s.rd F.WEIR_L3_SEC_WAYS_WAYS).testBit x.2 == s.own.l3New.testBit x.2 } ∧
      s.raises t [s.ev 67 0 0 false]) ∧
  (∀ (ini : Initiator) (all : Bool) (c : Fin 32) (s : State), s.onBus ini → s.isCove0 ini = true →
    execNext (.iotInval ini all c) s fun t =>
      s.changes t [] [.own, .resp] ∧ t.done ∧
      t.own = { s.own with
        iotlb := s.own.iotlb.filter fun e => !(all || e.cove == c.val),
        atp := s.own.atp.mapIdx fun k a => if all || k == c.val then s.atpReg k else a })

/-- The commands of Table 06-8 with their OP numbers. -/
def shorRow (ini : Initiator) (owner reader : Fin 32) (c : Instr) (op : Nat) : Prop :=
  (c = .shorAssign ini owner reader ∧ op = 1) ∨ (c = .shorShare ini owner reader ∧ op = 2) ∨
  (c = .shorUnshare ini owner reader ∧ op = 3) ∨ (c = .shorRelease ini owner reader ∧ op = 4) ∨
  (c = .shorTakeSecure ini owner reader ∧ op = 5) ∨ (c = .shorReleaseSecure ini owner reader ∧ op = 6) ∨
  (c = .shorAssignKeep ini owner reader ∧ op = 7)

/-- R170, R175, R177, R178, R179: a command whose world may issue it and whose pages all pass runs at once when none runs: its pages go
to SCRUBBING where the command scrubs and to their final entry else, no other entry changes, no L1 or L2 keeps a line that the new
entry does not allow, and BUSY rises; the same command with an empty range is refused with REASON 5. -/
def Obligations.ShorelineCommands : Prop :=
  (∀ (ini : Initiator) (owner reader : Fin 32) (c : Instr) (op : Nat) (s : State), shorRow ini owner reader c op → s.onBus ini →
    s.isCove0 ini = true → s.rd F.SHOR_STAT_BUSY (b2n (s.isSec ini)) = 0 → s.own.running = none →
    shorPermits (s.isSec ini) op = true → 0 < s.rd F.SHOR_CMD_COUNT_COUNT (b2n (s.isSec ini)) →
    s.rd F.SHOR_CMD_FIRST_FIRST (b2n (s.isSec ini)) + s.rd F.SHOR_CMD_COUNT_COUNT (b2n (s.isSec ini)) ≤ 524288 →
    (∀ p, s.rd F.SHOR_CMD_FIRST_FIRST (b2n (s.isSec ini)) ≤ p →
      p < s.rd F.SHOR_CMD_FIRST_FIRST (b2n (s.isSec ini)) + s.rd F.SHOR_CMD_COUNT_COUNT (b2n (s.isSec ini)) →
      (s.isSec ini = true ∨ s.delegated p = true) ∧ shorFrom op (entState (s.shorEntry p)) = true ∧
      (op = 2 → reader.val ≠ entOwner (s.shorEntry p))) →
    execNext c s fun t =>
      s.changes t [F.SHOR_CMD_OP.key (b2n (s.isSec ini)) 0, F.SHOR_CMD_OWNER.key (b2n (s.isSec ini)) 0,
        F.SHOR_CMD_READER.key (b2n (s.isSec ini)) 0, F.SHOR_STAT_BUSY.key (b2n (s.isSec ini)) 0] [.own, .resp] ∧ t.done ∧
      t.rd F.SHOR_STAT_BUSY (b2n (s.isSec ini)) = 1 ∧
      ∃ k, t.own.running = some k ∧ k.op = op ∧ k.secure = s.isSec ini ∧
        k.first = s.rd F.SHOR_CMD_FIRST_FIRST (b2n (s.isSec ini)) ∧
        k.count = s.rd F.SHOR_CMD_COUNT_COUNT (b2n (s.isSec ini)) ∧ k.owner = owner.val ∧ k.reader = reader.val ∧
        (∀ p, t.shorEntry p = if k.first ≤ p ∧ p < k.first + k.count then
          (if shorScrubs op then mkEntry 4 0 0 else shorFinal k (s.shorEntry p)) else s.shorEntry p) ∧
        ∀ l, l ∈ t.own.l1 ∨ l ∈ t.own.l2 → ∀ x ∈ l, k.first ≤ x.line / 1024 → x.line / 1024 < k.first + k.count →
          x.keeps (t.shorEntry (x.line / 1024)) = true) ∧
  (∀ (ini : Initiator) (owner reader : Fin 32) (c : Instr) (op : Nat) (s : State), shorRow ini owner reader c op → s.onBus ini →
    s.isCove0 ini = true → s.rd F.SHOR_STAT_BUSY (b2n (s.isSec ini)) = 0 → s.own.running = none →
    shorPermits (s.isSec ini) op = true → s.rd F.SHOR_CMD_COUNT_COUNT (b2n (s.isSec ini)) = 0 →
    execNext c s fun t =>
      t.own.table = s.own.table ∧ t.own.running = none ∧ t.rd F.SHOR_STAT_BUSY (b2n (s.isSec ini)) = 0 ∧
      t.rd F.SHOR_STAT_REFUSED (b2n (s.isSec ini)) = 1 ∧ t.rd F.SHOR_STAT_REASON (b2n (s.isSec ini)) = 5)

/-- R175, R178, R179: a waiting command starts once none runs; a finished command's scrubbed pages read 0 and every page of it has
its final entry, DONE sets and event 70 is raised; a query answers the entry of its page. -/
def Obligations.ShorelineRuns : Prop :=
  (∀ (k : ShorCmd) (s : State), s.own.waiting = some k → s.own.running = none → s.shorCheck k = none →
    execNext .shorCmdStart s fun t =>
      s.changes t [] [.own] ∧ t.own.waiting = none ∧ t.own.running = some k) ∧
  (∀ (k : ShorCmd) (s : State), s.own.running = some k → s.own.waiting = none → s.room 70 →
    execNext .shorCmdDone s fun t =>
      s.changes t [F.SHOR_STAT_BUSY.key (b2n k.secure) 0, F.SHOR_STAT_DONE.key (b2n k.secure) 0, lostKey]
        [.own, .dram, .res, .inl] ∧
      t.own.running = none ∧ t.rd F.SHOR_STAT_BUSY (b2n k.secure) = 0 ∧ t.rd F.SHOR_STAT_DONE (b2n k.secure) = 1 ∧
      s.raises t [s.ev 70 (k.op + 16 * b2n k.secure) 0 k.secure] ∧
      (∀ p, t.shorEntry p = if shorScrubs k.op ∧ k.first ≤ p ∧ p < k.first + k.count then shorFinal k 0
        else s.shorEntry p) ∧
      (shorScrubs k.op = true → ∀ a, k.first * 65536 ≤ a → a < (k.first + k.count) * 65536 →
        memRead t.dram a 1 = [0]) ∧
      (∀ a, a < k.first * 65536 ∨ (k.first + k.count) * 65536 ≤ a ∨ shorScrubs k.op = false →
        memRead t.dram a 1 = memRead s.dram a 1)) ∧
  (∀ (ini : Initiator) (page : Fin 524288) (s : State), s.onBus ini →
    execNext (.shorQuery ini page) s fun t =>
      s.changes t [F.SHOR_QUERY_PAGE.key (b2n (s.isSec ini)) 0] [.resp] ∧ t.done ∧
      t.rd F.SHOR_QUERY_PAGE (b2n (s.isSec ini)) = page.val ∧
      t.fld F.SHOR_QUERY_RESULT_ENTRY (b2n (s.isSec ini)) 0 = s.shorEntry page.val % 2 ^ F.SHOR_QUERY_RESULT_ENTRY.width)

/-- The keys of SLU_PORT_RESULT of port `p`. -/
def sluKeys (p : Nat) : List Nat := [F.SLU_PORT_RESULT_LOCK.key p 0, F.SLU_PORT_RESULT_CODE.key p 0]

/-- R17, R180, R181, R183, R184, R185: a port that may have it gets a free lock (code 1), queues for a held one (code 4) or is told that
it is held (code 3), and of two acquires in one phase the higher input is decided first; a holder's release frees the lock (code 9)
and another's is refused (code 8, event 76); a cancel leaves the queue (code 10), and without a wait answers 11; a forced lock is
ABANDONED; a lock in use keeps its configuration. -/
def Obligations.Sluice : Prop :=
  (∀ (ini : Initiator) (p : Fin 536) (n : Fin 256) (wait : Bool) (s : State), s.hasPort ini p.val → s.mayLock p.val n.val →
    (s.lock n.val).state = 0 → (s.lock n.val).waiters = [] →
    execNext (.sluAcquire ini p n wait []) s fun t =>
      s.changes t (sluKeys p.val) [.locks, .resp] ∧ t.done ∧
      t.locks = s.locks.modify n.val (fun l => { l with state := 1, holder := p.val }) ∧
      t.rd F.SLU_PORT_RESULT_CODE p.val = 1 ∧ t.rd F.SLU_PORT_RESULT_LOCK p.val = n.val) ∧
  (∀ (ini : Initiator) (p : Fin 536) (n : Fin 256) (s : State), s.hasPort ini p.val → s.mayLock p.val n.val →
    (s.lock n.val).state = 1 →
    execNext (.sluAcquire ini p n true []) s fun t =>
      s.changes t (sluKeys p.val) [.locks, .resp] ∧ t.done ∧
      t.locks = s.locks.modify n.val (fun l => { l with waiters := l.waiters ++ [p.val] }) ∧
      t.rd F.SLU_PORT_RESULT_CODE p.val = 4) ∧
  (∀ (ini : Initiator) (p : Fin 536) (n : Fin 256) (s : State), s.hasPort ini p.val → s.mayLock p.val n.val →
    (s.lock n.val).state = 1 →
    execNext (.sluAcquire ini p n false []) s fun t =>
      s.changes t (sluKeys p.val) [.resp] ∧ t.done ∧ t.rd F.SLU_PORT_RESULT_CODE p.val = 3) ∧
  (∀ (i j : Initiator) (p q : Fin 536) (n : Fin 256) (wait : Bool) (s : State), s.hasPort i p.val → s.hasPort j q.val →
    s.mayLock p.val n.val → s.mayLock q.val n.val → p.val < q.val → n.val < s.locks.length → (s.lock n.val).state = 0 →
    (s.lock n.val).waiters = [] →
    execNext (.sluAcquire i p n true [(j, q, wait)]) s fun t =>
      s.changes t (sluKeys p.val ++ sluKeys q.val) [.locks, .resp] ∧ t.done ∧
      t.locks = s.locks.modify n.val (fun _ => { state := 1, holder := q.val, waiters := [p.val] }) ∧
      t.rd F.SLU_PORT_RESULT_CODE q.val = 1 ∧ t.rd F.SLU_PORT_RESULT_CODE p.val = 4) ∧
  (∀ (ini : Initiator) (p : Fin 536) (n : Fin 256) (s : State), s.hasPort ini p.val →
    (s.lock n.val).state = 1 → (s.lock n.val).holder = p.val → (s.lock n.val).waiters = [] →
    execNext (.sluRelease ini p n) s fun t =>
      s.changes t (sluKeys p.val) [.locks, .resp] ∧ t.done ∧ t.locks = s.locks.modify n.val (fun l => { l with state := 0 }) ∧
      t.rd F.SLU_PORT_RESULT_CODE p.val = 9) ∧
  (∀ (ini : Initiator) (p : Fin 536) (n : Fin 256) (s : State), s.hasPort ini p.val →
    (s.lock n.val).state ≠ 1 ∨ (s.lock n.val).holder ≠ p.val → s.room 76 →
    execNext (.sluRelease ini p n) s fun t =>
      s.changes t (lostKey :: sluKeys p.val) [.inl, .resp] ∧ t.done ∧ t.rd F.SLU_PORT_RESULT_CODE p.val = 8 ∧
      s.raises t [s.ev 76 n.val (portCove p.val) (portSecure p.val)]) ∧
  (∀ (ini : Initiator) (p : Fin 536) (n : Nat) (s : State), s.hasPort ini p.val → s.waitsFor p.val = some n →
    execNext (.sluCancel ini p) s fun t =>
      s.changes t (sluKeys p.val) [.locks, .resp] ∧ t.done ∧
      t.locks = s.locks.modify n (fun l => { l with waiters := l.waiters.erase p.val }) ∧
      t.rd F.SLU_PORT_RESULT_CODE p.val = 10 ∧ t.rd F.SLU_PORT_RESULT_LOCK p.val = n) ∧
  (∀ (ini : Initiator) (p : Fin 536) (s : State), s.hasPort ini p.val → s.waitsFor p.val = none →
    execNext (.sluCancel ini p) s fun t =>
      s.changes t [F.SLU_PORT_RESULT_CODE.key p.val 0] [.resp] ∧ t.done ∧ t.rd F.SLU_PORT_RESULT_CODE p.val = 11) ∧
  (∀ (ini : Initiator) (n : Fin 256) (s : State), s.onBus ini → s.isSec ini = true → (s.lock n.val).state ≠ 1 →
    execNext (.sluForce ini n) s fun t => s.changes t [] [.resp] ∧ t.done) ∧
  (∀ (ini : Initiator) (n : Fin 256) (s : State), s.onBus ini → s.isSec ini = true → (s.lock n.val).state = 1 →
    (s.lock n.val).waiters = [] → (∀ m, (s.lock m).state = 1 → (s.lock m).holder = (s.lock n.val).holder → m = n.val) →
    execNext (.sluForce ini n) s fun t =>
      s.changes t [lostKey] [.locks, .inl, .resp] ∧ t.done ∧ (t.lock n.val).state = 2 ∧
      ∀ m, m ≠ n.val → (t.lock m).state = (s.lock m).state ∧ (t.lock m).holder = (s.lock m).holder) ∧
  (∀ (ini : Initiator) (n : Fin 256) (v : Word) (s : State), s.onBus ini → s.isSec ini = true → (s.lock n.val).state = 0 →
    (s.lock n.val).waiters = [] →
    execNext (.sluLockConfigWrite ini n true v) s fun t =>
      s.changes t [F.SLU_LOCK_COVES_COVES.key n.val 0] [.resp] ∧ t.done ∧ t.rd F.SLU_LOCK_COVES_COVES n.val = v.toNat) ∧
  (∀ (ini : Initiator) (n : Fin 256) (v : Word) (s : State), s.onBus ini → s.isSec ini = true → (s.lock n.val).state = 0 →
    (s.lock n.val).waiters = [] →
    execNext (.sluLockConfigWrite ini n false v) s fun t =>
      s.changes t [F.SLU_LOCK_CFG_CLASS.key n.val 0, F.SLU_LOCK_CFG_SECURE.key n.val 0] [.resp] ∧ t.done ∧
      t.rd F.SLU_LOCK_CFG_CLASS n.val = v.toNat % 16 ∧ t.rd F.SLU_LOCK_CFG_SECURE n.val = v.toNat / 256 % 2) ∧
  (∀ (ini : Initiator) (n : Fin 256) (coves : Bool) (v : Word) (s : State), s.onBus ini → s.isSec ini = true →
    (s.lock n.val).state ≠ 0 ∨ (s.lock n.val).waiters ≠ [] →
    execNext (.sluLockConfigWrite ini n coves v) s fun t =>
      s.changes t [F.SLU_LOCK_STAT_CFG_REFUSED.key n.val 0] [.resp] ∧ t.done ∧ t.rd F.SLU_LOCK_STAT_CFG_REFUSED n.val = 1)
/-! ### Coves and the host (chapter 07) -/

/-- R188, R189, R190: queue registers written through the page by an initiator with rights, and a descriptor fetched from a ring
that runs. A ring overrun stops the queue with code 5. -/
def Obligations.QueueContexts : Prop :=
  (∀ (ini : Initiator) (c : Fin 32) (q : Fin 64) (v : Word) (s : State), s.issues ini = true →
    s.pageOk ini c.val = true → q.val < s.rd F.COVE_QUEUES_COUNT c.val →
    execNext (.queueProdWrite ini c q v) s fun t =>
      s.changes t [F.COVE_Q_PROD_PROD.key c.val q.val] [.resp] ∧ t.done ∧ t.rd F.COVE_Q_PROD_PROD c.val q.val = v.toNat) ∧
  (∀ (ini : Initiator) (c : Fin 32) (q : Fin 64) (v : Word) (s : State), s.issues ini = true →
    s.pageOk ini c.val = true → q.val < s.rd F.COVE_QUEUES_COUNT c.val → s.rd F.COVE_Q_CFG_EN c.val q.val = 0 →
    execNext (.queueCfgWrite ini c q v) s fun t =>
      s.changes t [F.COVE_Q_CFG_SIZE.key c.val q.val, F.COVE_Q_CFG_ENGINE.key c.val q.val,
        F.COVE_Q_CFG_EN.key c.val q.val] [.resp] ∧ t.done ∧
      t.rd F.COVE_Q_CFG_SIZE c.val q.val = bits v.toNat 11 8 ∧
      t.rd F.COVE_Q_CFG_ENGINE c.val q.val = (if 5 < bits v.toNat 6 4 then 0 else bits v.toNat 6 4) ∧
      t.rd F.COVE_Q_CFG_EN c.val q.val =
        if bits v.toNat 6 4 = 0 ∨ 5 < bits v.toNat 6 4 then 0 else v.toNat % 2) ∧
  (∀ (ini : Initiator) (c : Fin 32) (q : Fin 64) (v : Word) (s : State), s.issues ini = true →
    s.pageOk ini c.val = true → q.val < s.rd F.COVE_QUEUES_COUNT c.val → s.rd F.COVE_Q_CFG_EN c.val q.val = 1 →
    execNext (.queueCfgWrite ini c q v) s fun t =>
      s.changes t [F.COVE_Q_CFG_EN.key c.val q.val] [.resp] ∧ t.done ∧ t.rd F.COVE_Q_CFG_EN c.val q.val = v.toNat % 2) ∧
  (∀ (ini : Initiator) (c : Fin 32) (q : Fin 64) (s : State), s.issues ini = true →
    s.pageOk ini c.val = true → q.val < s.rd F.COVE_QUEUES_COUNT c.val →
    execNext (.queueFaultClear ini c q) s fun t =>
      s.changes t [F.COVE_Q_STAT_FAULT.key c.val q.val] [.resp] ∧ t.done ∧ t.rd F.COVE_Q_STAT_FAULT c.val q.val = 0) ∧
  (∀ (c : Fin 32) (q : Fin 64) (s : State), s.queueRuns c.val q.val = true → s.queueHeld c.val q.val = false →
    s.queueSize c.val q.val < s.queueUsed c.val q.val → s.room 101 →
    execNext (.descriptorFetch c q) s fun t =>
      s.changes t [F.COVE_Q_CONS_CONS.key c.val q.val, F.COVE_Q_STAT_FAULT.key c.val q.val,
        F.COVE_Q_STAT_CODE.key c.val q.val, lostKey] [.inl] ∧
      t.rd F.COVE_Q_STAT_FAULT c.val q.val = 1 ∧ t.rd F.COVE_Q_STAT_CODE c.val q.val = 5 ∧
      t.rd F.COVE_Q_CONS_CONS c.val q.val = (s.rd F.COVE_Q_CONS_CONS c.val q.val + 1) % 2 ^ 32 ∧
      s.raises t [s.ev 101 (q.val + 5 * 256) c.val false]) ∧
  (∀ (c : Fin 32) (q : Fin 64) (s : State), s.queueRuns c.val q.val = true → s.queueHeld c.val q.val = false →
    s.rd F.COVE_Q_CFG_ENGINE c.val q.val = 3 → 0 < s.queueUsed c.val q.val →
    s.queueUsed c.val q.val ≤ s.queueSize c.val q.val →
    s.bareOk c.val (s.rd F.COVE_Q_BASE_BASE c.val q.val * 64 +
      64 * (s.rd F.COVE_Q_CONS_CONS c.val q.val % s.queueSize c.val q.val)) 64 false →
    execNext (.descriptorFetch c q) s fun t =>
      s.changes t [] [.bas] ∧ ∃ d : QDesc, d.cove = c.val ∧ d.q = q.val ∧ d.gen = s.gen c.val ∧
        d.bytes = memRead s.dram (s.rd F.COVE_Q_BASE_BASE c.val q.val * 64 +
          64 * (s.rd F.COVE_Q_CONS_CONS c.val q.val % s.queueSize c.val q.val)) 64 ∧
        t.bas = { s.bas with queue := s.bas.queue ++ [d] }) ∧
  (∀ (c : Fin 32) (q : Fin 64) (s : State), s.queueRuns c.val q.val = true → s.queueHeld c.val q.val = false →
    s.rd F.COVE_Q_CFG_ENGINE c.val q.val = 4 ∨ s.rd F.COVE_Q_CFG_ENGINE c.val q.val = 5 → 0 < s.queueUsed c.val q.val →
    s.queueUsed c.val q.val ≤ s.queueSize c.val q.val →
    s.bareOk c.val (s.rd F.COVE_Q_BASE_BASE c.val q.val * 64 +
      64 * (s.rd F.COVE_Q_CONS_CONS c.val q.val % s.queueSize c.val q.val)) 64 false →
    execNext (.descriptorFetch c q) s fun t =>
      s.changes t [] [.pool] ∧ t.pool = { s.pool with fetched := s.pool.fetched ++ [(c.val, q.val,
        memRead s.dram (s.rd F.COVE_Q_BASE_BASE c.val q.val * 64 +
          64 * (s.rd F.COVE_Q_CONS_CONS c.val q.val % s.queueSize c.val q.val)) 64)] })

/-- R201, R202, R203, R204, R205, R206, R207, R210: a command of the cove manager on an enabled cove in a state that Table 07-7 lists
is taken; a reset enters RESETTING with the next generation, a freeze FREEZING, a thaw READY, a confinement CONFINED, a save SAVING
with its record built and a restore RESTORING. In another state it is refused with REASON 1. -/
def Obligations.CoveCommands : Prop :=
  (∀ (ini : Initiator) (c : Fin 32) (s : State), s.onBus ini → s.isCove0 ini = true →
    s.rd F.COVE_CMD_STAT_BUSY = 0 → c.val ≠ 0 →
    s.rd F.COVE_STATE_STATE c.val = 1 ∨ s.rd F.COVE_STATE_STATE c.val = 3 ∨ s.rd F.COVE_STATE_STATE c.val = 6 →
    execNext (.coveReset ini c) s fun t =>
      t.rd F.COVE_STATE_STATE c.val = 7 ∧ t.rd F.COVE_ID_GEN c.val = (s.rd F.COVE_ID_GEN c.val + 1) % 2 ^ 16 ∧
      t.rd F.COVE_CMD_STAT_BUSY = 1 ∧ t.mram = s.mram ∧ t.own.table = s.own.table) ∧
  (∀ (ini : Initiator) (c : Fin 32) (s : State), s.onBus ini → s.isCove0 ini = true →
    s.rd F.COVE_CMD_STAT_BUSY = 0 → c.val ≠ 0 →
    s.rd F.COVE_STATE_STATE c.val = 1 →
    execNext (.coveFreeze ini c) s fun t =>
      t.rd F.COVE_STATE_STATE c.val = 2 ∧ t.rd F.COVE_ID_GEN c.val = s.rd F.COVE_ID_GEN c.val ∧
      t.rd F.COVE_CMD_STAT_BUSY = 1 ∧ t.mram = s.mram ∧ t.own.table = s.own.table) ∧
  (∀ (ini : Initiator) (c : Fin 32) (s : State), s.onBus ini → s.isCove0 ini = true →
    s.rd F.COVE_CMD_STAT_BUSY = 0 → c.val ≠ 0 →
    s.rd F.COVE_STATE_STATE c.val = 3 →
    execNext (.coveThaw ini c) s fun t =>
      t.rd F.COVE_STATE_STATE c.val = 1 ∧ t.rd F.COVE_CMD_STAT_BUSY = 0 ∧ t.rd F.COVE_CMD_STAT_DONE = 1 ∧
      t.rd F.COVE_ID_GEN c.val = s.rd F.COVE_ID_GEN c.val) ∧
  (∀ (ini : Initiator) (c : Fin 32) (s : State), s.onBus ini → s.isCove0 ini = true →
    s.rd F.COVE_CMD_STAT_BUSY = 0 → c.val ≠ 0 →
    s.rd F.COVE_STATE_STATE c.val = 1 ∨ s.rd F.COVE_STATE_STATE c.val = 2 ∨ s.rd F.COVE_STATE_STATE c.val = 3 →
    (s.cove c.val).heldReset = false →
    execNext (.coveConfine ini c) s fun t =>
      t.rd F.COVE_STATE_STATE c.val = 6 ∧ t.rd F.COVE_CMD_STAT_BUSY = 0 ∧ t.rd F.COVE_CMD_STAT_DONE = 1 ∧
      t.rd F.COVE_ID_GEN c.val = s.rd F.COVE_ID_GEN c.val) ∧
  (∀ (ini : Initiator) (c : Fin 32) (s : State), s.onBus ini → s.isCove0 ini = true →
    s.rd F.COVE_CMD_STAT_BUSY = 0 → c.val ≠ 0 →
    s.rd F.COVE_STATE_STATE c.val = 3 → s.rd F.SND_GEN_CFG_ARMED (s.rd F.COVE_MIG_CFG_UNIT) = 0 →
    (((s.answer 0).cmdTaken 4 c.val).coveRecord c.val (s.rd F.COVE_MIG_CFG_UNIT)).1.length ≤ s.rd F.COVE_MIG_LEN_LEN →
    execNext (.coveSave ini c) s fun t =>
      t.rd F.COVE_STATE_STATE c.val = 4 ∧ t.rd F.COVE_CMD_STAT_BUSY = 1 ∧ t.dram = s.dram ∧
      t.rd F.SND_GEN_CFG_BY_COVE_MGR (s.rd F.COVE_MIG_CFG_UNIT) = 1 ∧
      t.host.record = (((s.answer 0).cmdTaken 4 c.val).coveRecord c.val (s.rd F.COVE_MIG_CFG_UNIT)).1) ∧
  (∀ (ini : Initiator) (c : Fin 32) (s : State), s.onBus ini → s.isCove0 ini = true →
    s.rd F.COVE_CMD_STAT_BUSY = 0 → c.val ≠ 0 →
    s.rd F.COVE_STATE_STATE c.val = 3 →
    execNext (.coveRestore ini c) s fun t =>
      t.rd F.COVE_STATE_STATE c.val = 5 ∧ t.rd F.COVE_CMD_STAT_BUSY = 1 ∧ t.dram = s.dram ∧
      t.rd F.COVE_ID_GEN c.val = s.rd F.COVE_ID_GEN c.val) ∧
  (∀ (ini : Initiator) (c : Fin 32) (s : State), s.onBus ini → s.isCove0 ini = true →
    s.rd F.COVE_CMD_STAT_BUSY = 0 → c.val ≠ 0 →
    s.rd F.COVE_STATE_STATE c.val = 0 →
    execNext (.coveFreeze ini c) s fun t =>
      t.rd F.COVE_STATE_STATE c.val = 0 ∧ t.rd F.COVE_CMD_STAT_BUSY = 0 ∧ t.rd F.COVE_CMD_STAT_REFUSED = 1 ∧
      t.rd F.COVE_CMD_STAT_REASON = 1 ∧ (s.room 102 → s.raises t [s.ev 102 1 c.val false]))

/-- R201, R204, R205, R207, R210, R211: the end of a freeze, a reset, a save and a restore, where nothing is held for the cove. -/
def Obligations.CoveCompletions : Prop :=
  (∀ (c : Fin 32) (s : State), s.rd F.COVE_STATE_STATE c.val = 2 → s.poolBusy c.val = false → s.resBusy c.val = false →
    (s.cove c.val).heldConfine = none → (s.cove c.val).heldReset = false →
    execNext (.coveQuiesced c) s fun t =>
      s.changes t [F.COVE_STATE_STATE.key c.val 0, F.COVE_CMD_STAT_BUSY.key 0 0, F.COVE_CMD_STAT_DONE.key 0 0, lostKey]
        [.inl, .host] ∧ t.rd F.COVE_STATE_STATE c.val = 3 ∧
      (s.host.cmd = some (2, c.val) → t.rd F.COVE_CMD_STAT_BUSY = 0 ∧ t.rd F.COVE_CMD_STAT_DONE = 1)) ∧
  (∀ (c : Fin 32) (s : State), s.rd F.COVE_STATE_STATE c.val = 7 → s.poolBusy c.val = false → s.tracked c.val = false →
    execNext (.coveResetDone c) s fun t =>
      t.rd F.COVE_STATE_STATE c.val = b2n (s.cove c.val).en ∧
      (s.host.cmd = some (1, c.val) → t.rd F.COVE_CMD_STAT_BUSY = 0 ∧ t.rd F.COVE_CMD_STAT_DONE = 1) ∧
      (∀ q, q < 64 → t.rd F.COVE_Q_CFG_EN c.val q = 0) ∧ t.dram = s.dram ∧
      t.own.iotlb = s.own.iotlb.filter fun e => e.cove != c.val) ∧
  (∀ (c : Fin 32) (s : State), s.rd F.COVE_STATE_STATE c.val = 4 → (s.cove c.val).heldConfine = none →
    (s.cove c.val).heldReset = false → s.host.record ≠ [] → s.fab.isolated = [] →
    s.rd F.COVE_MIG_ADDR_ADDR * 16 + s.host.record.length ≤ tarnBase →
    s.rd F.COVE_MIG_ADDR_ADDR * 16 + s.host.record.length ≤ s.dramBytes →
    (∀ p, s.rd F.COVE_MIG_ADDR_ADDR * 16 / 65536 ≤ p →
      p ≤ (s.rd F.COVE_MIG_ADDR_ADDR * 16 + s.host.record.length - 1) / 65536 →
      shorAllows (s.shorEntry p) s.wardenTag true = true) →
    execNext (.coveSaved c) s fun t =>
      t.rd F.COVE_STATE_STATE c.val = 3 ∧ t.host.record = [] ∧
      memRead t.dram (s.rd F.COVE_MIG_ADDR_ADDR * 16) s.host.record.length = s.host.record ∧
      (s.host.cmd = some (4, c.val) → t.rd F.COVE_CMD_STAT_BUSY = 0 ∧ t.rd F.COVE_CMD_STAT_DONE = 1)) ∧
  (∀ (c : Fin 32) (s : State) (l : List Byte) (r : List (Nat × List Byte)) (g : Nat), s.rd F.COVE_STATE_STATE c.val = 5 →
    (s.cove c.val).heldConfine = none → (s.cove c.val).heldReset = false →
    (∀ q, q < 64 → s.rd F.COVE_Q_CFG_EN c.val q = 0) → s.mgrHeld = some g → s.fab.isolated = [] → s.res.poison = [] →
    64 ≤ s.rd F.COVE_MIG_LEN_LEN → s.rd F.COVE_MIG_ADDR_ADDR * 16 + s.rd F.COVE_MIG_LEN_LEN ≤ tarnBase →
    s.rd F.COVE_MIG_ADDR_ADDR * 16 + s.rd F.COVE_MIG_LEN_LEN ≤ s.dramBytes →
    (∀ p, s.rd F.COVE_MIG_ADDR_ADDR * 16 / 65536 ≤ p →
      p ≤ (s.rd F.COVE_MIG_ADDR_ADDR * 16 + s.rd F.COVE_MIG_LEN_LEN - 1) / 65536 →
      shorAllows (s.shorEntry p) s.wardenTag false = true) →
    l = memRead s.dram (s.rd F.COVE_MIG_ADDR_ADDR * 16) (min (s.rd F.COVE_MIG_LEN_LEN)
      (max 64 (leAt (memRead s.dram (s.rd F.COVE_MIG_ADDR_ADDR * 16) 64) 8 4))) →
    recFormat (s.rd F.COVE_MIG_LEN_LEN) l = some r →
    recSeal g (leAt l 0x10 1) (leAt l 0x14 2) (l.take (leAt l 8 4 - 16)) = leAt l (leAt l 8 4 - 16) 4 →
    recBody r 0x8010 = [] → recBody r 0x8011 = [] → recBody r 0x8012 = [] →
    leAt l 0x28 1 ≤ s.rd F.COVE_QUEUES_COUNT c.val →
    execNext (.coveRestored c) s fun t =>
      t.rd F.COVE_STATE_STATE c.val = 3 ∧ t.rd F.COVE_ID_GEN c.val = (s.rd F.COVE_ID_GEN c.val + 1) % 2 ^ 16 ∧
      t.dram = s.dram ∧
      (s.host.cmd = some (5, c.val) → t.rd F.COVE_CMD_STAT_BUSY = 0 ∧ t.rd F.COVE_CMD_STAT_DONE = 1))

/-- R192, R194, R195, R196, R199, R206, R212: the PCI Express endpoint and the shares. A page access without rights reads 0 with event
106; a VF that is not served answers Unsupported Request; a starved transmitter sends idle and raises event 111 once per
millisecond; AER errors and Function Level Resets act on their cove; shares that fit are written and others refused with
REASON 8. -/
def Obligations.HostEndpoint : Prop :=
  (∀ (ini : Initiator) (c : Fin 32) (off : Nat) (write : Bool) (s : State), s.issues ini = true →
    s.pageOk ini c.val = false → ini ≠ .pcie c → s.room 106 →
    execNext (.covePageDenied ini c off write) s fun t =>
      s.changes t (lostKey :: aerrKeys (b2n (s.isSec ini))) [.inl, .resp] ∧ t.resp = { value := 0, err := false } ∧
      s.raises t [s.ev 106 (s.tag ini).cove c.val false]) ∧
  (∀ (c : Fin 32) (off : Nat) (write : Bool) (s : State), s.issues (.pcie c) = true → s.pageOk (.pcie c) c.val = false →
    execNext (.covePageDenied (.pcie c) c off write) s fun t =>
      s.changes t [] [.sent, .resp] ∧ t.sent = .pcieCpl 1 [] :: s.sent ∧ t.resp = { value := 0, err := true }) ∧
  (∀ (c : Fin 32) (off len : Nat) (w : Option (List Byte)) (s : State), s.issues (.pcie c) = true →
    s.chip.ran = false ∨ s.vfServes c.val = false →
    execNext (.vfBar2Request c off len w) s fun t => s.changes t [] [.sent] ∧ t.sent = .pcieCpl 1 [] :: s.sent) ∧
  (∀ (c : Fin 32) (off len : Nat) (l : List Byte) (s : State), s.issues (.pcie c) = true → s.chip.ran = true →
    s.vfServes c.val = true → off + l.length ≤ 2 ^ 30 → s.bareOk c.val (s.rd F.COVE_VFWIN_BASE c.val * 2 ^ 30 + off) l.length true →
    execNext (.vfBar2Request c off len (some l)) s fun t =>
      s.changes t [] [.dram, .res] ∧ t.dram = memWrite s.dram (s.rd F.COVE_VFWIN_BASE c.val * 2 ^ 30 + off) l) ∧
  (∀ (c : Fin 32) (off len : Nat) (s : State), s.issues (.pcie c) = true → s.chip.ran = true → s.vfServes c.val = true →
    off + len ≤ 2 ^ 30 → s.bareOk c.val (s.rd F.COVE_VFWIN_BASE c.val * 2 ^ 30 + off) len false →
    execNext (.vfBar2Request c off len none) s fun t =>
      s.changes t [] [.sent] ∧
      t.sent = .pcieCpl 0 (memRead s.dram (s.rd F.COVE_VFWIN_BASE c.val * 2 ^ 30 + off) len) :: s.sent) ∧
  (∀ (s : State), s.host.linkUp = true → s.host.lastStarved = none → s.room 111 →
    execNext .pcieStarved s fun t =>
      s.changes t [lostKey] [.sent, .host, .inl] ∧ t.sent = .pcieIdle :: s.sent ∧
      t.host = { s.host with lastStarved := some s.elapsed } ∧ s.raises t [s.ev 111 0 0 false]) ∧
  (∀ (x : Nat) (s : State), s.host.linkUp = true → s.host.lastStarved = some x → s.elapsed < x + 1000000 →
    execNext .pcieStarved s fun t => s.changes t [] [.sent] ∧ t.sent = .pcieIdle :: s.sent) ∧
  (∀ (speed : Fin 5) (width : Fin 9) (s : State), s.issues (.pcie 0) = true → s.host.cfgReady = true → 1 ≤ speed.val →
    width.val = 1 ∨ width.val = 2 ∨ width.val = 4 ∨ width.val = 8 → s.host.linkUp = false → s.room 110 →
    execNext (.pcieLink true speed width true 0) s fun t =>
      s.changes t [lostKey] [.host, .inl] ∧ t.host.linkUp = true ∧ t.host.speed = speed.val ∧ t.host.width = width.val ∧
      s.raises t [s.ev 110 (speed.val + 16 * width.val) 0 false] ∧
      ∀ c, 1 ≤ c → c < s.host.coves.length → c < 32 → (t.cove c).vfEnabled = true ∧ (t.cove c).busMaster = false) ∧
  (∀ (speed : Fin 5) (width : Fin 9) (vfEnable : Bool) (b : BitVec 32) (s : State), s.issues (.pcie 0) = true →
    s.host.linkUp = true → s.room 110 →
    execNext (.pcieLink false speed width vfEnable b) s fun t =>
      s.changes t [lostKey] [.host, .inl] ∧ t.host = { s.host with linkUp := false, speed := 0, width := 0 } ∧
      s.raises t [s.ev 110 0 0 false]) ∧
  (∀ (c : Fin 32) (status : Fin 32) (s : State), s.room 108 →
    execNext (.pcieAerError c .correctable status) s fun t =>
      s.changes t [lostKey] [.host, .inl] ∧ s.raises t [s.ev 108 status.val c.val false] ∧
      t.host.coves = s.host.coves.modify c.val fun v => { v with aerCor := v.aerCor ||| 2 ^ status.val }) ∧
  (∀ (c : Fin 32) (s : State), s.issues (.pcie 0) = true → s.host.cfgReady = true → c.val ≠ 0 → (s.cove c.val).ext = true →
    s.rd F.COVE_STATE_STATE c.val = 1 →
    execNext (.vfFlr c) s fun t =>
      t.rd F.COVE_STATE_STATE c.val = 7 ∧ t.rd F.COVE_ID_GEN c.val = (s.rd F.COVE_ID_GEN c.val + 1) % 2 ^ 16) ∧
  (∀ (c : Fin 32) (s : State), s.issues (.pcie 0) = true → s.host.cfgReady = false → c.val ≠ 0 → (s.cove c.val).ext = true →
    execNext (.vfFlr c) s fun t => s.changes t [] [.sent] ∧ t.sent = .pcieCpl 3 [] :: s.sent) ∧
  (∀ (b : Bool) (s : State), s.issues (.pcie 0) = true → s.host.cfgReady = true → (∀ c, (s.cove c).vfEnabled = false ∨ (s.cove c).ext = false) →
    execNext (.pfFlr b) s fun t =>
      s.changes t [] [.host] ∧ ∀ c, 1 ≤ c → c < 32 → (t.cove c).vfEnabled = false ∧ (t.cove c).busMaster = false) ∧
  (∀ (ini : Initiator) (c : Fin 32) (v : Word) (s : State), s.onBus ini → s.isCove0 ini = true → s.rd F.COVE_STATE_STATE c.val = 0 →
    s.rd F.COVE_STATE_OVER_SHARE c.val = 0 → (∀ r, s.held r c.val = 0) →
    execNext (.shareWrite ini c false v) s fun t =>
      s.changes t [F.COVE_SHAREA_LOCH_SHARE.key c.val 0, F.COVE_SHAREA_RES_SHARE.key c.val 0] [.resp] ∧ t.done ∧
      t.rd F.COVE_SHAREA_LOCH_SHARE c.val = min (bits v.toNat 26 16) 1024 ∧
      t.rd F.COVE_SHAREA_RES_SHARE c.val = min (bits v.toNat 10 0) 1024) ∧
  (∀ (ini : Initiator) (c : Fin 32) (regB : Bool) (v : Word) (s : State), s.onBus ini → s.isCove0 ini = true →
    s.shareTooBig (if regB then .sense else .graphics) c.val (min (bits v.toNat 26 16) 1024) = true → s.room 102 →
    execNext (.shareWrite ini c regB v) s fun t =>
      s.changes t [F.COVE_CMD_STAT_REFUSED.key 0 0, F.COVE_CMD_STAT_REASON.key 0 0, lostKey] [.inl, .resp] ∧ t.done ∧
      t.rd F.COVE_CMD_STAT_REFUSED = 1 ∧ t.rd F.COVE_CMD_STAT_REASON = 8 ∧ s.raises t [s.ev 102 8 c.val false])

/-! ### Reservoir (chapter 08) -/

/-- R220 to R223: a write takes effect as it enters and waits in its channel's queue; a read of a page that is not initialised
returns zeros, one that a whole write entry covers its bytes, one that a partial entry touches shares its completing read, and another
waits in the read queue; a request that its channel cannot take waits. R217, R222, R223: the oldest read under way answers its request
or makes its write entry whole; an uncorrectable line is read four times and then answered with an error and event 129. -/
def Obligations.ReservoirRequests : Prop :=
  (∀ (src : Source) (user : ResUser) (pa len : Nat) (l : List Byte) (s : State), s.resTakes src pa l.length true →
    execNext (.resRequestEnter src user pa len (some l)) s fun u =>
      s.changes u [] [.dram, .res, .resp] ∧ u.done ∧ memRead u.dram pa l.length = l ∧
      (∀ b n, b + n ≤ pa ∨ pa + l.length ≤ b → memRead u.dram b n = memRead s.dram b n) ∧
      u.res.chans.map (·.wq) = (s.res.chans.modify (chanOf pa) fun c =>
        { c with wq := wqEnter c.wq (s.srcTag src) (pa / 64) (byteMask (pa % 64) l.length) (s.hintOf src user) s.elapsed }).map
          (·.wq)) ∧
  (∀ (src : Source) (user : ResUser) (pa len : Nat) (s : State), s.resTakes src pa len false →
    s.pageInit (pa / 65536) = false →
    execNext (.resRequestEnter src user pa len none) s fun u => s.changes u [] [.resp] ∧ u.done) ∧
  (∀ (src : Source) (user : ResUser) (pa len : Nat) (s : State), s.resTakes src pa len false →
    s.pageInit (pa / 65536) = true → youngest (s.chan (chanOf pa)).wq (pa / 64) = none →
    execNext (.resRequestEnter src user pa len none) s fun u =>
      s.changes u [] [.res] ∧ ∃ r : ReadReq, r.tag = s.srcTag src ∧ r.line = pa / 64 ∧ r.data = memRead s.dram pa len ∧
        r.hint = s.hintOf src user ∧ r.issued = false ∧ r.shared = false ∧
        u.res = { s.res with chans := s.res.chans.modify (chanOf pa) fun c => { c with rq := c.rq ++ [r] } }) ∧
  (∀ (src : Source) (user : ResUser) (pa len : Nat) (e : WriteEntry) (s : State), s.resTakes src pa len false →
    s.pageInit (pa / 65536) = true → youngest (s.chan (chanOf pa)).wq (pa / 64) = some e → e.mask = fullMask →
    execNext (.resRequestEnter src user pa len none) s fun u =>
      s.changes u [] [.resp] ∧ u.resp = { value := ofLe (memRead s.dram pa len), err := false }) ∧
  (∀ (src : Source) (user : ResUser) (pa len : Nat) (e : WriteEntry) (s : State), s.resTakes src pa len false →
    s.pageInit (pa / 65536) = true → youngest (s.chan (chanOf pa)).wq (pa / 64) = some e → e.mask ≠ fullMask →
    execNext (.resRequestEnter src user pa len none) s fun u =>
      s.changes u [] [.res] ∧ ∃ r : ReadReq, r.tag = s.srcTag src ∧ r.line = pa / 64 ∧ r.data = memRead s.dram pa len ∧
        r.issued = false ∧ r.shared = true ∧
        u.res = { s.res with chans := s.res.chans.modify (chanOf pa) fun c => { c with rq := c.rq ++ [r] } }) ∧
  (∀ (ch : Fin 4) (f : Flight) (fs : List Flight) (r : ReadReq) (s : State), (s.chan ch.val).flight = f :: fs → f.fill = false →
    ((s.chan ch.val).rq.find? fun r => r.issued && r.line == f.line) = some r → s.res.poison.contains f.line = false →
    execNext (.resReadData ch .ok 0) s fun u =>
      s.changes u [] [.res, .resp] ∧ u.resp = { value := ofLe r.data, err := false } ∧
      u.res = { s.res with chans := s.res.chans.modify ch.val fun c => { c with flight := c.flight.tail, rq := c.rq.erase r } }) ∧
  (∀ (ch : Fin 4) (f : Flight) (fs : List Flight) (s : State), (s.chan ch.val).flight = f :: fs → f.fill = true →
    s.res.poison.contains f.line = false → (∀ r, r ∈ (s.chan ch.val).rq → r.shared = false) →
    execNext (.resReadData ch .ok 0) s fun u =>
      s.changes u [] [.res] ∧ u.res.chans.map (·.wq) = (s.res.chans.modify ch.val fun c =>
        { c with wq := c.wq.map fun e => if e.line == f.line && e.filling then { e with filling := false, mask := fullMask } else e }).map
          (·.wq)) ∧
  (∀ (ch : Fin 4) (f : Flight) (fs : List Flight) (s : State), (s.chan ch.val).flight = f :: fs → f.tries < 3 →
    execNext (.resReadData ch .uncorrectable 0) s fun u =>
      s.changes u [F.RIP_FLOG_STAT_OVERFLOW.key 0 0] [.res, .fab] ∧ u.res = { s.res with chans := s.res.chans.modify ch.val fun c =>
        { c with flight := { f with tries := f.tries + 1 } :: c.flight.tail } }) ∧
  (∀ (ch : Fin 4) (f : Flight) (fs : List Flight) (r : ReadReq) (s : State), (s.chan ch.val).flight = f :: fs → 3 ≤ f.tries →
    f.fill = false → ((s.chan ch.val).rq.find? fun r => r.issued && r.line == f.line) = some r →
    s.rd F.RES_UE_INFO_VALID = 1 → s.fab.flog.length < 64 → s.room 129 →
    execNext (.resReadData ch .uncorrectable 0) s fun u =>
      s.changes u [lostKey] [.res, .resp, .fab, .inl] ∧ u.resp = { value := 0, err := true } ∧
      s.raises u [{ s.ev 129 (chanOf (r.line * 64 + r.off)) r.tag.cove r.tag.secure with gen := r.tag.gen }])

/-- R225, rule 2: among the candidates of one class, secure work goes first and then a hit of an open row. -/
def Obligations.ReservoirOrder : Prop :=
  ∀ (l : List Cand) (c : Cand), bestCand l = some c →
    c ∈ l ∧ (∀ d, d ∈ l → c.secure = false → d.secure = false) ∧
    ∀ d, d ∈ l → d.secure = c.secure → c.hit = false → d.hit = false

/-- R217, R222 to R227: the DRAM command of a channel serves the request that R225 chooses: a row command where its row is not open,
READ for a read and for the completing read of a partial write, WRITE for a complete write whose data is ready. A WRITE whose data is
late is deferred, counted and reported by event 135 at most once per millisecond. -/
def Obligations.ReservoirCommands : Prop :=
  (∀ (ch : Fin 4) (busy : List Nat) (wd rs : Bool) (c : Cand) (s : State), s.chooses ch.val busy rs c → c.hit = false →
    execNext (.resCommandIssue ch busy wd rs) s fun t =>
      s.changes t [] [.res, .sent] ∧ ∃ act, t.sent = .dramCmd ch.val [b2n act, c.bank, c.row] :: s.sent) ∧
  (∀ (ch : Fin 4) (busy : List Nat) (wd rs : Bool) (c : Cand) (s : State), s.chooses ch.val busy rs c → c.hit = true →
    c.write = false ∨ (s.atSlot ch.val).partialAt ch.val c.ix = true →
    execNext (.resCommandIssue ch busy wd rs) s fun t =>
      s.changes t [] [.res, .sent, .fresh] ∧ s.issued t ch.val [2, c.bank, c.row, c.line] ∧
      t.res.chans.map (·.flight) = (s.res.chans.modify ch.val fun k =>
        { k with flight := k.flight ++ [{ line := c.line, fill := c.write, tries := 0 }] }).map (·.flight)) ∧
  (∀ (ch : Fin 4) (busy : List Nat) (rs : Bool) (c : Cand) (s : State), s.chooses ch.val busy rs c → c.hit = true → c.write = true →
    (s.atSlot ch.val).partialAt ch.val c.ix = false →
    execNext (.resCommandIssue ch busy true rs) s fun t =>
      s.changes t [] [.res, .sent, .fresh] ∧ s.issued t ch.val [3, c.bank, c.row, c.line]) ∧
  (∀ (ch : Fin 4) (busy : List Nat) (c : Cand) (s : State), s.chooses ch.val busy false c → c.hit = true → c.write = true →
    (s.atSlot ch.val).partialAt ch.val c.ix = false → ((s.atSlot ch.val).chan ch.val).lastLate = none → s.room 135 →
    execNext (.resCommandIssue ch busy false false) s fun t =>
      s.changes t [F.RES_CH_STAT_WDEFER.key ch.val 0, lostKey] [.res, .inl] ∧
      t.rd F.RES_CH_STAT_WDEFER ch.val = (s.rd F.RES_CH_STAT_WDEFER ch.val + 1) % 2 ^ 16 ∧
      s.raises t [s.ev 135 ch.val 0 false])

/-- R213, R220, R228, R230: temperature polls, refreshes and refresh management, page initialisation and the patrol. -/
def Obligations.ReservoirUpkeep : Prop :=
  (∀ (ch : Fin 4) (rank : Fin 2) (rate : BitVec 4) (s : State), s.hasRank rank.val = true →
    nth (s.chan ch.val).mr4 rank.val 0 ≠ rate.toNat → s.room 136 →
    execNext (.mr4Poll ch rank rate false) s fun t =>
      s.changes t [lostKey] [.res, .inl] ∧ s.raises t [s.ev 136 (ch.val + 16 * rate.toNat) 0 false] ∧
      t.res = { s.res with chans := s.res.chans.modify ch.val fun c => { c with mr4 := c.mr4.set rank.val rate.toNat } }) ∧
  (∀ (ch : Fin 4) (rank : Fin 2) (rate : BitVec 4) (s : State), s.hasRank rank.val = true →
    nth (s.chan ch.val).mr4 rank.val 0 = rate.toNat → s.room 137 →
    execNext (.mr4Poll ch rank rate true) s fun t =>
      s.changes t [lostKey] [.res, .inl] ∧ s.raises t [s.ev 137 ch.val 0 false]) ∧
  (∀ (ch : Fin 4) (rank : Fin 2) (s : State), s.chanReady ch.val = true → s.hasRank rank.val = true →
    s.refreshIs ch.val rank.val = true → (s.chan ch.val).ready = true → nth (s.chan ch.val).refDebt rank.val 0 < 8 →
    execNext (.refreshDue ch rank none) s fun t =>
      s.changes t [] [.res] ∧ t.res = { s.res with chans := s.res.chans.modify ch.val fun c =>
        { c with refAt := c.refAt.set rank.val s.elapsed,
                 refDebt := c.refDebt.set rank.val (nth (s.chan ch.val).refDebt rank.val 0 + 1) } }) ∧
  (∀ (ch : Fin 4) (rank : Fin 2) (s : State), s.chanReady ch.val = true → s.hasRank rank.val = true →
    s.refreshIs ch.val rank.val = true → (s.chan ch.val).ready = false →
    execNext (.refreshDue ch rank none) s fun t =>
      s.changes t [] [.res, .sent] ∧
      t.sent = .dramCmd ch.val [4, rank.val, nth (s.chan ch.val).refDebt rank.val 0 + 1,
        if s.rd F.RES_CFG_RATE = 0 then 16 else nth (s.chan ch.val).refBank rank.val 0] :: s.sent ∧
      t.res.chans.map (·.refDebt) = (s.res.chans.modify ch.val fun c => { c with refDebt := c.refDebt.set rank.val 0 }).map (·.refDebt) ∧
      t.res.chans.map (·.refAt) = (s.res.chans.modify ch.val fun c => { c with refAt := c.refAt.set rank.val s.elapsed }).map (·.refAt)) ∧
  (∀ (ch : Fin 4) (rank : Fin 2) (s : State), s.chanReady ch.val = true → s.hasRank rank.val = true →
    s.refreshIs ch.val rank.val = false → execNext (.refreshDue ch rank none) s fun t => t = s) ∧
  (∀ (ch : Fin 4) (rank : Fin 2) (b : Fin 16) (s : State), s.chanReady ch.val = true → s.hasRank rank.val = true →
    execNext (.refreshDue ch rank (some b)) s fun t =>
      s.changes t [] [.res, .sent] ∧ t.sent = .dramCmd ch.val [7, rank.val, b.val] :: s.sent ∧
      t.res = { s.res with chans := s.res.chans.modify ch.val fun c =>
        { c with rows := c.rows.filter fun r => !(r.bank / 2 % 2 == rank.val && r.bank / 4 == b.val) } }) ∧
  (∀ (s : State), s.chip.phase = .run → s.res.initDone = false → s.res.initExtra = [] → s.res.initUpTo + 1 < s.pageCount →
    execNext .pageInit s fun t => s.changes t [] [.res] ∧ t.res = { s.res with initUpTo := s.res.initUpTo + 1 }) ∧
  (∀ (s : State), s.chip.phase = .run → s.res.initDone = false → s.res.initExtra = [] → s.res.initUpTo + 1 = s.pageCount →
    s.room 138 →
    execNext .pageInit s fun t =>
      s.changes t [lostKey] [.res, .inl] ∧ t.res = { s.res with initUpTo := s.res.initUpTo + 1, initDone := true } ∧
      s.raises t [s.ev 138 0 0 false]) ∧
  (∀ (ch : Fin 4) (s : State), s.rd F.RES_SCRUB_CFG_HOURS ≠ 0 → s.chanReady ch.val = true → s.chanOff ch.val = false →
    ch.val < s.res.chans.length → (s.chan ch.val).scrubDone = false → (s.chan ch.val).scrubPos + 1 < s.scrubLines →
    s.res.poison = [] →
    execNext (.patrolScrub ch .ok 0) s fun t =>
      s.changes t [] [.res] ∧ t.res = { s.res with chans := s.res.chans.modify ch.val fun c =>
        { c with scrubPos := (s.chan ch.val).scrubPos + 1, scrubDone := false } }) ∧
  (∀ (ch : Fin 4) (s : State), s.rd F.RES_SCRUB_CFG_HOURS ≠ 0 → s.chanReady ch.val = true → s.chanOff ch.val = false →
    ch.val < s.res.chans.length → (s.chan ch.val).scrubDone = false → (s.chan ch.val).scrubPos + 1 < s.scrubLines →
    s.scrubSkips ch.val (s.chan ch.val).scrubPos = false → s.rd F.RES_UE_INFO_VALID = 1 → s.room 131 →
    execNext (.patrolScrub ch .uncorrectable 0) s fun t =>
      s.changes t [lostKey] [.res, .inl] ∧ s.raises t [s.ev 131 ch.val 0 false])

/-- R231, R232: a soft repair starts where its bank has none, ends with event 133 and the target in the channel's list, or fails
with a REASON and event 134. -/
def Obligations.SoftRepair : Prop :=
  (∀ (ini : Initiator) (s : State), s.onBus ini → s.isSec ini = true → s.res.ppr = none →
    ((s.chan (bits (s.rd F.RES_PPR_TGT_TARGET) 29 28)).repairs.any (sameBank (s.rd F.RES_PPR_TGT_TARGET))) = false →
    (s.chan (bits (s.rd F.RES_PPR_TGT_TARGET) 29 28)).repairs.length < 16 →
    execNext (.pprStart ini false) s fun t =>
      s.changes t [F.RES_PPR_STAT_BUSY.key 0 0] [.res, .sent, .resp] ∧ t.done ∧ t.rd F.RES_PPR_STAT_BUSY = 1 ∧
      t.res = { s.res with
        ppr := some (s.rd F.RES_PPR_TGT_TARGET)
        chans := s.res.chans.modify (bits (s.rd F.RES_PPR_TGT_TARGET) 29 28) fun c =>
          { c with rows := c.rows.filter fun r => r.bank != targetBank (s.rd F.RES_PPR_TGT_TARGET) } }) ∧
  (∀ (ini : Initiator) (nr : Bool) (x : Nat) (s : State), s.onBus ini → s.isSec ini = true → s.res.ppr = some x → s.room 134 →
    execNext (.pprStart ini nr) s fun t =>
      s.changes t [F.RES_PPR_STAT_FAIL.key 0 0, F.RES_PPR_STAT_REASON.key 0 0, lostKey] [.inl, .resp] ∧ t.done ∧
      t.rd F.RES_PPR_STAT_FAIL = 1 ∧ t.rd F.RES_PPR_STAT_REASON = 1 ∧ s.raises t [s.ev 134 1 0 false]) ∧
  (∀ (x : Nat) (s : State), s.res.ppr = some x → s.room 133 →
    execNext (.pprDone true []) s fun t =>
      s.changes t [F.RES_PPR_STAT_BUSY.key 0 0, F.RES_PPR_STAT_DONE.key 0 0, lostKey] [.res, .mram, .inl] ∧
      t.rd F.RES_PPR_STAT_BUSY = 0 ∧ t.rd F.RES_PPR_STAT_DONE = 1 ∧ s.raises t [s.ev 133 (bits x 29 28) 0 false] ∧
      t.res = { s.res with ppr := none, chans := s.res.chans.modify (bits x 29 28) fun c =>
        { c with repairs := c.repairs ++ [x] } }) ∧
  (∀ (ok : Bool) (bad : List (Fin 32)) (x : Nat) (s : State), s.res.ppr = some x →
    execNext (.pprDone ok bad) s fun t => t.res.ppr = none ∧ t.rd F.RES_PPR_STAT_BUSY = 0 ∧
      ∀ c, c ∈ bad → s.rowLine x c.val ∈ t.res.poison) ∧
  (∀ (x : Nat) (s : State), s.res.ppr = some x → s.room 134 →
    execNext (.pprDone false []) s fun t =>
      s.changes t [F.RES_PPR_STAT_BUSY.key 0 0, F.RES_PPR_STAT_FAIL.key 0 0, F.RES_PPR_STAT_REASON.key 0 0, lostKey]
        [.res, .inl] ∧ t.res = { s.res with ppr := none } ∧ t.rd F.RES_PPR_STAT_BUSY = 0 ∧
      t.rd F.RES_PPR_STAT_FAIL = 1 ∧ t.rd F.RES_PPR_STAT_REASON = 5 ∧ s.raises t [s.ev 134 5 0 false])

/-- The five rows that write RES_TRN_CTRL with GO, and their OP (Table 08-7). -/
def trnRow (ini : Initiator) (m : BitVec 4) (p : Fin 4) (n : BitVec 11) (c : Instr) (op : Nat) : Prop :=
  (c = .trnWritePattern ini m p n ∧ op = 1) ∨ (c = .trnReadCompare ini m p n ∧ op = 2) ∨
  (c = .trnWriteReadCompare ini m p n ∧ op = 3) ∨ (c = .trnCmdBusCompare ini m p n ∧ op = 4) ∨
  (c = .trnWckSample ini m p n ∧ op = 5)

/-- R234, R235, R236: training helpers and mode-register accesses of the secure world start where none runs, and their ends; a
training that fails at boot tries the next lower rate, keeps nothing of a warm reset, or fails its channel. -/
def Obligations.Training : Prop :=
  (∀ (ini : Initiator) (m : BitVec 4) (p : Fin 4) (n : BitVec 11) (c : Instr) (op : Nat) (s : State), trnRow ini m p n c op →
    s.onBus ini → s.isSec ini = true → s.res.trn = none →
    execNext c s fun t =>
      s.changes t [F.RES_TRN_CTRL_CHMASK.key 0 0, F.RES_TRN_CTRL_OP.key 0 0, F.RES_TRN_CTRL_PAT.key 0 0,
        F.RES_TRN_CTRL_LINES.key 0 0, F.RES_TRN_STAT_BUSY.key 0 0] [.res, .resp] ∧ t.done ∧
      t.rd F.RES_TRN_CTRL_OP = op ∧ t.rd F.RES_TRN_CTRL_CHMASK = m.toNat ∧ t.rd F.RES_TRN_STAT_BUSY = 1 ∧
      t.res.trn = some (.op op m.toNat)) ∧
  (∀ (ini : Initiator) (ch : Fin 4) (rank sc : Fin 2) (ma : BitVec 7) (v : BitVec 8) (s : State), s.onBus ini →
    s.isSec ini = true → s.res.trn = none →
    execNext (.modeRegisterWrite ini ch rank sc ma v) s fun t =>
      s.changes t [F.RES_CH_MR_WRITE.key ch.val 0, F.RES_CH_MR_RANK.key ch.val 0, F.RES_CH_MR_SC.key ch.val 0,
        F.RES_CH_MR_MA.key ch.val 0, F.RES_CH_MR_OP.key ch.val 0, F.RES_TRN_STAT_BUSY.key 0 0] [.res, .sent, .resp] ∧ t.done ∧
      t.rd F.RES_CH_MR_OP ch.val = v.toNat ∧ t.rd F.RES_TRN_STAT_BUSY = 1 ∧ t.res.trn = some (.mrw ch.val) ∧
      t.sent = .dramCmd ch.val [5, rank.val, ma.toNat, v.toNat] :: s.sent) ∧
  (∀ (ini : Initiator) (ch : Fin 4) (rank sc : Fin 2) (ma : BitVec 7) (s : State), s.onBus ini →
    s.isSec ini = true → s.res.trn = none →
    execNext (.modeRegisterRead ini ch rank sc ma) s fun t =>
      s.changes t [F.RES_CH_MR_WRITE.key ch.val 0, F.RES_CH_MR_RANK.key ch.val 0, F.RES_CH_MR_SC.key ch.val 0,
        F.RES_CH_MR_MA.key ch.val 0, F.RES_TRN_STAT_BUSY.key 0 0] [.res, .sent, .resp] ∧ t.done ∧
      t.rd F.RES_TRN_STAT_BUSY = 1 ∧ t.res.trn = some (.mrr ch.val) ∧
      t.sent = .dramCmd ch.val [6, rank.val, sc.val, ma.toNat] :: s.sent) ∧
  (∀ (errs counts : List Nat) (mrr : BitVec 8) (ch : Nat) (s : State), s.res.trn = some (.mrr ch) →
    execNext (.trnDone errs counts mrr) s fun t =>
      s.changes t [F.RES_TRN_STAT_BUSY.key 0 0, F.RES_TRN_STAT_DONE.key 0 0, F.RES_CH_MR_OP.key ch 0] [.res] ∧
      t.rd F.RES_TRN_STAT_DONE = 1 ∧ t.res = { s.res with trn := none } ∧ t.rd F.RES_CH_MR_OP ch = mrr.toNat) ∧
  (∀ (ch : Fin 4) (s : State), s.chip.phase = .boot → s.chip.step10 = false → s.rd F.RES_CH_STAT_STATE ch.val ≠ 3 →
    s.res.warmTrain = false → 0 < s.res.tryRate → s.room 139 →
    execNext (.trainingFail ch) s fun t =>
      s.changes t [F.RES_CH_STAT_STATE.key 0 0, F.RES_CH_STAT_STATE.key 1 0, F.RES_CH_STAT_STATE.key 2 0,
        F.RES_CH_STAT_STATE.key 3 0, lostKey] [.res, .inl] ∧
      t.res = { s.res with tryRate := s.res.tryRate - 1 } ∧ s.raises t [s.ev 139 (s.res.tryRate - 1) 0 false]) ∧
  (∀ (ch : Fin 4) (s : State), s.chip.phase = .boot → s.chip.step10 = false → s.rd F.RES_CH_STAT_STATE ch.val ≠ 3 →
    s.res.warmTrain = false → s.res.tryRate = 0 → s.room 140 →
    execNext (.trainingFail ch) s fun t =>
      s.changes t [F.RES_CH_STAT_STATE.key ch.val 0, lostKey] [.inl] ∧ t.rd F.RES_CH_STAT_STATE ch.val = 3 ∧
      s.raises t [s.ev 140 ch.val 0 false]) ∧
  (∀ (ch : Fin 4) (s : State), s.chip.phase = .boot → s.chip.step10 = false → s.rd F.RES_CH_STAT_STATE ch.val ≠ 3 →
    s.res.warmTrain = true →
    execNext (.trainingFail ch) s fun t =>
      s.changes t [F.CHIP_RESET_CAUSE_DRAM_KEPT.key 0 0] [.res, .dram] ∧ t.rd F.CHIP_RESET_CAUSE_DRAM_KEPT = 0 ∧
      t.dram = [] ∧ t.res.initUpTo = 0 ∧ t.res.warmTrain = false)

/-! ### Tarn and Basin (chapters 09 and 10) -/

/-- R273, R300, R302, R303: a secure write through the debug window; a patrol read takes the next granule that a map names; a
bank that retires, one that is empty as it retires (event 184), and the remapping of an empty bank. -/
def Obligations.TarnStore : Prop :=
  (∀ (ini : Initiator) (off : Fin 134217728) (l : List Byte) (s : State), s.issues ini = true →
    s.isSec ini = true → l ≠ [] →
    off.val + l.length ≤ 134217728 → s.tst.bad = [] →
    execNext (.tarnDebugWrite ini off l .ok) s fun t =>
      s.changes t [] [.tarn, .tst, .resp] ∧ memRead t.tarn off.val l.length = l ∧ t.resp = { value := 0, err := false } ∧
      t.tst = s.tst ∧
      ∀ b n, b + n ≤ off.val ∨ off.val + l.length ≤ b → memRead t.tarn b n = memRead s.tarn b n) ∧
  (∀ (w : Fin 128) (s : State), s.rd F.TARN_CFG_PATROL_MS ≠ 0 → s.namedGrans ≠ [] → (∀ g, g ∈ s.namedGrans → g ≤ 131071) →
    s.tst.bad = [] →
    execNext (.tarnPatrolRead w .ok none) s fun t =>
      s.changes t [] [.tst] ∧ ∃ g, g ∈ s.namedGrans ∧ t.tst = { s.tst with patrolPos := g + 1 } ∧
        ∀ x, x ∈ s.namedGrans → s.tst.patrolPos ≤ x → g ≤ x) ∧
  (∀ (ini : Initiator) (b : Fin 256) (v : Word) (s : State), s.onBus ini → s.isSec ini = true → v.toNat.testBit 31 = true →
    s.rd F.TARN_BANK_MAP_EMPTY b.val = 0 → s.bankUsed b.val ≠ 0 →
    (∀ n, n < 256 → n ≠ b.val → s.rd F.TARN_BANK_MAP_RETIRE n = 0 ∨ s.rd F.TARN_BANK_MAP_EMPTY n = 1 ∨ s.bankUsed n ≠ 0) →
    execNext (.bankRetire ini b v) s fun t =>
      s.changes t [F.TARN_BANK_MAP_RETIRE.key b.val 0] [.resp] ∧ t.done ∧ t.rd F.TARN_BANK_MAP_RETIRE b.val = 1) ∧
  (∀ (ini : Initiator) (b : Fin 256) (v : Word) (s : State), s.onBus ini → s.isSec ini = true → v.toNat.testBit 31 = true →
    s.rd F.TARN_BANK_MAP_EMPTY b.val = 0 → s.bankUsed b.val = 0 →
    (∀ n, n < 256 → n ≠ b.val → s.rd F.TARN_BANK_MAP_RETIRE n = 0) → s.room 184 →
    execNext (.bankRetire ini b v) s fun t =>
      s.changes t [F.TARN_BANK_MAP_RETIRE.key b.val 0, F.TARN_BANK_MAP_EMPTY.key b.val 0, lostKey] [.inl, .resp] ∧ t.done ∧
      t.rd F.TARN_BANK_MAP_RETIRE b.val = 1 ∧ t.rd F.TARN_BANK_MAP_EMPTY b.val = 1 ∧
      s.raises t [s.ev 184 b.val 0 false]) ∧
  (∀ (ini : Initiator) (b : Fin 256) (v : Word) (s : State), s.onBus ini → s.isSec ini = true → v.toNat.testBit 31 = false →
    s.rd F.TARN_BANK_MAP_EMPTY b.val = 1 → v.toNat % 512 < 264 →
    execNext (.bankRemap ini b v) s fun t =>
      s.changes t [F.TARN_BANK_MAP_PHYS.key b.val 0, F.TARN_BANK_MAP_RETIRE.key b.val 0,
        F.TARN_BANK_MAP_EMPTY.key b.val 0] [.resp] ∧ t.done ∧
      t.rd F.TARN_BANK_MAP_PHYS b.val = v.toNat % 512 ∧ t.rd F.TARN_BANK_MAP_RETIRE b.val = 0 ∧
      t.rd F.TARN_BANK_MAP_EMPTY b.val = 0)

/-- The registers of slot `i` that an accepted register commit writes. -/
def commitKeys (i : Nat) : List Nat :=
  [F.BAS_SLOT_STAT_CODE.key i 0, F.BAS_SLOT_STAT_PENDING.key i 0, F.BAS_SLOT_COMMIT_SEQ_TARGET.key i 0,
   F.BAS_SLOT_COMMIT_STAT_DECIDED.key i 0, F.BAS_SLOT_COMMIT_STAT_STATUS.key i 0, F.BAS_SLOT_COMMIT_STAT_REJECTED.key i 0]

/-- R252, R262, R283 to R287, R289: a secure slot committed through its window takes its staged descriptor when every check
passes, and reports STATUS 1 and its TARGET; a failed check reports its status with event 179. A queue commit descriptor of
another form than Table 10-3 stops its queue; one that names one slot, whose layer descriptor in memory passes its checks, is
accepted for that slot. -/
def Obligations.BasinCommits : Prop :=
  (∀ (ini : Initiator) (i : Fin 64) (s : State), s.issues ini = true → s.isSec ini = true → s.slotWindow i.val = true →
    (s.layer i.val).secure = true → s.commitCheck [i.val] = 0 → (s.slot i.val).pend = none →
    (parseDesc (s.staged i.val)).check (s.layer i.val) = 0 →
    execNext (.slotCommit ini i 0x80000000) s fun t =>
      s.changes t (commitKeys i.val) [.bas, .resp] ∧ t.done ∧ t.rd F.BAS_SLOT_COMMIT_STAT_DECIDED i.val = 1 ∧
      t.rd F.BAS_SLOT_COMMIT_STAT_STATUS i.val = 1 ∧ t.rd F.BAS_SLOT_COMMIT_STAT_REJECTED i.val = 0 ∧
      t.rd F.BAS_SLOT_COMMIT_SEQ_TARGET i.val = s.targetOf (i.val / 8) ∧
      t.rd F.BAS_SLOT_STAT_PENDING i.val = b2n ((parseDesc (s.staged i.val)).acqAddr != 0) ∧
      ∃ p : PendDesc, p.raw = s.staged i.val ∧ p.commit = s.bas.nextCommit ∧ p.taken = false ∧
        t.bas.slots = s.bas.slots.modify i.val fun k => { k with pend := some p }) ∧
  (∀ (ini : Initiator) (i : Fin 64) (v : Word) (s : State), s.issues ini = true → s.isSec ini = true → s.slotWindow i.val = true →
    (s.layer i.val).secure = true → v.toNat.testBit 31 = true → s.safe = true → s.room 179 →
    execNext (.slotCommit ini i v) s fun t =>
      s.changes t [F.BAS_SLOT_COMMIT_STAT_DECIDED.key i.val 0, F.BAS_SLOT_COMMIT_STAT_STATUS.key i.val 0,
        F.BAS_SLOT_COMMIT_STAT_REJECTED.key i.val 0, lostKey] [.inl, .resp] ∧ t.done ∧
      t.rd F.BAS_SLOT_COMMIT_STAT_DECIDED i.val = 1 ∧ t.rd F.BAS_SLOT_COMMIT_STAT_STATUS i.val = 5 ∧
      s.raises t [s.ev 179 (i.val + 5 * 256) 0 true]) ∧
  (∀ (c : Fin 32) (q : Fin 64) (d : QDesc) (s : State), s.bas.queue = [d] → d.cove = c.val → d.q = q.val →
    queueCommitOk d.bytes = false → s.room 101 →
    execNext (.queueCommitAccept c q) s fun t =>
      s.changes t [F.COVE_Q_CONS_CONS.key c.val q.val, F.COVE_Q_STAT_FAULT.key c.val q.val,
        F.COVE_Q_STAT_CODE.key c.val q.val, lostKey] [.bas, .inl] ∧
      t.bas = { s.bas with queue := [] } ∧ t.rd F.COVE_Q_STAT_FAULT c.val q.val = 1 ∧
      t.rd F.COVE_Q_STAT_CODE c.val q.val = 1 ∧ s.raises t [s.ev 101 (q.val + 256) c.val false]) ∧
  (∀ (c : Fin 32) (q : Fin 64) (d : QDesc) (i : Nat) (s : State), s.bas.queue = [d] → d.cove = c.val → d.q = q.val →
    queueCommitOk d.bytes = true → leAt d.bytes 0 1 = 1 → slotsOf (leAt d.bytes 1 1) (leAt d.bytes 2 1) = [i] →
    s.bareOk c.val (leAt d.bytes 8 8) 128 false → s.queueCheck c.val [i] = 0 → (s.slot i).pend = none → i < 64 →
    (parseDesc (memRead s.dram (leAt d.bytes 8 8) 128)).check (s.layer i) = 0 →
    execNext (.queueCommitAccept c q) s fun t =>
      s.changes t [F.COVE_Q_CONS_CONS.key c.val q.val, F.BAS_SLOT_STAT_CODE.key i 0, F.BAS_SLOT_STAT_PENDING.key i 0,
        F.BAS_SLOT_COMMIT_SEQ_TARGET.key i 0] [.bas] ∧ t.bas.queue = [] ∧
      t.rd F.COVE_Q_CONS_CONS c.val q.val = (s.rd F.COVE_Q_CONS_CONS c.val q.val + 1) % 2 ^ 32 ∧
      ∃ p : PendDesc, p.raw = memRead s.dram (leAt d.bytes 8 8) 128 ∧ p.commit = s.bas.nextCommit ∧ p.taken = false ∧
        t.bas.slots = s.bas.slots.modify i fun k => { k with pend := some p })

/-- R278, R291, R293, R294, R298, R580: a latch point without a slot starts a composition of the forced tiles; a reservation is
granted; a tile that no layer reaches is stored as a solid tile of BG_COLOUR; a layer job ends and frees its slot; a complete
composition returns its reservation; a blocked source read marks its slot and restarts the composition. -/
def Obligations.Compositions : Prop :=
  (∀ (h : Fin 8) (s : State), s.scanning h.val = true → s.runOrDip = true → s.safe = false → s.composer h.val = true →
    (s.hc h.val).cur = none → (s.hc h.val).forced ≠ [] → s.slotsOn h.val = [] → h.val < s.bas.heads.length →
    execNext (.latchPoint h) s fun t =>
      (∃ c, (t.hc h.val).cur = some c ∧ c.plans = [] ∧ c.complete = false ∧ c.seq = s.rd F.OUT_HEAD_SEQ_SEQ h.val) ∧
      (t.hc h.val).forced = [] ∧ (t.hc h.val).latched = true ∧ (t.hc h.val).disp = (s.hc h.val).disp ∧
      t.dram = s.dram ∧ t.tarn = s.tarn) ∧
  (∀ (h : Fin 8) (c : Comp) (s : State), (s.hc h.val).cur = some c → c.granted = false → s.canReserve h.val c = true →
    execNext (.reservationGrant h) s fun t =>
      s.changes t [] [.bas] ∧ (t.hc h.val).cur = some { c with granted := true, resv := c.dirty.length * s.gOf h.val }) ∧
  (∀ (h : Fin 8) (k : Nat) (c : Comp) (s : State), (s.hc h.val).cur = some c → c.granted = true → k ∈ c.left →
    s.plansAt h.val k c = [] → s.tileLegal h.val k = false →
    execNext (.tileComposed h k false false) s fun t =>
      s.changes t [] [.bas] ∧
      (t.hc h.val).comp = (s.hc h.val).comp.set k
        { count := 0, grans := [], colour := storedPx (s.head h.val).depth30 (pxOf c.bg), lost := false } ∧
      (t.hc h.val).ownNew = (s.hc h.val).ownNew.set k 0 ∧
      (t.hc h.val).cur = some { c with left := c.left.erase k, resv := c.resv - s.gOf h.val }) ∧
  (∀ (h : Fin 8) (i : Fin 64) (c : Comp) (j : LayerJob) (s : State), (s.hc h.val).cur = some c → c.jobs = [j] →
    j.slot = i.val → j.kind = some .secure → j.done = false → c.left = [] → (∀ p, p ∈ c.plans → p.taking = false) →
    execNext (.layerJobDone h i) s fun t =>
      s.changes t [] [.bas, .fab] ∧ t.fab = { s.fab with secSlots := s.fab.secSlots.modify 2 (· - 1) } ∧
      (t.hc h.val).cur = some { c with jobs := [{ j with done := true }] }) ∧
  (∀ (h : Fin 8) (c : Comp) (s : State), (s.hc h.val).cur = some c → c.granted = true → c.complete = false → c.left = [] →
    c.nvrLeft = [] → (∀ j, j ∈ c.jobs → j.done = true) → (∀ p, p ∈ c.plans → p.taking = false) →
    execNext (.compositionComplete h) s fun t =>
      s.changes t [] [.bas] ∧ (t.hc h.val).cur = some { c with complete := true, resv := 0 }) ∧
  (∀ (h : Fin 8) (i : Fin 64) (c : Comp) (p : Plan) (j : LayerJob) (s : State), (s.hc h.val).cur = some c → c.plans = [p] →
    p.slot = i.val → p.placeholder = false → p.taking = false → c.jobs = [j] → j.slot = i.val → j.kind.isSome = true →
    j.done = false → (s.fetch p).2 = true →
    execNext (.layerFault h i) s fun t =>
      t.rd F.BAS_SLOT_STAT_LAYER_FAULT i.val = 1 ∧ t.rd F.BAS_SLOT_STAT_CODE i.val = 8 ∧ t.dram = s.dram ∧
      t.tarn = s.tarn ∧ ∃ c', (t.hc h.val).cur = some c' ∧ c'.plans = [{ p with placeholder := true, allDirty := true }] ∧
        c'.complete = false)

/-- R288, R294, R320, R324: a frame start without a composition counts the frame, stamps it with the timebase and sets or
clears ABORT; at a frame start a complete composition's tiles become the displayed ones; the spare PLL takes over a head that
its PLL has lost. -/
def Obligations.FrameStarts : Prop :=
  (∀ (h : Fin 8) (e : Option Nat) (s : State), (s.oh h.val).stage.frames = true → (s.head h.val).follow = false →
    (s.hc h.val).cur = none →
    execNext (.frameStart h e) s fun t =>
      t.rd F.OUT_HEAD_SEQ_SEQ h.val =
        (if (s.oh h.val).fsAt = 0 then s.rd F.OUT_HEAD_SEQ_SEQ h.val else s.rd F.OUT_HEAD_SEQ_SEQ h.val + 1) % 2 ^ 32 ∧
      t.rd F.OUT_HEAD_FS_TS_TS h.val = s.tbs.now % 2 ^ 64 ∧ t.rd F.OUT_HEAD_STAT_ABORT h.val = b2n (s.oh h.val).aborting ∧
      t.mram = s.mram ∧ t.chip.phase = s.chip.phase) ∧
  (∀ (h : Fin 8) (seq : Nat) (c : Comp) (s : State), (s.hc h.val).cur = some c → c.complete = true → c.plans = [] →
    ((s.basFrame h.val seq).hc h.val).disp = (s.hc h.val).comp ∧ ((s.basFrame h.val seq).hc h.val).cur = none) ∧
  (∀ (p : Fin 8) (s : State), s.out.pllSpare = some p.val → (s.head (s.rd F.OUT_PLL_STAT_HEAD 8)).safety = false →
    s.rd F.OUT_PLL_STAT_HEAD 8 < 8 → s.room 265 →
    execNext .pllSpareIn s fun t =>
      t.out.pllSpare = none ∧ t.rd F.OUT_PLL_STAT_LOCKED 8 = 1 ∧ t.rd F.OUT_PLL_STAT_IN_USE p.val = 0 ∧
      t.rd F.OUT_HEAD_STAT_PLL (s.rd F.OUT_PLL_STAT_HEAD 8) = 8 ∧ s.raises t [s.ev 265 p.val 0 false] ∧ t.dram = s.dram)

/-! ### Outlet (chapter 11) -/

/-- R313, R314, R317: a primary engine decodes every tile of its strip, and its head reports the lowest fill among its engines and the
smallest value of it; a secure
write of OUT_HEADh_FIFO sets RELEASE and LOW and with bit 31 restarts MIN; an ordinary head that reaches a missing pixel counts
it, sends background and raises event 257. -/
def Obligations.ScanOut : Prop :=
  (∀ (e : Fin 12) (strip : Nat) (fill : Fin 96) (s : State), s.role e.val = 1 → s.tst.bad = [] →
    s.scanning (s.rd F.OUT_ENG_STAT_HEAD e.val) = true → strip < s.tilesH (s.rd F.OUT_ENG_STAT_HEAD e.val) →
    s.fifoLow (s.rd F.OUT_ENG_STAT_HEAD e.val) ≤
      (s.modOut fun o => { o with fills := o.fills.set e.val fill.val }).fillOf (s.rd F.OUT_ENG_STAT_HEAD e.val) →
    (∀ k, k ∈ s.stripTiles (s.rd F.OUT_ENG_STAT_HEAD e.val) (s.rd F.OUT_ENG_STAT_HALF e.val) strip →
      (s.tilePx (s.head (s.rd F.OUT_ENG_STAT_HEAD e.val)).depth30 (s.scanEntry (s.rd F.OUT_ENG_STAT_HEAD e.val) k)).isSome = true) →
    execNext (.stripDecode e strip fill [] [] []) s fun t =>
      s.changes t [F.OUT_HEAD_FIFO_FILL.key (s.rd F.OUT_ENG_STAT_HEAD e.val) 0,
        F.OUT_HEAD_FIFO_MIN.key (s.rd F.OUT_ENG_STAT_HEAD e.val) 0] [.out, .gov] ∧
      t.out.fills = s.out.fills.set e.val fill.val ∧
      t.rd F.OUT_HEAD_FIFO_FILL (s.rd F.OUT_ENG_STAT_HEAD e.val) =
        (s.modOut fun o => { o with fills := o.fills.set e.val fill.val }).fillOf (s.rd F.OUT_ENG_STAT_HEAD e.val) ∧
      t.rd F.OUT_HEAD_FIFO_MIN (s.rd F.OUT_ENG_STAT_HEAD e.val) =
        min ((s.modOut fun o => { o with fills := o.fills.set e.val fill.val }).fillOf (s.rd F.OUT_ENG_STAT_HEAD e.val))
          (s.rd F.OUT_HEAD_FIFO_MIN (s.rd F.OUT_ENG_STAT_HEAD e.val)) ∧
      ∀ k, k ∈ s.stripTiles (s.rd F.OUT_ENG_STAT_HEAD e.val) (s.rd F.OUT_ENG_STAT_HALF e.val) strip →
        (t.oh (s.rd F.OUT_ENG_STAT_HEAD e.val)).tile k =
          some (s.tilePx (s.head (s.rd F.OUT_ENG_STAT_HEAD e.val)).depth30 (s.scanEntry (s.rd F.OUT_ENG_STAT_HEAD e.val) k))) ∧
  (∀ (ini : Initiator) (h : Fin 8) (v : Word) (s : State), s.onBus ini → s.isSec ini = true → (s.head h.val).follow = false →
    s.mayHead ini h.val →
    execNext (.fifoMinClr ini h v) s fun t =>
      s.changes t [F.OUT_HEAD_FIFO_RELEASE.key h.val 0, F.OUT_HEAD_FIFO_LOW.key h.val 0, F.OUT_HEAD_FIFO_MIN.key h.val 0] [.resp] ∧ t.done ∧
      t.rd F.OUT_HEAD_FIFO_RELEASE h.val = bits v.toNat 22 16 ∧ t.rd F.OUT_HEAD_FIFO_LOW h.val = bits v.toNat 14 8 ∧
      t.rd F.OUT_HEAD_FIFO_MIN h.val =
        (if v.toNat.testBit 31 then s.rd F.OUT_HEAD_FIFO_FILL h.val else s.rd F.OUT_HEAD_FIFO_MIN h.val)) ∧
  (∀ (h : Fin 8) (line col : Nat) (s : State), s.scanning h.val = true → (s.head h.val).safety = false →
    s.inActive h.val line col = true → s.missing h.val line col = true → (s.oh h.val).under = [] →
    (s.oh h.val).underRaised = false → s.room 257 →
    execNext (.scanUnderrun h line col) s fun t =>
      s.changes t [F.OUT_HEAD_UNDER_COUNT.key h.val 0, lostKey] [.out, .sent, .inl] ∧
      t.rd F.OUT_HEAD_UNDER_COUNT h.val = (s.rd F.OUT_HEAD_UNDER_COUNT h.val + 1) % 2 ^ 32 ∧
      (t.oh h.val).under = [(line, col)] ∧ t.sent = .background h.val :: s.sent ∧ s.raises t [s.ev 257 h.val 0 false])

/-- R318, R320, R322, R324: a safety head that reaches a missing pixel aborts its frame (event 258 with cause 0); a mismatch of
primary and checker puts an entry in the fault log, raises event 261 and aborts with cause 1; a PLL in use that unlocks stops its
head, raises event 264, and PLL 8 is programmed to replace it. -/
def Obligations.Aborts : Prop :=
  (∀ (h : Fin 8) (line col : Nat) (s : State), s.scanning h.val = true → (s.head h.val).safety = true →
    s.inActive h.val line col = true → s.missing h.val line col = true → (s.oh h.val).aborting = false →
    s.rd F.OUT_HEAD_ABORT_CONSEC h.val = 0 → s.windowsDone h.val → s.room 258 →
    execNext (.frameAbort h line col) s fun t =>
      s.changes t [F.OUT_HEAD_ABORT_TOTAL.key h.val 0, F.OUT_HEAD_UNDER_COUNT.key h.val 0,
        F.OUT_HEAD_ABORT_CONSEC.key h.val 0, lostKey] [.out, .inl] ∧
      t.rd F.OUT_HEAD_ABORT_TOTAL h.val = (s.rd F.OUT_HEAD_ABORT_TOTAL h.val + 1) % 2 ^ 24 ∧
      t.rd F.OUT_HEAD_UNDER_COUNT h.val = (s.rd F.OUT_HEAD_UNDER_COUNT h.val + 1) % 2 ^ 32 ∧
      t.rd F.OUT_HEAD_ABORT_CONSEC h.val = 1 ∧ (t.oh h.val).aborting = true ∧ s.raises t [s.ev 258 h.val 0 false]) ∧
  (∀ (h : Fin 8) (line col e c : Nat) (s : State), s.engFor 1 h.val (s.halfOf h.val col) = some e →
    s.engFor 2 h.val (s.halfOf h.val col) = some c → s.scanning h.val = true → (s.head h.val).safety = true →
    s.inActive h.val line col = true → (s.oh h.val).aborting = false → s.rd F.OUT_HEAD_ABORT_CONSEC h.val = 0 →
    s.windowsDone h.val → s.fab.flog.length < 64 → s.room 258 → s.room 261 →
    execNext (.lockstepMismatch h line col) s fun t =>
      s.changes t [F.OUT_HEAD_ABORT_TOTAL.key h.val 0, F.OUT_HEAD_UNDER_COUNT.key h.val 0,
        F.OUT_HEAD_ABORT_CONSEC.key h.val 0, lostKey] [.out, .inl, .fab] ∧
      t.fab.flog = s.fab.flog ++
        [s.flogEntry 1 0 4 (regionOf { unit := 11, inst := Fin.ofNat 512 e }) { unit := 11, inst := Fin.ofNat 512 e } (secTag s)] ∧
      t.rd F.OUT_HEAD_ABORT_CONSEC h.val = 1 ∧ (t.oh h.val).aborting = true ∧
      s.raises t [s.ev 261 (h.val + 16 * line) 0 false, s.ev 258 (h.val + 16) 0 false]) ∧
  (∀ (p : Fin 8) (h : Nat) (s : State), s.rd F.OUT_PLL_STAT_LOCKED p.val = 1 → s.rd F.OUT_PLL_STAT_IN_USE p.val = 1 →
    s.rd F.OUT_PLL_STAT_IN_USE 8 = 0 → s.rd F.OUT_PLL_STAT_HEAD p.val = h → s.windowsDone h → s.room 264 →
    execNext (.pllUnlock ⟨p.val, by omega⟩) s fun t =>
      s.changes t [F.OUT_PLL_STAT_LOCKED.key p.val 0, F.OUT_HEAD_STAT_ON.key h 0, F.OUT_PLL_STAT_IN_USE.key 8 0,
        F.OUT_PLL_STAT_HEAD.key 8 0, lostKey] [.out, .inl] ∧
      t.rd F.OUT_PLL_STAT_LOCKED p.val = 0 ∧ t.rd F.OUT_HEAD_STAT_ON h = 0 ∧ t.rd F.OUT_PLL_STAT_IN_USE 8 = 1 ∧
      t.rd F.OUT_PLL_STAT_HEAD 8 = h ∧ t.out.pllSpare = some p.val ∧ s.raises t [s.ev 264 p.val 0 false])

/-- R326, R327, R330: the end of link training at the rate of the image (event 266), and at no rate (event 267 with cause 1),
after which a waiting AUX transaction goes out; HPD low for more than 2 ms (event 267 with cause 0); an HPD pulse (event 269), which with a lost lane status takes the link down
(cause 2) and trains again; a plug that a head waits for; a retrain command. -/
def Obligations.Links : Prop :=
  (∀ (n : Fin 8) (ok : BitVec 4) (s : State), s.rd F.OUT_PORT_STAT_TRAINING n.val = 1 →
    ok.toNat.testBit (s.img.ports.getD n.val default).rate = true → s.room 266 →
    execNext (.linkTrainingEnd n ok) s fun t =>
      s.changes t [F.OUT_PORT_STAT_TRAINING.key n.val 0, F.OUT_PORT_STAT_UP.key n.val 0, F.OUT_PORT_STAT_RATE.key n.val 0,
        F.OUT_PORT_STAT_LANES.key n.val 0, lostKey] [.out, .sent, .inl] ∧
      t.out.aux = (s.auxResume n.val).out.aux ∧ t.sent = (s.auxResume n.val).sent ∧
      t.rd F.OUT_PORT_STAT_TRAINING n.val = 0 ∧ t.rd F.OUT_PORT_STAT_UP n.val = 1 ∧
      t.rd F.OUT_PORT_STAT_RATE n.val = (s.img.ports.getD n.val default).rate % 4 ∧
      t.rd F.OUT_PORT_STAT_LANES n.val = (s.img.ports.getD n.val default).lanes % 8 ∧
      ((s.oh n.val).stage = .training → (t.oh n.val).stage = .first) ∧
      s.raises t [s.ev 266 (n.val + 16 * (s.img.ports.getD n.val default).rate + 256 * (s.img.ports.getD n.val default).lanes)
        0 false]) ∧
  (∀ (n : Fin 8) (s : State), s.rd F.OUT_PORT_STAT_TRAINING n.val = 1 → s.room 267 →
    execNext (.linkTrainingEnd n 0) s fun t =>
      s.changes t [F.OUT_PORT_STAT_TRAINING.key n.val 0, F.OUT_PORT_STAT_UP.key n.val 0, lostKey] [.out, .sent, .inl] ∧
      t.out.aux = (s.auxResume n.val).out.aux ∧ t.sent = (s.auxResume n.val).sent ∧
      t.rd F.OUT_PORT_STAT_TRAINING n.val = 0 ∧ t.rd F.OUT_PORT_STAT_UP n.val = 0 ∧
      s.raises t [s.ev 267 (n.val + 16) 0 false]) ∧
  (∀ (n : Fin 8) (us : Nat) (s : State), 2000 < us → s.rd F.OUT_PORT_STAT_UP n.val = 1 → s.room 267 →
    execNext (.hpdUnplug n us) s fun t =>
      s.changes t [F.OUT_PORT_STAT_HPD.key n.val 0, F.OUT_PORT_STAT_UP.key n.val 0, F.OUT_PORT_STAT_TRAINING.key n.val 0,
        lostKey] [.out, .inl] ∧
      t.rd F.OUT_PORT_STAT_HPD n.val = 0 ∧ t.rd F.OUT_PORT_STAT_UP n.val = 0 ∧ t.rd F.OUT_PORT_STAT_TRAINING n.val = 0 ∧
      s.raises t [s.ev 267 n.val 0 false]) ∧
  (∀ (n : Fin 8) (us : Nat) (s : State), 500 ≤ us → us ≤ 2000 → s.portDp n.val = true → s.room 269 →
    execNext (.hpdIrq n us false) s fun t =>
      s.changes t [lostKey] [.inl] ∧ s.raises t [s.ev 269 n.val 0 false]) ∧
  (∀ (n : Fin 8) (us : Nat) (s : State), 500 ≤ us → us ≤ 2000 → s.portDp n.val = true →
    s.rd F.OUT_PORT_CFG_AUTO_TRAIN n.val = 1 → s.rd F.OUT_PORT_STAT_UP n.val = 1 → s.room 269 → s.room 267 →
    execNext (.hpdIrq n us true) s fun t =>
      s.changes t [F.OUT_PORT_STAT_UP.key n.val 0, F.OUT_PORT_STAT_TRAINING.key n.val 0, lostKey] [.out, .inl] ∧
      t.rd F.OUT_PORT_STAT_UP n.val = 0 ∧ t.rd F.OUT_PORT_STAT_TRAINING n.val = 1 ∧
      s.raises t [s.ev 269 n.val 0 false, s.ev 267 (n.val + 32) 0 false]) ∧
  (∀ (n : Fin 8) (s : State), s.powered = true → s.rd F.OUT_PORT_STAT_HPD n.val = 0 → s.portDp n.val = true →
    (s.oh n.val).stage = .hpdWait →
    execNext (.hpdPlug n) s fun t =>
      s.changes t [F.OUT_PORT_STAT_HPD.key n.val 0, F.OUT_PORT_STAT_UP.key n.val 0, F.OUT_PORT_STAT_TRAINING.key n.val 0] [.out] ∧
      t.rd F.OUT_PORT_STAT_HPD n.val = 1 ∧ t.rd F.OUT_PORT_STAT_UP n.val = 0 ∧ t.rd F.OUT_PORT_STAT_TRAINING n.val = 1 ∧
      (t.oh n.val).stage = .training) ∧
  (∀ (ini : Initiator) (n : Fin 8) (s : State), s.onBus ini → s.mayHead ini n.val → s.portDp n.val = true → (s.oh n.val).stage ≠ .off →
    execNext (.portRetrain ini n) s fun t =>
      s.changes t [F.OUT_PORT_STAT_UP.key n.val 0, F.OUT_PORT_STAT_TRAINING.key n.val 0] [.out, .resp] ∧ t.done ∧
      t.rd F.OUT_PORT_STAT_UP n.val = 0 ∧ t.rd F.OUT_PORT_STAT_TRAINING n.val = 1)

/-- The AUX command `c` starts: CMD reads `code`, the transaction of command `cmd` with `len` + 1 bytes goes out, or waits for
the end of training, and BUSY sets. -/
def auxStarts (c : Instr) (ini : Initiator) (n : Fin 8) (len code cmd : Nat) : Prop :=
  ∀ s : State, s.onBus ini → s.mayHead ini n.val → n.val < s.out.aux.length → s.rd F.OUT_PORT_AUX_STAT_BUSY n.val = 0 →
    execNext c s fun t =>
      s.changes t [F.OUT_PORT_AUX_CMD_CMD.key n.val 0, F.OUT_PORT_AUX_CMD_LEN.key n.val 0,
        F.OUT_PORT_AUX_STAT_BUSY.key n.val 0] [.out, .sent, .resp] ∧ t.done ∧
      t.rd F.OUT_PORT_AUX_CMD_CMD n.val = code ∧ t.rd F.OUT_PORT_AUX_CMD_LEN n.val = len ∧
      t.rd F.OUT_PORT_AUX_STAT_BUSY n.val = 1 ∧
      ∃ a : Aux, a.cmd = cmd ∧ a.addr = s.rd F.OUT_PORT_AUX_ADDR_ADDR n.val ∧ a.len = len + 1 ∧ a.waiting = s.on F.OUT_PORT_STAT_TRAINING n.val ∧
        a.defers = 0 ∧ a.silent = 0 ∧ a.data = (if cmd % 2 = 0 then s.auxData n.val (len + 1) else []) ∧
        t.out = { s.out with aux := s.out.aux.set n.val (some a) } ∧
        t.sent = if a.waiting then s.sent else .aux n.val cmd a.addr a.len a.data :: s.sent

/-- R329: the six AUX commands, where CMD 6 and 7 are taken as 1; an ACK of a write and of a read, whose bytes go to
OUT_PORTn_AUX_DATA; a DEFER and its repetition; a transaction without a reply is sent again twice and then fails with REPLY 3. -/
def Obligations.AuxChannel : Prop :=
  (∀ (ini : Initiator) (n : Fin 8) (len : Fin 16) (k : Fin 3),
    auxStarts (.auxNativeWrite ini n len) ini n len.val 0 0 ∧
    auxStarts (.auxNativeRead ini n len k) ini n len.val (if k.val = 0 then 1 else 5 + k.val) 1 ∧
    auxStarts (.auxI2cWrite ini n len) ini n len.val 2 2 ∧ auxStarts (.auxI2cRead ini n len) ini n len.val 3 3 ∧
    auxStarts (.auxI2cWriteMot ini n len) ini n len.val 4 4 ∧ auxStarts (.auxI2cReadMot ini n len) ini n len.val 5 5) ∧
  (∀ (n : Fin 8) (data : List Byte) (a : Aux) (s : State), s.out.aux[n.val]? = some (some a) → a.waiting = false →
    a.cmd % 2 = 0 → s.room 270 →
    execNext (.auxReply n 0 data) s fun t =>
      s.changes t [F.OUT_PORT_AUX_STAT_BUSY.key n.val 0, F.OUT_PORT_AUX_STAT_DONE.key n.val 0,
        F.OUT_PORT_AUX_STAT_REPLY.key n.val 0, lostKey] [.out, .inl] ∧
      t.rd F.OUT_PORT_AUX_STAT_BUSY n.val = 0 ∧ t.rd F.OUT_PORT_AUX_STAT_DONE n.val = 1 ∧
      t.rd F.OUT_PORT_AUX_STAT_REPLY n.val = 0 ∧ t.out = { s.out with aux := s.out.aux.set n.val none } ∧
      s.raises t [s.ev 270 n.val 0 false]) ∧
  (∀ (n : Fin 8) (data : List Byte) (a : Aux) (s : State), s.out.aux[n.val]? = some (some a) → a.waiting = false →
    a.cmd = 1 ∨ a.cmd = 3 ∨ a.cmd = 5 → s.room 270 →
    execNext (.auxReply n 0 data) s fun t =>
      s.changes t ([F.OUT_PORT_AUX_STAT_BUSY.key n.val 0, F.OUT_PORT_AUX_STAT_DONE.key n.val 0,
        F.OUT_PORT_AUX_STAT_REPLY.key n.val 0, lostKey] ++ (List.range 4).map fun k => F.OUT_PORT_AUX_DATA_DATA.key n.val k)
        [.out, .inl] ∧
      (∀ k, k < 4 → t.rd F.OUT_PORT_AUX_DATA_DATA n.val k =
        leAt (data.take a.len ++ (s.auxData n.val 16).drop (data.take a.len).length) (4 * k) 4 % 2 ^ 32) ∧
      t.rd F.OUT_PORT_AUX_STAT_DONE n.val = 1 ∧ t.rd F.OUT_PORT_AUX_STAT_BUSY n.val = 0 ∧
      s.raises t [s.ev 270 n.val 0 false]) ∧
  (∀ (n : Fin 8) (data : List Byte) (a : Aux) (s : State), s.out.aux[n.val]? = some (some a) → a.waiting = false →
    a.defers < 7 →
    execNext (.auxReply n 2 data) s fun t => s.changes t [] [.out] ∧
      t.out = { s.out with aux := s.out.aux.set n.val (some { a with defers := a.defers + 1, silent := 0, waiting := true }) }) ∧
  (∀ (n : Fin 8) (a : Aux) (s : State), s.out.aux[n.val]? = some (some a) → a.waiting = true →
    s.rd F.OUT_PORT_STAT_TRAINING n.val = 0 →
    execNext (.auxDeferRetry n) s fun t => s.changes t [] [.out, .sent] ∧
      t.out = { s.out with aux := s.out.aux.set n.val (some { a with waiting := false }) } ∧
      t.sent = .aux n.val a.cmd a.addr a.len a.data :: s.sent) ∧
  (∀ (n : Fin 8) (a : Aux) (s : State), s.out.aux[n.val]? = some (some a) → a.waiting = false → a.silent < 2 →
    execNext (.auxTimeout n) s fun t => s.changes t [] [.out, .sent] ∧
      t.out = { s.out with aux := s.out.aux.set n.val (some { a with silent := a.silent + 1 }) } ∧
      t.sent = .aux n.val a.cmd a.addr a.len a.data :: s.sent) ∧
  (∀ (n : Fin 8) (a : Aux) (s : State), s.out.aux[n.val]? = some (some a) → a.waiting = false → 2 ≤ a.silent →
    s.room 270 →
    execNext (.auxTimeout n) s fun t =>
      s.changes t [F.OUT_PORT_AUX_STAT_BUSY.key n.val 0, F.OUT_PORT_AUX_STAT_DONE.key n.val 0,
        F.OUT_PORT_AUX_STAT_FAIL.key n.val 0, F.OUT_PORT_AUX_STAT_REPLY.key n.val 0, lostKey] [.out, .inl] ∧
      t.rd F.OUT_PORT_AUX_STAT_FAIL n.val = 1 ∧ t.rd F.OUT_PORT_AUX_STAT_REPLY n.val = 3 ∧
      t.rd F.OUT_PORT_AUX_STAT_BUSY n.val = 0 ∧ s.raises t [s.ev 270 (n.val + 256) 0 false])

/-- R331 to R334: the panel delay of an LVDS head, and of a head whose sink is plugged in; the end of the wait for HPD; a head to
be disabled darkens at its frame start; a PWM period takes the duty; a sample of the ambient light sensor and its filter; an error
on its bus (event 273). -/
def Obligations.Panels : Prop :=
  (∀ (h : Fin 8) (s : State), (s.oh h.val).stage = .panelDelay → s.portDp h.val = false →
    execNext (.panelDelayElapsed h) s fun t => s.changes t [] [.out] ∧ (t.oh h.val).stage = .first) ∧
  (∀ (h : Fin 8) (s : State), (s.oh h.val).stage = .panelDelay → s.portDp h.val = true → s.rd F.OUT_PORT_STAT_HPD h.val = 1 →
    execNext (.panelDelayElapsed h) s fun t =>
      s.changes t [F.OUT_PORT_STAT_UP.key h.val 0, F.OUT_PORT_STAT_TRAINING.key h.val 0] [.out] ∧
      (t.oh h.val).stage = .training ∧ t.rd F.OUT_PORT_STAT_TRAINING h.val = 1) ∧
  (∀ (h : Fin 8) (s : State), (s.oh h.val).stage = .hpdWait → s.room 267 →
    execNext (.hpdWaitTimeout h) s fun t =>
      s.changes t [F.OUT_PORT_STAT_UP.key h.val 0, F.OUT_PORT_STAT_TRAINING.key h.val 0, lostKey] [.out, .inl] ∧
      (t.oh h.val).stage = .first ∧ s.raises t [s.ev 267 h.val 0 false]) ∧
  (∀ (h : Fin 8) (s : State), (s.oh h.val).disabling = true → s.offLast h.val = false → (s.oh h.val).stage = .lit →
    execNext (.headDisable h) s fun t =>
      s.changes t [F.OUT_HEAD_BL_STAT_DUTY.key h.val 0] [.out, .pins] ∧ (t.oh h.val).stage = .closing ∧
      t.rd F.OUT_HEAD_BL_STAT_DUTY h.val = 0 ∧ t.pins = { s.pins with blEn := clearMask 8 s.pins.blEn (2 ^ h.val) }) ∧
  (∀ (h : Fin 8) (s : State), (s.oh h.val).stage = .lit →
    execNext (.blPwmPeriod h) s fun t =>
      s.changes t [F.OUT_HEAD_BL_STAT_DUTY.key h.val 0] [] ∧ t.rd F.OUT_HEAD_BL_STAT_DUTY h.val = s.duty h.val) ∧
  (∀ (b : Fin 4) (x y : Byte) (h : Fin 8) (s : State), s.rd F.OUT_ALS_CFG_PERIOD_MS b.val ≠ 0 →
    s.rd F.OUT_ALS_CFG_LEN3 b.val = 0 → s.rd F.OUT_ALS_CFG_BIG_END b.val = 0 →
    ((List.range 8).filter fun h => (s.head h).en && (s.img.ports.getD h default).als == b.val) = [h.val] →
    execNext (.alsSample b [x, y]) s fun t =>
      s.changes t [F.OUT_ALS_RAW_VALID.key b.val 0, F.OUT_ALS_RAW_COUNT.key b.val 0, F.OUT_HEAD_LUX_LUX.key h.val 0]
        [.out, .sent] ∧
      t.sent = .alsRead b.val (s.rd F.OUT_ALS_CFG_ADDR b.val) (s.rd F.OUT_ALS_CFG_REG b.val) 2 :: s.sent ∧
      t.rd F.OUT_ALS_RAW_VALID b.val = 1 ∧ t.rd F.OUT_ALS_RAW_COUNT b.val = x.toNat + 256 * y.toNat ∧
      t.rd F.OUT_HEAD_LUX_LUX h.val =
        ((s.rd F.OUT_HEAD_LUX_LUX h.val : Int) +
          ((((x.toNat + 256 * y.toNat) * s.rd F.OUT_ALS_SCALE_SCALE b.val / 65536 : Nat) : Int) -
            s.rd F.OUT_HEAD_LUX_LUX h.val) / 2 ^ s.rd F.OUT_HEAD_BL_FILTER h.val).toNat % 2 ^ 32) ∧
  (∀ (b : Fin 4) (s : State), s.rd F.OUT_ALS_CFG_PERIOD_MS b.val ≠ 0 → s.room 273 →
    execNext (.alsErr b) s fun t =>
      s.changes t [F.OUT_ALS_RAW_ERR.key b.val 0, lostKey] [.inl] ∧ t.rd F.OUT_ALS_RAW_ERR b.val = 1 ∧
      s.raises t [s.ev 273 b.val 0 false])

/-- R336, R337: a reference instant of a compatible head reports its error and trims the PLL by a free value within 500 ppm; with
an error of at most 2 us for the eighth time LOCKED sets and event 271 is raised; a head that cannot be steered is INCOMPATIBLE;
without a reference LOCKED clears with event 272. -/
def Obligations.Genlock : Prop :=
  (∀ (h : Fin 8) (err : Int) (refNs : Nat) (s : State), s.glMode h.val ≠ 0 → s.scanning h.val = true →
    s.glIncompatible h.val refNs = false → s.glHolds h.val = false → err.natAbs ≤ 10000 → 2000 < err.natAbs →
    execNext (.genlockReference h err refNs) s fun t =>
      s.changes t [F.OUT_HEAD_GL_STAT_INCOMPATIBLE.key h.val 0, F.OUT_HEAD_GL_STAT_ERR_NS.key h.val 0,
        F.OUT_PLL_STAT_TRIM.key (s.rd F.OUT_HEAD_STAT_PLL h.val) 0] [.out, .fresh] ∧
      t.rd F.OUT_HEAD_GL_STAT_INCOMPATIBLE h.val = 0 ∧ t.rd F.OUT_HEAD_GL_STAT_ERR_NS h.val = errNs err ∧
      ∃ d : Int, d.natAbs ≤ 8388 ∧ t.rd F.OUT_PLL_STAT_TRIM (s.rd F.OUT_HEAD_STAT_PLL h.val) = toTwos 16 d) ∧
  (∀ (h : Fin 8) (err : Int) (refNs : Nat) (s : State), s.glMode h.val ≠ 0 → s.scanning h.val = true →
    s.glIncompatible h.val refNs = false → s.glHolds h.val = false → err.natAbs ≤ 2000 → (s.oh h.val).good = 7 →
    s.rd F.OUT_HEAD_GL_STAT_LOCKED h.val = 0 → s.room 271 →
    execNext (.genlockReference h err refNs) s fun t =>
      t.rd F.OUT_HEAD_GL_STAT_LOCKED h.val = 1 ∧ t.rd F.OUT_HEAD_GL_STAT_ERR_NS h.val = errNs err ∧
      s.raises t [s.ev 271 h.val 0 false] ∧ t.dram = s.dram) ∧
  (∀ (h : Fin 8) (err : Int) (refNs : Nat) (s : State), s.glMode h.val ≠ 0 → s.scanning h.val = true →
    s.glIncompatible h.val refNs = true →
    execNext (.genlockReference h err refNs) s fun t =>
      s.changes t [F.OUT_HEAD_GL_STAT_INCOMPATIBLE.key h.val 0] [] ∧ t.rd F.OUT_HEAD_GL_STAT_INCOMPATIBLE h.val = 1) ∧
  (∀ (h : Fin 8) (s : State), s.glMode h.val ≠ 0 → s.glHolds h.val = false → s.rd F.OUT_HEAD_GL_STAT_LOCKED h.val = 1 →
    s.room 272 →
    execNext (.genlockLost h) s fun t =>
      s.changes t [F.OUT_HEAD_GL_STAT_LOCKED.key h.val 0, lostKey] [.out, .inl] ∧
      t.rd F.OUT_HEAD_GL_STAT_LOCKED h.val = 0 ∧ (h.val < s.out.heads.length → (t.oh h.val).good = 0) ∧
      s.raises t [s.ev 272 h.val 0 false])

/-! ### Sounding (chapter 12) and Dredge (chapter 19) -/

/-- R342 to R346, R353, R354: an expected entry is pushed, refused when the table is full (event 323), and the table emptied; the
seal of a static window whose value is the expected one is a MATCH, and a MISMATCH (event 320) otherwise; a general unit is armed,
and ends MATCH (event 325) over bytes that its cove may read, or STALE without one when the cove's generation has moved. -/
def Obligations.Seals : Prop :=
  (∀ (ini : Initiator) (u : Fin 64) (tag : BitVec 8) (s : State), s.onBus ini → s.isSec ini = true →
    s.pushRefusal u.val (s.rd F.SND_UNIT_EXP_SEQ_SEQ u.val) false = none →
    execNext (.sealExpPush ini u tag false) s fun t => s.changes t [] [.snd, .resp] ∧ t.done ∧
      t.snd = { s.snd with units := s.snd.units.modify u.val fun k => { k with entries := k.entries ++
        [{ seq := s.rd F.SND_UNIT_EXP_SEQ_SEQ u.val, value := s.rd F.SND_UNIT_EXP_VAL_VALUE u.val, tag := tag.toNat }] } }) ∧
  (∀ (ini : Initiator) (u : Fin 64) (tag : BitVec 8) (s : State), s.onBus ini → s.isSec ini = true → 16 ≤ (s.unit u.val).entries.length →
    s.room 323 →
    execNext (.sealExpPush ini u tag false) s fun t =>
      s.changes t [F.SND_UNIT_EXP_STAT_REFUSED.key u.val 0, F.SND_UNIT_EXP_STAT_REASON.key u.val 0, lostKey] [.inl, .resp] ∧ t.done ∧
      t.rd F.SND_UNIT_EXP_STAT_REFUSED u.val = 1 ∧ t.rd F.SND_UNIT_EXP_STAT_REASON u.val = 0 ∧
      s.raises t [s.ev 323 u.val 0 false]) ∧
  (∀ (ini : Initiator) (u : Fin 64) (s : State), s.onBus ini → s.isSec ini = true →
    execNext (.sealExpFlush ini u) s fun t => s.changes t [] [.snd, .resp] ∧ t.done ∧
      t.snd = { s.snd with units := s.snd.units.modify u.val fun k => { k with entries := [] } }) ∧
  (∀ (u : Fin 64) (px : List Nat) (s : State), s.scanning (u.val / 8) = true → (s.unit u.val).cfg.en = true →
    (s.unit u.val).cfg.static_ = true → (s.unit u.val).done = false → s.windowPx u.val = some px →
    s.linkIsDown (u.val / 8) = false → s.legalUnit ≠ some u.val →
    crc32c (s.sealPrefix u.val (s.rd F.OUT_HEAD_SEQ_SEQ (u.val / 8)) ++ px.flatMap (pxBytes (s.head (u.val / 8)).depth30)) =
      (s.unit u.val).expect →
    execNext (.sealResult u false false) s fun t =>
      s.changes t [F.SND_UNIT_RES_SEQ_SEQ.key u.val 0, F.SND_UNIT_RES_CRC_CRC.key u.val 0, F.SND_UNIT_RES_STAT_NEW.key u.val 0,
        F.SND_UNIT_RES_STAT_STATUS.key u.val 0, F.SND_UNIT_RES_STAT_TAG.key u.val 0, F.SND_UNIT_RES_STAT_CAUSE.key u.val 0,
        F.SND_UNIT_RES_TS_TS.key u.val 0, F.SND_UNIT_EXPIRED_COUNT.key u.val 0, F.SND_UNIT_RES_STAT_CONSEC_BAD.key u.val 0,
        F.SND_UNIT_MATCHES_COUNT.key u.val 0] [.snd] ∧
      t.rd F.SND_UNIT_RES_STAT_STATUS u.val = 1 ∧ t.rd F.SND_UNIT_RES_CRC_CRC u.val = (s.unit u.val).expect % 2 ^ 32 ∧
      t.rd F.SND_UNIT_RES_SEQ_SEQ u.val = s.rd F.OUT_HEAD_SEQ_SEQ (u.val / 8) ∧ t.rd F.SND_UNIT_RES_STAT_NEW u.val = 1 ∧
      t.rd F.SND_UNIT_RES_STAT_CONSEC_BAD u.val = 0 ∧
      t.rd F.SND_UNIT_MATCHES_COUNT u.val = (s.rd F.SND_UNIT_MATCHES_COUNT u.val + 1) % 2 ^ 32 ∧
      t.snd.gens = s.snd.gens) ∧
  (∀ (u : Fin 64) (px : List Nat) (s : State), s.scanning (u.val / 8) = true → (s.unit u.val).cfg.en = true →
    (s.unit u.val).cfg.static_ = true → (s.unit u.val).done = false → s.windowPx u.val = some px →
    s.linkIsDown (u.val / 8) = false → s.legalUnit ≠ some u.val →
    crc32c (s.sealPrefix u.val (s.rd F.OUT_HEAD_SEQ_SEQ (u.val / 8)) ++ px.flatMap (pxBytes (s.head (u.val / 8)).depth30)) ≠
      (s.unit u.val).expect → s.room 320 →
    execNext (.sealResult u false false) s fun t =>
      t.rd F.SND_UNIT_RES_STAT_STATUS u.val = 2 ∧
      t.rd F.SND_UNIT_BAD_COUNT u.val = (s.rd F.SND_UNIT_BAD_COUNT u.val + 1) % 2 ^ 32 ∧
      t.rd F.SND_UNIT_RES_STAT_CONSEC_BAD u.val = min 255 (s.rd F.SND_UNIT_RES_STAT_CONSEC_BAD u.val + 1) ∧
      s.raises t [s.ev 320 u.val 0 false] ∧ t.dram = s.dram) ∧
  (∀ (ini : Initiator) (g : Fin 16) (c : Fin 32) (cmp : Bool) (s : State), s.onBus ini →
    s.isSec ini = true → s.domainOn 13 = true → s.rd F.SND_GEN_LEN_LENGTH g.val ≠ 0 →
    s.rd F.SND_GEN_CFG_SECURE g.val = 1 → s.rd F.SND_GEN_CFG_ARMED g.val = 0 →
    execNext (.genCheckStart ini g c cmp) s fun t =>
      s.changes t [F.SND_GEN_CFG_ARMED.key g.val 0, F.SND_GEN_STAT_BUSY.key g.val 0] [.snd, .resp] ∧ t.done ∧
      t.rd F.SND_GEN_CFG_ARMED g.val = 1 ∧ t.rd F.SND_GEN_STAT_BUSY g.val = 1 ∧
      t.snd = { s.snd with gens := s.snd.gens.set g.val (some
        { secure := true, cove := 0, gen := 0, addr := s.rd F.SND_GEN_ADDR_ADDR g.val, len := s.rd F.SND_GEN_LEN_LENGTH g.val,
          salt := s.rd F.SND_GEN_SALT_SALT g.val, compare := cmp, expect := s.rd F.SND_GEN_EXPECT_EXPECT g.val }) }) ∧
  (∀ (g : Fin 16) (c : Fin 32) (k : GenCheck) (s : State), s.domainUp 13 = true → s.gen_ g.val = some k → k.secure = false → k.cove = c.val →
    k.gen = s.gen c.val → s.bareOk c.val k.addr k.len false → k.compare = true →
    crc32c (genPrefix 0 g.val false c.val k.gen k.len k.salt ++ memRead s.dram k.addr k.len) = k.expect → s.room 325 →
    execNext (.genDone g) s fun t =>
      s.changes t [F.SND_GEN_CFG_ARMED.key g.val 0, F.SND_GEN_STAT_BUSY.key g.val 0, F.SND_GEN_STAT_DONE.key g.val 0,
        F.SND_GEN_STAT_STATUS.key g.val 0, F.SND_GEN_CRC_CRC.key g.val 0, lostKey] [.snd, .inl] ∧
      t.rd F.SND_GEN_CFG_ARMED g.val = 0 ∧ t.rd F.SND_GEN_STAT_BUSY g.val = 0 ∧ t.rd F.SND_GEN_STAT_DONE g.val = 1 ∧
      t.rd F.SND_GEN_STAT_STATUS g.val = 1 ∧ t.rd F.SND_GEN_CRC_CRC g.val = k.expect % 2 ^ 32 ∧
      s.raises t [s.ev 325 (g.val + 16) c.val false]) ∧
  (∀ (g : Fin 16) (c : Fin 32) (k : GenCheck) (s : State), s.domainUp 13 = true → s.gen_ g.val = some k → k.secure = false → k.cove = c.val →
    k.gen ≠ s.gen c.val →
    execNext (.genDone g) s fun t =>
      s.changes t [F.COVE_DISCARD_COUNT.key c.val 0, F.SND_GEN_CFG_ARMED.key g.val 0, F.SND_GEN_STAT_BUSY.key g.val 0,
        F.SND_GEN_STAT_DONE.key g.val 0, F.SND_GEN_STAT_STATUS.key g.val 0, F.SND_GEN_CRC_CRC.key g.val 0] [.snd] ∧
      t.rd F.SND_GEN_STAT_STATUS g.val = 5 ∧ t.rd F.SND_GEN_STAT_DONE g.val = 1 ∧
      t.rd F.COVE_DISCARD_COUNT c.val = (s.rd F.COVE_DISCARD_COUNT c.val + 1) % 2 ^ 32)

/-- R519, R521, R522, R525 to R529: the secure world starts the test of a spare bank, the substitution of a bank in service, whose
logical bank retires first, and the programming of a fuse entry; a test without failures makes the bank a spare again (event 488);
a substituted bank hands its logical bank to the spare and is untested (event 494); a fuse entry is used whether it is programmed
(event 492, and the map is written again) or not (event 493). R519: March C- makes ten passes over each of the four backgrounds, a
fault-free array passes it whatever it held, and every bit is read where a 0 and where a 1 is expected; R521, R522, R526: a bank in
which one row failed is REPAIRED with its spare row 0, which the new map names. -/
def Obligations.Dredge : Prop :=
  (∀ (ini : Initiator) (x : BitVec 12) (s : State), s.onBus ini → s.isSec ini = true → s.rd F.DRG_STAT_BUSY = 0 → s.runOrDip = true →
    x.toNat < 264 → s.rd F.DRG_INST_STATE x.toNat = 1 →
    execNext (.drgTest ini x) s fun t =>
      s.changes t [F.DRG_CMD_OP.key 0 0, F.DRG_CMD_TARGET.key 0 0, F.DRG_INST_STATE.key x.toNat 0, F.DRG_STAT_BUSY.key 0 0]
        [.drg, .resp] ∧ t.done ∧
      t.rd F.DRG_CMD_OP = 1 ∧ t.rd F.DRG_CMD_TARGET = x.toNat ∧ t.rd F.DRG_INST_STATE x.toNat = 2 ∧
      t.rd F.DRG_STAT_BUSY = 1 ∧
      t.drg = { s.drg with before := 1, ready := s.drg.ready.filter (fun y => y != x.toNat), job := some (.test x.toNat) }) ∧
  (∀ (ini : Initiator) (x : BitVec 12) (b : Fin 256) (y : Nat) (l : List Nat) (s : State), s.onBus ini → s.isSec ini = true →
    s.rd F.DRG_STAT_BUSY = 0 → s.runOrDip = true → x.toNat < 264 → s.logicalOf x.toNat = some b.val →
    s.spareBanks = y :: l → s.bankUsed b.val ≠ 0 → (∀ n, n < 256 → s.rd F.TARN_BANK_MAP_RETIRE n = 0) →
    execNext (.drgSwapIn ini x) s fun t =>
      s.changes t [F.DRG_CMD_OP.key 0 0, F.DRG_CMD_TARGET.key 0 0, F.DRG_STAT_BUSY.key 0 0,
        F.TARN_BANK_MAP_RETIRE.key b.val 0] [.drg, .resp] ∧ t.done ∧
      t.rd F.DRG_STAT_BUSY = 1 ∧ t.rd F.TARN_BANK_MAP_RETIRE b.val = 1 ∧ t.drg = { s.drg with job := some (.swap x.toNat y) }) ∧
  (∀ (ini : Initiator) (k : BitVec 12) (e : RepEntry) (s : State), s.onBus ini → s.isSec ini = true → s.rd F.DRG_STAT_BUSY = 0 →
    s.chip.phase = .run → s.rd F.DRG_FUSE_STAT_USED < 256 → s.drg.map[k.toNat]? = some e → e.fused = false →
    e.kind = 1 ∨ e.kind = 2 →
    execNext (.drgFuse ini k) s fun t =>
      s.changes t [F.DRG_CMD_OP.key 0 0, F.DRG_CMD_TARGET.key 0 0, F.DRG_STAT_BUSY.key 0 0] [.drg, .resp] ∧ t.done ∧
      t.rd F.DRG_STAT_BUSY = 1 ∧ t.drg = { s.drg with job := some (.fuse k.toNat) }) ∧
  (∀ (x : Nat) (s : State), s.drg.job = some (.test x) → 256 ≤ x → x < 264 → s.room 488 →
    execNext (.testDone []) s fun t =>
      s.changes t [F.DRG_INST_LAST.key x 0, F.DRG_INST_STATE.key x 0, F.DRG_STAT_RESULT.key 0 0, F.DRG_STAT_ROWS.key 0 0,
        F.DRG_STAT_BUSY.key 0 0, F.DRG_STAT_DONE.key 0 0, lostKey] [.drg, .fab, .inl] ∧
      t.rd F.DRG_INST_LAST x = 0 ∧ t.rd F.DRG_INST_STATE x = 1 ∧ t.rd F.DRG_STAT_RESULT = 0 ∧ t.rd F.DRG_STAT_BUSY = 0 ∧
      t.rd F.DRG_STAT_DONE = 1 ∧ t.drg = { s.drg with ready := s.drg.ready ++ [x], job := none } ∧
      s.raises t [s.ev 488 x 0 false]) ∧
  (∀ (x y : Nat) (b : Fin 256) (s : State), s.drg.job = some (.swap x y) → x < 264 → y < 264 → x ≠ y →
    s.logicalOf x = some b.val → s.rd F.TARN_BANK_MAP_EMPTY b.val = 1 → s.room 494 → s.room 491 →
    execNext .swapDone s fun t =>
      s.changes t [F.TARN_BANK_MAP_PHYS.key b.val 0, F.TARN_BANK_MAP_RETIRE.key b.val 0, F.TARN_BANK_MAP_EMPTY.key b.val 0,
        F.DRG_INST_STATE.key x 0, F.DRG_INST_STATE.key y 0, F.DRG_STAT_BUSY.key 0 0, F.DRG_STAT_DONE.key 0 0, lostKey]
        [.drg, .inl] ∧
      t.rd F.TARN_BANK_MAP_PHYS b.val = y ∧ t.rd F.TARN_BANK_MAP_RETIRE b.val = 0 ∧ t.rd F.TARN_BANK_MAP_EMPTY b.val = 0 ∧
      t.rd F.DRG_INST_STATE y = 0 ∧ t.rd F.DRG_INST_STATE x = 4 ∧ t.rd F.DRG_STAT_BUSY = 0 ∧ t.rd F.DRG_STAT_DONE = 1 ∧
      ∃ l, s.raises t (s.ev 494 x 0 false :: l)) ∧
  (∀ (k : Nat) (e : RepEntry) (s : State), s.drg.job = some (.fuse k) → s.drg.map[k]? = some e → s.room 493 →
    execNext (.fuseProgramDone false) s fun t =>
      s.changes t [F.DRG_FUSE_STAT_USED.key 0 0, F.DRG_STAT_BUSY.key 0 0, F.DRG_STAT_DONE.key 0 0, lostKey] [.drg, .inl] ∧
      t.rd F.DRG_FUSE_STAT_USED = (s.rd F.DRG_FUSE_STAT_USED + 1) % 2 ^ 9 ∧ t.rd F.DRG_STAT_BUSY = 0 ∧
      t.rd F.DRG_STAT_DONE = 1 ∧
      t.drg = { s.drg with fuses := s.drg.fuses ++ [{ e with fused := false, bad := true }], job := none } ∧
      s.raises t [s.ev 493 k 0 false]) ∧
  (∀ (k : Nat) (e : RepEntry) (s : State), s.drg.job = some (.fuse k) → s.drg.map[k]? = some e → s.room 492 →
    execNext (.fuseProgramDone true) s fun t =>
      s.changes t [F.DRG_FUSE_STAT_USED.key 0 0, F.DRG_MAP_STAT_COPY.key 0 0, F.DRG_MAP_STAT_VALID.key 0 0,
        F.DRG_MAP_STAT_COUNT.key 0 0, F.DRG_STAT_BUSY.key 0 0, F.DRG_STAT_DONE.key 0 0, lostKey] [.drg, .mram, .inl] ∧
      t.rd F.DRG_FUSE_STAT_USED = (s.rd F.DRG_FUSE_STAT_USED + 1) % 2 ^ 9 ∧ t.rd F.DRG_MAP_STAT_VALID = 1 ∧
      t.drg.map = s.drg.map.set k { e with fused := true } ∧ t.drg.seq = (s.drg.seq + 1) % 2 ^ 32 ∧
      t.drg.fuses = s.drg.fuses ++ [{ e with fused := true, bad := false }] ∧ s.raises t [s.ev 492 k 0 false]) ∧
  (∀ (desc : Bool) (m : List (BitVec 72)), (marchOps desc m.length).length = 40 * m.length ∧
    ∃ m', marchRun m (marchOps desc m.length) = some m') ∧
  (∀ (desc : Bool) (n a : Nat) (b : Fin 72) (v : Bool), a < n → ∃ j e i, (j, e, a, MarchOp.r i) ∈ marchOps desc n ∧
    ((MarchOp.r i).word j a).getLsbD b.val = v) ∧
  (∀ (x : Nat) (desc : Bool) (r : MarchRead) (w : BitVec 72) (s : State), s.drg.job = some (.test x) → 256 ≤ x → x < 264 →
    (∀ e, e ∈ s.drg.applied → e.inst ≠ x) → s.drg.map.length < 4096 → r.spare = false → r.addr < 65536 →
    marchExpect r.bg.val (r.elem.val + 1) r.addr = some w → r.value ≠ w → s.room 488 →
    execNext (.testDone [{ inst := Fin.ofNat 1024 x, desc := desc, reads := [r], badCols := [] }]) s fun t =>
      t.rd F.DRG_STAT_RESULT = 1 ∧ t.rd F.DRG_STAT_ROWS = 1 ∧ t.rd F.DRG_INST_LAST x = 1 ∧ t.rd F.DRG_INST_STATE x = 1 ∧
      t.rd F.DRG_INST_ROWS_USED x = 1 ∧
      t.drg.map = s.drg.map ++ [{ inst := x, kind := 1, spare := 0, target := r.addr / 16, fused := false, bad := false }] ∧
      s.raises t [s.ev 488 (x + 4096) 0 false])

/-! ### Loch (chapters 13 and 14) -/

/-- R363 to R367, R386, R395: a job whose descriptor Loch need not read starts; a dispatch job starts with the batches of its grid;
a finished job ends, gives back its chunks and raises event 352; a polled or kicked fence is read and its wait satisfied; a wait at
its deadline ends the job with event 355; a job that runs too long ends with events 354 and 353 and stops its queue. -/
def Obligations.LochJobs : Prop :=
  (∀ (c : Fin 32) (q : Fin 64) (j : LJob) (s : State), s.loch.jobs = [j] → j.cove = c.val → j.q = q.val →
    j.started = false → s.admits c.val = true → (∀ w, w ∈ j.waits → w.ok = true) → j.op ≠ 1 → j.op ≠ 2 →
    execNext (.lochJobStart c q) s fun t =>
      s.changes t [] [.loch] ∧ t.loch = { s.loch with jobs := [{ j with started := true }] }) ∧
  (∀ (c : Fin 32) (q : Fin 64) (j : LJob) (s : State), s.loch.jobs = [j] → j.cove = c.val → j.q = q.val →
    j.started = false → s.admits c.val = true → (∀ w, w ∈ j.waits → w.ok = true) → j.op = 2 →
    s.bareOk c.val j.work 64 false → dispOk j.work (memRead s.dram j.work 64) = true →
    dispIndirect (memRead s.dram j.work 64) = false → leAt (memRead s.dram j.work 64) 0 8 ≠ 0 →
    leAt (memRead s.dram j.work 64) 0 8 % 64 = 0 → s.rd F.LOCH_CTX_SAVE_SAVE c.val q.val ≠ 0 →
    execNext (.lochJobStart c q) s fun t =>
      s.changes t [] [.loch] ∧ t.loch = { s.loch with jobs := [{ j with
        started := true, desc := memRead s.dram j.work 64,
        total := ceilDiv (leAt (memRead s.dram j.work 64) 0x10 4 * leAt (memRead s.dram j.work 64) 0x14 4 *
          leAt (memRead s.dram j.work 64) 0x18 4) (dispBatch (memRead s.dram j.work 64)) }] }) ∧
  (∀ (c : Fin 32) (q : Fin 64) (j : LJob) (s : State), s.loch.jobs = [j] → j.cove = c.val → j.q = q.val →
    j.finished = true → j.gen = s.gen c.val → j.signals = [] → j.flags = 2 → j.fault = 0 → j.deadline = 0 → s.room 352 →
    execNext (.lochJobEnd c q) s fun t =>
      s.changes t [F.LOCH_CTX_POOL_STAT_USED.key c.val q.val, F.LOCH_CTX_POOL_STAT_LOW.key c.val q.val, lostKey] [.loch, .inl] ∧
      t.rd F.LOCH_CTX_POOL_STAT_USED c.val q.val = 0 ∧ t.rd F.LOCH_CTX_POOL_STAT_LOW c.val q.val = 0 ∧
      t.loch = { s.loch with jobs := [] } ∧ s.raises t [s.ev 352 q.val c.val false]) ∧
  (∀ (c : Fin 32) (j : LJob) (w : LWait) (s : State), s.loch.jobs = [j] → j.cove = c.val → j.waits = [w] →
    j.started = false → w.ok = false → w.failed = false → s.bareOk c.val w.addr 8 false →
    execNext .fencePoll s fun t =>
      s.changes t [] [.loch] ∧ t.loch = { s.loch with jobs := [{ j with
        waits := [{ w with ok := decide (w.value ≤ ofLe (memRead s.dram w.addr 8)) }] }] }) ∧
  (∀ (ini : Initiator) (c : Fin 32) (j : LJob) (w : LWait) (s : State), s.issues ini = true → s.pageOk ini c.val = true → s.loch.jobs = [j] →
    j.cove = c.val → j.waits = [w] → j.started = false → w.ok = false → w.failed = false → s.bareOk c.val w.addr 8 false →
    execNext (.fenceKick ini c) s fun t =>
      s.changes t [] [.loch, .resp] ∧ t.done ∧ t.loch = { s.loch with jobs := [{ j with
        waits := [{ w with ok := decide (w.value ≤ ofLe (memRead s.dram w.addr 8)) }] }] }) ∧
  (∀ (c : Fin 32) (q : Fin 64) (j : LJob) (w : LWait) (s : State), s.loch.jobs = [j] → j.cove = c.val → j.q = q.val →
    j.waits = [w] → j.started = false → w.ok = false → w.deadline ≤ s.tbs.now → j.gen = s.gen c.val → j.signals = [] →
    j.flags = 0 → j.disps = [] → j.deadline = 0 → s.room 355 →
    execNext (.waitTimeout c q 0) s fun t =>
      s.changes t [F.LOCH_CTX_POOL_STAT_USED.key c.val q.val, F.LOCH_CTX_POOL_STAT_LOW.key c.val q.val, lostKey] [.loch, .inl] ∧
      t.loch = { s.loch with jobs := [] } ∧ s.raises t [s.ev 355 q.val c.val false]) ∧
  (∀ (c : Fin 32) (q : Fin 64) (j : LJob) (s : State), s.loch.jobs = [j] → j.cove = c.val → j.q = q.val →
    j.started = true → j.op = 2 → 1000000 * j.timeoutMs < j.runNs → j.gen = s.gen c.val → j.signals = [] → j.flags = 0 →
    j.disps = [] → j.deadline = 0 → s.room 354 → s.room 353 → s.room 101 →
    execNext (.jobTimeout c q) s fun t =>
      s.changes t [F.LOCH_CTX_POOL_STAT_USED.key c.val q.val, F.LOCH_CTX_POOL_STAT_LOW.key c.val q.val,
        F.COVE_Q_STAT_FAULT.key c.val q.val, F.COVE_Q_STAT_CODE.key c.val q.val, lostKey] [.loch, .inl] ∧
      t.loch = { s.loch with jobs := [] } ∧ t.rd F.COVE_Q_STAT_FAULT c.val q.val = 1 ∧
      t.rd F.COVE_Q_STAT_CODE c.val q.val = 4 ∧
      s.raises t [s.ev 354 q.val c.val false, s.ev 353 768 c.val false, s.ev 101 (q.val + 1024) c.val false])

/-- R105, R397 to R402, R404: a waiting dispatch takes a free logical cluster, but under the power limit only one that the limit admits; a job becomes urgent; an urgent dispatch that finds no
cluster takes the cluster of a resumed one, whose save begins; the victim saved, it is preempted and the longest preemption is
kept; the secure world clears that record. -/
def Obligations.LochScheduling : Prop :=
  (∀ (lc : Fin 16) (j : LJob) (d : Dispatch) (s : State), s.loch.jobs = [j] → j.disps = [d] → d.at_ = .waiting →
    s.coveReady j.cove = true → s.lcFree lc.val = true → s.placeLimit = 0 ∨ s.placeLimit = 1 ∧ j.rank d ≤ 3 →
    execNext (.dispatchPlace lc) s fun t =>
      s.changes t [] [.loch] ∧
      t.loch = { s.loch with jobs := [{ j with disps := [{ d with at_ := .running lc.val, cache := [] }] }] }) ∧
  (∀ (lc : Fin 16) (s : State), s.placeLimit = 2 ∨ s.placeLimit = 1 ∧ (∀ p, p ∈ s.placeable → 3 < p.1.rank p.2) →
    exec (.dispatchPlace lc) s = .next s) ∧
  (∀ (c : Fin 32) (q : Fin 64) (j : LJob) (s : State), s.loch.jobs = [j] → j.cove = c.val → j.q = q.val → j.engine = 1 →
    j.deadline ≠ 0 → j.urgent = false → j.disps = [] → j.deadline - 1000 * s.rd F.LOCH_SCHED_CFG_LEAD_US ≤ s.tbs.now →
    execNext (.jobUrgent c q) s fun t =>
      s.changes t [] [.loch] ∧ t.loch = { s.loch with jobs := [{ j with urgent := true }] }) ∧
  (∀ (lc : Fin 16) (v j : LJob) (e d : Dispatch) (s : State), s.loch.jobs = [v, j] → v.disps = [e] → j.disps = [d] →
    e.at_ = .running lc.val → e.resumed = true → v.urgent = false → d.at_ = .waiting → j.urgent = true →
    s.coveReady j.cove = true → s.anyFree = false → (v.cove ≠ j.cove ∨ v.q ≠ j.q) → v.cove < 32 → v.q < 64 →
    execNext .preemptStart s fun t =>
      s.changes t [F.LOCH_PREEMPTS_COUNT.key 0 0, F.LOCH_CTX_PREEMPTED_COUNT.key v.cove v.q] [.loch] ∧
      t.rd F.LOCH_PREEMPTS_COUNT = (s.rd F.LOCH_PREEMPTS_COUNT + 1) % 2 ^ 32 ∧
      t.rd F.LOCH_CTX_PREEMPTED_COUNT v.cove v.q = (s.rd F.LOCH_CTX_PREEMPTED_COUNT v.cove v.q + 1) % 2 ^ 32 ∧
      t.loch = { s.loch with jobs := [{ v with disps := [{ e with at_ := .saving lc.val 1 }] },
        { j with disps := [{ d with at_ := .taking lc.val }] }] }) ∧
  (∀ (lc : Fin 16) (ns ran bytes : Nat) (j : LJob) (d : Dispatch) (s : State), s.loch.jobs = [j] → j.disps = [d] →
    d.at_ = .saving lc.val 1 → ns ≤ 60000 → j.cove < 32 → j.q < 64 →
    s.bareOk j.cove (s.rd F.LOCH_CTX_SAVE_SAVE j.cove j.q * 4096) 5242880 true →
    execNext (.preemptSaveDone lc ns ran bytes) s fun t =>
      s.changes t [F.LOCH_PREEMPT_MAX_MAX.key 0 0] [.loch, .fab, .dram, .res, .fresh] ∧
      t.rd F.LOCH_PREEMPT_MAX_MAX = max (s.rd F.LOCH_PREEMPT_MAX_MAX) (ceilDiv ns 10) ∧
      t.loch.preemptSeq = s.loch.preemptSeq + 1 ∧
      ∃ n, t.loch.jobs = [{ j with disps := [
        { d with at_ := .preempted s.loch.preemptSeq, resumed := true, ran := d.ran + ran, charged := n }] }]) ∧
  (∀ (ini : Initiator) (s : State), s.onBus ini → s.isSec ini = true →
    execNext (.preemptMaxClear ini) s fun t =>
      s.changes t [F.LOCH_PREEMPT_MAX_MAX.key 0 0] [.resp] ∧ t.done ∧ t.rd F.LOCH_PREEMPT_MAX_MAX = 0)

/-- R360, R377, R379, R407, R408, R414, R415, R417: chunks are added to a pool; a partial render releases the chunks, counts itself
and raises event 357; a batch of workgroups completes and leaves its job; a fetch that meets a non-resident entry counts it,
answers FILL and raises event 385 once; an invalid ray misses with its TMAX; an accepted candidate ends a first-hit traversal
with a hit, and a stale token answers FAULT with event 386. -/
def Obligations.LochWork : Prop :=
  (∀ (ini : Initiator) (c : Fin 32) (q : Fin 64) (n : BitVec 16) (s : State), s.issues ini = true → s.pageOk ini c.val = true →
    s.assigned ini (0x8010010 + 0x200000 * c.val + 0x100 * q.val) = true → n ≠ 0 →
    s.rd F.LOCH_CTX_POOL_STAT_USED c.val q.val * 4 <
      min 65535 (s.rd F.LOCH_CTX_POOL_STAT_CHUNKS c.val q.val + n.toNat) * 3 →
    execNext (.poolAdd ini c q n) s fun t =>
      s.changes t [F.LOCH_CTX_POOL_STAT_CHUNKS.key c.val q.val, F.LOCH_CTX_POOL_STAT_LOW.key c.val q.val] [.resp] ∧ t.done ∧
      t.rd F.LOCH_CTX_POOL_STAT_CHUNKS c.val q.val =
        min 65535 (s.rd F.LOCH_CTX_POOL_STAT_CHUNKS c.val q.val + n.toNat) ∧
      t.rd F.LOCH_CTX_POOL_STAT_LOW c.val q.val = 0) ∧
  (∀ (c : Fin 32) (q : Fin 64) (j : LJob) (s : State), s.loch.jobs = [j] → j.cove = c.val → j.q = q.val →
    j.started = true → j.op = 1 → j.binned = false → s.chunksFree c.val q.val < 32 → j.touched = [] → s.room 357 →
    execNext (.partialRender c q []) s fun t =>
      s.changes t [F.LOCH_CTX_POOL_STAT_USED.key c.val q.val, F.LOCH_CTX_POOL_STAT_LOW.key c.val q.val,
        F.LOCH_CTX_PARTIALS_COUNT.key c.val q.val, lostKey] [.loch, .inl] ∧
      t.rd F.LOCH_CTX_POOL_STAT_USED c.val q.val = 0 ∧
      t.rd F.LOCH_CTX_PARTIALS_COUNT c.val q.val = (s.rd F.LOCH_CTX_PARTIALS_COUNT c.val q.val + 1) % 2 ^ 32 ∧
      (∃ k, t.loch.jobs = [k] ∧ k.partial_ = true ∧ k.partials = j.partials + 1) ∧
      s.raises t [s.ev 357 q.val c.val false]) ∧
  (∀ (lc : Fin 16) (ns n : Nat) (j : LJob) (d : Dispatch) (s : State), s.loch.jobs = [j] → j.disps = [d] → d.kind = .batch n →
    d.at_ = .running lc.val → d.counts = [] → j.cove < 32 → s.rd F.COVE_HOLD_GFX j.cove = 0 →
    execNext (.dispatchComplete lc ns ⟨[], [], false, ⟨[], none⟩, 0, [], false, 0⟩) s fun t =>
      s.changes t [] [.loch, .fab] ∧
      t.loch = { s.loch with jobs := [{ j with disps := [] }] }) ∧
  (∀ (lc : Fin 16) (hdr layer px py x y b lod : Nat) (j : LJob) (d : Dispatch) (h : SparseHdr) (s : State),
    s.loch.jobs = [j] → j.disps = [d] → d.at_ = .running lc.val → d.cache = [] → j.cove < 32 → j.q < 64 → j.nonres = false →
    hdr % 64 = 0 → s.bareOk j.cove hdr 64 false → parseSparse (memRead s.dram hdr 64) = h → h.ok = true → layer < h.layers →
    h.clamp = 0 → h.counters = 0 → lod = 0 → x < h.lw 0 → y < h.lh 0 →
    s.bareOk j.cove (h.residency + layer * h.mapStride + h.entryOf 0 x y) 1 false →
    ofLe (memRead s.dram (h.residency + layer * h.mapStride + h.entryOf 0 x y) 1) = 0 → s.room 385 →
    execNext (.sparseFetch lc hdr layer px py lod [(0, x, y, b)]) s fun t =>
      s.changes t [F.LOCH_CTX_NONRES_COUNT.key j.cove j.q, lostKey] [.loch, .sent, .inl] ∧
      t.rd F.LOCH_CTX_NONRES_COUNT j.cove j.q = min (2 ^ 32 - 1) (s.rd F.LOCH_CTX_NONRES_COUNT j.cove j.q + 1) ∧
      t.sent = .shader lc.val (leBytes 1 1 ++ fillBytes h.fill) :: s.sent ∧ s.raises t [s.ev 385 j.q j.cove false]) ∧
  (∀ (lc : Fin 16) (inv : Nat) (ray : List Byte) (j : LJob) (d : Dispatch) (s : State), s.loch.jobs = [j] → j.disps = [d] →
    d.at_ = .running lc.val → rayInvalid ray = true →
    execNext (.rayTraverse lc inv ray) s fun t =>
      s.changes t [] [.loch, .sent, .fresh] ∧
      ∃ x y, t.sent = .shader lc.val (leBytes 4 (leAt ray 0x1C 4) ++ x ++ leBytes 3 0xFFFFFF ++ leBytes 1 0 ++ y) :: s.sent ∧
        x.length = 12 ∧ y.length = 12) ∧
  (∀ (lc : Fin 16) (inv : Nat) (token : BitVec 64) (j : LJob) (d : Dispatch) (r : RayState) (s : State), s.loch.jobs = [j] →
    j.disps = [d] → d.at_ = .running lc.val → d.rays = [r] → r.inv = inv → r.token = token.toNat → bit r.flags 2 = true →
    execNext (.rayResume lc inv token true) s fun t =>
      s.changes t [] [.loch, .sent] ∧ t.sent = .shader lc.val (r.cand.result 1 0) :: s.sent ∧
      t.loch = { s.loch with jobs := [{ j with disps := [{ d with rays := [] }] }] }) ∧
  (∀ (lc : Fin 16) (inv : Nat) (token : BitVec 64) (acc : Bool) (j : LJob) (d : Dispatch) (s : State), s.loch.jobs = [j] →
    j.disps = [d] → d.at_ = .running lc.val → d.rays = [] → j.rayFault = false → j.fault = 0 → s.room 386 → j.cove < 32 →
    execNext (.rayResume lc inv token acc) s fun t =>
      s.changes t [lostKey] [.loch, .sent, .fresh, .inl] ∧
      t.loch = { s.loch with jobs := [{ j with fault := 10, rayFault := true }] } ∧
      (∃ x y, t.sent = .shader lc.val (x ++ leBytes 1 3 ++ y) :: s.sent ∧ x.length = 19 ∧ y.length = 12) ∧
      s.raises t [s.ev 386 j.q j.cove false])

/-- R373, R374, R376: a tile holds what its primitives in stream order, one after another, would leave there, whatever runs of
deferrable primitives were resolved first and from wherever ordered mode began; no fragment whose primitive is not deferrable is
skipped, and deferral runs no fragment that ordered mode would not. -/
def Obligations.DeferralChangesNothing : Prop :=
  (∀ (b : TileBin) (c : TileCtx) (pipes : List Pipe) (all : Bool) (t : List Smp), (∀ m, m ∈ t → m.colour.length ≤ c.es.length) →
    (renderBin b c pipes all t).1 = (ordered c (binPiped b pipes) (t, [])).1) ∧
  (∀ (l : List (Pipe × List Frag)) (c : TileCtx) (t : List Smp), (∀ m, m ∈ t → m.colour.length ≤ c.es.length) →
    ((deferred c [] l (t, [])).2).Sublist (ordered c l (t, [])).2) ∧
  (∀ (l : List (Pipe × List Frag)) (c : TileCtx) (t : List Smp), (∀ x, x ∈ l → x.1.deferrable c.hsrOff = false) →
    deferred c [] l (t, []) = ordered c l (t, []))
/-! ### Pool (chapter 15) -/

/-- R431, R438 to R441: without streams a tick computes 96 output samples, moves the mute and the crossfade by one tick and changes
nothing outside Pool; a node write takes effect at once when its column does not crossfade and is held when it does; a swap begins
over the columns of its world, and after 64 ticks the shadow gains are in force and event 424 is raised; a commit puts the five
staged coefficients in force and keeps the states. -/
def Obligations.PoolMix : Prop :=
  (∀ (starved : List (Nat × Nat)) (s : State), s.poolOn = true → tickAt s.pool.nextTick ≤ s.tbs.now →
    s.pool.streams = [] → s.pool.newAudio = none →
    execNext (.mixTick starved) s fun t =>
      s.changes t mixKeys [.pool, .fresh, .inl] ∧ t.pool.nextTick = tickBy s.tbs.now + 1 ∧ t.pool.last.length = 96 ∧ t.pool.streams = [] ∧
      t.pool.mute = (if (s.safe || (s.chip.phase == .drain && decide (3 ≤ s.chip.drainStep))) = true then
        min 192 (s.pool.mute + 1) else s.pool.mute - 1) ∧
      t.pool.swap = s.pool.swap.map fun w => { w with j := min 64 (w.j + 1) }) ∧
  (∀ (ini : Initiator) (o : Fin 96) (i : Fin 160) (g : BitVec 24) (s : State), s.onBus ini →
    s.mayWrite ini F.POOL_NODE_GAIN o.val false = true → s.columnHeld o.val = false →
    execNext (.xpNodeWrite ini o i g) s fun t =>
      s.changes t [F.POOL_NODE_GAIN.key o.val i.val] [.resp] ∧ t.done ∧ t.rd F.POOL_NODE_GAIN o.val i.val = g.toNat) ∧
  (∀ (ini : Initiator) (o : Fin 96) (i : Fin 160) (g : BitVec 24) (s : State), s.onBus ini →
    s.mayWrite ini F.POOL_NODE_GAIN o.val false = true → s.columnHeld o.val = true →
    execNext (.xpNodeWrite ini o i g) s fun t =>
      s.changes t [] [.pool, .resp] ∧ t.done ∧
      t.pool = { s.pool with heldWrites := s.pool.heldWrites ++ [(false, 160 * o.val + i.val, g.toNat)] }) ∧
  (∀ (ini : Initiator) (s : State), s.onBus ini → s.isCove0 ini = true → s.rd F.POOL_XP_SWAP_BUSY (b2n (s.isSec ini)) = 0 →
    s.pool.swap = none →
    execNext (.xpSwap ini) s fun t =>
      s.changes t [F.POOL_XP_SWAP_BUSY.key (b2n (s.isSec ini)) 0] [.pool, .resp] ∧ t.done ∧
      t.rd F.POOL_XP_SWAP_BUSY (b2n (s.isSec ini)) = 1 ∧
      ∃ w, t.pool.swap = some w ∧ w.secure = s.isSec ini ∧ w.j = 0 ∧
        ∀ o, o ∈ w.cols ↔ o < 96 ∧ (s.isSec ini = true ∨ s.outClass o = 1)) ∧
  (∀ (w : PSwap) (s : State), s.pool.swap = some w → 64 ≤ w.j → (∀ o, o ∈ w.cols → o < 96) → s.pool.heldWrites = [] →
    s.pool.swapNext = none → s.room 424 →
    execNext .xpSwapDone s fun t =>
      s.changes t ([F.POOL_XP_SWAP_BUSY.key (b2n w.secure) 0, F.POOL_XP_SWAP_DONE.key (b2n w.secure) 0, lostKey] ++
        (w.cols.map fun o => (List.range 160).map (F.POOL_NODE_GAIN.key o)).flatten) [.pool, .inl] ∧
      t.rd F.POOL_XP_SWAP_BUSY (b2n w.secure) = 0 ∧ t.rd F.POOL_XP_SWAP_DONE (b2n w.secure) = 1 ∧ t.pool.swap = none ∧
      (∀ o i, o ∈ w.cols → i < 160 → t.rd F.POOL_NODE_GAIN o i = s.rd F.POOL_SHADOW_GAIN o i) ∧
      s.raises t [s.ev 424 (b2n w.secure) 0 false]) ∧
  (∀ (ini : Initiator) (n : Fin 512) (s : State), s.onBus ini → s.mayWrite ini F.POOL_BQ_CTRL_COMMIT n.val false = true →
    execNext (.biquadCommit ini n) s fun t =>
      s.changes t [] [.pool, .resp] ∧ t.done ∧ t.pool.bqState = s.pool.bqState ∧
      ∀ j, j < 5 → t.bqCoef n.val j = sx 32 (s.rd F.POOL_BQ_COEF_COEF n.val j))

/-- R424, R425, R428, R429: a received frame enters the receive FIFO and pushes out the oldest of a full one; the oldest frame of
the transmit FIFO goes out; a slave that has seen 64 good frame periods is LOCKED with event 423 and shows the rate measured; one
that loses its frame sync stops and is no longer LOCKED. -/
def Obligations.TdmPorts : Prop :=
  (∀ (n : Fin 4) (slots : List Word) (s : State), s.tdmRunning n.val = true → (s.pslot n.val).slots ≠ 0 →
    n.val < s.pool.ports.length → (s.port n.val).rx.length < 32 →
    execNext (.tdmRxFrame n slots) s fun t =>
      s.changes t [] [.pool] ∧ t.port n.val = { s.port n.val with rx := (s.port n.val).rx ++
        [(List.range (s.pslot n.val).slots).map fun k => sx 24 ((slots.getD k 0).toNat / 256)] } ∧
      ∀ m, m ≠ n.val → t.port m = s.port m) ∧
  (∀ (n : Fin 4) (slots : List Word) (s : State), s.tdmRunning n.val = true → (s.pslot n.val).slots ≠ 0 →
    n.val < s.pool.ports.length → 32 ≤ (s.port n.val).rx.length → (s.port n.val).dropAt = none → s.room 422 →
    execNext (.tdmRxFrame n slots) s fun t =>
      s.changes t [F.POOL_TDM_RXDROP_COUNT.key n.val 0, lostKey] [.pool, .inl] ∧
      t.rd F.POOL_TDM_RXDROP_COUNT n.val = (s.rd F.POOL_TDM_RXDROP_COUNT n.val + 1) % 2 ^ 32 ∧
      (t.port n.val).rx = (s.port n.val).rx.drop 1 ++
        [(List.range (s.pslot n.val).slots).map fun k => sx 24 ((slots.getD k 0).toNat / 256)] ∧
      s.raises t [s.ev 422 n.val 0 false]) ∧
  (∀ (n : Fin 4) (slots : List Word) (a : Nat) (s : State), s.tdmRunning n.val = true → (s.pslot n.val).slots ≠ 0 →
    n.val < s.pool.ports.length → 32 ≤ (s.port n.val).rx.length → (s.port n.val).dropAt = some a → s.elapsed < a + 1000000 →
    execNext (.tdmRxFrame n slots) s fun t =>
      s.changes t [F.POOL_TDM_RXDROP_COUNT.key n.val 0] [.pool] ∧
      t.rd F.POOL_TDM_RXDROP_COUNT n.val = (s.rd F.POOL_TDM_RXDROP_COUNT n.val + 1) % 2 ^ 32 ∧
      (t.port n.val).rx = (s.port n.val).rx.drop 1 ++
        [(List.range (s.pslot n.val).slots).map fun k => sx 24 ((slots.getD k 0).toNat / 256)]) ∧
  (∀ (n : Fin 4) (f : List Int) (l : List (List Int)) (s : State), s.tdmLocked n.val = true → s.txSlots n.val ≠ 0 →
    n.val < s.pool.ports.length → (s.port n.val).tx = f :: l → s.tdmLow n.val ≤ l.length → l.length < 32 →
    execNext (.tdmTxFrame n) s fun t =>
      s.changes t [F.POOL_TDM_FIFO_FILL.key n.val 0, F.POOL_TDM_FIFO_MIN.key n.val 0] [.pool, .sent, .gov] ∧
      t.port n.val = { s.port n.val with tx := l, last := f } ∧ t.sent = .tdm n.val f :: s.sent ∧
      t.rd F.POOL_TDM_FIFO_FILL n.val = l.length ∧
      t.rd F.POOL_TDM_FIFO_MIN n.val = min l.length (s.rd F.POOL_TDM_FIFO_MIN n.val)) ∧
  (∀ (n : Fin 4) (ps : Nat) (s : State), s.tdmOn n.val = true → s.rd F.POOL_TDM_CFG_ROLE n.val = 1 → 0 < ps →
    n.val < s.pool.ports.length → tdmWithin (rateHz (s.tdmSlot n.val).fs) ps 1000 = true → 63 ≤ (s.port n.val).good →
    s.rd F.POOL_TDM_STAT_LOCKED n.val = 0 → s.room 423 →
    execNext (.tdmFsync n ps) s fun t =>
      s.changes t [F.POOL_TDM_STAT_RUNNING.key n.val 0, F.POOL_TDM_STAT_RATE_HZ.key n.val 0,
        F.POOL_TDM_STAT_LOCKED.key n.val 0, lostKey] [.pool, .inl] ∧
      t.rd F.POOL_TDM_STAT_RUNNING n.val = 1 ∧ t.rd F.POOL_TDM_STAT_LOCKED n.val = 1 ∧
      t.rd F.POOL_TDM_STAT_RATE_HZ n.val = (1000000000000 + ps / 2) / ps % 2 ^ 18 ∧ (t.port n.val).good = 64 ∧
      s.raises t [s.ev 423 (n.val + 256) 0 false]) ∧
  (∀ (n : Fin 4) (s : State), s.tdmOn n.val = true → s.rd F.POOL_TDM_CFG_ROLE n.val = 1 →
    s.rd F.POOL_TDM_STAT_RUNNING n.val = 1 → s.rd F.POOL_TDM_STAT_LOCKED n.val = 1 → n.val < s.pool.ports.length →
    s.fsyncGone n.val = true → s.room 423 →
    execNext (.tdmFsyncLost n) s fun t =>
      s.changes t [F.POOL_TDM_STAT_RUNNING.key n.val 0, F.POOL_TDM_STAT_LOCKED.key n.val 0, lostKey] [.pool, .inl] ∧
      t.rd F.POOL_TDM_STAT_RUNNING n.val = 0 ∧ t.rd F.POOL_TDM_STAT_LOCKED n.val = 0 ∧ (t.port n.val).good = 0 ∧
      s.raises t [s.ev 423 n.val 0 false])

/-- R443, R447, R450, R451, R454: a buffer joins a stream that runs, which a fading stream resumes; 192 ticks of fading stall a
stream with event 416; a tone starts at the next tick or at its instant, ends with its pass or in a ramp of 96 ticks; a segment is
followed by the next; a block of the recorder is stored under the secure tag, or lost with event 427 when the ring is full. -/
def Obligations.StreamsAndTones : Prop :=
  (∀ (c : Fin 32) (q : Fin 64) (l : List Byte) (x : PStream) (s : State), s.pool.fetched = [(c.val, q.val, l)] →
    s.poolOn = true → s.rd F.COVE_STATE_STATE c.val = 1 → s.rd F.COVE_Q_STAT_FAULT c.val q.val = 0 →
    strDescOk (strFormat s c.val q.val) l = true → s.rd F.COVE_Q_CFG_ENGINE c.val q.val = 4 →
    s.bindingsOk false c.val q.val = true → leAt l 0 1 = 1 → s.pool.streams = [x] → x.cove = c.val → x.q = q.val → x.halt = false →
    (s.rd F.POOL_STR_STAT_STATE c.val q.val = 1 ∨ s.rd F.POOL_STR_STAT_STATE c.val q.val = 2) →
    execNext (.streamDescAccept c q) s fun t =>
      s.changes t [F.COVE_Q_CONS_CONS.key c.val q.val, F.POOL_STR_STAT_STATE.key c.val q.val] [.pool] ∧
      t.rd F.COVE_Q_CONS_CONS c.val q.val = (s.rd F.COVE_Q_CONS_CONS c.val q.val + 1) % 2 ^ 32 ∧
      t.rd F.POOL_STR_STAT_STATE c.val q.val = 1 ∧
      t.pool = { s.pool with fetched := [], streams := [{ x with descs := x.descs ++ [
        {
          flags := leAt l 1 1, frames := leAt l 4 4, addr := leAt l 8 8, record := leAt l 0x18 8, gen := s.gen c.val,
          done := 0, discarded := 0, firstTs := 0, resumed := false, gap := false, cut := false }] }] }) ∧
  (∀ (c : Fin 32) (q : Fin 64) (x : PStream) (s : State), s.str c.val q.val = some x →
    s.rd F.POOL_STR_STAT_STATE c.val q.val = 2 → 192 ≤ x.fade → x.toIdle = false → x.halt = false → s.room 416 →
    execNext (.streamStalled c q) s fun t =>
      s.changes t [F.POOL_STR_STAT_STATE.key c.val q.val, F.POOL_STR_STALLS_COUNT.key c.val q.val, lostKey] [.inl] ∧
      t.rd F.POOL_STR_STAT_STATE c.val q.val = 3 ∧
      t.rd F.POOL_STR_STALLS_COUNT c.val q.val = (s.rd F.POOL_STR_STALLS_COUNT c.val q.val + 1) % 2 ^ 32 ∧
      s.raises t [s.ev 416 q.val c.val false]) ∧
  (∀ (ini : Initiator) (g : Fin 16) (at_ : Bool) (s : State), s.onBus ini → s.toneMay ini g.val = true → g.val < s.pool.tones.length →
    execNext (.toneStart ini g at_) s fun t =>
      s.changes t [] [.pool, .resp] ∧ t.done ∧ t.tone g.val = { s.tone g.val with
        start := some (if at_ then s.rd F.POOL_TONE_AT_AT g.val else 0) } ∧
      ∀ m, m ≠ g.val → t.tone m = s.tone m) ∧
  (∀ (ini : Initiator) (g : Fin 16) (s : State), s.onBus ini → s.toneMay ini g.val = true → g.val < s.pool.tones.length →
    s.rd F.POOL_TONE_STAT_PLAYING g.val = 1 →
    execNext (.toneStop ini g) s fun t =>
      s.changes t [] [.pool, .resp] ∧ t.done ∧ t.tone g.val = { s.tone g.val with stopAtEnd := true } ∧
      ∀ m, m ≠ g.val → t.tone m = s.tone m) ∧
  (∀ (ini : Initiator) (g : Fin 16) (s : State), s.onBus ini → s.toneMay ini g.val = true → g.val < s.pool.tones.length →
    s.rd F.POOL_TONE_STAT_PLAYING g.val = 1 →
    execNext (.toneStopNow ini g) s fun t =>
      s.changes t [] [.pool, .resp] ∧ t.done ∧ t.tone g.val = { s.tone g.val with
        ending := true, left := 0, level := { from_ := (s.tone g.val).level.val 96, to_ := 0, j := 0 } } ∧
      ∀ m, m ≠ g.val → t.tone m = s.tone m) ∧
  (∀ (g : Fin 16) (s : State), s.rd F.POOL_TONE_STAT_PLAYING g.val = 1 → (s.tone g.val).ending = false →
    (s.tone g.val).left = 0 → g.val < s.pool.tones.length → s.rd F.POOL_TONE_STAT_SEG g.val < 15 →
    s.rd F.POOL_TONE_SEG_A_DUR_MS g.val (s.rd F.POOL_TONE_STAT_SEG g.val + 1) ≠ 0 →
    execNext (.toneSegmentEnd g) s fun t =>
      s.changes t [F.POOL_TONE_STAT_SEG.key g.val 0] [.pool] ∧
      t.rd F.POOL_TONE_STAT_SEG g.val = s.rd F.POOL_TONE_STAT_SEG g.val + 1 ∧
      t.tone g.val = { s.tone g.val with
        left := 96 * s.rd F.POOL_TONE_SEG_A_DUR_MS g.val (s.rd F.POOL_TONE_STAT_SEG g.val + 1),
        level := {
          from_ := (s.tone g.val).level.val 96,
          to_ := sx 24 (s.rd F.POOL_TONE_SEG_B_LEVEL g.val (s.rd F.POOL_TONE_STAT_SEG g.val + 1)), j := 0 } }) ∧
  (∀ (s : State), s.rd F.POOL_REC_CFG_EN = 1 → 96 ≤ s.pool.tap.length →
    used32 (s.rd F.POOL_REC_PROD_COUNT) (s.rd F.POOL_REC_CONS_COUNT) ≠ s.recSize → s.fab.isolated = [] →
    s.rd F.POOL_REC_BASE_BASE * 64 + 3136 * 4096 ≤ min tarnBase s.dramBytes →
    (∀ p, shorAllows (s.shorEntry p) (secTag s) true = true) →
    execNext .recBlock s fun t =>
      s.changes t [F.POOL_REC_PROD_COUNT.key 0 0] [.pool, .dram, .res] ∧
      t.rd F.POOL_REC_PROD_COUNT = (s.rd F.POOL_REC_PROD_COUNT + 1) % 2 ^ 32 ∧
      t.pool = { s.pool with tap := s.pool.tap.drop 96, recLoss := false } ∧
      t.dram = memWrite s.dram (s.rd F.POOL_REC_BASE_BASE * 64 + 3136 * (s.rd F.POOL_REC_PROD_COUNT % s.recSize))
        (s.recBlock (s.pool.tap.take 96))) ∧
  (∀ (s : State), s.rd F.POOL_REC_CFG_EN = 1 → 96 ≤ s.pool.tap.length →
    used32 (s.rd F.POOL_REC_PROD_COUNT) (s.rd F.POOL_REC_CONS_COUNT) = s.recSize → s.pool.recEpisode = false → s.room 427 →
    execNext .recBlock s fun t =>
      s.changes t [F.POOL_REC_LOST_COUNT.key 0 0, lostKey] [.pool, .inl] ∧
      t.rd F.POOL_REC_LOST_COUNT = (s.rd F.POOL_REC_LOST_COUNT + 1) % 2 ^ 32 ∧
      t.pool = { s.pool with tap := s.pool.tap.drop 96, recLoss := true, recEpisode := true } ∧
      s.raises t [s.ev 427 0 0 false])

/-! ### Plash (chapter 16) -/

/-- R463 to R471, R474, R476 to R478: an effect that passes its checks waits on its channel and BUSY is 1; STOP brakes its channel; a
waveform's end, and the end of an attack, move the sequencer to its next state; a settled channel ends its effect, goes OFF and
IDLE and raises event 448; a trigger of Shallows submits the effect of its entry or counts a miss; the boost returns to IDLE_V; a
control sample gives an idle channel the table that PLA_CHc_TABLE names and computes the drive of a channel from its waveform and its
loop, shows the measured acceleration and advances the waveform; a sense gap keeps its reading and tracks the resonance within its
band; a drive fault of one channel takes its output OFF with event 454; CLEAR returns it to IDLE, or shows STILL_SET while the cause
lasts; an accelerometer's reading reaches its channels, the third bad one marks it faulty with event 453, and a retry clears the
faults. -/
def Obligations.PlashEffects : Prop :=
  (∀ (ini : Initiator) (p : Fin 136) (tag : BitVec 8) (c : Fin 16) (s : State), s.issues ini = true →
    s.fxMay ini p.val = true → s.rd F.PLA_FX_STAT_BUSY p.val = 0 → s.rd F.PLA_FX_CFG_CHMASK p.val = 2 ^ c.val →
    s.fxCheck c.val (if p.val < 128 then p.val / 4 else 0) (s.rd F.PLA_FX_CFG_WAVE p.val) (decide (128 ≤ p.val)) = 0 →
    c.val < s.pla.chans.length →
    execNext (.effectGo ini p tag) s fun t =>
      s.changes t [F.PLA_FX_STAT_STARTED.key p.val 0, F.PLA_FX_REFUSED_CHMASK.key p.val 0, F.PLA_FX_STAT_BUSY.key p.val 0,
        F.PLA_FX_STAT_RESULT.key p.val 0] [.pla, .resp] ∧ t.done ∧
      t.rd F.PLA_FX_STAT_STARTED p.val = 2 ^ c.val ∧ t.rd F.PLA_FX_REFUSED_CHMASK p.val = 0 ∧
      t.rd F.PLA_FX_STAT_BUSY p.val = 1 ∧ t.rd F.PLA_FX_STAT_RESULT p.val = 0 ∧
      (∃ x, t.hch c.val = { s.hch c.val with news := (s.hch c.val).news ++ [x] } ∧ x.port = some p.val ∧
        x.wave = s.rd F.PLA_FX_CFG_WAVE p.val ∧ x.amp = min 32768 (s.rd F.PLA_FX_AMP_AMP p.val) ∧
        x.prio = s.rd F.PLA_FX_CFG_PRIO p.val + (if 128 ≤ p.val then 8 else 0) ∧ x.at_ = s.rd F.PLA_FX_AT_AT p.val) ∧
      ∀ k, k ≠ c.val → t.hch k = s.hch k) ∧
  (∀ (ini : Initiator) (p : Fin 136) (c : Fin 16) (x : PlaFx) (s : State), s.issues ini = true → s.fxMay ini p.val = true →
    (∀ k, (s.hch k).news = [] ∧ (s.hch k).queue = []) → (∀ k, k ≠ c.val → (s.hch k).cur = none) →
    (s.hch c.val).cur = some x → x.port = some p.val → (s.plaState c.val = 1 ∨ s.plaState c.val = 2) →
    s.rd F.PLA_CH_STAT_TABLE c.val = 255 → s.noPiezo →
    execNext (.effectStop ini p) s fun t =>
      s.changes t [F.PLA_CH_STAT_STATE.key c.val 0, F.PLA_BOOST_STAT_V_B.key 0 0] [.pla, .resp] ∧ t.done ∧ t.plaState c.val = 3 ∧
      t.hch c.val = { s.hch c.val with
        cur := some { x with stopped := true }, mode := .brake, timer := some (s.elapsed + s.brakeMs c.val * 1000000) } ∧
      ∀ k, k ≠ c.val → t.hch k = s.hch k) ∧
  (∀ (c : Fin 16) (s : State), (s.hch c.val).waveDone = true → (s.hch c.val).forced = false →
    (s.plaState c.val = 1 ∨ s.plaState c.val = 2) → s.rd F.PLA_CH_STAT_TABLE c.val = 255 → s.noPiezo →
    execNext (.waveEnd c) s fun t =>
      s.changes t [F.PLA_CH_STAT_STATE.key c.val 0, F.PLA_BOOST_STAT_V_B.key 0 0] [.pla] ∧ t.plaState c.val = 3 ∧
      t.hch c.val = { s.hch c.val with
        waveDone := false, mode := .brake, timer := some (s.elapsed + s.brakeMs c.val * 1000000) } ∧
      ∀ k, k ≠ c.val → t.hch k = s.hch k) ∧
  (∀ (c : Fin 16) (at_ : Nat) (s : State), (s.hch c.val).timer = some at_ → at_ ≤ s.elapsed → (s.hch c.val).forced = false →
    s.plaState c.val = 1 → s.rd F.PLA_CH_STAT_TABLE c.val = 255 → s.noPiezo →
    execNext (.sequencerTimer c) s fun t =>
      s.changes t [F.PLA_CH_STAT_STATE.key c.val 0, F.PLA_BOOST_STAT_V_B.key 0 0] [.pla] ∧ t.plaState c.val = 2 ∧
      t.hch c.val = { s.hch c.val with timer := none, mode := .sustain } ∧ ∀ k, k ≠ c.val → t.hch k = s.hch k) ∧
  (∀ (c : Fin 16) (p : Fin 136) (x : PlaFx) (s : State), (s.hch c.val).mode = .brake → 96 ≤ (s.hch c.val).settle →
    (s.hch c.val).forced = false → (s.hch c.val).queue = [] → (s.hch c.val).cur = some x → x.stopped = false →
    x.port = some p.val → (s.fxPort p.val).open_ = 2 ^ c.val → (s.fxPort p.val).worst = 0 → p.val < s.pla.ports.length →
    (s.fxPort p.val).gen = s.gen (if p.val < 128 then p.val / 4 else 0) → s.plaState c.val = 3 →
    s.rd F.PLA_CH_STAT_TABLE c.val = 255 → s.noPiezo → s.room 448 →
    execNext (.settled c) s fun t =>
      s.changes t [F.PLA_CH_STAT_STATE.key c.val 0, F.PLA_BOOST_STAT_V_B.key 0 0, F.PLA_FX_STAT_BUSY.key p.val 0,
        F.PLA_FX_STAT_DONE.key p.val 0, F.PLA_FX_STAT_RESULT.key p.val 0, lostKey] [.pla, .inl] ∧
      t.plaState c.val = 0 ∧ t.rd F.PLA_FX_STAT_BUSY p.val = 0 ∧ t.rd F.PLA_FX_STAT_DONE p.val = 1 ∧
      t.rd F.PLA_FX_STAT_RESULT p.val = 1 ∧
      t.hch c.val = { s.hch c.val with
        cur := none, mode := .off, u := 0, i := 0, timer := none, settle := 0, joined := false, waveDone := false } ∧
      (∀ k, k ≠ c.val → t.hch k = s.hch k) ∧
      s.raises t [s.ev 448 ((s.fxPort p.val).tag + 256 * (if p.val < 128 then p.val % 4 else p.val - 128) + 4096)
        (if p.val < 128 then p.val / 4 else 0) (decide (128 ≤ p.val))]) ∧
  (∀ (n : Nat) (cv ts : Nat) (l : List (Nat × Bool × Nat × Nat)) (c : Fin 16) (s : State),
    s.pla.trigs = (n, false, cv, ts) :: l → s.rd F.PLA_TRIG_EN n = 1 → s.rd F.PLA_TRIG_SECURE n = 0 →
    s.rd F.PLA_TRIG_OWNER n = cv → s.rd F.PLA_TRIG_CHMASK n = 2 ^ c.val →
    s.fxCheck c.val cv (s.rd F.PLA_TRIG_FX_WAVE n) false = 0 → c.val < s.pla.chans.length →
    execNext .touchTrigger s fun t =>
      s.changes t [] [.pla] ∧ t.pla.trigs = l ∧
      (∃ x, t.hch c.val = { s.hch c.val with news := (s.hch c.val).news ++ [x] } ∧ x.port = none ∧ x.cove = cv ∧
        x.wave = s.rd F.PLA_TRIG_FX_WAVE n ∧ x.at_ = 0) ∧
      ∀ k, k ≠ c.val → t.hch k = s.hch k) ∧
  (∀ (n : Nat) (sec : Bool) (cv ts : Nat) (l : List (Nat × Bool × Nat × Nat)) (s : State),
    s.pla.trigs = (n, sec, cv, ts) :: l → s.rd F.PLA_TRIG_EN n = 0 →
    execNext .touchTrigger s fun t =>
      s.changes t [F.PLA_TRIG_MISS_COUNT.key 0 0] [.pla] ∧ t.pla = { s.pla with trigs := l } ∧
      t.rd F.PLA_TRIG_MISS_COUNT = (s.rd F.PLA_TRIG_MISS_COUNT + 1) % 2 ^ 32) ∧
  (∀ (at_ : Nat) (s : State), s.pla.boostIdle = some at_ → at_ ≤ s.elapsed → s.piezoLimits = [] → s.boostRuns = true →
    execNext .boostIdleTimeout s fun t =>
      s.changes t [F.PLA_BOOST_STAT_V_B.key 0 0] [.pla] ∧ t.rd F.PLA_BOOST_STAT_V_B = s.idleV ∧
      t.pla = { s.pla with boostIdle := none }) ∧
  (∀ (c : Fin 16) (x : PlaFx) (s : State), s.plaOn = true → (∀ k, (s.hch k).pend = none ∧ (s.hch k).news = []) →
    (∀ k, k ≠ c.val → (s.hch k).mode = .off) → (s.hch c.val).cur = some x → x.carrier = false →
    (s.hch c.val).mode = .sustain →
    -32767 ≤ (s.loopStep c.val (waveValue (s.waveRec x.wave) x.amp x.pos) false).2.2 →
    (s.loopStep c.val (waveValue (s.waveRec x.wave) x.amp x.pos) false).2.2 ≤ 32767 →
    execNext (.controlSample 0) s fun t =>
      s.changes t (F.PLA_CH_MEAS_ACC.key c.val 0 :: (List.range 16).map fun k => F.PLA_CH_STAT_TABLE.key k 0) [.pla, .sent] ∧
      t.rd F.PLA_CH_MEAS_ACC c.val =
        min (s.loopStep c.val (waveValue (s.waveRec x.wave) x.amp x.pos) false).1.natAbs 65535 ∧
      t.sent = .drive c.val ((s.loopStep c.val (waveValue (s.waveRec x.wave) x.amp x.pos) false).2.2 *
        (s.haptic c.val).limit / 32767) :: s.sent ∧
      (t.hch c.val).u = (s.loopStep c.val (waveValue (s.waveRec x.wave) x.amp x.pos) false).2.2 ∧
      (t.hch c.val).i = (s.loopStep c.val (waveValue (s.waveRec x.wave) x.amp x.pos) false).2.1 ∧
      (t.hch c.val).cur = some (x.step (leAt (s.waveRec x.wave) 2 2 + 1)).1 ∧
      ∀ k, k ≠ c.val → t.hch k = s.hch k) ∧
  (∀ (slew : BitVec 16) (s : State), s.plaOn = true →
    (∀ k, (s.hch k).pend = none ∧ (s.hch k).news = [] ∧ (s.hch k).mode = .off) →
    execNext (.controlSample slew) s fun t =>
      s.changes t ((List.range 16).map fun k => F.PLA_CH_STAT_TABLE.key k 0) [] ∧
      ∀ k, k < 16 → s.plaState k = 0 → t.rd F.PLA_CH_STAT_TABLE k =
        if (s.stateTable 1 (s.rd F.PLA_CH_TABLE_TABLE_ID k)).isSome then s.rd F.PLA_CH_TABLE_TABLE_ID k else 255) ∧
  (∀ (c : Fin 16) (vs e : Int) (s : State), s.plaOn = true → (s.hch c.val).mode = .brake → s.accOf c.val = none →
    c.val < s.pla.chans.length → s.rd F.PLA_CH_RES_TRACK_EN c.val = 1 →
    execNext (.senseGap c vs (some e)) s fun t =>
      s.changes t [F.PLA_CH_MEAS_RES.key c.val 0] [.pla] ∧
      (∃ f : Int, f = clampI ((s.rd F.PLA_CH_RES_F0 c.val * (100 - clampN 1 50 (s.rd F.PLA_CH_RES_BAND c.val)) / 100 : Nat) : Int)
          ((s.rd F.PLA_CH_RES_F0 c.val * (100 + clampN 1 50 (s.rd F.PLA_CH_RES_BAND c.val)) / 100 : Nat) : Int)
          ((s.rd F.PLA_CH_MEAS_RES c.val : Int) + (s.rd F.PLA_CH_RES_GAIN c.val : Nat) * e / 256) ∧
        t.rd F.PLA_CH_MEAS_RES c.val = f.toNat % 2 ^ 16) ∧
      t.hch c.val = { s.hch c.val with vs := vs, gaps := 0, resLost := false } ∧ ∀ k, k ≠ c.val → t.hch k = s.hch k) ∧
  (∀ (code : Fin 8) (c : Fin 16) (vg5 : Bool) (s : State), s.domainUp 10 = true → 0 < code.val → code.val < 4 →
    s.plaState c.val ≠ 4 → (s.hch c.val).cur = none → (s.hch c.val).queue = [] → s.noPiezo → s.room 454 →
    execNext (.driveFault code c vg5) s fun t =>
      s.changes t [F.PLA_CH_FAULT_CODE.key c.val 0, F.PLA_CH_STAT_STATE.key c.val 0, F.PLA_BOOST_STAT_V_B.key 0 0, lostKey]
        [.pla, .inl] ∧
      t.rd F.PLA_CH_FAULT_CODE c.val = code.val ∧ t.plaState c.val = 4 ∧ (t.hch c.val).mode = .off ∧ (t.hch c.val).u = 0 ∧
      (∀ k, k ≠ c.val → t.hch k = s.hch k) ∧ s.raises t [s.ev 454 (c.val + 16 * code.val) 0 false]) ∧
  (∀ (ini : Initiator) (c : Fin 16) (ended : Bool) (s : State), s.onBus ini → s.mayWrite ini F.PLA_CH_FAULT_CLEAR c.val false = true →
    s.plaState c.val = 4 → (s.rd F.PLA_CH_FAULT_CODE c.val < 4 ∨ ended = true) → s.noPiezo →
    execNext (.faultClear ini c ended) s fun t =>
      s.changes t [F.PLA_CH_FAULT_STILL_SET.key c.val 0, F.PLA_CH_FAULT_CODE.key c.val 0, F.PLA_CH_STAT_STATE.key c.val 0,
        F.PLA_BOOST_STAT_V_B.key 0 0] [.pla, .resp] ∧ t.done ∧
      t.plaState c.val = 0 ∧ t.rd F.PLA_CH_FAULT_CODE c.val = 0 ∧ t.rd F.PLA_CH_FAULT_STILL_SET c.val = 0 ∧
      t.pla = (if s.rd F.PLA_CH_FAULT_CODE c.val = 4 ∨ s.rd F.PLA_CH_FAULT_CODE c.val = 6 then
        { s.pla with boostStopped := false } else s.pla)) ∧
  (∀ (ini : Initiator) (c : Fin 16) (s : State), s.onBus ini → s.mayWrite ini F.PLA_CH_FAULT_CLEAR c.val false = true →
    s.plaState c.val = 4 → 4 ≤ s.rd F.PLA_CH_FAULT_CODE c.val →
    execNext (.faultClear ini c false) s fun t =>
      s.changes t [F.PLA_CH_FAULT_STILL_SET.key c.val 0] [.resp] ∧ t.done ∧ t.rd F.PLA_CH_FAULT_STILL_SET c.val = 1) ∧
  (∀ (k : Fin 8) (b0 b1 : Byte) (n : Nat) (s : State), s.plaOn = true → k.val < s.pla.accs.length →
    s.pla.accs.getD k.val { bad := 0, faulty := false } = { bad := n, faulty := false } → s.rd F.PLA_ACCK_CFG_BIG_END k.val = 1 →
    ¬(b0 = 0 ∧ b1 = 0) → ¬(b0 = 0xFF ∧ b1 = 0xFF) →
    execNext (.accRead k b0 b1) s fun t =>
      s.changes t [] [.pla, .sent] ∧ t.pla.accs.getD k.val { bad := 0, faulty := false } = { bad := 0, faulty := false } ∧
      ∀ c, c < 16 → c < s.pla.chans.length → t.hch c = (if (s.haptic c).accCs = k.val then { s.hch c with
        acc := sx 16 (b0.toNat * 256 + b1.toNat) * (s.rd F.PLA_ACCK_CFG_SCALE k.val : Nat) / 256 } else s.hch c)) ∧
  (∀ (k : Fin 8) (s : State), s.plaOn = true → k.val < s.pla.accs.length →
    s.pla.accs.getD k.val { bad := 0, faulty := false } = { bad := 2, faulty := false } → s.room 453 →
    execNext (.accRead k 0 0) s fun t =>
      s.changes t [lostKey] [.pla, .sent, .inl] ∧
      t.pla = { s.pla with accs := s.pla.accs.set k.val { bad := 3, faulty := true } } ∧
      s.raises t [s.ev 453 k.val 0 false]) ∧
  (∀ (ini : Initiator) (s : State), s.onBus ini → s.mayWrite ini F.PLA_ACC_CFG_ACC_RETRY 0 false = true →
    execNext (.accRetry ini) s fun t =>
      s.changes t [] [.pla, .resp] ∧ t.done ∧ t.pla = { s.pla with accs := s.pla.accs.map fun _ => { bad := 0, faulty := false } })

/-! ### Shallows (chapter 17) -/

/-- R483, R485, R486, R489, R490, R497: a frame starts at its instant, or later, with its sensor's registers, its contact table and the claims as they stand, at the quietest frequency, and a
sensor that becomes noisy raises event 471; a frame without candidates ends and counts; one accepted candidate opens contact 0 in
its first state; a frame cut short is dropped whole with event 466 and cancels the contacts at the limit. -/
def Obligations.TouchFrames : Prop :=
  (∀ (n : Fin 4) (noise : List Nat) (s : State), s.domainOn 11 = true → s.runOrDip = true →
    s.rd F.SHA_SNS_STAT_RUNNING n.val = 0 → s.sha.pend = [] → (s.touchCfg n.val).en = true →
    (s.sns n.val).grid ≤ s.tbs.now → (∀ p, s.deltaOf 0x35 = some p → p.started = false) →
    s.rd F.SHA_SNS_TABLE_TABLE_ID n.val = 255 → (s.sns n.val).rows = shallowsTable → n.val < s.sha.sensors.length →
    (∃ k, k < 4 ∧ noise.getD k 0 ≤ s.rd F.SHA_SNS_DET_NOISE n.val) →
    execNext (.scanFrameStart n noise) s fun t =>
      s.changes t [F.SHA_SNS_STAT_RUNNING.key n.val 0, F.SHA_SNS_STAT_FREQ.key n.val 0, F.SHA_SNS_STAT_NOISY.key n.val 0]
        [.sha] ∧
      t.rd F.SHA_SNS_STAT_RUNNING n.val = 1 ∧ t.rd F.SHA_SNS_STAT_NOISY n.val = 0 ∧
      t.sns n.val = { s.sns n.val with
        cfg := some (s.shaCfg n.val), began := s.tbs.now, claims := s.img.claims,
        grid := nextFrame (s.sns n.val).grid (s.touchCfg n.val).rate s.tbs.now } ∧
      ∀ k, k < 4 → noise.getD (t.rd F.SHA_SNS_STAT_FREQ n.val) 0 ≤ noise.getD k 0) ∧
  (∀ (n : Fin 4) (noise : List Nat) (s : State), s.domainOn 11 = true → s.runOrDip = true →
    s.rd F.SHA_SNS_STAT_RUNNING n.val = 0 → s.sha.pend = [] → (s.touchCfg n.val).en = true →
    (s.sns n.val).grid ≤ s.tbs.now → (∀ p, s.deltaOf 0x35 = some p → p.started = false) →
    s.rd F.SHA_SNS_TABLE_TABLE_ID n.val = 255 → (s.sns n.val).rows = shallowsTable →
    (∀ k, k < 4 → s.rd F.SHA_SNS_DET_NOISE n.val < noise.getD k 0) → s.rd F.SHA_SNS_STAT_NOISY n.val = 0 → s.room 471 →
    execNext (.scanFrameStart n noise) s fun t =>
      s.changes t [F.SHA_SNS_STAT_RUNNING.key n.val 0, F.SHA_SNS_STAT_FREQ.key n.val 0, F.SHA_SNS_STAT_NOISY.key n.val 0,
        lostKey] [.sha, .inl] ∧
      t.rd F.SHA_SNS_STAT_RUNNING n.val = 1 ∧ t.rd F.SHA_SNS_STAT_NOISY n.val = 1 ∧
      s.raises t [s.ev 471 n.val 0 false]) ∧
  (∀ (n : Fin 4) (nodes tx rx : List Int) (cfg : ShaCfg) (s : State), (s.sns n.val).cfg = some cfg → s.domainUp 11 = true →
    s.runOrDip = true → s.rd F.SHA_SNS_STAT_RUNNING n.val = 1 →
    (s.sns n.val).began + 1000 * (s.touchCfg n.val).frameUs ≤ s.tbs.now → s.rd F.SHA_SNS_STAT_WET n.val = 0 → (s.sns n.val).contacts = [] →
    (s.sns n.val).cancel = false → (s.sns n.val).cancelDrop = false →
    (s.shaGrid n.val nodes tx rx).cands cfg ((s.touchCfg n.val).hasMutual && (s.touchCfg n.val).hasSelf) = [] →
    execNext (.scanFrameEnd n nodes tx rx) s fun t =>
      s.changes t [F.SHA_SNS_STAT_RUNNING.key n.val 0, F.SHA_SNS_STAT_WET.key n.val 0, F.SHA_SNS_FRAME_COUNT.key n.val 0,
        F.SHA_SNS_STAT_CONSEC_DROP.key n.val 0] [.sha] ∧
      t.rd F.SHA_SNS_STAT_RUNNING n.val = 0 ∧ t.rd F.SHA_SNS_STAT_WET n.val = 0 ∧ t.rd F.SHA_SNS_STAT_CONSEC_DROP n.val = 0 ∧
      t.rd F.SHA_SNS_FRAME_COUNT n.val = (s.rd F.SHA_SNS_FRAME_COUNT n.val + 1) % 2 ^ 32 ∧
      (t.sns n.val).contacts = [] ∧
      (t.sns n.val).baseM = moveBase nodes (s.sns n.val).baseM ((s.touchCfg n.val).txCount * (s.touchCfg n.val).rxCount)
        (fun _ => false)) ∧
  (∀ (n : Fin 4) (nodes tx rx : List Int) (cfg : ShaCfg) (k : PeakCand) (s : State), (s.sns n.val).cfg = some cfg →
    s.domainUp 11 = true → s.runOrDip = true →
    s.rd F.SHA_SNS_STAT_RUNNING n.val = 1 → (s.sns n.val).began + 1000 * (s.touchCfg n.val).frameUs ≤ s.tbs.now → s.rd F.SHA_SNS_STAT_WET n.val = 0 →
    (s.sns n.val).contacts = [] → (s.sns n.val).cancel = false → (s.sns n.val).cancelDrop = false →
    (s.sns n.val).rows = shallowsTable → k.kept = true → k.film = false →
    (s.shaGrid n.val nodes tx rx).cands cfg ((s.touchCfg n.val).hasMutual && (s.touchCfg n.val).hasSelf) = [k] →
    execNext (.scanFrameEnd n nodes tx rx) s fun t =>
      s.changes t [F.SHA_SNS_STAT_RUNNING.key n.val 0, F.SHA_SNS_STAT_WET.key n.val 0, F.SHA_SNS_FRAME_COUNT.key n.val 0,
        F.SHA_SNS_STAT_CONSEC_DROP.key n.val 0] [.sha] ∧
      t.rd F.SHA_SNS_STAT_RUNNING n.val = 0 ∧
      t.rd F.SHA_SNS_FRAME_COUNT n.val = (s.rd F.SHA_SNS_FRAME_COUNT n.val + 1) % 2 ^ 32 ∧
      (t.sns n.val).contacts = [{
        id := 0, state := 1, count := 1, u := k.u, v := k.v, sizeU := k.sizeU, sizeV := k.sizeV, signal := k.signal,
        route := none, muted := false }]) ∧
  (∀ (n : Fin 4) (cause : Fin 4) (s : State), s.rd F.SHA_SNS_STAT_RUNNING n.val = 1 → s.room 466 →
    execNext (.touchFrameDropped n cause) s fun t =>
      s.changes t [F.SHA_SNS_STAT_RUNNING.key n.val 0, F.SHA_SNS_DROPPED_COUNT.key n.val 0,
        F.SHA_SNS_STAT_CONSEC_DROP.key n.val 0, lostKey] [.sha, .inl] ∧
      t.rd F.SHA_SNS_STAT_RUNNING n.val = 0 ∧
      t.rd F.SHA_SNS_DROPPED_COUNT n.val = (s.rd F.SHA_SNS_DROPPED_COUNT n.val + 1) % 2 ^ 32 ∧
      t.rd F.SHA_SNS_STAT_CONSEC_DROP n.val =
        min (s.rd F.SHA_SNS_STAT_CONSEC_DROP n.val + 1) (2 ^ F.SHA_SNS_STAT_CONSEC_DROP.width - 1) ∧
      (n.val < s.sha.sensors.length → max 1 (s.rd F.SHA_SNS_REJ_DROP_LIMIT n.val) ≤ s.rd F.SHA_SNS_STAT_CONSEC_DROP n.val →
        (t.sns n.val).cancelDrop = true) ∧
      s.raises t [s.ev 466 (n.val + 16 * cause.val) 0 false])

/-! ### Wellhead (chapter 18) -/

/-- R504 to R509, R516: HELLO is answered with BIND, the link comes up and event 480 is raised; timers send TIME and KEEPALIVE; a
link without frames goes down with event 481 and sets a reason; a bad frame, one of a wrong length among them, is counted; a plane transfer begins, takes its chunks
and ends with PLANE_ACK, accepted or rejected with event 484; REFRESH starts the validity again; SHOW_NVR, the end of the validity
and FORCE_NVR set their reasons; a palette colour is written and the legal tiles are forced. -/
def Obligations.WellheadLink : Prop :=
  (∀ (s : State), s.welRuns = true → s.rd F.WEL_STAT_LINK_UP = 0 → bit (s.rd F.WEL_STAT_REASONS) 5 = true → s.room 480 →
    execNext .hello s fun t =>
      s.changes t [F.WEL_STAT_LINK_UP.key 0 0, lostKey] [.wel, .sent, .inl] ∧ t.rd F.WEL_STAT_LINK_UP = 1 ∧
      t.sent = .welFrame true (welBytes (s.wel.linkSeq % 65536) 0x83 s.bindBody) :: s.sent ∧
      t.wel = { s.wel with linkSeq := s.wel.linkSeq + 1, lastRx := s.elapsed, lastTx := s.elapsed } ∧
      s.raises t [s.ev 480 0 0 false]) ∧
  (∀ (s : State), s.welUp = true →
    execNext .keepalive s fun t => s.changes t [] [.wel] ∧ t.wel = { s.wel with lastRx := s.elapsed }) ∧
  (∀ (slow : Bool) (s : State), s.welRuns = true → s.rd F.WEL_STAT_LINK_UP = 1 →
    (if slow then s.wel.lastTime + 100000000 else s.wel.lastTx + 1000000) ≤ s.elapsed →
    execNext (.welSendTimer slow) s fun t =>
      s.changes t [] [.wel, .sent] ∧
      t.wel = { s.wel with
        linkSeq := s.wel.linkSeq + 1, lastTx := s.elapsed, lastTime := if slow then s.elapsed else s.wel.lastTime } ∧
      t.sent = .welFrame true (if slow then welBytes (s.wel.linkSeq % 65536) 0xB0 (leBytes 8 s.tbs.now)
        else welBytes (s.wel.linkSeq % 65536) 0x82 []) :: s.sent) ∧
  (∀ (s : State), s.welUp = true → s.wel.lastRx + 10000000 ≤ s.elapsed → bit (s.rd F.WEL_STAT_REASONS) 2 = false → s.room 481 → s.room 483 →
    execNext .welLinkDown s fun t =>
      s.changes t [F.WEL_STAT_LINK_UP.key 0 0, F.WEL_STAT_REASONS.key 0 0, lostKey] [.wel, .whd, .inl] ∧
      t.rd F.WEL_STAT_LINK_UP = 0 ∧ t.rd F.WEL_STAT_REASONS = s.rd F.WEL_STAT_REASONS + 4 ∧
      t.wel = { s.wel with rx := none } ∧ t.whd = { s.whd with up := false } ∧
      s.raises t [s.ev 481 0 0 false, s.ev 483 (s.rd F.WEL_STAT_REASONS + 4) 0 false]) ∧
  (∀ (s : State), s.welRuns = true → s.wel.lastMsgErr = none → s.room 486 →
    execNext .welMsgErr s fun t =>
      s.changes t [F.WEL_MSG_ERR_COUNT.key 0 0, lostKey] [.wel, .inl] ∧
      t.rd F.WEL_MSG_ERR_COUNT = (s.rd F.WEL_MSG_ERR_COUNT + 1) % 2 ^ 32 ∧ s.raises t [s.ev 486 0 0 false]) ∧
  (∀ (id w h ms : BitVec 16) (nvr : Bool) (s : State), s.welUp = true →
    execNext (.planeBegin id nvr w h ms) s fun t =>
      s.changes t [] [.wel] ∧ t.wel = { s.wel with lastRx := s.elapsed, rx := some {
        id := id.toNat, nvr := nvr, w := w.toNat, h := h.toNat, validMs := ms.toNat, chunks := [] } }) ∧
  (∀ (id : BitVec 16) (o : Word) (d : List Byte) (r : PlaneRx) (s : State), s.welUp = true → s.wel.rx = some r →
    r.id = id.toNat → o.toNat % 1024 = 0 → d ≠ [] → d.length ≤ 1024 →
    execNext (.planeData id o d) s fun t =>
      s.changes t [] [.wel] ∧ t.wel = { s.wel with lastRx := s.elapsed, rx := some { r with
        chunks := (o.toNat, d) :: r.chunks.filter fun c => c.1 != o.toNat } }) ∧
  (∀ (id : BitVec 16) (crc : Word) (r : PlaneRx) (d : List Byte) (s : State), s.welUp = true → s.wel.rx = some r →
    r.id = id.toNat → s.planeStatus r crc.toNat = (0, 0, d) → r.nvr = false →
    execNext (.planeEnd id crc) s fun t =>
      s.changes t [] [.wel, .sent] ∧
      t.sent = .welFrame true (welBytes (s.wel.linkSeq % 65536) 0x90 (leBytes 2 r.id ++ leBytes 1 0 ++ leBytes 1 0 ++
        leBytes 4 0)) :: s.sent ∧
      t.wel = { s.wel with
        linkSeq := s.wel.linkSeq + 1, lastRx := s.elapsed, lastTx := s.elapsed, rx := none,
        waiting := some { id := r.id, data := d, until_ := s.tbs.now + r.validMs * 1000000 } }) ∧
  (∀ (id : BitVec 16) (crc : Word) (r : PlaneRx) (st miss : Nat) (d : List Byte) (s : State), s.welUp = true →
    s.wel.rx = some r → r.id = id.toNat → s.planeStatus r crc.toNat = (st, miss, d) → st ≠ 0 → s.room 484 →
    execNext (.planeEnd id crc) s fun t =>
      s.changes t [F.WEL_PLANE_REJ_COUNT.key 0 0, lostKey] [.wel, .sent, .inl] ∧
      t.rd F.WEL_PLANE_REJ_COUNT = (s.rd F.WEL_PLANE_REJ_COUNT + 1) % 2 ^ 32 ∧
      t.sent = .welFrame true (welBytes (s.wel.linkSeq % 65536) 0x90 (leBytes 2 r.id ++ leBytes 1 st ++ leBytes 1 0 ++
        leBytes 4 miss)) :: s.sent ∧ s.raises t [s.ev 484 st 0 false]) ∧
  (∀ (id ms : BitVec 16) (p : Plane) (s : State), s.welUp = true → s.wel.current = some p → p.id = id.toNat →
    s.wel.composing = none → s.wel.waiting = none → bit (s.rd F.WEL_STAT_REASONS) 1 = false →
    execNext (.refresh id ms) s fun t =>
      s.changes t [] [.wel] ∧
      t.wel = { s.wel with
        lastRx := s.elapsed, current := some { p with until_ := s.tbs.now + ms.toNat * 1000000 } }) ∧
  (∀ (s : State), s.welUp = true → bit (s.rd F.WEL_STAT_REASONS) 0 = false → s.room 483 →
    execNext .showNvr s fun t =>
      s.changes t [F.WEL_STAT_REASONS.key 0 0, lostKey] [.wel, .sent, .inl] ∧
      s.toReasons t (s.rd F.WEL_STAT_REASONS + 1)) ∧
  (∀ (p : Plane) (s : State), s.welUp = true → s.wel.current = some p → p.until_ ≤ s.tbs.now →
    bit (s.rd F.WEL_STAT_REASONS) 1 = false → s.room 483 →
    execNext .nvrExpired s fun t =>
      s.changes t [F.WEL_STAT_REASONS.key 0 0, lostKey] [.wel, .sent, .inl] ∧
      s.toReasons t (s.rd F.WEL_STAT_REASONS + 2)) ∧
  (∀ (ini : Initiator) (s : State), s.onBus ini → s.welUp = true → s.isSec ini = true → bit (s.rd F.WEL_STAT_REASONS) 4 = false →
    (∀ h, s.legalHead = some h → h < 8) → s.room 483 →
    execNext (.forceNvrWrite ini true) s fun t =>
      s.changes t [F.WEL_CTRL_FORCE_NVR.key 0 0, F.WEL_STAT_REASONS.key 0 0, lostKey] [.wel, .sent, .inl, .resp] ∧ t.done ∧
      t.rd F.WEL_CTRL_FORCE_NVR = 1 ∧ s.toReasons t (s.rd F.WEL_STAT_REASONS + 16)) ∧
  (∀ (ini : Initiator) (k : Fin 4) (colour : BitVec 30) (s : State), s.onBus ini → s.isMA = true → s.isSec ini = true →
    execNext (.paletteWrite ini k colour) s fun t =>
      s.changes t [F.WEL_PAL_COLOUR.key k.val 0] [.bas, .resp] ∧ t.done ∧ t.rd F.WEL_PAL_COLOUR k.val = colour.toNat ∧
      ∀ h, s.legalHead = some h → h < s.bas.heads.length →
        (t.hc h).nvrForced = s.legalTiles h ∧ ∀ n, n ∈ s.legalTiles h → n ∈ (t.hc h).forced) ∧
  (∀ (id : BitVec 16) (o : Word) (d : List Byte) (s : State), s.welRuns = true → d = [] ∨ 1024 < d.length →
    exec (.planeData id o d) s = exec .welMsgErr s) ∧
  (∀ (l : List Byte) (s : State), s.welRuns = true → l.length ≠ 20 → exec (.ident l) s = exec .welMsgErr s)

/-- R351, R502, R506, R510 to R513, R516: EXPECT and FLUSH act on the legal window's unit; READING and IDENT reach their copies with
events 485 and 487; BIND brings Wellhead's side up and IDENT goes out; an accepted plane waits, a missing chunk is sent again; a
RESULT that shows the current plane ends a fault, one too many that does not is recorded and sends SHOW_NVR, as does no RESULT for
200 ms; TIME, the reset, the seal switch and the checksum have their effects. -/
def Obligations.WellheadDie : Prop :=
  (∀ (seq value : Word) (tag : BitVec 8) (u : Nat) (s : State), s.legalUnit = some u → s.welUp = true →
    u < s.snd.units.length → s.pushRefusal u seq.toNat true = none →
    execNext (.expect seq value tag) s fun t =>
      s.changes t [] [.snd, .wel] ∧ (t.unit u).entries = (s.unit u).entries ++ [⟨seq.toNat, value.toNat, tag.toNat⟩]) ∧
  (∀ (u : Nat) (s : State), s.legalUnit = some u → s.welUp = true → u < s.snd.units.length →
    execNext .flush s fun t => s.changes t [] [.snd, .wel] ∧ (t.unit u).entries = []) ∧
  (∀ (c : Fin 2) (st : BitVec 6) (un de : BitVec 8) (v m : Word) (s : State), s.welUp = true →
    s.wel.lastReading.getD c.val none = none → s.room 485 →
    execNext (.reading c st un de v m) s fun t =>
      s.changes t [F.WEL_READ_VAL_VALUE.key c.val 0, F.WEL_READ_INFO_STATUS.key c.val 0, F.WEL_READ_INFO_UNIT.key c.val 0,
        F.WEL_READ_INFO_DECIMALS.key c.val 0, F.WEL_READ_SEQ_MEAS_SEQ.key c.val 0, lostKey] [.wel, .inl] ∧
      t.rd F.WEL_READ_VAL_VALUE c.val = v.toNat ∧ t.rd F.WEL_READ_INFO_STATUS c.val = st.toNat ∧
      t.rd F.WEL_READ_INFO_UNIT c.val = un.toNat ∧ t.rd F.WEL_READ_INFO_DECIMALS c.val = de.toNat ∧
      t.rd F.WEL_READ_SEQ_MEAS_SEQ c.val = m.toNat ∧ s.raises t [s.ev 485 (c.val + 256 * st.toNat) 0 false]) ∧
  (∀ (l : List Byte) (s : State), s.welUp = true → l.length = 20 → s.room 487 →
    execNext (.ident l) s fun t =>
      s.changes t [F.WEL_IDENT_IDENT.key 0 0, F.WEL_IDENT_IDENT.key 1 0, F.WEL_IDENT_IDENT.key 2 0,
        F.WEL_IDENT_IDENT.key 3 0, F.WEL_IDENT_IDENT.key 4 0, lostKey] [.wel, .inl] ∧
      (∀ k, k < 5 → t.rd F.WEL_IDENT_IDENT k = leAt l (4 * k) 4) ∧ s.raises t [s.ev 487 (leAt l 18 1 % 2) 0 false]) ∧
  (∀ (head window : Fin 8) (d : Bool) (x0 y0 x1 y1 : BitVec 16) (seq : Word) (s : State), s.isMA = true →
    execNext (.bind head window d x0 y0 x1 y1 seq) s fun t =>
      s.changes t [] [.whd, .sent] ∧
      t.sent = .welFrame false (welBytes (s.whd.linkSeq % 65536) 0x31 s.whd.ident) :: s.sent ∧
      t.whd = { s.whd with
        up := true, linkSeq := s.whd.linkSeq + 1, resultAt := s.elapsed,
        bind := some ⟨head.val, window.val, d, x0.toNat, y0.toNat, x1.toNat, y1.toNat, seq.toNat⟩ }) ∧
  (∀ (id : BitVec 16) (miss : Word) (d : List Byte) (s : State), s.whd.up = true → s.whd.pushedAhead = [] →
    execNext (.planeAck id 0 miss false d) s fun t =>
      s.changes t [] [.whd] ∧ t.whd = { s.whd with waiting := some ⟨id.toNat, d⟩, resent := none }) ∧
  (∀ (id : BitVec 16) (miss : Word) (d : List Byte) (s : State), s.whd.up = true → s.whd.resent = none →
    execNext (.planeAck id 3 miss false d) s fun t =>
      s.changes t [] [.whd, .sent] ∧
      t.whd = { s.whd with resent := some (id.toNat, 1), linkSeq := s.whd.linkSeq + 2 } ∧
      t.sent = .welFrame false (welBytes ((s.whd.linkSeq + 1) % 65536) 0x12 (leBytes 2 id.toNat ++ leBytes 2 0 ++
          leBytes 4 (crc32c d))) ::
        .welFrame false (welBytes (s.whd.linkSeq % 65536) 0x11 (leBytes 2 id.toNat ++ leBytes 2 0 ++ leBytes 4 miss.toNat ++
          (d.drop miss.toNat).take 1024)) :: s.sent) ∧
  (∀ (seq : Word) (tag : BitVec 8) (p : WhPlane) (s : State), s.whd.up = true → s.whd.current = some p →
    p.id % 256 = tag.toNat → s.whd.toPush seq.toNat = [] →
    execNext (.result seq 1 tag) s fun t =>
      s.changes t [] [.whd] ∧
      t.whd = { s.whd with lastSeq := some seq.toNat, badRow := 0, fault := false, displayed := true, resultAt := s.elapsed }) ∧
  (∀ (seq : Word) (st : Fin 6) (tag : BitVec 8) (s : State), s.whd.up = true → st.val ≠ 1 →
    s.whd.badRow + 1 = s.whd.displayLimit → s.whd.toPush seq.toNat = [] → s.whd.audit.length < 4096 →
    execNext (.result seq st tag) s fun t =>
      s.changes t [] [.whd, .sent] ∧
      t.whd = { s.whd.noted 5 0 0 0 with
        lastSeq := some seq.toNat, badRow := s.whd.badRow + 1, fault := true, displayed := false,
        linkSeq := s.whd.linkSeq + 2, resultAt := s.elapsed } ∧
      t.sent = .welFrame false (welBytes ((s.whd.linkSeq + 1) % 65536) 0x14 []) ::
        .welFrame false (welBytes (s.whd.linkSeq % 65536) 0x31 (s.whd.noted 5 0 0 0).ident) :: s.sent) ∧
  (∀ (s : State), s.whd.up = true → s.whd.resultAt + 200000000 ≤ s.elapsed → s.whd.audit.length < 4096 →
    execNext .resultTimeout s fun t =>
      s.changes t [] [.whd, .sent] ∧
      t.whd = { s.whd.noted 5 0 0 0 with fault := true, linkSeq := s.whd.linkSeq + 2, resultAt := s.elapsed } ∧
      t.sent = .welFrame false (welBytes ((s.whd.linkSeq + 1) % 65536) 0x14 []) ::
        .welFrame false (welBytes (s.whd.linkSeq % 65536) 0x31 (s.whd.noted 5 0 0 0).ident) :: s.sent) ∧
  (∀ (x : BitVec 64) (s : State), s.whd.up = true →
    execNext (.time x) s fun t => s.changes t [] [.whd] ∧ t.whd = { s.whd with time := some x.toNat }) ∧
  (∀ (s : State), s.isMA = true →
    execNext .whReset s fun t =>
      s.changes t [] [.whd] ∧ t.whd.up = false ∧ t.whd.bind = none ∧ t.whd.current = none ∧ t.whd.time = none ∧ t.whd.valid = true ∧
      t.whd.audit = s.whd.audit ∧ t.whd.params = s.whd.params ∧ t.whd.sealOpen = s.whd.sealOpen ∧
      t.whd.pins = s.whd.pins ∧ t.whd.displayLimit = s.whd.displayLimit) ∧
  (∀ (o : Bool) (s : State), s.isMA = true → o ≠ s.whd.sealOpen → s.whd.audit.length < 4096 → s.whd.up = false →
    execNext (.sealSwitch o) s fun t =>
      s.changes t [] [.whd] ∧ t.whd = { s.whd.noted (if o then 2 else 3) 0 0 0 with sealOpen := o }) ∧
  (∀ (x : Word) (s : State), s.isMA = true → s.whd.checksum = x.toNat → x.toNat ≠ s.whd.stored →
    s.whd.audit.length < 4096 → s.whd.up = false →
    execNext (.checksumCheck x) s fun t =>
      s.changes t [] [.whd, .sent] ∧
      t.whd = { s.whd.noted 6 0 0 0 with valid := false, linkSeq := s.whd.linkSeq + 1 } ∧
      t.sent = .welFrame false (welBytes (s.whd.linkSeq % 65536) 0x14 []) :: s.sent)

/-- R511, R512, R514: each command of the verification UART sends its answer; SET changes the parameter, records the change and is
refused while the seal is closed; SHOWID shows the identification for 10 s. -/
def Obligations.WellheadUart : Prop :=
  (∀ (s : State), s.isMA = true →
    execNext .idCmd s fun t =>
      s.changes t [] [.sent] ∧ t.sent = .uart (([slice s.whd.name 0 8,
        decDigits (s.whd.version % 256) ++ [46] ++ decDigits (s.whd.version / 256 % 256), hexDigits 8 s.whd.checksum,
        decDigits s.whd.audit.length, ascii (if s.whd.sealOpen then "OPEN" else "SEALED")].intersperse [32]).flatten ++
        [13, 10]) :: s.sent) ∧
  (∀ (n : Nat) (r : List Byte) (s : State), s.isMA = true → s.whd.audit[n]? = some r →
    execNext (.audit n) s fun t =>
      s.changes t [] [.sent] ∧ t.sent = .uart ((r.flatMap fun b => hexDigits 2 b.toNat) ++ [13, 10]) :: s.sent) ∧
  (∀ (c : Nat) (st : BitVec 6) (un de : BitVec 8) (v m : Word) (s : State), s.isMA = true → c < 2 → s.whd.valid = true →
    execNext (.read c st un de v m) s fun t =>
      s.changes t [] [.sent] ∧ t.sent = .uart (([decDigits c, hexDigits 2 st.toNat, decDigits un.toNat, decDigits de.toNat,
        (if v.toInt < 0 then [45] else []) ++ decDigits v.toInt.natAbs, decDigits m.toNat].intersperse [32]).flatten ++
        [13, 10]) :: s.sent) ∧
  (∀ (k : BitVec 16) (s : State), s.isMA = true →
    execNext (.param k) s fun t =>
      s.changes t [] [.sent] ∧ t.sent = .uart (decDigits (s.whd.param k.toNat) ++ [13, 10]) :: s.sent) ∧
  (∀ (k : BitVec 16) (v : Word) (s : State), s.isMA = true → s.whd.sealOpen = true → s.whd.audit.length < 4096 →
    s.whd.up = false →
    execNext (.setCmd k v) s fun t =>
      s.changes t [] [.whd, .sent] ∧ t.whd = (s.whd.setParam k.toNat v.toNat).noted 1 k.toNat (s.whd.param k.toNat) v.toNat ∧
      t.sent = .uart (ascii "OK" ++ [13, 10]) :: s.sent) ∧
  (∀ (k : BitVec 16) (v : Word) (s : State), s.isMA = true → s.whd.sealOpen = false →
    execNext (.setCmd k v) s fun t =>
      s.changes t [] [.sent] ∧ t.sent = .uart (ascii "ERR" ++ [32] ++ ascii "2" ++ [13, 10]) :: s.sent) ∧
  (∀ (s : State), s.isMA = true →
    execNext .showid s fun t =>
      s.changes t [] [.whd, .sent] ∧ t.whd = { s.whd with showUntil := some (s.elapsed + 10000000000) } ∧
      t.sent = .uart (ascii "OK" ++ [13, 10]) :: s.sent)

/-! ### Portage and the cascade sideband (chapters 02 and 20) -/

/-- R58, R59, R542 to R546: a genlock or mark pulse of its width is captured and ends a failover wait, any other is counted; the
master sends mark pulses with their instant, a member pairs them to steer its timebase and discards one that comes late; a lost heartbeat starts the failover
wait with event 499; the end of the wait, or of the start-up wait of position 0, gives the master role with event 498, as a ROLE
message and RELEASE_TO give it to another; contention releases SB_SYNC with event 509; an alert edge raises event 503. -/
def Obligations.CascadeRoles : Prop :=
  (∀ (ns : Nat) (s : State), s.sbReads = true → 500 ≤ ns → ns ≤ 2000 →
    execNext (.genlockPulse ns) s fun t =>
      s.changes t [] [.ptg, .pins, .tbs] ∧ t.tbs = { s.tbs with genCap := some s.tbs.now } ∧
      t.ptg = { s.ptg with pulseAt := some s.elapsed, pulseSeen := true, failover := none }) ∧
  (∀ (ns : Nat) (s : State), s.sbReads = true → 3000 ≤ ns → ns ≤ 5000 → s.tbs.markCap = none →
    execNext (.markPulse ns) s fun t =>
      s.changes t [] [.ptg, .pins, .tbs] ∧ t.tbs = { s.tbs with markCap := some s.tbs.now } ∧
      t.ptg = { s.ptg with pulseAt := some s.elapsed, pulseSeen := true, failover := none, markAt := some s.elapsed }) ∧
  (∀ (ns c : Nat) (s : State), s.sbReads = true → 3000 ≤ ns → ns ≤ 5000 → s.tbs.markCap = some c → s.tbsSrc = 2 →
    2 ≤ s.ptg.missed →
    execNext (.markPulse ns) s fun t =>
      s.changes t [F.TBS_STAT_MARK_VALID.key 0 0] [.ptg, .pins, .tbs] ∧ t.rd F.TBS_STAT_MARK_VALID = 0 ∧
      t.tbs = { s.tbs with markCap := some s.tbs.now }) ∧
  (∀ (ns : Nat) (s : State), s.sbReads = true → ns < 500 ∨ (2000 < ns ∧ ns < 3000) ∨ 5000 < ns →
    execNext (.invalidPulse ns) s fun t =>
      s.changes t [] [.tbs] ∧ t.tbs = { s.tbs with badPulses := s.tbs.badPulses + 1 }) ∧
  (∀ (next : Option Nat) (s : State), s.isMaster = true → s.pins.sbDrive = true →
    execNext (.markPulseSend next) s fun t =>
      s.changes t [] [.sent] ∧
      t.sent = s.toAll 1 [s.markInstant next] ++ .sbPulse true (s.markInstant next) :: s.sent) ∧
  (∀ (x : BitVec 64) (s : State), execNext (.mark x true) s fun t => t = s) ∧
  (∀ (x : BitVec 64) (c : Nat) (s : State), s.tbs.markCap = some c → s.tbsSrc = 2 → s.isMaster = false → 7 ≤ s.ptg.paired →
    c ≤ x.toNat → x.toNat < c + 2 ^ 31 →
    execNext (.mark x false) s fun t =>
      s.changes t [F.TBS_RATE_RATE.key 0 0, F.TBS_STAT_MARK_VALID.key 0 0] [.tbs, .ptg, .fresh] ∧
      t.rd F.TBS_STAT_MARK_VALID = 1 ∧ t.tbs.markCap = none ∧ t.tbs.slew = (x.toNat : Int) - c ∧ t.tbs.now = s.tbs.now ∧
      t.ptg = { s.ptg with paired := 8, missed := 0 }) ∧
  (∀ (s : State), s.ptg.pulseAt.getD s.ptg.bootAt + 2000000 ≤ s.elapsed → s.isMaster = false → s.startsUp = false →
    s.sbReads = true → s.heartbeatHeld = false → s.ptg.failover = none → s.room 499 →
    execNext .heartbeatLost s fun t =>
      s.changes t [lostKey] [.ptg, .pins, .inl] ∧
      t.ptg = { s.ptg with
        failover := some (s.elapsed + 3 * ((s.pos + 3 - s.masterPos) % 4) * 1000000), masterDip := false } ∧
      s.raises t [s.ev 499 0 0 false]) ∧
  (∀ (at_ : Nat) (s : State), s.ptg.failover = some at_ → at_ ≤ s.elapsed → s.room 498 →
    execNext .failoverWaitEnd s fun t =>
      s.changes t [F.PTG_CFG_MASTER.key 0 0, F.PTG_CFG_MASTER_POS.key 0 0, lostKey] [.ptg, .pins, .sent, .inl] ∧
      t.rd F.PTG_CFG_MASTER = 1 ∧ t.rd F.PTG_CFG_MASTER_POS = s.pos ∧ t.ptg.failover = none ∧
      t.sent = s.toAll 2 [s.pos] ++ s.sent ∧ s.raises t [s.ev 498 s.pos 0 false]) ∧
  (∀ (s : State), s.pos = 0 → s.isMaster = false → s.ptg.pulseSeen = false → s.sbReads = true →
    s.ptg.bootAt + 3000000 ≤ s.elapsed → s.room 498 →
    execNext .masterStartupTimeout s fun t =>
      s.changes t [F.PTG_CFG_MASTER.key 0 0, F.PTG_CFG_MASTER_POS.key 0 0, lostKey] [.ptg, .pins, .sent, .inl] ∧
      t.rd F.PTG_CFG_MASTER = 1 ∧ t.rd F.PTG_CFG_MASTER_POS = 0 ∧ t.sent = s.toAll 2 [0] ++ s.sent ∧
      s.raises t [s.ev 498 0 0 false]) ∧
  (∀ (q : Fin 4) (s : State), s.powered = true → s.room 498 →
    execNext (.role q) s fun t =>
      s.changes t [F.PTG_CFG_MASTER.key 0 0, F.PTG_CFG_MASTER_POS.key 0 0, lostKey] [.ptg, .pins, .inl] ∧
      t.rd F.PTG_CFG_MASTER = b2n (q.val == s.pos) ∧ t.rd F.PTG_CFG_MASTER_POS = q.val ∧ t.ptg.failover = none ∧
      s.raises t [s.ev 498 q.val 0 false]) ∧
  (∀ (ini : Initiator) (q : Fin 4) (s : State), s.onBus ini → s.isMaster = true → s.isSec ini = true → s.present q.val = true →
    q.val ≠ s.pos → s.room 498 →
    execNext (.releaseTo ini q) s fun t =>
      s.changes t [F.PTG_CFG_MASTER.key 0 0, F.PTG_CFG_MASTER_POS.key 0 0, lostKey] [.resp, .ptg, .pins, .sent, .inl] ∧ t.done ∧
      t.rd F.PTG_CFG_MASTER = 0 ∧ t.rd F.PTG_CFG_MASTER_POS = q.val ∧ t.sent = s.toAll 2 [q.val] ++ s.sent ∧
      s.raises t [s.ev 498 q.val 0 false]) ∧
  (∀ (ns : Nat) (s : State), s.pins.sbDrive = true → 100 < ns → s.room 509 →
    execNext (.turnContention ns) s fun t =>
      s.changes t [lostKey] [.pins, .inl] ∧ t.pins = { s.pins with sbDrive := false, sbContended := true } ∧
      s.raises t [s.ev 509 0 0 false]) ∧
  (∀ (level : Bool) (s : State), s.powered = true → s.rd F.PTG_ALERT_LEVEL = b2n !level → s.room 503 →
    execNext (.sbAlert level) s fun t =>
      s.changes t [F.PTG_ALERT_LEVEL.key 0 0, lostKey] [.ptg, .inl] ∧ t.rd F.PTG_ALERT_LEVEL = b2n level ∧
      t.ptg = { s.ptg with alertCap := some s.tbs.now } ∧
      s.raises t [s.ev 503 (b2n !level) 0 false])

/-- R535, R538 to R541, R544, R553: a member asks for the DIP token, the master grants it, and it returns; an announced DIP holds
the heartbeat until its END message; a link comes up with event 496 and adds the positions behind it, and goes down with event
497, takes them away and ends the remote access that it lost with an error; a starved link sends idle with event 501; a remote access goes out, and is served, answered or refused;
a flit that fails CHECK is NAKed and one out of order changes nothing. -/
def Obligations.PortageLinks : Prop :=
  (∀ (q : Fin 4) (s : State), s.cascade = true → s.isMaster = false → q.val = s.pos → s.present s.masterPos = true →
    execNext (.dipTokenRequest q) s fun t =>
      s.changes t [] [.sent] ∧ t.sent = .ptgMsg s.masterPos 5 [s.pos] :: s.sent) ∧
  (∀ (q : Fin 4) (s : State), s.cascade = true → s.isMaster = true → q.val ≠ s.pos → s.present q.val = true →
    s.ptg.holder = none →
    execNext (.dipTokenRequest q) s fun t =>
      s.changes t [] [.ptg, .sent] ∧ t.ptg = { s.ptg with holder := some q.val } ∧
      t.sent = .ptgMsg q.val 6 [] :: s.sent) ∧
  (∀ (s : State), s.cascade = true → s.isMaster = false →
    execNext .dipTokenGrant s fun t => s.changes t [] [.ptg] ∧ t.ptg = { s.ptg with token := true }) ∧
  (∀ (q : Fin 4) (s : State), s.isMaster = true → s.ptg.holder = some q.val →
    execNext (.dipTokenReturn q) s fun t => s.changes t [] [.ptg] ∧ t.ptg = { s.ptg with holder := none }) ∧
  (∀ (ms : Nat) (s : State), s.isMaster = false →
    execNext (.dipAnnounce ms) s fun t =>
      s.changes t [] [.ptg] ∧ t.ptg = { s.ptg with masterDip := true, dipUntil := s.elapsed + (ms + 1) * 1000000 }) ∧
  (∀ (s : State), s.ptg.masterDip = true →
    execNext .endMessage s fun t =>
      s.changes t [] [.ptg] ∧ t.ptg = { s.ptg with masterDip := false, pulseAt := some s.elapsed }) ∧
  (∀ (l : Fin 2) (p : Fin 4) (x : Word) (reach booting : BitVec 4) (s : State), s.linksMayTrain = true →
    s.rd F.PTG_LINK_STAT_UP l.val = 0 → s.domainOn (7 + l.val) = true → l.val < s.ptg.links.length → s.room 496 →
    execNext (.portageLinkUp l p x reach booting) s fun t =>
      s.changes t [F.PTG_LINK_STAT_UP.key l.val 0, F.PTG_LINK_STAT_PARTNER.key l.val 0, F.PTG_CFG_PRESENT.key 0 0,
        F.PTG_CFG_BOOTING.key 0 0, lostKey] [.ptg, .sent, .inl] ∧
      t.rd F.PTG_LINK_STAT_UP l.val = 1 ∧ t.rd F.PTG_LINK_STAT_PARTNER l.val = p.val ∧
      t.rd F.PTG_CFG_PRESENT = (s.rd F.PTG_CFG_PRESENT ||| s.others (reach.toNat ||| 2 ^ p.val)) % 16 ∧
      t.rd F.PTG_CFG_BOOTING = (if s.isMaster then
        (s.rd F.PTG_CFG_BOOTING ||| (booting.toNat &&& s.others (reach.toNat ||| 2 ^ p.val))) % 16 else s.rd F.PTG_CFG_BOOTING) ∧
      (t.ptgLink l.val).tx = 0 ∧ (t.ptgLink l.val).rx = 0 ∧ (t.ptgLink l.val).retry = [] ∧
      t.sent = t.reachNews l.val booting.toNat ++ s.sent ∧ s.raises t [s.ev 496 l.val 0 false]) ∧
  (∀ (l : Fin 2) (cause : Fin 3) (reach : BitVec 4) (s : State), s.rd F.PTG_LINK_STAT_UP l.val = 1 →
    (∀ q w, s.ptg.racc = some (q, w) → bit reach.toNat q = false) →
    (∀ k c, s.ptg.copies.getD k none = some c → bit reach.toNat c.dest = false) → l.val < s.ptg.links.length → s.room 497 →
    execNext (.portageLinkDown l cause reach) s fun t =>
      s.changes t [F.PTG_LINK_STAT_UP.key l.val 0, F.PTG_CFG_PRESENT.key 0 0, F.PTG_CFG_BOOTING.key 0 0, lostKey]
        [.ptg, .sent, .inl] ∧
      t.rd F.PTG_LINK_STAT_UP l.val = 0 ∧
      t.rd F.PTG_CFG_PRESENT = clearMask 4 (s.rd F.PTG_CFG_PRESENT) reach.toNat % 16 ∧
      t.rd F.PTG_CFG_BOOTING = clearMask 4 (s.rd F.PTG_CFG_BOOTING) reach.toNat % 16 ∧
      (t.ptgLink l.val).retry = [] ∧ t.sent = t.reachNews l.val 0 ++ s.sent ∧
      s.raises t [s.ev 497 (l.val + 4 * cause.val) 0 false]) ∧
  (∀ (l : Fin 2) (cause : Fin 3) (reach : BitVec 4) (q : Nat) (w : Bool) (s : State), s.rd F.PTG_LINK_STAT_UP l.val = 1 →
    s.ptg.racc = some (q, w) → bit reach.toNat q = true →
    (∀ k c, s.ptg.copies.getD k none = some c → bit reach.toNat c.dest = false) → l.val < s.ptg.links.length → s.room 497 →
    execNext (.portageLinkDown l cause reach) s fun t =>
      s.changes t [F.PTG_LINK_STAT_UP.key l.val 0, F.PTG_CFG_PRESENT.key 0 0, F.PTG_CFG_BOOTING.key 0 0,
        F.PTG_RACC_CTRL_BUSY.key 0 0, F.PTG_RACC_CTRL_ERR.key 0 0, lostKey] [.ptg, .sent, .inl] ∧
      t.rd F.PTG_LINK_STAT_UP l.val = 0 ∧ t.rd F.PTG_RACC_CTRL_BUSY = 0 ∧ t.rd F.PTG_RACC_CTRL_ERR = 1 ∧ t.ptg.racc = none ∧
      s.raises t [s.ev 497 (l.val + 4 * cause.val) 0 false]) ∧
  (∀ (l : Fin 2) (s : State), s.rd F.PTG_LINK_STAT_UP l.val = 1 → (s.ptgLink l.val).starvedAt = none → s.room 501 →
    execNext (.ptgStarved l) s fun t =>
      s.changes t [lostKey] [.ptg, .sent, .inl] ∧ t.sent = .portageIdle l.val :: s.sent ∧
      s.raises t [s.ev 501 l.val 0 false]) ∧
  (∀ (ini : Initiator) (q : Fin 4) (s : State), s.onBus ini → s.isSec ini = true → s.ptg.racc = none → s.present q.val = true →
    execNext (.remoteRead ini q) s fun t =>
      s.changes t [F.PTG_RACC_CTRL_WRITE.key 0 0, F.PTG_RACC_CTRL_DEST.key 0 0, F.PTG_RACC_CTRL_BUSY.key 0 0]
        [.resp, .ptg, .sent] ∧ t.done ∧
      t.rd F.PTG_RACC_CTRL_WRITE = 0 ∧ t.rd F.PTG_RACC_CTRL_DEST = q.val ∧ t.rd F.PTG_RACC_CTRL_BUSY = 1 ∧
      t.ptg = { s.ptg with racc := some (q.val, false) } ∧
      t.sent = .ptgMsg q.val 10 [4 * s.rd F.PTG_RACC_ADDR_OFFSET, 0, s.rd F.PTG_RACC_DATA_DATA] :: s.sent) ∧
  (∀ (ini : Initiator) (q : Fin 4) (s : State), s.onBus ini → s.isSec ini = true → s.ptg.racc = none → s.present q.val = true →
    execNext (.remoteWrite ini q) s fun t =>
      s.changes t [F.PTG_RACC_CTRL_WRITE.key 0 0, F.PTG_RACC_CTRL_DEST.key 0 0, F.PTG_RACC_CTRL_BUSY.key 0 0]
        [.resp, .ptg, .sent] ∧ t.done ∧
      t.rd F.PTG_RACC_CTRL_WRITE = 1 ∧ t.rd F.PTG_RACC_CTRL_DEST = q.val ∧ t.rd F.PTG_RACC_CTRL_BUSY = 1 ∧
      t.ptg = { s.ptg with racc := some (q.val, true) } ∧
      t.sent = .ptgMsg q.val 10 [4 * s.rd F.PTG_RACC_ADDR_OFFSET, 1, s.rd F.PTG_RACC_DATA_DATA] :: s.sent) ∧
  (∀ (l : Fin 2) (f : List Byte) (c : FlitContent) (s : State), s.rd F.PTG_LINK_STAT_UP l.val = 1 → flitGood f = false →
    execNext (.flitReceive l f c) s fun t =>
      s.changes t [] [.sent] ∧ t.sent = .ptgNak l.val (s.ptgLink l.val).rx :: s.sent) ∧
  (∀ (l : Fin 2) (f : List Byte) (c : FlitContent) (s : State), s.rd F.PTG_LINK_STAT_UP l.val = 1 → flitGood f = true →
    flitSeq f ≠ (s.ptgLink l.val).rx →
    execNext (.flitReceive l f c) s fun t => t = s) ∧
  (∀ (l : Fin 2) (f : List Byte) (w : Word) (q : Nat) (s : State), s.rd F.PTG_LINK_STAT_UP l.val = 1 → flitGood f = true →
    flitSeq f = (s.ptgLink l.val).rx → flitDest f = s.pos → flitClass f = 2 → s.ptg.racc = some (q, false) →
    l.val < s.ptg.links.length →
    execNext (.flitReceive l f (.answer false w)) s fun t =>
      s.changes t [F.PTG_RACC_CTRL_BUSY.key 0 0, F.PTG_RACC_DATA_DATA.key 0 0] [.ptg] ∧ t.rd F.PTG_RACC_CTRL_BUSY = 0 ∧
      t.rd F.PTG_RACC_DATA_DATA = w.toNat ∧ t.ptg.racc = none ∧
      (t.ptgLink l.val).rx = ((s.ptgLink l.val).rx + 1) % 4096) ∧
  (∀ (l : Fin 2) (f : List Byte) (o : Nat) (s : State), s.rd F.PTG_LINK_STAT_UP l.val = 1 → flitGood f = true →
    flitSeq f = (s.ptgLink l.val).rx → flitDest f = s.pos → flitClass f = 1 → s.rd F.PTG_CFG_REMOTE_EN = 0 →
    execNext (.flitReceive l f (.read o)) s fun t =>
      s.changes t [] [.ptg, .sent] ∧ t.sent = .ptgMsg (flitSrc f) 11 [1, 0] :: s.sent)

/-- R548, R549, R551, R552: a copy starts under its writer's tag with the bytes that it reads, and ends with its fence, its status
and event 500; a mirror head is bound and asks its source for the stream, is refused or is unbound; a complete frame waits for the next frame
start and one that replaces an unshown frame raises event 502. -/
def Obligations.PortageCopies : Prop :=
  (∀ (ini : Initiator) (k : Fin 4) (v : Word) (s : State), s.onBus ini → bit v.toNat 31 = true →
    s.mayWrite ini F.PTG_CPY_CTRL_GO k.val false = true → s.rd F.PTG_CPY_STAT_BUSY k.val = 0 →
    s.present (bits v.toNat 1 0) = true → k.val < s.ptg.copies.length → s.fab.isolated = [] → s.res.poison = [] →
    s.rd F.PTG_CPY_SRC_ADDR k.val + s.rd F.PTG_CPY_LEN_LEN k.val ≤ tarnBase →
    s.rd F.PTG_CPY_SRC_ADDR k.val + s.rd F.PTG_CPY_LEN_LEN k.val ≤ s.dramBytes →
    (∀ p, shorAllows (s.shorEntry p) (s.tag ini) false = true) →
    execNext (.copyStart ini k v) s fun t =>
      s.changes t [F.PTG_CPY_CTRL_LAST.key k.val 0, F.PTG_CPY_CTRL_KIND.key k.val 0, F.PTG_CPY_CTRL_DEST_POS.key k.val 0,
        F.PTG_CPY_STAT_BUSY.key k.val 0] [.resp, .ptg, .sent] ∧ t.done ∧
      t.rd F.PTG_CPY_STAT_BUSY k.val = 1 ∧ t.rd F.PTG_CPY_CTRL_KIND k.val = bits v.toNat 8 8 ∧
      t.rd F.PTG_CPY_CTRL_LAST k.val = bits v.toNat 9 9 ∧ t.rd F.PTG_CPY_CTRL_DEST_POS k.val = bits v.toNat 1 0 ∧
      t.ptg.copies.getD k.val none = some {
        tag := s.tag ini, src := s.rd F.PTG_CPY_SRC_ADDR k.val, dst := s.rd F.PTG_CPY_DST_ADDR k.val,
        len := s.rd F.PTG_CPY_LEN_LEN k.val, faddr := 8 * s.rd F.PTG_CPY_FADDR_ADDR k.val,
        fval := s.rd F.PTG_CPY_FVAL_VALUE k.val, kind := bits v.toNat 8 8, last := bits v.toNat 9 9 != 0,
        dest := bits v.toNat 1 0, denied := false } ∧
      t.sent = .ptgMsg (bits v.toNat 1 0) 12 (s.rd F.PTG_CPY_DST_ADDR k.val :: b2n (bits v.toNat 8 8 == 1) ::
        bits v.toNat 9 9 :: (memRead s.dram (s.rd F.PTG_CPY_SRC_ADDR k.val) (s.rd F.PTG_CPY_LEN_LEN k.val)).map (·.toNat)) :: s.sent) ∧
  (∀ (k : Fin 4) (c : PtgCopy) (s : State), s.ptg.copies.getD k.val none = some c → c.denied = false → c.kind = 0 →
    c.tag.gen = s.gen c.tag.cove → s.room 500 →
    execNext (.copyDone k .ok) s fun t =>
      s.changes t [F.PTG_CPY_STAT_BUSY.key k.val 0, F.PTG_CPY_STAT_DONE.key k.val 0, F.PTG_CPY_STAT_STATUS.key k.val 0,
        lostKey] [.ptg, .sent, .inl] ∧
      t.rd F.PTG_CPY_STAT_BUSY k.val = 0 ∧ t.rd F.PTG_CPY_STAT_DONE k.val = 1 ∧ t.rd F.PTG_CPY_STAT_STATUS k.val = 0 ∧
      t.ptg = { s.ptg with copies := s.ptg.copies.set k.val none } ∧
      t.sent = .ptgMsg c.dest 13 [c.faddr, c.fval] :: s.sent ∧
      s.raises t [s.ev 500 k.val c.tag.cove c.tag.secure]) ∧
  (∀ (ini : Initiator) (m : Fin 8) (v : Word) (sf : Bool) (s : State), s.onBus ini → s.isSec ini = true → bit v.toNat 31 = true →
    s.hasLayers (bits v.toNat 2 0) = false → s.legalHead ≠ some (bits v.toNat 2 0) →
    ((s.head (bits v.toNat 2 0)).safety = true → sf = true) → s.present (bits v.toNat 17 16) = true →
    execNext (.mirrorBind ini m v true sf) s fun t =>
      s.changes t [F.PTG_MIR_CFG_EN.key m.val 0, F.PTG_MIR_CFG_SRC_POS.key m.val 0, F.PTG_MIR_CFG_SRC_HEAD.key m.val 0,
        F.PTG_MIR_CFG_HEAD.key m.val 0] [.resp, .ptg, .sent] ∧ t.done ∧
      t.rd F.PTG_MIR_CFG_EN m.val = 1 ∧ t.rd F.PTG_MIR_CFG_SRC_POS m.val = bits v.toNat 17 16 ∧
      t.rd F.PTG_MIR_CFG_SRC_HEAD m.val = bits v.toNat 10 8 ∧ t.rd F.PTG_MIR_CFG_HEAD m.val = bits v.toNat 2 0 ∧
      t.ptg = { s.ptg with mirrors := s.ptg.mirrors.set m.val (some {
        srcPos := bits v.toNat 17 16, srcHead := bits v.toNat 10 8, head := bits v.toNat 2 0, frame := none, ready := [],
        tiles := [] }) } ∧
      t.sent = .ptgMsg (bits v.toNat 17 16) 8 [m.val, bits v.toNat 10 8, 1] :: (match s.ptg.mirrors.getD m.val none with
        | some o => if o.srcPos = bits v.toNat 17 16 then s.sent else .ptgMsg o.srcPos 8 [m.val, o.srcHead, 0] :: s.sent
        | none => s.sent)) ∧
  (∀ (ini : Initiator) (m : Fin 8) (v : Word) (al sf : Bool) (s : State), s.onBus ini → s.isSec ini = true → bit v.toNat 31 = true →
    (s.hasLayers (bits v.toNat 2 0) = true ∨ al = false) →
    execNext (.mirrorBind ini m v al sf) s fun t =>
      s.changes t [F.PTG_MIR_STAT_REFUSED.key m.val 0] [.resp] ∧ t.done ∧ t.rd F.PTG_MIR_STAT_REFUSED m.val = 1) ∧
  (∀ (ini : Initiator) (m : Fin 8) (v : Word) (al sf : Bool) (s : State), s.onBus ini → s.isSec ini = true → bit v.toNat 31 = false →
    execNext (.mirrorBind ini m v al sf) s fun t =>
      s.changes t [F.PTG_MIR_CFG_EN.key m.val 0, F.PTG_MIR_CFG_SRC_POS.key m.val 0, F.PTG_MIR_CFG_SRC_HEAD.key m.val 0,
        F.PTG_MIR_CFG_HEAD.key m.val 0] [.resp, .ptg, .sent] ∧ t.done ∧
      t.rd F.PTG_MIR_CFG_EN m.val = 0 ∧ t.ptg = { s.ptg with mirrors := s.ptg.mirrors.set m.val none } ∧
      t.sent = (match s.ptg.mirrors.getD m.val none with
        | some o => .ptgMsg o.srcPos 8 [m.val, o.srcHead, 0] :: s.sent
        | none => s.sent)) ∧
  (∀ (m : Fin 8) (f : Word) (b : PtgMirror) (s : State), s.ptg.mirrors.getD m.val none = some b → b.frame = none →
    execNext (.swapEnd m f) s fun t =>
      s.changes t [] [.ptg] ∧ t.ptg = { s.ptg with mirrors := s.ptg.mirrors.set m.val (some { b with
        frame := some f.toNat, ready := mergeTiles b.ready b.tiles, tiles := [] }) }) ∧
  (∀ (m : Fin 8) (f : Word) (b : PtgMirror) (n : Nat) (s : State), s.ptg.mirrors.getD m.val none = some b →
    b.frame = some n → s.room 502 →
    execNext (.swapEnd m f) s fun t =>
      s.changes t [lostKey] [.ptg, .inl] ∧ t.ptg = { s.ptg with mirrors := s.ptg.mirrors.set m.val (some { b with
        frame := some f.toNat, ready := mergeTiles b.ready b.tiles, tiles := [] }) } ∧
      s.raises t [s.ev 502 b.head 0 false])

/-! ### Chip control (chapters 01 to 04) -/

/-- R24, R25, R48, R77, R95, R99 to R105: the margin governor raises, lowers and holds VCORE with events 1 and 2; a VCORE fault raises
event 3 and sends the target again; a vote that changes one domain starts its switch, which completes at its end; the power cap
throttles and is unmet; THERM_n follows the warning temperature with event 10. -/
def Obligations.PowerControl : Prop :=
  (∀ (f : Watched) (fill : Nat) (s : State), s.powered = true → (∀ h, f ≠ .head h) → f ≠ .pcieTx → fill < s.threshold f →
    s.gov.below.contains f = false → s.room 1 →
    execNext (.govMargin f fill true) s fun t =>
      s.changes t [lostKey] [.gov, .inl] ∧ t.gov = { s.gov with
        below := s.gov.below ++ [f], raising := true, under := f :: s.gov.under.filter (· != f), clearAt := s.elapsed } ∧
      s.raises t [s.ev 1 0 0 false]) ∧
  (∀ (f : Watched) (fill : Nat) (s : State), s.powered = true → (∀ h, f ≠ .head h) → f ≠ .pcieTx → s.threshold f ≤ fill →
    execNext (.govMargin f fill true) s fun t =>
      s.changes t [] [.gov] ∧ t.gov = { s.gov with
        below := s.gov.below.filter (· != f), raising := s.gov.slowMonitor || s.gov.below.any (· != f),
        under := if fill < s.releaseOf f then f :: s.gov.under.filter (· != f) else s.gov.under.filter (· != f),
        clearAt := if fill < s.releaseOf f ∨ s.gov.under.contains f = true then s.elapsed else s.gov.clearAt }) ∧
  (∀ (fill : Nat) (s : State), s.powered = true → fill < 1024 → s.gov.below.contains .pcieTx = false → s.room 1 →
    execNext (.govMargin .pcieTx fill true) s fun t =>
      s.changes t [lostKey] [.gov, .host, .inl] ∧ t.gov = { s.gov with
        below := s.gov.below ++ [.pcieTx], raising := true, under := .pcieTx :: s.gov.under.filter (· != .pcieTx),
        clearAt := s.elapsed } ∧
      t.host = { s.host with txFill := fill } ∧ s.raises t [s.ev 1 0 0 false]) ∧
  (∀ (h : Fin 8) (fill : Nat) (s : State), s.powered = true → fill < s.fifoLow h.val →
    s.gov.below.contains (.head h) = false → s.room 1 →
    execNext (.govMargin (.head h) fill true) s fun t =>
      s.changes t [F.OUT_HEAD_FIFO_FILL.key h.val 0, F.OUT_HEAD_FIFO_MIN.key h.val 0, lostKey] [.gov, .inl] ∧
      t.rd F.OUT_HEAD_FIFO_FILL h.val = fill % 128 ∧
      t.rd F.OUT_HEAD_FIFO_MIN h.val = min fill (s.rd F.OUT_HEAD_FIFO_MIN h.val) ∧
      t.gov.raising = true ∧ t.gov.below = s.gov.below ++ [.head h] ∧ s.raises t [s.ev 1 0 0 false]) ∧
  (∀ (s : State), s.powered = true → s.gov.raising = true → s.frameDue 1000 = true → s.gov.code < 69 →
    execNext (.govRaiseStep true) s fun t =>
      s.changes t [] [.gov, .sent] ∧ t.gov = { s.gov with code := s.gov.code + 2, lastFrame := some s.elapsed } ∧
      t.sent = .vcoreFrame (0xA100 + (s.gov.code + 2)) :: s.sent) ∧
  (∀ (s : State), s.powered = true → s.gov.raising = true → s.frameDue 1000 = true → 70 ≤ s.gov.code → s.gov.ceiling = false →
    s.room 2 →
    execNext (.govRaiseStep true) s fun t =>
      s.changes t [lostKey] [.gov, .inl] ∧ t.gov = { s.gov with ceiling := true } ∧ s.raises t [s.ev 2 0 0 false]) ∧
  (∀ (fast : Bool) (s : State), s.powered = true → s.govClear = true → s.gov.raising = false → s.gov.below = [] →
    s.frameDue 840 = true → (if fast then 12 else 26) ≤ s.gov.code →
    execNext (.govLowerStep fast) s fun t =>
      s.changes t [] [.gov, .sent] ∧
      t.gov = { s.gov with code := s.gov.code - 2, lastFrame := some s.elapsed, ceiling := false } ∧
      t.sent = .vcoreFrame (0xA100 + (s.gov.code - 2)) :: s.sent) ∧
  (∀ (r : Fin 7) (s : State), s.powered = true → s.gov.code < 24 →
    execNext (.speedMonitorSlow r) s fun t =>
      s.changes t [] [.gov] ∧ t.gov = { s.gov with slowMonitor := true, raising := true }) ∧
  (∀ (us : Nat) (s : State), s.powered = true → 2 ≤ us → s.room 3 →
    execNext (.vcoreFault us) s fun t =>
      s.changes t [lostKey] [.gov, .sent, .pins, .inl] ∧ t.sent = .vcoreFrame (0xA100 + s.gov.code) :: s.sent ∧
      t.pins = { s.pins with vcoreOk := false } ∧ s.raises t [s.ev 3 0 0 false]) ∧
  (∀ (us : Nat) (s : State), us < 2 → execNext (.vcoreFault us) s fun t => t = s.modPins fun p => { p with vcoreOk := false }) ∧
  (∀ (ini : Initiator) (reg : PdReg) (v : BitVec 14) (s : State), s.onBus ini → s.isSec ini = true →
    s.chip.phase = .drain ∨ s.chip.phase = .test →
    execNext (.pdVoteWrite ini reg v) s fun t => t = (s.answer 0).wr (match reg with
      | .voteSec => F.CHIP_PD_VOTE_SEC_VAL | .voteNs => F.CHIP_PD_VOTE_NS_VAL | .forceOff => F.CHIP_PD_FORCE_OFF_VAL) v.toNat) ∧
  (∀ (ini : Initiator) (v : BitVec 14) (d : Fin 14) (s : State), s.onBus ini → s.isSec ini = true → s.chip.phase = .run →
    bit s.chip.pdTarget d.val = false → (s.wr F.CHIP_PD_VOTE_SEC_VAL v.toNat).pdWant d.val = true →
    (∀ e, e < 14 → e ≠ d.val → bit s.chip.pdTarget e = (s.wr F.CHIP_PD_VOTE_SEC_VAL v.toNat).pdWant e) →
    execNext (.pdVoteWrite ini .voteSec v) s fun t =>
      s.changes t [F.CHIP_PD_VOTE_SEC_VAL.key 0 0, F.CHIP_PD_STAT_VAL.key 0 0] [.resp, .chip] ∧ t.done ∧
      t.rd F.CHIP_PD_VOTE_SEC_VAL = v.toNat ∧
      t.rd F.CHIP_PD_STAT_VAL = setBits (s.rd F.CHIP_PD_STAT_VAL) (2 * d.val + 1) (2 * d.val) 3 % 2 ^ 28 ∧
      t.chip = { s.chip with pdTarget := s.chip.pdTarget + 2 ^ d.val }) ∧
  (∀ (d : Fin 14) (s : State), s.powered = true → s.pdStat d.val = 3 → bit s.chip.pdTarget d.val = true →
    d.val = 0 ∨ d.val = 1 ∨ d.val = 6 ∨ d.val = 7 ∨ d.val = 8 ∨ d.val = 9 ∨ d.val = 12 ∨ d.val = 13 →
    execNext (.pdSwitchDone d) s fun t =>
      t = s.wr F.CHIP_PD_STAT_VAL (setBits (s.rd F.CHIP_PD_STAT_VAL) (2 * d.val + 1) (2 * d.val)
        (if bit s.chip.secHeld d.val then 2 else 1))) ∧
  (∀ (d : Fin 14) (s : State), s.powered = true → s.pdStat d.val = 3 → bit s.chip.pdTarget d.val = true →
    d.val = 2 ∨ d.val = 3 ∨ d.val = 4 ∨ d.val = 5 →
    execNext (.pdSwitchDone d) s fun t =>
      s.changes t (F.CHIP_PD_STAT_VAL.key 0 0 :: (lochDomain d.val).map fun p => F.LOCH_CLUSTER_STAT_ROLE.key p 0) [] ∧
      t.rd F.CHIP_PD_STAT_VAL = setBits (s.rd F.CHIP_PD_STAT_VAL) (2 * d.val + 1) (2 * d.val)
        (if bit s.chip.secHeld d.val then 2 else 1) % 2 ^ 28 ∧
      (∀ p, p ∈ lochDomain d.val → s.rd F.LOCH_CLUSTER_STAT_ROLE p ≠ 2 →
        t.rd F.LOCH_CLUSTER_STAT_ROLE p = if p = 16 ∧ s.rd F.LOCH_SPARE_IN_USE = 0 then 1 else 0)) ∧
  (∀ (d : Fin 14) (s : State), s.powered = true → s.pdStat d.val = 3 → bit s.chip.pdTarget d.val = false → s.pdBusy d.val = true →
    execNext (.pdSwitchDone d) s fun t => t = s) ∧
  (∀ (fixed loch rank cores : Nat) (s : State), s.powered = true → fixed + loch + cores ≤ 1000 * s.pcapEffective →
    loch ≤ lochLimit s.pcapEffective fixed → cores ≤ coresLimit s.pcapEffective fixed →
    execNext (.pcapWindow fixed loch rank cores) s fun t =>
      s.changes t [F.CHIP_PCAP_THROTTLING.key 0 0, F.CHIP_PCAP_UNMET.key 0 0] [.loch] ∧
      t.loch = { s.loch with fixedMw := fixed, estMw := loch, rankMw := min rank loch } ∧ t.rd F.CHIP_PCAP_THROTTLING = 0 ∧
      t.rd F.CHIP_PCAP_UNMET = 0) ∧
  (∀ (fixed loch rank cores : Nat) (s : State), s.powered = true → 1000 * s.pcapEffective < fixed + loch + cores → loch ≤ 2000 →
    cores ≤ 2000 → s.rd F.CHIP_PCAP_THROTTLING = 0 → s.rd F.CHIP_PCAP_UNMET = 0 → s.room 8 → s.room 9 →
    execNext (.pcapWindow fixed loch rank cores) s fun t =>
      s.changes t [F.CHIP_PCAP_THROTTLING.key 0 0, F.CHIP_PCAP_UNMET.key 0 0, lostKey] [.loch, .inl] ∧
      t.loch = { s.loch with fixedMw := fixed, estMw := loch, rankMw := min rank loch } ∧
      t.rd F.CHIP_PCAP_THROTTLING = 1 ∧ t.rd F.CHIP_PCAP_UNMET = 1 ∧
      s.raises t [s.ev 8 0 0 false, s.ev 9 0 0 false]) ∧
  (∀ (tj : Int) (s : State), s.powered = true → 125 ≤ tj → s.pins.thermLow = false → s.room 10 →
    execNext (.thermWarn tj) s fun t =>
      s.changes t [lostKey] [.pins, .chip, .inl] ∧ t.pins = { s.pins with thermLow := true } ∧
      t.chip = { s.chip with tjMax := some (match s.chip.tjMax with | some x => max x tj | none => tj) } ∧ s.raises t [s.ev 10 0 0 false]) ∧
  (∀ (tj : Int) (s : State), tj < 120 →
    execNext (.thermRelease tj) s fun t =>
      s.changes t [] [.pins, .chip] ∧ t.pins = { s.pins with thermLow := false } ∧
      t.chip = if s.powered then { s.chip with tjMax := some (match s.chip.tjMax with | some x => max x tj | none => tj) }
        else s.chip)

/-- R52 to R55, R70, R71, R77 to R80, R96: what enters RESET, SEEP and OFF and with which cause, what each keeps (Table 03-5), and
what leaves RESET for BOOT. -/
def Obligations.Resets : Prop :=
  (∀ (mV : Nat) (s : State), 2400 < mV → s.chip.phase = .off →
    execNext (.vbatRise mV) s fun t => s.seepClear.atReset t 0 false) ∧
  (∀ (mV : Nat) (s : State), mV < 2000 → s.chip.phase = .seep →
    execNext (.vbatFall mV) s fun t =>
      t.chip = { s.chip with phase := .off, wakeCause := 0, seepFrac := 0 } ∧ t.rd F.CHIP_SEEP_KEEP_KEEP = 0 ∧
      t.rd F.CHIP_SEEP_CNT_COUNT = 0 ∧ t.rd F.CHIP_RESET_CAUSE_BOOT_COUNT = 0 ∧
      (∀ f i j, f.key i j ∉ seepFlds.flatMap Fld.keys → t.rd f i j = s.rd f i j)) ∧
  (∀ (w : Fin 2) (falling : Bool) (us : Nat) (s : State), s.chip.phase = .seep → 100 ≤ us →
    (if w.val = 0 then s.rd F.CHIP_SEEP_WAKE_W0_EN else s.rd F.CHIP_SEEP_WAKE_W1_EN) = 1 →
    (if w.val = 0 then s.rd F.CHIP_SEEP_WAKE_W0_FALL else s.rd F.CHIP_SEEP_WAKE_W1_FALL) = b2n falling → s.chip.wakeCause < 16 →
    execNext (.wakeEdge w falling us) s fun t => s.atReset t s.chip.wakeCause false) ∧
  (∀ (s : State), s.chip.phase = .seep → s.rd F.CHIP_SEEP_WAKE_ALARM_EN = 1 →
    s.rd F.CHIP_SEEP_CNT_COUNT = s.rd F.CHIP_SEEP_ALARM_ALARM → s.chip.wakeCause < 16 →
    execNext .seepAlarm s fun t => s.atReset t s.chip.wakeCause false) ∧
  (∀ (s : State), s.powered = true → s.pins.porst = true →
    execNext .porstFall s fun t => s.atReset t 8 false ∧ t.pins.porst = false) ∧
  (∀ (s : State), s.chip.phase = .reset → s.pins.porst = true →
    execNext .porstFall s fun t =>
      s.changes t [F.CHIP_RESET_CAUSE_DRAM_KEPT.key 0 0] [.pins, .dram, .res, .chip] ∧ t.dram = [] ∧
      t.rd F.CHIP_RESET_CAUSE_DRAM_KEPT = 0 ∧ t.pins = { s.pins with porst := false } ∧
      t.chip = { s.chip with resetKind := .powerOn, internalReset := none }) ∧
  (∀ (turn : BitVec 11) (s : State), s.chip.phase = .reset → s.pins.porst = false → s.pins.vcoreOk = true →
    bits turn.toNat 2 0 ≠ 7 → popCount 8 (bits turn.toNat 10 3) ≤ 4 →
    execNext (.porstRise turn) s fun t =>
      t.chip.phase = .boot ∧ t.rd F.CHIP_STRAP_MODE = bits turn.toNat 2 0 ∧ t.rd F.CHIP_STRAP_RAW_MASK = bits turn.toNat 10 3 ∧
      t.rd F.CHIP_STRAP_SAFE_MASK = fourLowest (bits turn.toNat 10 3) % 256 ∧ t.rd F.CHIP_STRAP_CLIPPED = 0 ∧
      t.rd F.CHIP_STRAP_POSITION = modePosition (bits turn.toNat 2 0) ∧ t.dram = s.dram ∧ t.mram = s.mram) ∧
  (∀ (us : Nat) (s : State), s.powered = true → 1 ≤ us →
    execNext (.warmReset us) s fun t => s.atReset t 5 (s.chip.selfRefresh || (List.range 4).all s.chanReady) ∧ t.pins.wrst = false) ∧
  (∀ (s : State), s.chip.phase = .reset → s.pins.wrst = false → s.chip.resetKind ≠ .powerOn → s.pins.porst = true →
    s.pins.vcoreOk = true → s.rd F.CHIP_STRAP_MODE ≠ 7 →
    execNext .wrstRise s fun t => s.atBoot t) ∧
  (∀ (ini : Initiator) (s : State), s.onBus ini → s.powered = true → s.isSec ini = true →
    execNext (.chipReset ini) s fun t =>
      s.atReset t 6 (s.chip.selfRefresh || (List.range 4).all s.chanReady) ∧ t.chip.internalReset = some 1000000 ∧ t.elapsed = 0) ∧
  (∀ (x : Nat) (s : State), s.chip.internalReset = some x → x ≤ s.elapsed → s.chip.phase = .reset → s.pins.porst = true →
    s.pins.vcoreOk = true → s.rd F.CHIP_STRAP_MODE ≠ 7 →
    execNext .internalResetEnd s fun t => s.atBoot t) ∧
  (∀ (us : Nat) (s : State), s.powered = true → 50 ≤ us →
    execNext (.brownOut us) s fun t => s.atReset t 7 false ∧ t.pins.vcoreOk = false) ∧
  (∀ (us : Nat) (s : State), us < 50 → execNext (.brownOut us) s fun t => t = s.modPins fun p => { p with vcoreOk := false }) ∧
  (∀ (s : State), s.chip.phase = .reset → s.chip.resetKind = .brownOut → s.pins.vcoreOk = false →
    execNext .vcoreOkRise s fun t =>
      s.changes t [] [.pins, .chip] ∧ t.pins = { s.pins with vcoreOk := true } ∧
      t.chip = { s.chip with internalReset := some (s.elapsed + 1000000) })

/-- R70, R73, R81 to R92, R95, R304, R544: the steps of the boot sequence, a DRAM configuration that it does not support, and the
images that it accepts and rejects; the image-load window, which discards bytes beyond IMGLD_SIZE; ENTER_DIP and END_DIP; flash
commands only in DIP; shutdowns, the steps of DRAIN and the end of TEST; a power-fail warning and the thermal limit. -/
def Obligations.ChipPhases : Prop :=
  (∀ (r : BootReport) (s : State), s.chip.phase = .boot → r.dram = false → s.rd F.CHIP_BOOT_STAT_FAIL = 0 →
    s.rd F.CHIP_BOOT_STAT_STEP = 0 →
    execNext (.bootStepDone r) s fun t =>
      s.changes t [F.CHIP_BOOT_STAT_STEP.key 0 0] [.gov, .sent] ∧ t.rd F.CHIP_BOOT_STAT_STEP = 1 ∧
      t.sent = .vcoreFrame 0xA132 :: s.sent ∧ t.gov = { s.gov with code := 50, lastFrame := some s.elapsed }) ∧
  (∀ (r : BootReport) (s s1 : State) (l : List Byte) (miss : Bool), s.chip.phase = .boot → r.dram = false → s.rd F.CHIP_BOOT_STAT_FAIL = 0 →
    s.rd F.CHIP_BOOT_STAT_STEP = 3 → s.flashBoot = true → s.headChecks r.slot false = none → s.bootImage r.slot = (s1, l, miss) →
    s1.bodyChecks l step4Types noImage = none →
    execNext (.bootStepDone r) s fun t => t.rd F.CHIP_BOOT_STAT_STEP = 4) ∧
  (∀ (r : BootReport) (n : Nat) (ts : List Nat) (s : State), s.chip.phase = .boot → r.dram = false →
    s.rd F.CHIP_BOOT_STAT_FAIL = 0 → (n, ts) ∈ [(5, [0x20]), (6, [0x30]), (11, [0x30, 0x31, 0x32, 0x33, 0x34, 0x35]), (12, [0x40])] →
    s.rd F.CHIP_BOOT_STAT_STEP = n - 1 → s.lateBad n ts = none →
    execNext (.bootStepDone r) s fun t => t.rd F.CHIP_BOOT_STAT_STEP = n) ∧
  (∀ (r : BootReport) (n : Nat) (s : State), s.chip.phase = .boot → r.dram = false → s.rd F.CHIP_BOOT_STAT_FAIL = 0 →
    n = 7 ∨ n = 8 → s.rd F.CHIP_BOOT_STAT_STEP = n - 1 → s.safetyAt (n - 5) = true →
    execNext (.bootStepDone r) s fun t => t = s.wr F.CHIP_BOOT_STAT_STEP n) ∧
  (∀ (r : BootReport) (s : State), s.chip.phase = .boot → r.dram = false → s.rd F.CHIP_BOOT_STAT_FAIL = 0 →
    s.rd F.CHIP_BOOT_STAT_STEP = 8 → s.safetyLit = true →
    execNext (.bootStepDone r) s fun t => t = s.wr F.CHIP_BOOT_STAT_STEP (if s.chip.step10 then 10 else 9)) ∧
  (∀ (r : BootReport) (s : State), s.chip.phase = .boot → r.dram = true → s.dramMay = true → r.supported = false →
    execNext (.bootStepDone r) s fun t => ∀ n, n < 4 → t.rd F.RES_CH_STAT_STATE n = 3) ∧
  (∀ (r : BootReport) (s : State), s.chip.phase = .boot → r.dram = true → s.dramMay = true → r.supported = true →
    execNext (.bootStepDone r) s fun t =>
      t.rd F.RES_CAP_SIZE_MIB = 7168 * 2 ^ (b2n r.ranks2 + b2n r.dense) ∧ t.chip.step10 = true) ∧
  (∀ (r : BootReport) (s : State), s.chip.phase = .boot → r.dram = false → s.rd F.CHIP_BOOT_STAT_FAIL = 0 →
    s.rd F.CHIP_BOOT_STAT_STEP = 13 →
    execNext (.bootStepDone r) s fun t =>
      t.chip.phase = .run ∧ t.chip.ran = true ∧ t.rd F.CHIP_IMG_CACHE_WRITING = b2n s.chip.cacheMissed) ∧
  (∀ (o : Fin 32768) (data : List Byte) (s : State), s.windowOpen = true → s.loadReady = true → data ≠ [] →
    o.val + data.length ≤ 32768 → o.val % 1024 + data.length ≤ 1024 →
    32768 * s.chip.imgldBank + o.val + data.length ≤ s.chip.imgldSize →
    execNext (.imgldDataWrite o data) s fun t =>
      s.changes t [] [.chip, .tarn, .tst] ∧ t.tarn = memWrite s.tarn (stageAt (32768 * s.chip.imgldBank + o.val)) data ∧
      t.chip = { s.chip with staged := true }) ∧
  (∀ (o : Fin 32768) (data : List Byte) (s : State), s.windowOpen = true → s.loadReady = true →
    s.chip.imgldSize ≤ 32768 * s.chip.imgldBank + o.val →
    execNext (.imgldDataWrite o data) s fun t => t = s) ∧
  (∀ (s : State), s.windowOpen = true → s.loadReady = true →
    execNext .imgldComplete s fun t => s.changes t [] [.chip] ∧ t.chip = { s.chip with stagedBusy := true }) ∧
  (∀ (s : State), s.windowOpen = true → s.chip.stagedBusy = false →
    execNext .imgldAbort s fun t => s.changes t [] [.chip] ∧ t.chip = { s.chip with staged := false }) ∧
  (∀ (code k : Nat) (s : State), s.chip.stagedBusy = true → s.chip.phase = .boot → s.stagedBad = some (code, k) → code < 32 →
    k < 256 →
    execNext .imgldCheckDone s fun t =>
      t.chip = { s.chip with stagedBusy := false, staged := false, imgldStat := 2 ^ 28 + code * 65536 } ∧
      (∀ w, w < 2 → t.rd F.CHIP_IMG_STAT_ERROR w = code ∧ t.rd F.CHIP_IMG_STAT_ERR_SECTION w = k ∧
        t.rd F.CHIP_IMG_STAT_FAIL w = 1 ∧ t.rd F.CHIP_IMG_STAT_DONE w = 0 ∧ t.rd F.CHIP_IMG_STAT_SOURCE w = 0)) ∧
  (∀ (s : State), s.chip.stagedBusy = true → s.chip.phase = .boot → s.stagedBad = none →
    execNext .imgldCheckDone s fun t => t.rd F.CHIP_BOOT_STAT_STEP = 4) ∧
  (∀ (ini : Initiator) (limit : BitVec 10) (s : State), s.onBus ini → s.chip.phase = .run → s.isSec ini = true → s.cascade = false →
    s.rd F.RIP_SPILL_STAT_SAFE = 0 → s.room 0 →
    execNext (.enterDip ini limit) s fun t =>
      s.changes t [lostKey] [.resp, .chip, .sent, .pins, .inl] ∧ t.done ∧
      t.chip = { s.chip with
        phase := .dip, dipEnd := s.elapsed + max 1 (min 1000 limit.toNat) * 1000000, dipEnding := false } ∧
      t.sent = .flashReset :: s.sent ∧ t.pins.turnFlash = true ∧ t.pins.safeOk = true ∧
      s.raises t [s.ev 0 5 0 false]) ∧
  (∀ (ini : Initiator) (limit : BitVec 10) (s : State), s.onBus ini → s.chip.phase = .run → s.isSec ini = true →
    s.dipToken = false ∨ s.rd F.RIP_SPILL_STAT_SAFE = 1 → s.room 13 →
    execNext (.enterDip ini limit) s fun t => s.changes t [lostKey] [.resp, .inl] ∧ t.done ∧ s.raises t [s.ev 13 0 0 false]) ∧
  (∀ (ini : Initiator) (s : State), s.onBus ini → s.chip.phase = .dip → s.isSec ini = true → s.chip.dipEnding = false → s.cascade = false →
    execNext (.endDip ini) s fun t => s.changes t [] [.resp, .chip] ∧ t.done ∧ t.chip = { s.chip with dipEnding := true }) ∧
  (∀ (s : State), s.chip.phase = .dip → s.chip.dipEnding = false → s.chip.dipEnd ≤ s.elapsed → s.cascade = false → s.room 14 →
    execNext .dipLimit s fun t =>
      s.changes t [lostKey] [.chip, .inl] ∧ t.chip = { s.chip with dipEnding := true } ∧ s.raises t [s.ev 14 0 0 false]) ∧
  (∀ (s : State), s.chip.phase = .dip → s.chip.dipEnding = true → s.chip.flashOp = none → s.room 0 →
    execNext .dipEndComplete s fun t =>
      s.changes t [lostKey] [.chip, .pins, .inl] ∧ t.chip = { s.chip with phase := .run, ran := true, dipEnding := false } ∧
      t.pins.turnFlash = false ∧ t.inl = { s.inl with awaiting := s.inl.awaiting ++
        [{ src := 0, cove := 0, gen := s.gen 0, secure := false, info := 4, boot := false }] }) ∧
  (∀ (ini : Initiator) (v : Word) (s : State), s.onBus ini → s.isSec ini = true → s.chip.flashOp = none → bit v.toNat 31 = true → s.chip.phase = .dip →
    s.chip.dipEnding = false →
    execNext (.flashCommand ini v) s fun t =>
      s.changes t [F.CHIP_FL_CTRL_LEN.key 0 0, F.CHIP_FL_CTRL_DIR.key 0 0, F.CHIP_FL_CTRL_DUMMY.key 0 0,
        F.CHIP_FL_CTRL_ADDR_EN.key 0 0, F.CHIP_FL_CTRL_OPCODE.key 0 0, F.CHIP_FL_STAT_BUSY.key 0 0] [.resp, .chip, .sent] ∧ t.done ∧
      t.rd F.CHIP_FL_STAT_BUSY = 1 ∧ t.rd F.CHIP_FL_CTRL_OPCODE = bits v.toNat 7 0 ∧
      t.chip = { s.chip with flashOp := some (bit v.toNat 14, min 256 (bits v.toNat 24 16)) } ∧
      t.sent = .flash (bits v.toNat 7 0) (if bit v.toNat 8 then s.rd F.CHIP_FL_ADDR_ADDR else 0x100000000) (bits v.toNat 13 9)
        (if bit v.toNat 14 then s.flashBuf.take (min 256 (bits v.toNat 24 16)) else []) :: s.sent) ∧
  (∀ (ini : Initiator) (v : Word) (s : State), s.onBus ini → s.isSec ini = true → s.chip.flashOp = none → bit v.toNat 31 = true → s.chip.phase ≠ .dip → s.room 15 →
    execNext (.flashCommand ini v) s fun t =>
      s.changes t [F.CHIP_FL_CTRL_LEN.key 0 0, F.CHIP_FL_CTRL_DIR.key 0 0, F.CHIP_FL_CTRL_DUMMY.key 0 0,
        F.CHIP_FL_CTRL_ADDR_EN.key 0 0, F.CHIP_FL_CTRL_OPCODE.key 0 0, F.CHIP_FL_STAT_ERR_PHASE.key 0 0, lostKey] [.resp, .inl] ∧ t.done ∧
      t.rd F.CHIP_FL_STAT_ERR_PHASE = 1 ∧ s.raises t [s.ev 15 0 0 false]) ∧
  (∀ (ini : Initiator) (v : Word) (s : State), s.onBus ini → s.isSec ini = true →
    bit v.toNat 31 = false ∨ s.chip.flashOp.isSome = true →
    execNext (.flashCommand ini v) s fun t =>
      s.changes t [F.CHIP_FL_CTRL_LEN.key 0 0, F.CHIP_FL_CTRL_DIR.key 0 0, F.CHIP_FL_CTRL_DUMMY.key 0 0,
        F.CHIP_FL_CTRL_ADDR_EN.key 0 0, F.CHIP_FL_CTRL_OPCODE.key 0 0] [.resp] ∧ t.done ∧
      t.rd F.CHIP_FL_CTRL_OPCODE = bits v.toNat 7 0) ∧
  (∀ (data : List Byte) (len : Nat) (s : State), s.chip.flashOp = some (true, len) → s.chip.pendingShutdown = none →
    execNext (.flashTransferDone data) s fun t =>
      s.changes t [F.CHIP_FL_STAT_BUSY.key 0 0, F.CHIP_FL_STAT_DONE.key 0 0] [.chip] ∧ t.rd F.CHIP_FL_STAT_BUSY = 0 ∧
      t.rd F.CHIP_FL_STAT_DONE = 1 ∧ t.chip = { s.chip with flashOp := none }) ∧
  (∀ (data : List Byte) (len : Nat) (s : State), s.chip.flashOp = some (false, len) → s.chip.pendingShutdown = none →
    execNext (.flashTransferDone data) s fun t =>
      t.rd F.CHIP_FL_STAT_BUSY = 0 ∧ t.rd F.CHIP_FL_STAT_DONE = 1 ∧ t.chip = { s.chip with flashOp := none } ∧
      (∀ k, k < 64 → t.rd F.CHIP_FL_BUF_BUF k =
        leAt (slice data 0 len ++ s.flashBuf.drop (slice data 0 len).length) (4 * k) 4 % 2 ^ 32)) ∧
  (∀ (ini : Initiator) (s : State), s.onBus ini → s.chip.phase = .run → s.isSec ini = true → s.chip.flashOp = none →
    execNext (.shutdownOff ini) s fun t =>
      t.chip = { s.chip with
        phase := .drain, kind := .off, drainStep := 0, drainLogged := false, drainTs := s.tbs.now, flashOp := none, dipEnding := false,
        pendingShutdown := none } ∧ t.done ∧
      t.rd F.CHIP_RESET_CAUSE_TEST_DONE = 0) ∧
  (∀ (ini : Initiator) (s : State), s.onBus ini → s.chip.phase = .run → s.isSec ini = true → s.chip.flashOp = none →
    execNext (.shutdownRestart ini) s fun t =>
      t.chip = { s.chip with
        phase := .drain, kind := .restart, drainStep := 0, drainLogged := false, drainTs := s.tbs.now, flashOp := none, dipEnding := false,
        pendingShutdown := none } ∧ t.done ∧
      t.rd F.CHIP_RESET_CAUSE_TEST_DONE = 0) ∧
  (∀ (ini : Initiator) (op : Bool × Nat) (s : State), s.onBus ini → s.chip.phase = .dip → s.isSec ini = true → s.chip.flashOp = some op →
    execNext (.shutdownOff ini) s fun t =>
      s.changes t [] [.resp, .chip] ∧ t.done ∧ t.chip = { s.chip with pendingShutdown := some .off }) ∧
  (∀ (n : Nat) (s : State), s.chip.phase = .drain → s.chip.kind ≠ .powerFail → n = 1 ∨ (n = 5 ∧ s.headsOff = true) →
    s.chip.drainStep + 1 = n →
    execNext (.drainStepDone false) s fun t => s.changes t [] [.chip] ∧ t.chip = { s.chip with drainStep := n }) ∧
  (∀ (s : State), s.chip.phase = .drain → s.chip.kind ≠ .powerFail → 2 ≤ s.chip.drainStep → s.chip.drainLogged = false →
    execNext (.drainStepDone true) s fun t =>
      t.chip = { s.drainLog.chip with drainLogged := true } ∧ t.sent = s.drainLog.sent ∧ t.mram = s.drainLog.mram) ∧
  (∀ (s : State), s.chip.phase = .drain → s.chip.kind ≠ .powerFail → s.chip.drainStep = 5 → s.chip.drainLogged = true →
    execNext (.drainStepDone false) s fun t =>
      s.changes t [F.RES_CH_STAT_STATE.key 0 0, F.RES_CH_STAT_STATE.key 1 0, F.RES_CH_STAT_STATE.key 2 0,
        F.RES_CH_STAT_STATE.key 3 0] [.chip, .res] ∧ t.chip.drainStep = 7 ∧
      t.chip.selfRefresh = (List.range 4).all s.chanReady) ∧
  (∀ (s : State), s.chip.phase = .drain → s.chip.kind = .powerFail → s.chip.drainStep = 2 →
    execNext (.drainStepDone false) s fun t =>
      s.changes t [F.RES_CH_STAT_STATE.key 0 0, F.RES_CH_STAT_STATE.key 1 0, F.RES_CH_STAT_STATE.key 2 0,
        F.RES_CH_STAT_STATE.key 3 0] [.chip, .res] ∧ t.chip.drainStep = 3 ∧
      t.chip.selfRefresh = (List.range 4).all s.chanReady ∧
      (∀ n, n < 4 → t.rd F.RES_CH_STAT_STATE n = if s.rd F.RES_CH_STAT_STATE n = 1 then 2 else s.rd F.RES_CH_STAT_STATE n)) ∧
  (∀ (s : State), s.chip.phase = .drain → s.chip.kind = .powerFail → s.chip.drainStep = 3 →
    execNext .drainComplete s fun t => s.atSeep t 2) ∧
  (∀ (s : State), s.chip.phase = .drain → s.chip.kind = .thermal → s.chip.drainStep = 7 →
    execNext .drainComplete s fun t => s.atSeep t 3) ∧
  (∀ (s : State), s.chip.phase = .drain → s.chip.kind = .off ∨ s.chip.kind = .restart → s.chip.drainStep = 7 → s.room 0 →
    execNext .drainComplete s fun t =>
      s.changes t [lostKey] [.chip, .pins, .inl] ∧ t.chip = { s.chip with phase := .test } ∧
      s.raises t [s.ev 0 (7 + 32 * kindCode s.chip.kind) 0 false]) ∧
  (∀ (r : MarchReport) (s : State), s.chip.phase = .test → s.chip.kind = .restart →
    execNext (.testComplete r) s fun t =>
      (s.testRecord r true).atReset t 4 ((s.testRecord r true).chip.selfRefresh) ∧
      t.chip.internalReset = some 1000000 ∧ t.elapsed = 0) ∧
  (∀ (r : MarchReport) (s : State), s.chip.phase = .test → s.chip.kind = .off →
    execNext (.testComplete r) s fun t => (s.testRecord r true).atSeep t 1) ∧
  (∀ (mV us : Nat) (m : MarchReport) (s : State), 10 ≤ us → mV < 1000 * s.pfailVolts → s.rd F.CHIP_PFAIL_EN = 1 →
    s.chip.phase = .test →
    execNext (.powerFailWarning mV us m) s fun t => (((s.raise 4).testRecord m false).powerFailSteps s).atSeep t 2) ∧
  (∀ (mV us : Nat) (m : MarchReport) (s : State), us < 10 ∨ 1000 * s.pfailVolts ≤ mV ∨ s.rd F.CHIP_PFAIL_EN = 0 →
    execNext (.powerFailWarning mV us m) s fun t => t = s) ∧
  (∀ (mV us : Nat) (m : MarchReport) (s : State), 10 ≤ us → mV < 1000 * s.pfailVolts → s.rd F.CHIP_PFAIL_EN = 1 →
    s.chip.phase = .run →
    execNext (.powerFailWarning mV us m) s fun t =>
      t.chip.phase = .drain ∧ t.chip.kind = .powerFail ∧ t.chip.drainStep = 2 ∧ t.pins.blEn = 0 ∧ t.pins.panelEn = 0) ∧
  (∀ (tj : Int) (m : MarchReport) (s : State), 130 ≤ tj → s.chip.phase = .run →
    execNext (.thermalLimit tj m) s fun t =>
      t.chip = { s.chip with
        phase := .drain, kind := .thermal, drainStep := 0, drainLogged := false, drainTs := s.tbs.now, flashOp := none, dipEnding := false,
        pendingShutdown := none,
        tjMax := some (match s.chip.tjMax with | some x => max x tj | none => tj) }) ∧
  (∀ (tj : Int) (m : MarchReport) (s : State), 130 ≤ tj → s.chip.phase = .drain → s.chip.kind = .off ∨ s.chip.kind = .restart →
    execNext (.thermalLimit tj m) s fun t => s.changes t [] [.chip] ∧ t.chip = { s.chip with
        kind := .thermal, tjMax := some (match s.chip.tjMax with | some x => max x tj | none => tj) }) ∧
  (∀ (tj : Int) (m : MarchReport) (s : State), 130 ≤ tj → s.chip.phase = .test →
    execNext (.thermalLimit tj m) s fun t => ((s.tjSeen tj).testRecord m false).atSeep t 3)

/-- R50, R108, R114, R115, R120 to R123: key slots are programmed and revoked once, the minimum version only rises, the cache tag is
cleared and rewritten; a delta is read, checked, rejected with its code or held pending, and a section that takes effect whole ends
it; the MRAM aperture is for the secure world, its first 1,216 KiB protected; CHIP_DEBUG changes until it is locked, and a debug
access reaches the secure side only with SEC_DEBUG. -/
def Obligations.ImagesAndKeys : Prop :=
  (∀ (ini : Initiator) (s : State), s.onBus ini → s.isSec ini = true → bit (s.rd F.CHIP_KEY_STAT_PROG) 0 = false →
    execNext (.keyProgramSlot0 ini) s fun t =>
      s.changes t [F.CHIP_KEY_STAT_PROG.key 0 0, F.CHIP_KEY_STAT_UNKEYED.key 0 0] [.resp, .chip] ∧ t.done ∧
      t.rd F.CHIP_KEY_STAT_PROG = s.rd F.CHIP_KEY_STAT_PROG + 1 ∧ t.rd F.CHIP_KEY_STAT_UNKEYED = 0 ∧
      t.chip = {
        s.chip with keyDigest := s.chip.keyDigest.set 0 ((List.range 12).flatMap fun i => leBytes 4 (s.rd F.CHIP_KEY_DIGEST_DIGEST i)) }) ∧
  (∀ (ini : Initiator) (s : State), s.onBus ini → s.isSec ini = true → bit (s.rd F.CHIP_KEY_STAT_PROG) 1 = false →
    execNext (.keyProgramSlot1 ini) s fun t =>
      s.changes t [F.CHIP_KEY_STAT_PROG.key 0 0, F.CHIP_KEY_STAT_UNKEYED.key 0 0] [.resp, .chip] ∧ t.done ∧
      t.rd F.CHIP_KEY_STAT_PROG = s.rd F.CHIP_KEY_STAT_PROG + 2 ∧ t.rd F.CHIP_KEY_STAT_UNKEYED = 0 ∧
      t.chip = {
        s.chip with keyDigest := s.chip.keyDigest.set 1 ((List.range 12).flatMap fun i => leBytes 4 (s.rd F.CHIP_KEY_DIGEST_DIGEST i)) }) ∧
  (∀ (ini : Initiator) (s : State), s.onBus ini → s.isSec ini = true → bit (s.rd F.CHIP_KEY_STAT_PROG) 1 = true →
    s.rd F.CHIP_KEY_STAT_REVOKED = 0 →
    execNext (.keyRevokeSlot0 ini) s fun t => t = (s.answer 0).wr F.CHIP_KEY_STAT_REVOKED 1) ∧
  (∀ (ini : Initiator) (s : State), s.onBus ini → s.isSec ini = true → bit (s.rd F.CHIP_KEY_STAT_PROG) 0 = true →
    s.rd F.CHIP_KEY_STAT_REVOKED = 0 →
    execNext (.keyRevokeSlot1 ini) s fun t => t = (s.answer 0).wr F.CHIP_KEY_STAT_REVOKED 2) ∧
  (∀ (ini : Initiator) (s : State), s.onBus ini → s.isSec ini = true →
    (bit (s.rd F.CHIP_KEY_STAT_PROG) 1 = false ∨ bit (s.rd F.CHIP_KEY_STAT_REVOKED) 1 = true) →
    execNext (.keyRevokeSlot0 ini) s fun t => t = s.answer 0) ∧
  (∀ (ini : Initiator) (v : Word) (s : State), s.onBus ini → s.isSec ini = true → s.rd F.CHIP_IMG_MINVER_MINVER ≤ v.toNat →
    execNext (.minverWrite ini v) s fun t =>
      s.changes t [F.CHIP_IMG_MINVER_MINVER.key 0 0] [.resp] ∧ t.done ∧ t.rd F.CHIP_IMG_MINVER_MINVER = v.toNat) ∧
  (∀ (ini : Initiator) (v : Word) (s : State), s.onBus ini → s.isSec ini = true → v.toNat < s.rd F.CHIP_IMG_MINVER_MINVER →
    execNext (.minverWrite ini v) s fun t => t = s.answer 0) ∧
  (∀ (ini : Initiator) (s : State), s.onBus ini → s.isSec ini = true →
    execNext (.imageCacheInvalidate ini) s fun t =>
      s.changes t [F.CHIP_IMG_CACHE_VALID.key 0 0] [.resp, .mram] ∧ t.done ∧ t.rd F.CHIP_IMG_CACHE_VALID = 0 ∧
      memRead t.mram cacheTag 48 = List.replicate 48 0 ∧
      (∀ a, a < cacheTag ∨ cacheTag + 48 ≤ a → memRead t.mram a 1 = memRead s.mram a 1)) ∧
  (∀ (s : State), s.chip.phase = .run → s.chip.cacheMissed = true →
    execNext .imageCacheRewrite s fun t =>
      s.changes t [F.CHIP_IMG_CACHE_VALID.key 0 0, F.CHIP_IMG_CACHE_WRITING.key 0 0] [.mram, .chip] ∧
      t.rd F.CHIP_IMG_CACHE_VALID = 1 ∧ t.rd F.CHIP_IMG_CACHE_WRITING = 0 ∧
      t.mram = memWrite (memWrite s.mram cacheData (s.chip.imgHead ++ (cachedDir s.chip.imgHead).flatMap fun e =>
        ((s.chip.bootSecs.find? fun p => p.1 == e.type).map (·.2)).getD [])) cacheTag
          (Config.sha384 (signedPart s.chip.imgHead))) ∧
  (∀ (ini : Initiator) (l : List Byte) (s : State), s.onBus ini → s.rd F.CHIP_IMG_STAT_BUSY (b2n (s.isSec ini)) = 0 →
    s.rd F.CHIP_IMG_STAT_PENDING (b2n (s.isSec ini)) = 0 → s.chip.delta = none → s.chip.deltaQueued = [] →
    (s.answer 0).deltaRead (s.tag ini) (s.rd F.CHIP_IMG_ADDR_ADDR (b2n (s.isSec ini)) * 64) = (s.answer 0, l, none) →
    execNext (.deltaSubmit ini) s fun t =>
      s.changes t [F.CHIP_IMG_STAT_BUSY.key (b2n (s.isSec ini)) 0] [.resp, .chip] ∧ t.done ∧
      t.rd F.CHIP_IMG_STAT_BUSY (b2n (s.isSec ini)) = 1 ∧ t.chip = { s.chip with delta := some (s.isSec ini, l, none) }) ∧
  (∀ (ini : Initiator) (l : List Byte) (bad : Option Nat) (code k : Nat) (s : State), s.onBus ini → s.rd F.CHIP_IMG_STAT_BUSY (b2n (s.isSec ini)) = 0 →
    s.rd F.CHIP_IMG_STAT_PENDING (b2n (s.isSec ini)) = 0 → (s.chip.delta.isSome = true ∨ s.chip.deltaQueued ≠ []) →
    (s.answer 0).deltaRead (s.tag ini) (s.rd F.CHIP_IMG_ADDR_ADDR (b2n (s.isSec ini)) * 64) = (s.answer 0, l, bad) →
    ((s.answer 0).deltaBad (s.isSec ini) l bad).getD (0x12, 255) = (code, k) → code < 32 → k < 256 →
    execNext (.deltaSubmit ini) s fun t =>
      s.changes t [F.CHIP_IMG_STAT_ERR_SECTION.key (b2n (s.isSec ini)) 0, F.CHIP_IMG_STAT_ERROR.key (b2n (s.isSec ini)) 0,
        F.CHIP_IMG_STAT_SOURCE.key (b2n (s.isSec ini)) 0, F.CHIP_IMG_STAT_FAIL.key (b2n (s.isSec ini)) 0,
        F.CHIP_IMG_STAT_BUSY.key (b2n (s.isSec ini)) 0] [.resp] ∧ t.done ∧
      t.rd F.CHIP_IMG_STAT_ERROR (b2n (s.isSec ini)) = code ∧ t.rd F.CHIP_IMG_STAT_ERR_SECTION (b2n (s.isSec ini)) = k ∧
      t.rd F.CHIP_IMG_STAT_FAIL (b2n (s.isSec ini)) = 1) ∧
  (∀ (sec : Bool) (l : List Byte) (u : Option Nat) (code k : Nat) (s : State), s.chip.delta = some (sec, l, u) →
    s.deltaBad sec l u = some (code, k) → code < 32 → k < 256 →
    execNext .deltaCheckDone s fun t =>
      s.changes t [F.CHIP_IMG_STAT_ERR_SECTION.key (b2n sec) 0, F.CHIP_IMG_STAT_ERROR.key (b2n sec) 0,
        F.CHIP_IMG_STAT_SOURCE.key (b2n sec) 0, F.CHIP_IMG_STAT_FAIL.key (b2n sec) 0, F.CHIP_IMG_STAT_BUSY.key (b2n sec) 0]
        [.chip] ∧
      t.rd F.CHIP_IMG_STAT_ERROR (b2n sec) = code ∧ t.rd F.CHIP_IMG_STAT_ERR_SECTION (b2n sec) = k ∧
      t.rd F.CHIP_IMG_STAT_SOURCE (b2n sec) = 1 ∧ t.rd F.CHIP_IMG_STAT_FAIL (b2n sec) = 1 ∧
      t.rd F.CHIP_IMG_STAT_BUSY (b2n sec) = 0 ∧ t.chip = { s.chip with delta := none }) ∧
  (∀ (sec : Bool) (l : List Byte) (u : Option Nat) (s : State), s.chip.delta = some (sec, l, u) → s.deltaBad sec l u = none →
    execNext .deltaCheckDone s fun t =>
      t.rd F.CHIP_IMG_STAT_ERROR (b2n sec) = 0 ∧ t.rd F.CHIP_IMG_STAT_ERR_SECTION (b2n sec) = 255 ∧
      t.rd F.CHIP_IMG_STAT_SOURCE (b2n sec) = 1 ∧ t.rd F.CHIP_IMG_STAT_BUSY (b2n sec) = 0 ∧ t.chip.delta = none ∧
      t.chip.deltaWorld = sec ∧ (if t.chip.deltaQueued = [] then t.rd F.CHIP_IMG_STAT_DONE (b2n sec) = 1
        else t.rd F.CHIP_IMG_STAT_PENDING (b2n sec) = 1)) ∧
  (∀ (p : PendSection) (s : State), s.chip.deltaQueued = [p] → p.type = 0x31 ∨ p.type = 0x33 ∨ p.type = 0x34 →
    p.left = wholePart →
    execNext (.deltaSectionApply p.type) s fun t =>
      s.changes t [F.CHIP_IMG_STAT_PENDING.key (b2n s.chip.deltaWorld) 0, F.CHIP_IMG_STAT_DONE.key (b2n s.chip.deltaWorld) 0]
        [.img, .chip] ∧
      t.img = layOver s.img p.type p.data ∧ t.chip = { s.chip with deltaQueued := [] } ∧
      t.rd F.CHIP_IMG_STAT_PENDING (b2n s.chip.deltaWorld) = 0 ∧ t.rd F.CHIP_IMG_STAT_DONE (b2n s.chip.deltaWorld) = 1) ∧
  (∀ (p : PendSection) (s : State), s.deltaOf 0x12 = some p → s.portsMay p.data = false →
    execNext (.deltaSectionApply 0x12) s fun t => t = s) ∧
  (∀ (ini : Initiator) (o : Nat) (z : AccSize) (s : State), s.onBus ini → nvmFits o z = true → s.isSec ini = true →
    0x1000 ≤ s.nvmAt o →
    execNext (.nvmApertureRead ini o z .ok) s fun t =>
      s.changes t [] [.resp] ∧ t.resp = { value := ofLe (memRead s.mram (s.nvmAt o) (accBytes z)), err := false }) ∧
  (∀ (ini : Initiator) (o : Nat) (z : AccSize) (e : EccResult) (s : State), s.onBus ini → nvmFits o z = true → s.isSec ini = false →
    execNext (.nvmApertureRead ini o z e) s fun t => s.changes t [] [.resp] ∧ t.resp = { value := 0, err := false }) ∧
  (∀ (ini : Initiator) (o : Nat) (z : AccSize) (s : State), s.onBus ini → nvmFits o z = true → s.isSec ini = true →
    s.rd F.NVM_STAT_UE = 0 → s.rd F.NVM_WIN_BANK < 5 → s.room 16 →
    execNext (.nvmApertureRead ini o z .uncorrectable) s fun t =>
      s.changes t [F.NVM_UE_ADDR_OFFSET.key 0 0, F.NVM_STAT_UE.key 0 0, lostKey] [.inl, .resp] ∧ t.rd F.NVM_STAT_UE = 1 ∧
      t.rd F.NVM_UE_ADDR_OFFSET = s.nvmAt o / 8 * 8 % 2 ^ F.NVM_UE_ADDR_OFFSET.width ∧
      t.resp = { value := 0, err := true } ∧ s.raises t [s.ev 16 0 0 false]) ∧
  (∀ (ini : Initiator) (o : Nat) (z : AccSize) (v : BitVec 64) (s : State), s.onBus ini → nvmFits o z = true → 4 ≤ accBytes z →
    s.isSec ini = true → 0x130000 ≤ s.nvmAt o → s.nvmAt o < 0x400000 →
    execNext (.nvmApertureWrite ini o z v) s fun t =>
      s.changes t [] [.resp, .mram] ∧ t.done ∧ memRead t.mram (s.nvmAt o) (accBytes z) = leBytes (accBytes z) v.toNat ∧
      (∀ a, a < s.nvmAt o ∨ s.nvmAt o + accBytes z ≤ a → memRead t.mram a 1 = memRead s.mram a 1)) ∧
  (∀ (ini : Initiator) (o : Nat) (z : AccSize) (v : BitVec 64) (s : State), s.onBus ini → nvmFits o z = true → 4 ≤ accBytes z →
    s.isSec ini = true → s.nvmAt o < 0x130000 ∨ 0x400000 ≤ s.nvmAt o → s.room 17 →
    execNext (.nvmApertureWrite ini o z v) s fun t =>
      s.changes t [F.NVM_STAT_PROT.key 0 0, lostKey] [.resp, .inl] ∧ t.done ∧ t.rd F.NVM_STAT_PROT = 1 ∧ s.raises t [s.ev 17 0 0 false]) ∧
  (∀ (ini : Initiator) (v : Word) (s : State), s.onBus ini → s.isSec ini = true → bit v.toNat 31 = false → s.rd F.CHIP_DEBUG_LOCK = 0 →
    b2n (bit v.toNat 0) ≠ s.rd F.CHIP_DEBUG_JTAG_EN ∨ b2n (bit v.toNat 1) ≠ s.rd F.CHIP_DEBUG_SEC_DEBUG → s.room 18 →
    execNext (.chipDebugWrite ini v) s fun t =>
      s.changes t [F.CHIP_DEBUG_JTAG_EN.key 0 0, F.CHIP_DEBUG_SEC_DEBUG.key 0 0, lostKey] [.resp, .chip, .inl] ∧ t.done ∧
      t.rd F.CHIP_DEBUG_JTAG_EN = b2n (bit v.toNat 0) ∧ t.rd F.CHIP_DEBUG_SEC_DEBUG = b2n (bit v.toNat 1) ∧
      s.raises t [s.ev 18 (v.toNat % 4) 0 false]) ∧
  (∀ (ini : Initiator) (v : Word) (s : State), s.onBus ini → s.isSec ini = true → bit v.toNat 31 = false → s.rd F.CHIP_DEBUG_LOCK = 1 →
    execNext (.chipDebugWrite ini v) s fun t => t = s.answer 0) ∧
  (∀ (ini : Initiator) (v : Word) (s : State), s.onBus ini → s.isSec ini = true → bit v.toNat 31 = true →
    b2n (bit v.toNat 0) = s.rd F.CHIP_DEBUG_JTAG_EN → b2n (bit v.toNat 1) = s.rd F.CHIP_DEBUG_SEC_DEBUG →
    execNext (.debugLock ini v) s fun t => t = (s.answer 0).wr F.CHIP_DEBUG_LOCK 1) ∧
  (∀ (d : Nat) (s : State), s.rd F.CHIP_DEBUG_JTAG_EN = 1 →
    execNext (.jtagInstruction (.takeOver d)) s fun t => s.changes t [] [.chip] ∧ t.chip = { s.chip with bscan := some d }) ∧
  (∀ (s : State), s.rd F.CHIP_DEBUG_JTAG_EN = 1 →
    execNext (.jtagInstruction .passive) s fun t => s.changes t [] [.chip] ∧ t.chip = { s.chip with bscan := none }) ∧
  (∀ (k : Fin 2) (s : State), s.rd F.CHIP_DEBUG_JTAG_EN = 1 → s.rd F.CHIP_DEBUG_SEC_DEBUG = 0 →
    execNext (.jtagInstruction (.debug (.safety k))) s fun t =>
      s.changes t [] [.chip] ∧ t.chip = { s.chip with debugReach := none }) ∧
  (∀ (h : Fin 8) (s : State), s.rd F.CHIP_DEBUG_JTAG_EN = 1 → s.rd F.WEIR_HART_STAT_SECURE h.val = 0 →
    execNext (.jtagInstruction (.debug (.hart h))) s fun t =>
      s.changes t [] [.chip] ∧ t.chip = { s.chip with debugReach := some (.hart h) }) ∧
  (∀ (j : JtagInstr) (s : State), s.rd F.CHIP_DEBUG_JTAG_EN = 0 →
    execNext (.jtagInstruction j) s fun t => t = s)

/-! ### The block as a whole -/

/-- A step takes the command at the front of the queue and runs it on the state with the rest of the queue; with no command waiting
one nanosecond of the reference passes (log entry 2: the model's choice), which reaches the seep count, the timebase, the running
time of Loch's jobs, the ports in their 10 ms between two types and the marks that it misses, and nothing else, but on the
nanosecond at which Loch's idle fences are polled. -/
def Obligations.StepRunsCommand : Prop :=
  (∀ (c : Instr) (rest : List Instr) (s : State),
    step { s with pending := c :: rest } = exec c { s with pending := rest }) ∧
  (∀ (s : State), s.pending = [] → step s = .next s.idle ∧ s.tick.elapsed = s.elapsed + 1 ∧ s.tick.pending = s.pending ∧
    s.changes s.tick [F.CHIP_SEEP_CNT_COUNT.key 0 0, F.TBS_STAT_MARK_VALID.key 0 0] [.elapsed, .tbs, .chip, .ptg, .pins, .loch]) ∧
  (∀ (s : State), (s.elapsed + 1) % (1000 * max 1 (s.rd F.LOCH_CFG_POLL_US)) ≠ 0 → s.idle = s.tick)

/-- Table 03-5: right after reset no memory lists a byte, no command waits, the phase reads BOOT, the boot sequencer stands before its
first step, the domain status is all powered and no chip safe state is declared. -/
def Obligations.ResetState : Prop :=
  State.reset.memOk ∧ State.reset.pending = [] ∧ State.reset.chip.phase = .boot ∧ State.reset.rd F.CHIP_BOOT_STAT_STEP = 0 ∧
  State.reset.rd F.CHIP_PD_STAT_VAL = 0x5555555 ∧ State.reset.safe = false ∧ State.reset.inl.awaiting = []

/-- Every step keeps the canonical form of DRAM, of the MRAM array, of the Tarn store and of the register memories: addresses strictly
rising and no byte listed that an unlisted address reads as. -/
def Obligations.EveryStepKeepsMemory : Prop :=
  ∀ (s t : State), s.memOk → step s = .next t → t.memOk

/-- R10: no command stops the block: on every state and with every operand each of them answers a next state. -/
def Obligations.NoCommandStops : Prop :=
  ∀ (i : Instr) (s : State), ∃ t, exec i s = .next t
end

