-- ==== Sys2Proof/Laws/Sparse.lean ====
section
/-!
SUPPORT. Laws of sparse data: reading what was stored, every other key unchanged, and the canonical form kept by every operation
that the memories and the register file are written through.
-/
namespace Sys2Proof.Machine

/-! ### Reading after storing -/

theorem spGet_spDrop_ne {α : Type} (l : List (Nat × α)) (k j : Nat) (d : α) (h : j ≠ k) : spGet (spDrop l k) j d = spGet l j d := by
  induction l with
  | nil => rfl
  | cons e t ih =>
    unfold spDrop at ih ⊢
    by_cases he : e.1 = k
    · have hj : ¬ e.1 = j := fun x => h (by omega)
      simp [he, spGet, ih]; simp [← he, hj]
    · simp [he, spGet, ih]

theorem spGet_spDrop_self {α : Type} (l : List (Nat × α)) (k : Nat) (d : α) : spGet (spDrop l k) k d = d := by
  induction l with
  | nil => rfl
  | cons e t ih =>
    unfold spDrop at ih ⊢
    by_cases he : e.1 = k <;> simp [he, spGet, ih]

theorem spGet_spIns_self {α : Type} (l : List (Nat × α)) (k : Nat) (v d : α) (h : ∀ e ∈ l, e.1 ≠ k) :
    spGet (spIns l k v) k d = v := by
  induction l with
  | nil => simp [spIns, spGet]
  | cons e t ih =>
    unfold spIns
    split
    · simp [spGet]
    · simp [spGet, h e (by simp), ih fun x hx => h x (by simp [hx])]

theorem spGet_spIns_ne {α : Type} (l : List (Nat × α)) (k j : Nat) (v d : α) (h : j ≠ k) :
    spGet (spIns l k v) j d = spGet l j d := by
  have hk : ¬ k = j := fun x => h x.symm
  induction l with
  | nil => simp [spIns, spGet, hk]
  | cons e t ih =>
    unfold spIns
    split
    · simp [spGet, hk]
    · simp [spGet, ih]

theorem spDrop_no_key {α : Type} (l : List (Nat × α)) (k : Nat) : ∀ e ∈ spDrop l k, e.1 ≠ k := by
  intro e he; simpa [spDrop] using (List.mem_filter.mp he).2

/-- A key reads as what was stored under it. -/
@[simp] theorem spGet_spSet_self {α : Type} [DecidableEq α] (d : α) (l : List (Nat × α)) (k : Nat) (v : α) :
    spGet (spSet d l k v) k d = v := by
  unfold spSet
  split
  · next h => rw [spGet_spDrop_self, h]
  · exact spGet_spIns_self _ _ _ _ (spDrop_no_key l k)

/-- Every other key reads as before, whatever default it is read with. -/
theorem spGet_spSet_ne {α : Type} [DecidableEq α] (d d' : α) (l : List (Nat × α)) (k j : Nat) (v : α) (h : j ≠ k) :
    spGet (spSet d l k v) j d' = spGet l j d' := by
  unfold spSet
  split
  · exact spGet_spDrop_ne l k j d' h
  · rw [spGet_spIns_ne _ _ _ _ _ h, spGet_spDrop_ne l k j d' h]

/-! ### The canonical form -/

theorem spRising_cons {α : Type} (e : Nat × α) (t : List (Nat × α)) :
    spRising (e :: t) = true ↔ (∀ x ∈ t, e.1 < x.1) ∧ spRising t = true := by
  induction t generalizing e with
  | nil => simp [spRising]
  | cons b t ih =>
    simp only [spRising, Bool.and_eq_true, decide_eq_true_eq, List.mem_cons, forall_eq_or_imp]
    constructor
    · rintro ⟨h1, h2⟩
      exact ⟨⟨h1, fun x hx => Nat.lt_trans h1 (((ih b).mp h2).1 x hx)⟩, h2⟩
    · rintro ⟨⟨h1, _⟩, h2⟩; exact ⟨h1, h2⟩

theorem spRising_filter {α : Type} (l : List (Nat × α)) (p : Nat × α → Bool) (h : spRising l = true) :
    spRising (l.filter p) = true := by
  induction l with
  | nil => rfl
  | cons e t ih =>
    obtain ⟨h1, h2⟩ := (spRising_cons e t).mp h
    rw [List.filter_cons]
    split
    · exact (spRising_cons _ _).mpr ⟨fun x hx => h1 x (List.mem_filter.mp hx).1, ih h2⟩
    · exact ih h2

theorem mem_spIns {α : Type} (l : List (Nat × α)) (k : Nat) (v : α) (x : Nat × α) (h : x ∈ spIns l k v) : x = (k, v) ∨ x ∈ l := by
  induction l with
  | nil => exact Or.inl (List.mem_singleton.mp h)
  | cons e t ih =>
    unfold spIns at h
    split at h
    · rcases List.mem_cons.mp h with h | h
      · exact Or.inl h
      · exact Or.inr h
    · rcases List.mem_cons.mp h with h | h
      · exact Or.inr (by simp [h])
      · rcases ih h with h | h
        · exact Or.inl h
        · exact Or.inr (by simp [h])

theorem spRising_spIns {α : Type} (l : List (Nat × α)) (k : Nat) (v : α) (h : spRising l = true) (hk : ∀ e ∈ l, e.1 ≠ k) :
    spRising (spIns l k v) = true := by
  induction l with
  | nil => rfl
  | cons e t ih =>
    obtain ⟨h1, h2⟩ := (spRising_cons e t).mp h
    unfold spIns
    split
    · next hlt =>
      exact (spRising_cons _ _).mpr ⟨fun x hx => by
        rcases List.mem_cons.mp hx with hx | hx
        · simpa [hx] using hlt
        · exact Nat.lt_trans hlt (h1 x hx), h⟩
    · next hge =>
      have hne := hk e (by simp)
      refine (spRising_cons _ _).mpr ⟨fun x hx => ?_, ih h2 fun x hx => hk x (by simp [hx])⟩
      rcases mem_spIns t k v x hx with hx | hx
      · simp only [hx]; omega
      · exact h1 x hx

/-- A list filtered stays canonical. -/
theorem spWf_filter {α : Type} [DecidableEq α] (d : α) (l : List (Nat × α)) (p : Nat × α → Bool) (h : spWf d l = true) :
    spWf d (l.filter p) = true := by
  simp only [spWf, Bool.and_eq_true, List.all_eq_true] at h ⊢
  exact ⟨spRising_filter l p h.1, fun e he => h.2 e (List.mem_filter.mp he).1⟩

/-- Storing keeps the canonical form. -/
theorem spWf_spSet {α : Type} [DecidableEq α] (d : α) (l : List (Nat × α)) (k : Nat) (v : α) (h : spWf d l = true) :
    spWf d (spSet d l k v) = true := by
  have h' := spWf_filter d l (fun e => e.1 != k) h
  unfold spSet
  split
  · exact h'
  · next hv =>
    simp only [spWf, Bool.and_eq_true, List.all_eq_true] at h' ⊢
    refine ⟨spRising_spIns _ k v h'.1 (spDrop_no_key l k), fun e he => ?_⟩
    rcases mem_spIns _ k v e he with he | he
    · simp [he, hv]
    · exact h'.2 e he

/-- So does storing a run of values. -/
theorem spWf_spWrite {α : Type} [DecidableEq α] (d : α) (l : List (Nat × α)) (a : Nat) (vs : List α) (h : spWf d l = true) :
    spWf d (spWrite d l a vs) = true := by
  induction vs generalizing l a with
  | nil => exact h
  | cons v vs ih => exact ih _ _ (spWf_spSet d l a v h)

/-- Every other key reads as before a run of values was stored. -/
theorem spGet_spWrite_out {α : Type} [DecidableEq α] (d : α) (l : List (Nat × α)) (a j : Nat) (vs : List α)
    (h : j < a ∨ a + vs.length ≤ j) : spGet (spWrite d l a vs) j d = spGet l j d := by
  induction vs generalizing l a with
  | nil => rfl
  | cons v vs ih =>
    rw [List.length_cons] at h
    unfold spWrite
    rw [ih _ _ (by omega), spGet_spSet_ne _ _ _ _ _ _ (by omega)]

/-- A key inside the run reads as its value. -/
theorem spGet_spWrite_in {α : Type} [DecidableEq α] (d : α) (l : List (Nat × α)) (a j : Nat) (vs : List α) (h : j < vs.length) :
    spGet (spWrite d l a vs) (a + j) d = vs[j] := by
  induction vs generalizing l a j with
  | nil => simp at h
  | cons v vs ih =>
    unfold spWrite
    cases j with
    | zero => rw [spGet_spWrite_out _ _ _ _ _ (by omega)]; simp
    | succ j =>
      have := ih (spSet d l a v) (a + 1) j (by simpa using h)
      rw [show a + (j + 1) = a + 1 + j by omega]; simpa using this

/-! ### Memories -/

/-- Storing bytes keeps a memory canonical. -/
theorem memWrite_wf (m : List Host.Cell) (a : Nat) (l : List Byte) (h : Memory.wf m = true) : Memory.wf (memWrite m a l) = true :=
  spWf_spWrite _ m a l h

/-- So does zeroing a range. -/
theorem memZero_wf (m : List Host.Cell) (a n : Nat) (h : Memory.wf m = true) : Memory.wf (memZero m a n) = true :=
  spWf_filter _ m _ h

/-- So does dropping bytes. -/
theorem memFilter_wf (m : List Host.Cell) (p : Host.Cell → Bool) (h : Memory.wf m = true) : Memory.wf (m.filter p) = true :=
  spWf_filter _ m _ h

/-- Reading what was stored. -/
theorem memRead_memWrite (m : List Host.Cell) (a : Nat) (l : List Byte) : memRead (memWrite m a l) a l.length = l := by
  have key : ∀ (n j : Nat), j + n = l.length → spRead memDflt (memWrite m a l) (a + j) n = l.drop j := by
    intro n
    induction n with
    | zero => intro j hj; simp [spRead, ← hj]
    | succ n ih =>
      intro j hj
      have hlt : j < l.length := by omega
      rw [spRead, Nat.add_assoc, ih (j + 1) (by omega), List.drop_eq_getElem_cons hlt]
      congr 1
      exact spGet_spWrite_in _ m a j l hlt
  simpa [memRead] using key l.length 0 (by simp)

/-- Bytes outside what was stored read as before. -/
theorem memRead_memWrite_out (m : List Host.Cell) (a b n : Nat) (l : List Byte) (h : b + n ≤ a ∨ a + l.length ≤ b) :
    memRead (memWrite m a l) b n = memRead m b n := by
  unfold memRead memWrite
  induction n generalizing b with
  | zero => rfl
  | succ n ih =>
    rw [spRead, spRead, ih (b + 1) (by omega), spGet_spWrite_out _ _ _ _ _ (by omega)]

end Sys2Proof.Machine
end

