-- ==== Sys2Proof/Laws/State.lean ====
section
/-!
SUPPORT. One lemma per part of the state per update: what each update leaves as it is, and what it writes.
-/
namespace Sys2Proof.Machine

/-! ### wr -/

@[simp] theorem wr_pending (s : State) (f : Fld) (v i j : Nat) : (s.wr f v i j).pending = s.pending := rfl
@[simp] theorem wr_hold (s : State) (f : Fld) (v i j : Nat) : (s.wr f v i j).hold = s.hold := rfl
@[simp] theorem wr_dram (s : State) (f : Fld) (v i j : Nat) : (s.wr f v i j).dram = s.dram := rfl
@[simp] theorem wr_mram (s : State) (f : Fld) (v i j : Nat) : (s.wr f v i j).mram = s.mram := rfl
@[simp] theorem wr_tarn (s : State) (f : Fld) (v i j : Nat) : (s.wr f v i j).tarn = s.tarn := rfl
@[simp] theorem wr_ram (s : State) (f : Fld) (v i j : Nat) : (s.wr f v i j).ram = s.ram := rfl
@[simp] theorem wr_chip (s : State) (f : Fld) (v i j : Nat) : (s.wr f v i j).chip = s.chip := rfl
@[simp] theorem wr_pins (s : State) (f : Fld) (v i j : Nat) : (s.wr f v i j).pins = s.pins := rfl
@[simp] theorem wr_img (s : State) (f : Fld) (v i j : Nat) : (s.wr f v i j).img = s.img := rfl
@[simp] theorem wr_gov (s : State) (f : Fld) (v i j : Nat) : (s.wr f v i j).gov = s.gov := rfl
@[simp] theorem wr_fab (s : State) (f : Fld) (v i j : Nat) : (s.wr f v i j).fab = s.fab := rfl
@[simp] theorem wr_inl (s : State) (f : Fld) (v i j : Nat) : (s.wr f v i j).inl = s.inl := rfl
@[simp] theorem wr_tbs (s : State) (f : Fld) (v i j : Nat) : (s.wr f v i j).tbs = s.tbs := rfl
@[simp] theorem wr_own (s : State) (f : Fld) (v i j : Nat) : (s.wr f v i j).own = s.own := rfl
@[simp] theorem wr_locks (s : State) (f : Fld) (v i j : Nat) : (s.wr f v i j).locks = s.locks := rfl
@[simp] theorem wr_host (s : State) (f : Fld) (v i j : Nat) : (s.wr f v i j).host = s.host := rfl
@[simp] theorem wr_res (s : State) (f : Fld) (v i j : Nat) : (s.wr f v i j).res = s.res := rfl
@[simp] theorem wr_bas (s : State) (f : Fld) (v i j : Nat) : (s.wr f v i j).bas = s.bas := rfl
@[simp] theorem wr_tst (s : State) (f : Fld) (v i j : Nat) : (s.wr f v i j).tst = s.tst := rfl
@[simp] theorem wr_out (s : State) (f : Fld) (v i j : Nat) : (s.wr f v i j).out = s.out := rfl
@[simp] theorem wr_snd (s : State) (f : Fld) (v i j : Nat) : (s.wr f v i j).snd = s.snd := rfl
@[simp] theorem wr_ptg (s : State) (f : Fld) (v i j : Nat) : (s.wr f v i j).ptg = s.ptg := rfl
@[simp] theorem wr_wel (s : State) (f : Fld) (v i j : Nat) : (s.wr f v i j).wel = s.wel := rfl
@[simp] theorem wr_loch (s : State) (f : Fld) (v i j : Nat) : (s.wr f v i j).loch = s.loch := rfl
@[simp] theorem wr_whd (s : State) (f : Fld) (v i j : Nat) : (s.wr f v i j).whd = s.whd := rfl
@[simp] theorem wr_pool (s : State) (f : Fld) (v i j : Nat) : (s.wr f v i j).pool = s.pool := rfl
@[simp] theorem wr_pla (s : State) (f : Fld) (v i j : Nat) : (s.wr f v i j).pla = s.pla := rfl
@[simp] theorem wr_sha (s : State) (f : Fld) (v i j : Nat) : (s.wr f v i j).sha = s.sha := rfl
@[simp] theorem wr_drg (s : State) (f : Fld) (v i j : Nat) : (s.wr f v i j).drg = s.drg := rfl
@[simp] theorem wr_elapsed (s : State) (f : Fld) (v i j : Nat) : (s.wr f v i j).elapsed = s.elapsed := rfl
@[simp] theorem wr_fresh (s : State) (f : Fld) (v i j : Nat) : (s.wr f v i j).fresh = s.fresh := rfl
@[simp] theorem wr_sent (s : State) (f : Fld) (v i j : Nat) : (s.wr f v i j).sent = s.sent := rfl
@[simp] theorem wr_resp (s : State) (f : Fld) (v i j : Nat) : (s.wr f v i j).resp = s.resp := rfl

/-! ### inc -/

@[simp] theorem inc_pending (s : State) (f : Fld) (v i j : Nat) : (s.inc f v i j).pending = s.pending := rfl
@[simp] theorem inc_hold (s : State) (f : Fld) (v i j : Nat) : (s.inc f v i j).hold = s.hold := rfl
@[simp] theorem inc_dram (s : State) (f : Fld) (v i j : Nat) : (s.inc f v i j).dram = s.dram := rfl
@[simp] theorem inc_mram (s : State) (f : Fld) (v i j : Nat) : (s.inc f v i j).mram = s.mram := rfl
@[simp] theorem inc_tarn (s : State) (f : Fld) (v i j : Nat) : (s.inc f v i j).tarn = s.tarn := rfl
@[simp] theorem inc_ram (s : State) (f : Fld) (v i j : Nat) : (s.inc f v i j).ram = s.ram := rfl
@[simp] theorem inc_chip (s : State) (f : Fld) (v i j : Nat) : (s.inc f v i j).chip = s.chip := rfl
@[simp] theorem inc_pins (s : State) (f : Fld) (v i j : Nat) : (s.inc f v i j).pins = s.pins := rfl
@[simp] theorem inc_img (s : State) (f : Fld) (v i j : Nat) : (s.inc f v i j).img = s.img := rfl
@[simp] theorem inc_gov (s : State) (f : Fld) (v i j : Nat) : (s.inc f v i j).gov = s.gov := rfl
@[simp] theorem inc_fab (s : State) (f : Fld) (v i j : Nat) : (s.inc f v i j).fab = s.fab := rfl
@[simp] theorem inc_inl (s : State) (f : Fld) (v i j : Nat) : (s.inc f v i j).inl = s.inl := rfl
@[simp] theorem inc_tbs (s : State) (f : Fld) (v i j : Nat) : (s.inc f v i j).tbs = s.tbs := rfl
@[simp] theorem inc_own (s : State) (f : Fld) (v i j : Nat) : (s.inc f v i j).own = s.own := rfl
@[simp] theorem inc_locks (s : State) (f : Fld) (v i j : Nat) : (s.inc f v i j).locks = s.locks := rfl
@[simp] theorem inc_host (s : State) (f : Fld) (v i j : Nat) : (s.inc f v i j).host = s.host := rfl
@[simp] theorem inc_res (s : State) (f : Fld) (v i j : Nat) : (s.inc f v i j).res = s.res := rfl
@[simp] theorem inc_bas (s : State) (f : Fld) (v i j : Nat) : (s.inc f v i j).bas = s.bas := rfl
@[simp] theorem inc_tst (s : State) (f : Fld) (v i j : Nat) : (s.inc f v i j).tst = s.tst := rfl
@[simp] theorem inc_out (s : State) (f : Fld) (v i j : Nat) : (s.inc f v i j).out = s.out := rfl
@[simp] theorem inc_snd (s : State) (f : Fld) (v i j : Nat) : (s.inc f v i j).snd = s.snd := rfl
@[simp] theorem inc_ptg (s : State) (f : Fld) (v i j : Nat) : (s.inc f v i j).ptg = s.ptg := rfl
@[simp] theorem inc_wel (s : State) (f : Fld) (v i j : Nat) : (s.inc f v i j).wel = s.wel := rfl
@[simp] theorem inc_loch (s : State) (f : Fld) (v i j : Nat) : (s.inc f v i j).loch = s.loch := rfl
@[simp] theorem inc_whd (s : State) (f : Fld) (v i j : Nat) : (s.inc f v i j).whd = s.whd := rfl
@[simp] theorem inc_pool (s : State) (f : Fld) (v i j : Nat) : (s.inc f v i j).pool = s.pool := rfl
@[simp] theorem inc_pla (s : State) (f : Fld) (v i j : Nat) : (s.inc f v i j).pla = s.pla := rfl
@[simp] theorem inc_sha (s : State) (f : Fld) (v i j : Nat) : (s.inc f v i j).sha = s.sha := rfl
@[simp] theorem inc_drg (s : State) (f : Fld) (v i j : Nat) : (s.inc f v i j).drg = s.drg := rfl
@[simp] theorem inc_elapsed (s : State) (f : Fld) (v i j : Nat) : (s.inc f v i j).elapsed = s.elapsed := rfl
@[simp] theorem inc_fresh (s : State) (f : Fld) (v i j : Nat) : (s.inc f v i j).fresh = s.fresh := rfl
@[simp] theorem inc_sent (s : State) (f : Fld) (v i j : Nat) : (s.inc f v i j).sent = s.sent := rfl
@[simp] theorem inc_resp (s : State) (f : Fld) (v i j : Nat) : (s.inc f v i j).resp = s.resp := rfl

/-! ### incSat -/

@[simp] theorem incSat_pending (s : State) (f : Fld) (v i j : Nat) : (s.incSat f v i j).pending = s.pending := rfl
@[simp] theorem incSat_hold (s : State) (f : Fld) (v i j : Nat) : (s.incSat f v i j).hold = s.hold := rfl
@[simp] theorem incSat_dram (s : State) (f : Fld) (v i j : Nat) : (s.incSat f v i j).dram = s.dram := rfl
@[simp] theorem incSat_mram (s : State) (f : Fld) (v i j : Nat) : (s.incSat f v i j).mram = s.mram := rfl
@[simp] theorem incSat_tarn (s : State) (f : Fld) (v i j : Nat) : (s.incSat f v i j).tarn = s.tarn := rfl
@[simp] theorem incSat_ram (s : State) (f : Fld) (v i j : Nat) : (s.incSat f v i j).ram = s.ram := rfl
@[simp] theorem incSat_chip (s : State) (f : Fld) (v i j : Nat) : (s.incSat f v i j).chip = s.chip := rfl
@[simp] theorem incSat_pins (s : State) (f : Fld) (v i j : Nat) : (s.incSat f v i j).pins = s.pins := rfl
@[simp] theorem incSat_img (s : State) (f : Fld) (v i j : Nat) : (s.incSat f v i j).img = s.img := rfl
@[simp] theorem incSat_gov (s : State) (f : Fld) (v i j : Nat) : (s.incSat f v i j).gov = s.gov := rfl
@[simp] theorem incSat_fab (s : State) (f : Fld) (v i j : Nat) : (s.incSat f v i j).fab = s.fab := rfl
@[simp] theorem incSat_inl (s : State) (f : Fld) (v i j : Nat) : (s.incSat f v i j).inl = s.inl := rfl
@[simp] theorem incSat_tbs (s : State) (f : Fld) (v i j : Nat) : (s.incSat f v i j).tbs = s.tbs := rfl
@[simp] theorem incSat_own (s : State) (f : Fld) (v i j : Nat) : (s.incSat f v i j).own = s.own := rfl
@[simp] theorem incSat_locks (s : State) (f : Fld) (v i j : Nat) : (s.incSat f v i j).locks = s.locks := rfl
@[simp] theorem incSat_host (s : State) (f : Fld) (v i j : Nat) : (s.incSat f v i j).host = s.host := rfl
@[simp] theorem incSat_res (s : State) (f : Fld) (v i j : Nat) : (s.incSat f v i j).res = s.res := rfl
@[simp] theorem incSat_bas (s : State) (f : Fld) (v i j : Nat) : (s.incSat f v i j).bas = s.bas := rfl
@[simp] theorem incSat_tst (s : State) (f : Fld) (v i j : Nat) : (s.incSat f v i j).tst = s.tst := rfl
@[simp] theorem incSat_out (s : State) (f : Fld) (v i j : Nat) : (s.incSat f v i j).out = s.out := rfl
@[simp] theorem incSat_snd (s : State) (f : Fld) (v i j : Nat) : (s.incSat f v i j).snd = s.snd := rfl
@[simp] theorem incSat_ptg (s : State) (f : Fld) (v i j : Nat) : (s.incSat f v i j).ptg = s.ptg := rfl
@[simp] theorem incSat_wel (s : State) (f : Fld) (v i j : Nat) : (s.incSat f v i j).wel = s.wel := rfl
@[simp] theorem incSat_loch (s : State) (f : Fld) (v i j : Nat) : (s.incSat f v i j).loch = s.loch := rfl
@[simp] theorem incSat_whd (s : State) (f : Fld) (v i j : Nat) : (s.incSat f v i j).whd = s.whd := rfl
@[simp] theorem incSat_pool (s : State) (f : Fld) (v i j : Nat) : (s.incSat f v i j).pool = s.pool := rfl
@[simp] theorem incSat_pla (s : State) (f : Fld) (v i j : Nat) : (s.incSat f v i j).pla = s.pla := rfl
@[simp] theorem incSat_sha (s : State) (f : Fld) (v i j : Nat) : (s.incSat f v i j).sha = s.sha := rfl
@[simp] theorem incSat_drg (s : State) (f : Fld) (v i j : Nat) : (s.incSat f v i j).drg = s.drg := rfl
@[simp] theorem incSat_elapsed (s : State) (f : Fld) (v i j : Nat) : (s.incSat f v i j).elapsed = s.elapsed := rfl
@[simp] theorem incSat_fresh (s : State) (f : Fld) (v i j : Nat) : (s.incSat f v i j).fresh = s.fresh := rfl
@[simp] theorem incSat_sent (s : State) (f : Fld) (v i j : Nat) : (s.incSat f v i j).sent = s.sent := rfl
@[simp] theorem incSat_resp (s : State) (f : Fld) (v i j : Nat) : (s.incSat f v i j).resp = s.resp := rfl

/-! ### wrB -/

@[simp] theorem wrB_pending (s : State) (f : Fld) (b : Bool) (i j : Nat) : (s.wrB f b i j).pending = s.pending := rfl
@[simp] theorem wrB_hold (s : State) (f : Fld) (b : Bool) (i j : Nat) : (s.wrB f b i j).hold = s.hold := rfl
@[simp] theorem wrB_dram (s : State) (f : Fld) (b : Bool) (i j : Nat) : (s.wrB f b i j).dram = s.dram := rfl
@[simp] theorem wrB_mram (s : State) (f : Fld) (b : Bool) (i j : Nat) : (s.wrB f b i j).mram = s.mram := rfl
@[simp] theorem wrB_tarn (s : State) (f : Fld) (b : Bool) (i j : Nat) : (s.wrB f b i j).tarn = s.tarn := rfl
@[simp] theorem wrB_ram (s : State) (f : Fld) (b : Bool) (i j : Nat) : (s.wrB f b i j).ram = s.ram := rfl
@[simp] theorem wrB_chip (s : State) (f : Fld) (b : Bool) (i j : Nat) : (s.wrB f b i j).chip = s.chip := rfl
@[simp] theorem wrB_pins (s : State) (f : Fld) (b : Bool) (i j : Nat) : (s.wrB f b i j).pins = s.pins := rfl
@[simp] theorem wrB_img (s : State) (f : Fld) (b : Bool) (i j : Nat) : (s.wrB f b i j).img = s.img := rfl
@[simp] theorem wrB_gov (s : State) (f : Fld) (b : Bool) (i j : Nat) : (s.wrB f b i j).gov = s.gov := rfl
@[simp] theorem wrB_fab (s : State) (f : Fld) (b : Bool) (i j : Nat) : (s.wrB f b i j).fab = s.fab := rfl
@[simp] theorem wrB_inl (s : State) (f : Fld) (b : Bool) (i j : Nat) : (s.wrB f b i j).inl = s.inl := rfl
@[simp] theorem wrB_tbs (s : State) (f : Fld) (b : Bool) (i j : Nat) : (s.wrB f b i j).tbs = s.tbs := rfl
@[simp] theorem wrB_own (s : State) (f : Fld) (b : Bool) (i j : Nat) : (s.wrB f b i j).own = s.own := rfl
@[simp] theorem wrB_locks (s : State) (f : Fld) (b : Bool) (i j : Nat) : (s.wrB f b i j).locks = s.locks := rfl
@[simp] theorem wrB_host (s : State) (f : Fld) (b : Bool) (i j : Nat) : (s.wrB f b i j).host = s.host := rfl
@[simp] theorem wrB_res (s : State) (f : Fld) (b : Bool) (i j : Nat) : (s.wrB f b i j).res = s.res := rfl
@[simp] theorem wrB_bas (s : State) (f : Fld) (b : Bool) (i j : Nat) : (s.wrB f b i j).bas = s.bas := rfl
@[simp] theorem wrB_tst (s : State) (f : Fld) (b : Bool) (i j : Nat) : (s.wrB f b i j).tst = s.tst := rfl
@[simp] theorem wrB_out (s : State) (f : Fld) (b : Bool) (i j : Nat) : (s.wrB f b i j).out = s.out := rfl
@[simp] theorem wrB_snd (s : State) (f : Fld) (b : Bool) (i j : Nat) : (s.wrB f b i j).snd = s.snd := rfl
@[simp] theorem wrB_ptg (s : State) (f : Fld) (b : Bool) (i j : Nat) : (s.wrB f b i j).ptg = s.ptg := rfl
@[simp] theorem wrB_wel (s : State) (f : Fld) (b : Bool) (i j : Nat) : (s.wrB f b i j).wel = s.wel := rfl
@[simp] theorem wrB_loch (s : State) (f : Fld) (b : Bool) (i j : Nat) : (s.wrB f b i j).loch = s.loch := rfl
@[simp] theorem wrB_whd (s : State) (f : Fld) (b : Bool) (i j : Nat) : (s.wrB f b i j).whd = s.whd := rfl
@[simp] theorem wrB_pool (s : State) (f : Fld) (b : Bool) (i j : Nat) : (s.wrB f b i j).pool = s.pool := rfl
@[simp] theorem wrB_pla (s : State) (f : Fld) (b : Bool) (i j : Nat) : (s.wrB f b i j).pla = s.pla := rfl
@[simp] theorem wrB_sha (s : State) (f : Fld) (b : Bool) (i j : Nat) : (s.wrB f b i j).sha = s.sha := rfl
@[simp] theorem wrB_drg (s : State) (f : Fld) (b : Bool) (i j : Nat) : (s.wrB f b i j).drg = s.drg := rfl
@[simp] theorem wrB_elapsed (s : State) (f : Fld) (b : Bool) (i j : Nat) : (s.wrB f b i j).elapsed = s.elapsed := rfl
@[simp] theorem wrB_fresh (s : State) (f : Fld) (b : Bool) (i j : Nat) : (s.wrB f b i j).fresh = s.fresh := rfl
@[simp] theorem wrB_sent (s : State) (f : Fld) (b : Bool) (i j : Nat) : (s.wrB f b i j).sent = s.sent := rfl
@[simp] theorem wrB_resp (s : State) (f : Fld) (b : Bool) (i j : Nat) : (s.wrB f b i j).resp = s.resp := rfl

/-! ### clr -/

@[simp] theorem clr_pending (s : State) (f : Fld) (i j : Nat) : (s.clr f i j).pending = s.pending := rfl
@[simp] theorem clr_hold (s : State) (f : Fld) (i j : Nat) : (s.clr f i j).hold = s.hold := rfl
@[simp] theorem clr_dram (s : State) (f : Fld) (i j : Nat) : (s.clr f i j).dram = s.dram := rfl
@[simp] theorem clr_mram (s : State) (f : Fld) (i j : Nat) : (s.clr f i j).mram = s.mram := rfl
@[simp] theorem clr_tarn (s : State) (f : Fld) (i j : Nat) : (s.clr f i j).tarn = s.tarn := rfl
@[simp] theorem clr_ram (s : State) (f : Fld) (i j : Nat) : (s.clr f i j).ram = s.ram := rfl
@[simp] theorem clr_chip (s : State) (f : Fld) (i j : Nat) : (s.clr f i j).chip = s.chip := rfl
@[simp] theorem clr_pins (s : State) (f : Fld) (i j : Nat) : (s.clr f i j).pins = s.pins := rfl
@[simp] theorem clr_img (s : State) (f : Fld) (i j : Nat) : (s.clr f i j).img = s.img := rfl
@[simp] theorem clr_gov (s : State) (f : Fld) (i j : Nat) : (s.clr f i j).gov = s.gov := rfl
@[simp] theorem clr_fab (s : State) (f : Fld) (i j : Nat) : (s.clr f i j).fab = s.fab := rfl
@[simp] theorem clr_inl (s : State) (f : Fld) (i j : Nat) : (s.clr f i j).inl = s.inl := rfl
@[simp] theorem clr_tbs (s : State) (f : Fld) (i j : Nat) : (s.clr f i j).tbs = s.tbs := rfl
@[simp] theorem clr_own (s : State) (f : Fld) (i j : Nat) : (s.clr f i j).own = s.own := rfl
@[simp] theorem clr_locks (s : State) (f : Fld) (i j : Nat) : (s.clr f i j).locks = s.locks := rfl
@[simp] theorem clr_host (s : State) (f : Fld) (i j : Nat) : (s.clr f i j).host = s.host := rfl
@[simp] theorem clr_res (s : State) (f : Fld) (i j : Nat) : (s.clr f i j).res = s.res := rfl
@[simp] theorem clr_bas (s : State) (f : Fld) (i j : Nat) : (s.clr f i j).bas = s.bas := rfl
@[simp] theorem clr_tst (s : State) (f : Fld) (i j : Nat) : (s.clr f i j).tst = s.tst := rfl
@[simp] theorem clr_out (s : State) (f : Fld) (i j : Nat) : (s.clr f i j).out = s.out := rfl
@[simp] theorem clr_snd (s : State) (f : Fld) (i j : Nat) : (s.clr f i j).snd = s.snd := rfl
@[simp] theorem clr_ptg (s : State) (f : Fld) (i j : Nat) : (s.clr f i j).ptg = s.ptg := rfl
@[simp] theorem clr_wel (s : State) (f : Fld) (i j : Nat) : (s.clr f i j).wel = s.wel := rfl
@[simp] theorem clr_loch (s : State) (f : Fld) (i j : Nat) : (s.clr f i j).loch = s.loch := rfl
@[simp] theorem clr_whd (s : State) (f : Fld) (i j : Nat) : (s.clr f i j).whd = s.whd := rfl
@[simp] theorem clr_pool (s : State) (f : Fld) (i j : Nat) : (s.clr f i j).pool = s.pool := rfl
@[simp] theorem clr_pla (s : State) (f : Fld) (i j : Nat) : (s.clr f i j).pla = s.pla := rfl
@[simp] theorem clr_sha (s : State) (f : Fld) (i j : Nat) : (s.clr f i j).sha = s.sha := rfl
@[simp] theorem clr_drg (s : State) (f : Fld) (i j : Nat) : (s.clr f i j).drg = s.drg := rfl
@[simp] theorem clr_elapsed (s : State) (f : Fld) (i j : Nat) : (s.clr f i j).elapsed = s.elapsed := rfl
@[simp] theorem clr_fresh (s : State) (f : Fld) (i j : Nat) : (s.clr f i j).fresh = s.fresh := rfl
@[simp] theorem clr_sent (s : State) (f : Fld) (i j : Nat) : (s.clr f i j).sent = s.sent := rfl
@[simp] theorem clr_resp (s : State) (f : Fld) (i j : Nat) : (s.clr f i j).resp = s.resp := rfl

/-! ### send -/

@[simp] theorem send_pending (s : State) (m : Sent) : (s.send m).pending = s.pending := rfl
@[simp] theorem send_regs (s : State) (m : Sent) : (s.send m).regs = s.regs := rfl
@[simp] theorem send_hold (s : State) (m : Sent) : (s.send m).hold = s.hold := rfl
@[simp] theorem send_dram (s : State) (m : Sent) : (s.send m).dram = s.dram := rfl
@[simp] theorem send_mram (s : State) (m : Sent) : (s.send m).mram = s.mram := rfl
@[simp] theorem send_tarn (s : State) (m : Sent) : (s.send m).tarn = s.tarn := rfl
@[simp] theorem send_ram (s : State) (m : Sent) : (s.send m).ram = s.ram := rfl
@[simp] theorem send_chip (s : State) (m : Sent) : (s.send m).chip = s.chip := rfl
@[simp] theorem send_pins (s : State) (m : Sent) : (s.send m).pins = s.pins := rfl
@[simp] theorem send_img (s : State) (m : Sent) : (s.send m).img = s.img := rfl
@[simp] theorem send_gov (s : State) (m : Sent) : (s.send m).gov = s.gov := rfl
@[simp] theorem send_fab (s : State) (m : Sent) : (s.send m).fab = s.fab := rfl
@[simp] theorem send_inl (s : State) (m : Sent) : (s.send m).inl = s.inl := rfl
@[simp] theorem send_tbs (s : State) (m : Sent) : (s.send m).tbs = s.tbs := rfl
@[simp] theorem send_own (s : State) (m : Sent) : (s.send m).own = s.own := rfl
@[simp] theorem send_locks (s : State) (m : Sent) : (s.send m).locks = s.locks := rfl
@[simp] theorem send_host (s : State) (m : Sent) : (s.send m).host = s.host := rfl
@[simp] theorem send_res (s : State) (m : Sent) : (s.send m).res = s.res := rfl
@[simp] theorem send_bas (s : State) (m : Sent) : (s.send m).bas = s.bas := rfl
@[simp] theorem send_tst (s : State) (m : Sent) : (s.send m).tst = s.tst := rfl
@[simp] theorem send_out (s : State) (m : Sent) : (s.send m).out = s.out := rfl
@[simp] theorem send_snd (s : State) (m : Sent) : (s.send m).snd = s.snd := rfl
@[simp] theorem send_ptg (s : State) (m : Sent) : (s.send m).ptg = s.ptg := rfl
@[simp] theorem send_wel (s : State) (m : Sent) : (s.send m).wel = s.wel := rfl
@[simp] theorem send_loch (s : State) (m : Sent) : (s.send m).loch = s.loch := rfl
@[simp] theorem send_whd (s : State) (m : Sent) : (s.send m).whd = s.whd := rfl
@[simp] theorem send_pool (s : State) (m : Sent) : (s.send m).pool = s.pool := rfl
@[simp] theorem send_pla (s : State) (m : Sent) : (s.send m).pla = s.pla := rfl
@[simp] theorem send_sha (s : State) (m : Sent) : (s.send m).sha = s.sha := rfl
@[simp] theorem send_drg (s : State) (m : Sent) : (s.send m).drg = s.drg := rfl
@[simp] theorem send_elapsed (s : State) (m : Sent) : (s.send m).elapsed = s.elapsed := rfl
@[simp] theorem send_fresh (s : State) (m : Sent) : (s.send m).fresh = s.fresh := rfl
@[simp] theorem send_resp (s : State) (m : Sent) : (s.send m).resp = s.resp := rfl
@[simp] theorem send_rd (s : State) (m : Sent) (f : Fld) (k l : Nat) : (s.send m).rd f k l = s.rd f k l := rfl
@[simp] theorem send_on (s : State) (m : Sent) (f : Fld) (k l : Nat) : (s.send m).on f k l = s.on f k l := rfl

/-! ### answer -/

@[simp] theorem answer_pending (s : State) (v : Nat) (e : Bool) : (s.answer v e).pending = s.pending := rfl
@[simp] theorem answer_regs (s : State) (v : Nat) (e : Bool) : (s.answer v e).regs = s.regs := rfl
@[simp] theorem answer_hold (s : State) (v : Nat) (e : Bool) : (s.answer v e).hold = s.hold := rfl
@[simp] theorem answer_dram (s : State) (v : Nat) (e : Bool) : (s.answer v e).dram = s.dram := rfl
@[simp] theorem answer_mram (s : State) (v : Nat) (e : Bool) : (s.answer v e).mram = s.mram := rfl
@[simp] theorem answer_tarn (s : State) (v : Nat) (e : Bool) : (s.answer v e).tarn = s.tarn := rfl
@[simp] theorem answer_ram (s : State) (v : Nat) (e : Bool) : (s.answer v e).ram = s.ram := rfl
@[simp] theorem answer_chip (s : State) (v : Nat) (e : Bool) : (s.answer v e).chip = s.chip := rfl
@[simp] theorem answer_pins (s : State) (v : Nat) (e : Bool) : (s.answer v e).pins = s.pins := rfl
@[simp] theorem answer_img (s : State) (v : Nat) (e : Bool) : (s.answer v e).img = s.img := rfl
@[simp] theorem answer_gov (s : State) (v : Nat) (e : Bool) : (s.answer v e).gov = s.gov := rfl
@[simp] theorem answer_fab (s : State) (v : Nat) (e : Bool) : (s.answer v e).fab = s.fab := rfl
@[simp] theorem answer_inl (s : State) (v : Nat) (e : Bool) : (s.answer v e).inl = s.inl := rfl
@[simp] theorem answer_tbs (s : State) (v : Nat) (e : Bool) : (s.answer v e).tbs = s.tbs := rfl
@[simp] theorem answer_own (s : State) (v : Nat) (e : Bool) : (s.answer v e).own = s.own := rfl
@[simp] theorem answer_locks (s : State) (v : Nat) (e : Bool) : (s.answer v e).locks = s.locks := rfl
@[simp] theorem answer_host (s : State) (v : Nat) (e : Bool) : (s.answer v e).host = s.host := rfl
@[simp] theorem answer_res (s : State) (v : Nat) (e : Bool) : (s.answer v e).res = s.res := rfl
@[simp] theorem answer_bas (s : State) (v : Nat) (e : Bool) : (s.answer v e).bas = s.bas := rfl
@[simp] theorem answer_tst (s : State) (v : Nat) (e : Bool) : (s.answer v e).tst = s.tst := rfl
@[simp] theorem answer_out (s : State) (v : Nat) (e : Bool) : (s.answer v e).out = s.out := rfl
@[simp] theorem answer_snd (s : State) (v : Nat) (e : Bool) : (s.answer v e).snd = s.snd := rfl
@[simp] theorem answer_ptg (s : State) (v : Nat) (e : Bool) : (s.answer v e).ptg = s.ptg := rfl
@[simp] theorem answer_wel (s : State) (v : Nat) (e : Bool) : (s.answer v e).wel = s.wel := rfl
@[simp] theorem answer_loch (s : State) (v : Nat) (e : Bool) : (s.answer v e).loch = s.loch := rfl
@[simp] theorem answer_whd (s : State) (v : Nat) (e : Bool) : (s.answer v e).whd = s.whd := rfl
@[simp] theorem answer_pool (s : State) (v : Nat) (e : Bool) : (s.answer v e).pool = s.pool := rfl
@[simp] theorem answer_pla (s : State) (v : Nat) (e : Bool) : (s.answer v e).pla = s.pla := rfl
@[simp] theorem answer_sha (s : State) (v : Nat) (e : Bool) : (s.answer v e).sha = s.sha := rfl
@[simp] theorem answer_drg (s : State) (v : Nat) (e : Bool) : (s.answer v e).drg = s.drg := rfl
@[simp] theorem answer_elapsed (s : State) (v : Nat) (e : Bool) : (s.answer v e).elapsed = s.elapsed := rfl
@[simp] theorem answer_fresh (s : State) (v : Nat) (e : Bool) : (s.answer v e).fresh = s.fresh := rfl
@[simp] theorem answer_sent (s : State) (v : Nat) (e : Bool) : (s.answer v e).sent = s.sent := rfl
@[simp] theorem answer_rd (s : State) (v : Nat) (e : Bool) (f : Fld) (k l : Nat) : (s.answer v e).rd f k l = s.rd f k l := rfl
@[simp] theorem answer_on (s : State) (v : Nat) (e : Bool) (f : Fld) (k l : Nat) : (s.answer v e).on f k l = s.on f k l := rfl

/-! ### modChip -/

@[simp] theorem modChip_pending (s : State) (g : Chip → Chip) : (s.modChip g).pending = s.pending := rfl
@[simp] theorem modChip_regs (s : State) (g : Chip → Chip) : (s.modChip g).regs = s.regs := rfl
@[simp] theorem modChip_hold (s : State) (g : Chip → Chip) : (s.modChip g).hold = s.hold := rfl
@[simp] theorem modChip_dram (s : State) (g : Chip → Chip) : (s.modChip g).dram = s.dram := rfl
@[simp] theorem modChip_mram (s : State) (g : Chip → Chip) : (s.modChip g).mram = s.mram := rfl
@[simp] theorem modChip_tarn (s : State) (g : Chip → Chip) : (s.modChip g).tarn = s.tarn := rfl
@[simp] theorem modChip_ram (s : State) (g : Chip → Chip) : (s.modChip g).ram = s.ram := rfl
@[simp] theorem modChip_pins (s : State) (g : Chip → Chip) : (s.modChip g).pins = s.pins := rfl
@[simp] theorem modChip_img (s : State) (g : Chip → Chip) : (s.modChip g).img = s.img := rfl
@[simp] theorem modChip_gov (s : State) (g : Chip → Chip) : (s.modChip g).gov = s.gov := rfl
@[simp] theorem modChip_fab (s : State) (g : Chip → Chip) : (s.modChip g).fab = s.fab := rfl
@[simp] theorem modChip_inl (s : State) (g : Chip → Chip) : (s.modChip g).inl = s.inl := rfl
@[simp] theorem modChip_tbs (s : State) (g : Chip → Chip) : (s.modChip g).tbs = s.tbs := rfl
@[simp] theorem modChip_own (s : State) (g : Chip → Chip) : (s.modChip g).own = s.own := rfl
@[simp] theorem modChip_locks (s : State) (g : Chip → Chip) : (s.modChip g).locks = s.locks := rfl
@[simp] theorem modChip_host (s : State) (g : Chip → Chip) : (s.modChip g).host = s.host := rfl
@[simp] theorem modChip_res (s : State) (g : Chip → Chip) : (s.modChip g).res = s.res := rfl
@[simp] theorem modChip_bas (s : State) (g : Chip → Chip) : (s.modChip g).bas = s.bas := rfl
@[simp] theorem modChip_tst (s : State) (g : Chip → Chip) : (s.modChip g).tst = s.tst := rfl
@[simp] theorem modChip_out (s : State) (g : Chip → Chip) : (s.modChip g).out = s.out := rfl
@[simp] theorem modChip_snd (s : State) (g : Chip → Chip) : (s.modChip g).snd = s.snd := rfl
@[simp] theorem modChip_ptg (s : State) (g : Chip → Chip) : (s.modChip g).ptg = s.ptg := rfl
@[simp] theorem modChip_wel (s : State) (g : Chip → Chip) : (s.modChip g).wel = s.wel := rfl
@[simp] theorem modChip_loch (s : State) (g : Chip → Chip) : (s.modChip g).loch = s.loch := rfl
@[simp] theorem modChip_whd (s : State) (g : Chip → Chip) : (s.modChip g).whd = s.whd := rfl
@[simp] theorem modChip_pool (s : State) (g : Chip → Chip) : (s.modChip g).pool = s.pool := rfl
@[simp] theorem modChip_pla (s : State) (g : Chip → Chip) : (s.modChip g).pla = s.pla := rfl
@[simp] theorem modChip_sha (s : State) (g : Chip → Chip) : (s.modChip g).sha = s.sha := rfl
@[simp] theorem modChip_drg (s : State) (g : Chip → Chip) : (s.modChip g).drg = s.drg := rfl
@[simp] theorem modChip_elapsed (s : State) (g : Chip → Chip) : (s.modChip g).elapsed = s.elapsed := rfl
@[simp] theorem modChip_fresh (s : State) (g : Chip → Chip) : (s.modChip g).fresh = s.fresh := rfl
@[simp] theorem modChip_sent (s : State) (g : Chip → Chip) : (s.modChip g).sent = s.sent := rfl
@[simp] theorem modChip_resp (s : State) (g : Chip → Chip) : (s.modChip g).resp = s.resp := rfl
@[simp] theorem modChip_chip (s : State) (g : Chip → Chip) : (s.modChip g).chip = g s.chip := rfl
@[simp] theorem modChip_rd (s : State) (g : Chip → Chip) (f : Fld) (k l : Nat) : (s.modChip g).rd f k l = s.rd f k l := rfl
@[simp] theorem modChip_on (s : State) (g : Chip → Chip) (f : Fld) (k l : Nat) : (s.modChip g).on f k l = s.on f k l := rfl

/-! ### modPins -/

@[simp] theorem modPins_pending (s : State) (g : Pins → Pins) : (s.modPins g).pending = s.pending := rfl
@[simp] theorem modPins_regs (s : State) (g : Pins → Pins) : (s.modPins g).regs = s.regs := rfl
@[simp] theorem modPins_hold (s : State) (g : Pins → Pins) : (s.modPins g).hold = s.hold := rfl
@[simp] theorem modPins_dram (s : State) (g : Pins → Pins) : (s.modPins g).dram = s.dram := rfl
@[simp] theorem modPins_mram (s : State) (g : Pins → Pins) : (s.modPins g).mram = s.mram := rfl
@[simp] theorem modPins_tarn (s : State) (g : Pins → Pins) : (s.modPins g).tarn = s.tarn := rfl
@[simp] theorem modPins_ram (s : State) (g : Pins → Pins) : (s.modPins g).ram = s.ram := rfl
@[simp] theorem modPins_chip (s : State) (g : Pins → Pins) : (s.modPins g).chip = s.chip := rfl
@[simp] theorem modPins_img (s : State) (g : Pins → Pins) : (s.modPins g).img = s.img := rfl
@[simp] theorem modPins_gov (s : State) (g : Pins → Pins) : (s.modPins g).gov = s.gov := rfl
@[simp] theorem modPins_fab (s : State) (g : Pins → Pins) : (s.modPins g).fab = s.fab := rfl
@[simp] theorem modPins_inl (s : State) (g : Pins → Pins) : (s.modPins g).inl = s.inl := rfl
@[simp] theorem modPins_tbs (s : State) (g : Pins → Pins) : (s.modPins g).tbs = s.tbs := rfl
@[simp] theorem modPins_own (s : State) (g : Pins → Pins) : (s.modPins g).own = s.own := rfl
@[simp] theorem modPins_locks (s : State) (g : Pins → Pins) : (s.modPins g).locks = s.locks := rfl
@[simp] theorem modPins_host (s : State) (g : Pins → Pins) : (s.modPins g).host = s.host := rfl
@[simp] theorem modPins_res (s : State) (g : Pins → Pins) : (s.modPins g).res = s.res := rfl
@[simp] theorem modPins_bas (s : State) (g : Pins → Pins) : (s.modPins g).bas = s.bas := rfl
@[simp] theorem modPins_tst (s : State) (g : Pins → Pins) : (s.modPins g).tst = s.tst := rfl
@[simp] theorem modPins_out (s : State) (g : Pins → Pins) : (s.modPins g).out = s.out := rfl
@[simp] theorem modPins_snd (s : State) (g : Pins → Pins) : (s.modPins g).snd = s.snd := rfl
@[simp] theorem modPins_ptg (s : State) (g : Pins → Pins) : (s.modPins g).ptg = s.ptg := rfl
@[simp] theorem modPins_wel (s : State) (g : Pins → Pins) : (s.modPins g).wel = s.wel := rfl
@[simp] theorem modPins_loch (s : State) (g : Pins → Pins) : (s.modPins g).loch = s.loch := rfl
@[simp] theorem modPins_whd (s : State) (g : Pins → Pins) : (s.modPins g).whd = s.whd := rfl
@[simp] theorem modPins_pool (s : State) (g : Pins → Pins) : (s.modPins g).pool = s.pool := rfl
@[simp] theorem modPins_pla (s : State) (g : Pins → Pins) : (s.modPins g).pla = s.pla := rfl
@[simp] theorem modPins_sha (s : State) (g : Pins → Pins) : (s.modPins g).sha = s.sha := rfl
@[simp] theorem modPins_drg (s : State) (g : Pins → Pins) : (s.modPins g).drg = s.drg := rfl
@[simp] theorem modPins_elapsed (s : State) (g : Pins → Pins) : (s.modPins g).elapsed = s.elapsed := rfl
@[simp] theorem modPins_fresh (s : State) (g : Pins → Pins) : (s.modPins g).fresh = s.fresh := rfl
@[simp] theorem modPins_sent (s : State) (g : Pins → Pins) : (s.modPins g).sent = s.sent := rfl
@[simp] theorem modPins_resp (s : State) (g : Pins → Pins) : (s.modPins g).resp = s.resp := rfl
@[simp] theorem modPins_pins (s : State) (g : Pins → Pins) : (s.modPins g).pins = g s.pins := rfl
@[simp] theorem modPins_rd (s : State) (g : Pins → Pins) (f : Fld) (k l : Nat) : (s.modPins g).rd f k l = s.rd f k l := rfl
@[simp] theorem modPins_on (s : State) (g : Pins → Pins) (f : Fld) (k l : Nat) : (s.modPins g).on f k l = s.on f k l := rfl

/-! ### modImg -/

@[simp] theorem modImg_pending (s : State) (g : Image → Image) : (s.modImg g).pending = s.pending := rfl
@[simp] theorem modImg_regs (s : State) (g : Image → Image) : (s.modImg g).regs = s.regs := rfl
@[simp] theorem modImg_hold (s : State) (g : Image → Image) : (s.modImg g).hold = s.hold := rfl
@[simp] theorem modImg_dram (s : State) (g : Image → Image) : (s.modImg g).dram = s.dram := rfl
@[simp] theorem modImg_mram (s : State) (g : Image → Image) : (s.modImg g).mram = s.mram := rfl
@[simp] theorem modImg_tarn (s : State) (g : Image → Image) : (s.modImg g).tarn = s.tarn := rfl
@[simp] theorem modImg_ram (s : State) (g : Image → Image) : (s.modImg g).ram = s.ram := rfl
@[simp] theorem modImg_chip (s : State) (g : Image → Image) : (s.modImg g).chip = s.chip := rfl
@[simp] theorem modImg_pins (s : State) (g : Image → Image) : (s.modImg g).pins = s.pins := rfl
@[simp] theorem modImg_gov (s : State) (g : Image → Image) : (s.modImg g).gov = s.gov := rfl
@[simp] theorem modImg_fab (s : State) (g : Image → Image) : (s.modImg g).fab = s.fab := rfl
@[simp] theorem modImg_inl (s : State) (g : Image → Image) : (s.modImg g).inl = s.inl := rfl
@[simp] theorem modImg_tbs (s : State) (g : Image → Image) : (s.modImg g).tbs = s.tbs := rfl
@[simp] theorem modImg_own (s : State) (g : Image → Image) : (s.modImg g).own = s.own := rfl
@[simp] theorem modImg_locks (s : State) (g : Image → Image) : (s.modImg g).locks = s.locks := rfl
@[simp] theorem modImg_host (s : State) (g : Image → Image) : (s.modImg g).host = s.host := rfl
@[simp] theorem modImg_res (s : State) (g : Image → Image) : (s.modImg g).res = s.res := rfl
@[simp] theorem modImg_bas (s : State) (g : Image → Image) : (s.modImg g).bas = s.bas := rfl
@[simp] theorem modImg_tst (s : State) (g : Image → Image) : (s.modImg g).tst = s.tst := rfl
@[simp] theorem modImg_out (s : State) (g : Image → Image) : (s.modImg g).out = s.out := rfl
@[simp] theorem modImg_snd (s : State) (g : Image → Image) : (s.modImg g).snd = s.snd := rfl
@[simp] theorem modImg_ptg (s : State) (g : Image → Image) : (s.modImg g).ptg = s.ptg := rfl
@[simp] theorem modImg_wel (s : State) (g : Image → Image) : (s.modImg g).wel = s.wel := rfl
@[simp] theorem modImg_loch (s : State) (g : Image → Image) : (s.modImg g).loch = s.loch := rfl
@[simp] theorem modImg_whd (s : State) (g : Image → Image) : (s.modImg g).whd = s.whd := rfl
@[simp] theorem modImg_pool (s : State) (g : Image → Image) : (s.modImg g).pool = s.pool := rfl
@[simp] theorem modImg_pla (s : State) (g : Image → Image) : (s.modImg g).pla = s.pla := rfl
@[simp] theorem modImg_sha (s : State) (g : Image → Image) : (s.modImg g).sha = s.sha := rfl
@[simp] theorem modImg_drg (s : State) (g : Image → Image) : (s.modImg g).drg = s.drg := rfl
@[simp] theorem modImg_elapsed (s : State) (g : Image → Image) : (s.modImg g).elapsed = s.elapsed := rfl
@[simp] theorem modImg_fresh (s : State) (g : Image → Image) : (s.modImg g).fresh = s.fresh := rfl
@[simp] theorem modImg_sent (s : State) (g : Image → Image) : (s.modImg g).sent = s.sent := rfl
@[simp] theorem modImg_resp (s : State) (g : Image → Image) : (s.modImg g).resp = s.resp := rfl
@[simp] theorem modImg_img (s : State) (g : Image → Image) : (s.modImg g).img = g s.img := rfl
@[simp] theorem modImg_rd (s : State) (g : Image → Image) (f : Fld) (k l : Nat) : (s.modImg g).rd f k l = s.rd f k l := rfl
@[simp] theorem modImg_on (s : State) (g : Image → Image) (f : Fld) (k l : Nat) : (s.modImg g).on f k l = s.on f k l := rfl

/-! ### modGov -/

@[simp] theorem modGov_pending (s : State) (g : Gov → Gov) : (s.modGov g).pending = s.pending := rfl
@[simp] theorem modGov_regs (s : State) (g : Gov → Gov) : (s.modGov g).regs = s.regs := rfl
@[simp] theorem modGov_hold (s : State) (g : Gov → Gov) : (s.modGov g).hold = s.hold := rfl
@[simp] theorem modGov_dram (s : State) (g : Gov → Gov) : (s.modGov g).dram = s.dram := rfl
@[simp] theorem modGov_mram (s : State) (g : Gov → Gov) : (s.modGov g).mram = s.mram := rfl
@[simp] theorem modGov_tarn (s : State) (g : Gov → Gov) : (s.modGov g).tarn = s.tarn := rfl
@[simp] theorem modGov_ram (s : State) (g : Gov → Gov) : (s.modGov g).ram = s.ram := rfl
@[simp] theorem modGov_chip (s : State) (g : Gov → Gov) : (s.modGov g).chip = s.chip := rfl
@[simp] theorem modGov_pins (s : State) (g : Gov → Gov) : (s.modGov g).pins = s.pins := rfl
@[simp] theorem modGov_img (s : State) (g : Gov → Gov) : (s.modGov g).img = s.img := rfl
@[simp] theorem modGov_fab (s : State) (g : Gov → Gov) : (s.modGov g).fab = s.fab := rfl
@[simp] theorem modGov_inl (s : State) (g : Gov → Gov) : (s.modGov g).inl = s.inl := rfl
@[simp] theorem modGov_tbs (s : State) (g : Gov → Gov) : (s.modGov g).tbs = s.tbs := rfl
@[simp] theorem modGov_own (s : State) (g : Gov → Gov) : (s.modGov g).own = s.own := rfl
@[simp] theorem modGov_locks (s : State) (g : Gov → Gov) : (s.modGov g).locks = s.locks := rfl
@[simp] theorem modGov_host (s : State) (g : Gov → Gov) : (s.modGov g).host = s.host := rfl
@[simp] theorem modGov_res (s : State) (g : Gov → Gov) : (s.modGov g).res = s.res := rfl
@[simp] theorem modGov_bas (s : State) (g : Gov → Gov) : (s.modGov g).bas = s.bas := rfl
@[simp] theorem modGov_tst (s : State) (g : Gov → Gov) : (s.modGov g).tst = s.tst := rfl
@[simp] theorem modGov_out (s : State) (g : Gov → Gov) : (s.modGov g).out = s.out := rfl
@[simp] theorem modGov_snd (s : State) (g : Gov → Gov) : (s.modGov g).snd = s.snd := rfl
@[simp] theorem modGov_ptg (s : State) (g : Gov → Gov) : (s.modGov g).ptg = s.ptg := rfl
@[simp] theorem modGov_wel (s : State) (g : Gov → Gov) : (s.modGov g).wel = s.wel := rfl
@[simp] theorem modGov_loch (s : State) (g : Gov → Gov) : (s.modGov g).loch = s.loch := rfl
@[simp] theorem modGov_whd (s : State) (g : Gov → Gov) : (s.modGov g).whd = s.whd := rfl
@[simp] theorem modGov_pool (s : State) (g : Gov → Gov) : (s.modGov g).pool = s.pool := rfl
@[simp] theorem modGov_pla (s : State) (g : Gov → Gov) : (s.modGov g).pla = s.pla := rfl
@[simp] theorem modGov_sha (s : State) (g : Gov → Gov) : (s.modGov g).sha = s.sha := rfl
@[simp] theorem modGov_drg (s : State) (g : Gov → Gov) : (s.modGov g).drg = s.drg := rfl
@[simp] theorem modGov_elapsed (s : State) (g : Gov → Gov) : (s.modGov g).elapsed = s.elapsed := rfl
@[simp] theorem modGov_fresh (s : State) (g : Gov → Gov) : (s.modGov g).fresh = s.fresh := rfl
@[simp] theorem modGov_sent (s : State) (g : Gov → Gov) : (s.modGov g).sent = s.sent := rfl
@[simp] theorem modGov_resp (s : State) (g : Gov → Gov) : (s.modGov g).resp = s.resp := rfl
@[simp] theorem modGov_gov (s : State) (g : Gov → Gov) : (s.modGov g).gov = g s.gov := rfl
@[simp] theorem modGov_rd (s : State) (g : Gov → Gov) (f : Fld) (k l : Nat) : (s.modGov g).rd f k l = s.rd f k l := rfl
@[simp] theorem modGov_on (s : State) (g : Gov → Gov) (f : Fld) (k l : Nat) : (s.modGov g).on f k l = s.on f k l := rfl

/-! ### modFab -/

@[simp] theorem modFab_pending (s : State) (g : Fabric → Fabric) : (s.modFab g).pending = s.pending := rfl
@[simp] theorem modFab_regs (s : State) (g : Fabric → Fabric) : (s.modFab g).regs = s.regs := rfl
@[simp] theorem modFab_hold (s : State) (g : Fabric → Fabric) : (s.modFab g).hold = s.hold := rfl
@[simp] theorem modFab_dram (s : State) (g : Fabric → Fabric) : (s.modFab g).dram = s.dram := rfl
@[simp] theorem modFab_mram (s : State) (g : Fabric → Fabric) : (s.modFab g).mram = s.mram := rfl
@[simp] theorem modFab_tarn (s : State) (g : Fabric → Fabric) : (s.modFab g).tarn = s.tarn := rfl
@[simp] theorem modFab_ram (s : State) (g : Fabric → Fabric) : (s.modFab g).ram = s.ram := rfl
@[simp] theorem modFab_chip (s : State) (g : Fabric → Fabric) : (s.modFab g).chip = s.chip := rfl
@[simp] theorem modFab_pins (s : State) (g : Fabric → Fabric) : (s.modFab g).pins = s.pins := rfl
@[simp] theorem modFab_img (s : State) (g : Fabric → Fabric) : (s.modFab g).img = s.img := rfl
@[simp] theorem modFab_gov (s : State) (g : Fabric → Fabric) : (s.modFab g).gov = s.gov := rfl
@[simp] theorem modFab_inl (s : State) (g : Fabric → Fabric) : (s.modFab g).inl = s.inl := rfl
@[simp] theorem modFab_tbs (s : State) (g : Fabric → Fabric) : (s.modFab g).tbs = s.tbs := rfl
@[simp] theorem modFab_own (s : State) (g : Fabric → Fabric) : (s.modFab g).own = s.own := rfl
@[simp] theorem modFab_locks (s : State) (g : Fabric → Fabric) : (s.modFab g).locks = s.locks := rfl
@[simp] theorem modFab_host (s : State) (g : Fabric → Fabric) : (s.modFab g).host = s.host := rfl
@[simp] theorem modFab_res (s : State) (g : Fabric → Fabric) : (s.modFab g).res = s.res := rfl
@[simp] theorem modFab_bas (s : State) (g : Fabric → Fabric) : (s.modFab g).bas = s.bas := rfl
@[simp] theorem modFab_tst (s : State) (g : Fabric → Fabric) : (s.modFab g).tst = s.tst := rfl
@[simp] theorem modFab_out (s : State) (g : Fabric → Fabric) : (s.modFab g).out = s.out := rfl
@[simp] theorem modFab_snd (s : State) (g : Fabric → Fabric) : (s.modFab g).snd = s.snd := rfl
@[simp] theorem modFab_ptg (s : State) (g : Fabric → Fabric) : (s.modFab g).ptg = s.ptg := rfl
@[simp] theorem modFab_wel (s : State) (g : Fabric → Fabric) : (s.modFab g).wel = s.wel := rfl
@[simp] theorem modFab_loch (s : State) (g : Fabric → Fabric) : (s.modFab g).loch = s.loch := rfl
@[simp] theorem modFab_whd (s : State) (g : Fabric → Fabric) : (s.modFab g).whd = s.whd := rfl
@[simp] theorem modFab_pool (s : State) (g : Fabric → Fabric) : (s.modFab g).pool = s.pool := rfl
@[simp] theorem modFab_pla (s : State) (g : Fabric → Fabric) : (s.modFab g).pla = s.pla := rfl
@[simp] theorem modFab_sha (s : State) (g : Fabric → Fabric) : (s.modFab g).sha = s.sha := rfl
@[simp] theorem modFab_drg (s : State) (g : Fabric → Fabric) : (s.modFab g).drg = s.drg := rfl
@[simp] theorem modFab_elapsed (s : State) (g : Fabric → Fabric) : (s.modFab g).elapsed = s.elapsed := rfl
@[simp] theorem modFab_fresh (s : State) (g : Fabric → Fabric) : (s.modFab g).fresh = s.fresh := rfl
@[simp] theorem modFab_sent (s : State) (g : Fabric → Fabric) : (s.modFab g).sent = s.sent := rfl
@[simp] theorem modFab_resp (s : State) (g : Fabric → Fabric) : (s.modFab g).resp = s.resp := rfl
@[simp] theorem modFab_fab (s : State) (g : Fabric → Fabric) : (s.modFab g).fab = g s.fab := rfl
@[simp] theorem modFab_rd (s : State) (g : Fabric → Fabric) (f : Fld) (k l : Nat) : (s.modFab g).rd f k l = s.rd f k l := rfl
@[simp] theorem modFab_on (s : State) (g : Fabric → Fabric) (f : Fld) (k l : Nat) : (s.modFab g).on f k l = s.on f k l := rfl

/-! ### modTbs -/

@[simp] theorem modTbs_pending (s : State) (g : Tbs → Tbs) : (s.modTbs g).pending = s.pending := rfl
@[simp] theorem modTbs_regs (s : State) (g : Tbs → Tbs) : (s.modTbs g).regs = s.regs := rfl
@[simp] theorem modTbs_hold (s : State) (g : Tbs → Tbs) : (s.modTbs g).hold = s.hold := rfl
@[simp] theorem modTbs_dram (s : State) (g : Tbs → Tbs) : (s.modTbs g).dram = s.dram := rfl
@[simp] theorem modTbs_mram (s : State) (g : Tbs → Tbs) : (s.modTbs g).mram = s.mram := rfl
@[simp] theorem modTbs_tarn (s : State) (g : Tbs → Tbs) : (s.modTbs g).tarn = s.tarn := rfl
@[simp] theorem modTbs_ram (s : State) (g : Tbs → Tbs) : (s.modTbs g).ram = s.ram := rfl
@[simp] theorem modTbs_chip (s : State) (g : Tbs → Tbs) : (s.modTbs g).chip = s.chip := rfl
@[simp] theorem modTbs_pins (s : State) (g : Tbs → Tbs) : (s.modTbs g).pins = s.pins := rfl
@[simp] theorem modTbs_img (s : State) (g : Tbs → Tbs) : (s.modTbs g).img = s.img := rfl
@[simp] theorem modTbs_gov (s : State) (g : Tbs → Tbs) : (s.modTbs g).gov = s.gov := rfl
@[simp] theorem modTbs_fab (s : State) (g : Tbs → Tbs) : (s.modTbs g).fab = s.fab := rfl
@[simp] theorem modTbs_inl (s : State) (g : Tbs → Tbs) : (s.modTbs g).inl = s.inl := rfl
@[simp] theorem modTbs_own (s : State) (g : Tbs → Tbs) : (s.modTbs g).own = s.own := rfl
@[simp] theorem modTbs_locks (s : State) (g : Tbs → Tbs) : (s.modTbs g).locks = s.locks := rfl
@[simp] theorem modTbs_host (s : State) (g : Tbs → Tbs) : (s.modTbs g).host = s.host := rfl
@[simp] theorem modTbs_res (s : State) (g : Tbs → Tbs) : (s.modTbs g).res = s.res := rfl
@[simp] theorem modTbs_bas (s : State) (g : Tbs → Tbs) : (s.modTbs g).bas = s.bas := rfl
@[simp] theorem modTbs_tst (s : State) (g : Tbs → Tbs) : (s.modTbs g).tst = s.tst := rfl
@[simp] theorem modTbs_out (s : State) (g : Tbs → Tbs) : (s.modTbs g).out = s.out := rfl
@[simp] theorem modTbs_snd (s : State) (g : Tbs → Tbs) : (s.modTbs g).snd = s.snd := rfl
@[simp] theorem modTbs_ptg (s : State) (g : Tbs → Tbs) : (s.modTbs g).ptg = s.ptg := rfl
@[simp] theorem modTbs_wel (s : State) (g : Tbs → Tbs) : (s.modTbs g).wel = s.wel := rfl
@[simp] theorem modTbs_loch (s : State) (g : Tbs → Tbs) : (s.modTbs g).loch = s.loch := rfl
@[simp] theorem modTbs_whd (s : State) (g : Tbs → Tbs) : (s.modTbs g).whd = s.whd := rfl
@[simp] theorem modTbs_pool (s : State) (g : Tbs → Tbs) : (s.modTbs g).pool = s.pool := rfl
@[simp] theorem modTbs_pla (s : State) (g : Tbs → Tbs) : (s.modTbs g).pla = s.pla := rfl
@[simp] theorem modTbs_sha (s : State) (g : Tbs → Tbs) : (s.modTbs g).sha = s.sha := rfl
@[simp] theorem modTbs_drg (s : State) (g : Tbs → Tbs) : (s.modTbs g).drg = s.drg := rfl
@[simp] theorem modTbs_elapsed (s : State) (g : Tbs → Tbs) : (s.modTbs g).elapsed = s.elapsed := rfl
@[simp] theorem modTbs_fresh (s : State) (g : Tbs → Tbs) : (s.modTbs g).fresh = s.fresh := rfl
@[simp] theorem modTbs_sent (s : State) (g : Tbs → Tbs) : (s.modTbs g).sent = s.sent := rfl
@[simp] theorem modTbs_resp (s : State) (g : Tbs → Tbs) : (s.modTbs g).resp = s.resp := rfl
@[simp] theorem modTbs_tbs (s : State) (g : Tbs → Tbs) : (s.modTbs g).tbs = g s.tbs := rfl
@[simp] theorem modTbs_rd (s : State) (g : Tbs → Tbs) (f : Fld) (k l : Nat) : (s.modTbs g).rd f k l = s.rd f k l := rfl
@[simp] theorem modTbs_on (s : State) (g : Tbs → Tbs) (f : Fld) (k l : Nat) : (s.modTbs g).on f k l = s.on f k l := rfl

/-! ### modOwn -/

@[simp] theorem modOwn_pending (s : State) (g : Owner → Owner) : (s.modOwn g).pending = s.pending := rfl
@[simp] theorem modOwn_regs (s : State) (g : Owner → Owner) : (s.modOwn g).regs = s.regs := rfl
@[simp] theorem modOwn_hold (s : State) (g : Owner → Owner) : (s.modOwn g).hold = s.hold := rfl
@[simp] theorem modOwn_dram (s : State) (g : Owner → Owner) : (s.modOwn g).dram = s.dram := rfl
@[simp] theorem modOwn_mram (s : State) (g : Owner → Owner) : (s.modOwn g).mram = s.mram := rfl
@[simp] theorem modOwn_tarn (s : State) (g : Owner → Owner) : (s.modOwn g).tarn = s.tarn := rfl
@[simp] theorem modOwn_ram (s : State) (g : Owner → Owner) : (s.modOwn g).ram = s.ram := rfl
@[simp] theorem modOwn_chip (s : State) (g : Owner → Owner) : (s.modOwn g).chip = s.chip := rfl
@[simp] theorem modOwn_pins (s : State) (g : Owner → Owner) : (s.modOwn g).pins = s.pins := rfl
@[simp] theorem modOwn_img (s : State) (g : Owner → Owner) : (s.modOwn g).img = s.img := rfl
@[simp] theorem modOwn_gov (s : State) (g : Owner → Owner) : (s.modOwn g).gov = s.gov := rfl
@[simp] theorem modOwn_fab (s : State) (g : Owner → Owner) : (s.modOwn g).fab = s.fab := rfl
@[simp] theorem modOwn_inl (s : State) (g : Owner → Owner) : (s.modOwn g).inl = s.inl := rfl
@[simp] theorem modOwn_tbs (s : State) (g : Owner → Owner) : (s.modOwn g).tbs = s.tbs := rfl
@[simp] theorem modOwn_locks (s : State) (g : Owner → Owner) : (s.modOwn g).locks = s.locks := rfl
@[simp] theorem modOwn_host (s : State) (g : Owner → Owner) : (s.modOwn g).host = s.host := rfl
@[simp] theorem modOwn_res (s : State) (g : Owner → Owner) : (s.modOwn g).res = s.res := rfl
@[simp] theorem modOwn_bas (s : State) (g : Owner → Owner) : (s.modOwn g).bas = s.bas := rfl
@[simp] theorem modOwn_tst (s : State) (g : Owner → Owner) : (s.modOwn g).tst = s.tst := rfl
@[simp] theorem modOwn_out (s : State) (g : Owner → Owner) : (s.modOwn g).out = s.out := rfl
@[simp] theorem modOwn_snd (s : State) (g : Owner → Owner) : (s.modOwn g).snd = s.snd := rfl
@[simp] theorem modOwn_ptg (s : State) (g : Owner → Owner) : (s.modOwn g).ptg = s.ptg := rfl
@[simp] theorem modOwn_wel (s : State) (g : Owner → Owner) : (s.modOwn g).wel = s.wel := rfl
@[simp] theorem modOwn_loch (s : State) (g : Owner → Owner) : (s.modOwn g).loch = s.loch := rfl
@[simp] theorem modOwn_whd (s : State) (g : Owner → Owner) : (s.modOwn g).whd = s.whd := rfl
@[simp] theorem modOwn_pool (s : State) (g : Owner → Owner) : (s.modOwn g).pool = s.pool := rfl
@[simp] theorem modOwn_pla (s : State) (g : Owner → Owner) : (s.modOwn g).pla = s.pla := rfl
@[simp] theorem modOwn_sha (s : State) (g : Owner → Owner) : (s.modOwn g).sha = s.sha := rfl
@[simp] theorem modOwn_drg (s : State) (g : Owner → Owner) : (s.modOwn g).drg = s.drg := rfl
@[simp] theorem modOwn_elapsed (s : State) (g : Owner → Owner) : (s.modOwn g).elapsed = s.elapsed := rfl
@[simp] theorem modOwn_fresh (s : State) (g : Owner → Owner) : (s.modOwn g).fresh = s.fresh := rfl
@[simp] theorem modOwn_sent (s : State) (g : Owner → Owner) : (s.modOwn g).sent = s.sent := rfl
@[simp] theorem modOwn_resp (s : State) (g : Owner → Owner) : (s.modOwn g).resp = s.resp := rfl
@[simp] theorem modOwn_own (s : State) (g : Owner → Owner) : (s.modOwn g).own = g s.own := rfl
@[simp] theorem modOwn_rd (s : State) (g : Owner → Owner) (f : Fld) (k l : Nat) : (s.modOwn g).rd f k l = s.rd f k l := rfl
@[simp] theorem modOwn_on (s : State) (g : Owner → Owner) (f : Fld) (k l : Nat) : (s.modOwn g).on f k l = s.on f k l := rfl

/-! ### modHost -/

@[simp] theorem modHost_pending (s : State) (g : Host_ → Host_) : (s.modHost g).pending = s.pending := rfl
@[simp] theorem modHost_regs (s : State) (g : Host_ → Host_) : (s.modHost g).regs = s.regs := rfl
@[simp] theorem modHost_hold (s : State) (g : Host_ → Host_) : (s.modHost g).hold = s.hold := rfl
@[simp] theorem modHost_dram (s : State) (g : Host_ → Host_) : (s.modHost g).dram = s.dram := rfl
@[simp] theorem modHost_mram (s : State) (g : Host_ → Host_) : (s.modHost g).mram = s.mram := rfl
@[simp] theorem modHost_tarn (s : State) (g : Host_ → Host_) : (s.modHost g).tarn = s.tarn := rfl
@[simp] theorem modHost_ram (s : State) (g : Host_ → Host_) : (s.modHost g).ram = s.ram := rfl
@[simp] theorem modHost_chip (s : State) (g : Host_ → Host_) : (s.modHost g).chip = s.chip := rfl
@[simp] theorem modHost_pins (s : State) (g : Host_ → Host_) : (s.modHost g).pins = s.pins := rfl
@[simp] theorem modHost_img (s : State) (g : Host_ → Host_) : (s.modHost g).img = s.img := rfl
@[simp] theorem modHost_gov (s : State) (g : Host_ → Host_) : (s.modHost g).gov = s.gov := rfl
@[simp] theorem modHost_fab (s : State) (g : Host_ → Host_) : (s.modHost g).fab = s.fab := rfl
@[simp] theorem modHost_inl (s : State) (g : Host_ → Host_) : (s.modHost g).inl = s.inl := rfl
@[simp] theorem modHost_tbs (s : State) (g : Host_ → Host_) : (s.modHost g).tbs = s.tbs := rfl
@[simp] theorem modHost_own (s : State) (g : Host_ → Host_) : (s.modHost g).own = s.own := rfl
@[simp] theorem modHost_locks (s : State) (g : Host_ → Host_) : (s.modHost g).locks = s.locks := rfl
@[simp] theorem modHost_res (s : State) (g : Host_ → Host_) : (s.modHost g).res = s.res := rfl
@[simp] theorem modHost_bas (s : State) (g : Host_ → Host_) : (s.modHost g).bas = s.bas := rfl
@[simp] theorem modHost_tst (s : State) (g : Host_ → Host_) : (s.modHost g).tst = s.tst := rfl
@[simp] theorem modHost_out (s : State) (g : Host_ → Host_) : (s.modHost g).out = s.out := rfl
@[simp] theorem modHost_snd (s : State) (g : Host_ → Host_) : (s.modHost g).snd = s.snd := rfl
@[simp] theorem modHost_ptg (s : State) (g : Host_ → Host_) : (s.modHost g).ptg = s.ptg := rfl
@[simp] theorem modHost_wel (s : State) (g : Host_ → Host_) : (s.modHost g).wel = s.wel := rfl
@[simp] theorem modHost_loch (s : State) (g : Host_ → Host_) : (s.modHost g).loch = s.loch := rfl
@[simp] theorem modHost_whd (s : State) (g : Host_ → Host_) : (s.modHost g).whd = s.whd := rfl
@[simp] theorem modHost_pool (s : State) (g : Host_ → Host_) : (s.modHost g).pool = s.pool := rfl
@[simp] theorem modHost_pla (s : State) (g : Host_ → Host_) : (s.modHost g).pla = s.pla := rfl
@[simp] theorem modHost_sha (s : State) (g : Host_ → Host_) : (s.modHost g).sha = s.sha := rfl
@[simp] theorem modHost_drg (s : State) (g : Host_ → Host_) : (s.modHost g).drg = s.drg := rfl
@[simp] theorem modHost_elapsed (s : State) (g : Host_ → Host_) : (s.modHost g).elapsed = s.elapsed := rfl
@[simp] theorem modHost_fresh (s : State) (g : Host_ → Host_) : (s.modHost g).fresh = s.fresh := rfl
@[simp] theorem modHost_sent (s : State) (g : Host_ → Host_) : (s.modHost g).sent = s.sent := rfl
@[simp] theorem modHost_resp (s : State) (g : Host_ → Host_) : (s.modHost g).resp = s.resp := rfl
@[simp] theorem modHost_host (s : State) (g : Host_ → Host_) : (s.modHost g).host = g s.host := rfl
@[simp] theorem modHost_rd (s : State) (g : Host_ → Host_) (f : Fld) (k l : Nat) : (s.modHost g).rd f k l = s.rd f k l := rfl
@[simp] theorem modHost_on (s : State) (g : Host_ → Host_) (f : Fld) (k l : Nat) : (s.modHost g).on f k l = s.on f k l := rfl

/-! ### modRes -/

@[simp] theorem modRes_pending (s : State) (g : Res → Res) : (s.modRes g).pending = s.pending := rfl
@[simp] theorem modRes_regs (s : State) (g : Res → Res) : (s.modRes g).regs = s.regs := rfl
@[simp] theorem modRes_hold (s : State) (g : Res → Res) : (s.modRes g).hold = s.hold := rfl
@[simp] theorem modRes_dram (s : State) (g : Res → Res) : (s.modRes g).dram = s.dram := rfl
@[simp] theorem modRes_mram (s : State) (g : Res → Res) : (s.modRes g).mram = s.mram := rfl
@[simp] theorem modRes_tarn (s : State) (g : Res → Res) : (s.modRes g).tarn = s.tarn := rfl
@[simp] theorem modRes_ram (s : State) (g : Res → Res) : (s.modRes g).ram = s.ram := rfl
@[simp] theorem modRes_chip (s : State) (g : Res → Res) : (s.modRes g).chip = s.chip := rfl
@[simp] theorem modRes_pins (s : State) (g : Res → Res) : (s.modRes g).pins = s.pins := rfl
@[simp] theorem modRes_img (s : State) (g : Res → Res) : (s.modRes g).img = s.img := rfl
@[simp] theorem modRes_gov (s : State) (g : Res → Res) : (s.modRes g).gov = s.gov := rfl
@[simp] theorem modRes_fab (s : State) (g : Res → Res) : (s.modRes g).fab = s.fab := rfl
@[simp] theorem modRes_inl (s : State) (g : Res → Res) : (s.modRes g).inl = s.inl := rfl
@[simp] theorem modRes_tbs (s : State) (g : Res → Res) : (s.modRes g).tbs = s.tbs := rfl
@[simp] theorem modRes_own (s : State) (g : Res → Res) : (s.modRes g).own = s.own := rfl
@[simp] theorem modRes_locks (s : State) (g : Res → Res) : (s.modRes g).locks = s.locks := rfl
@[simp] theorem modRes_host (s : State) (g : Res → Res) : (s.modRes g).host = s.host := rfl
@[simp] theorem modRes_bas (s : State) (g : Res → Res) : (s.modRes g).bas = s.bas := rfl
@[simp] theorem modRes_tst (s : State) (g : Res → Res) : (s.modRes g).tst = s.tst := rfl
@[simp] theorem modRes_out (s : State) (g : Res → Res) : (s.modRes g).out = s.out := rfl
@[simp] theorem modRes_snd (s : State) (g : Res → Res) : (s.modRes g).snd = s.snd := rfl
@[simp] theorem modRes_ptg (s : State) (g : Res → Res) : (s.modRes g).ptg = s.ptg := rfl
@[simp] theorem modRes_wel (s : State) (g : Res → Res) : (s.modRes g).wel = s.wel := rfl
@[simp] theorem modRes_loch (s : State) (g : Res → Res) : (s.modRes g).loch = s.loch := rfl
@[simp] theorem modRes_whd (s : State) (g : Res → Res) : (s.modRes g).whd = s.whd := rfl
@[simp] theorem modRes_pool (s : State) (g : Res → Res) : (s.modRes g).pool = s.pool := rfl
@[simp] theorem modRes_pla (s : State) (g : Res → Res) : (s.modRes g).pla = s.pla := rfl
@[simp] theorem modRes_sha (s : State) (g : Res → Res) : (s.modRes g).sha = s.sha := rfl
@[simp] theorem modRes_drg (s : State) (g : Res → Res) : (s.modRes g).drg = s.drg := rfl
@[simp] theorem modRes_elapsed (s : State) (g : Res → Res) : (s.modRes g).elapsed = s.elapsed := rfl
@[simp] theorem modRes_fresh (s : State) (g : Res → Res) : (s.modRes g).fresh = s.fresh := rfl
@[simp] theorem modRes_sent (s : State) (g : Res → Res) : (s.modRes g).sent = s.sent := rfl
@[simp] theorem modRes_resp (s : State) (g : Res → Res) : (s.modRes g).resp = s.resp := rfl
@[simp] theorem modRes_res (s : State) (g : Res → Res) : (s.modRes g).res = g s.res := rfl
@[simp] theorem modRes_rd (s : State) (g : Res → Res) (f : Fld) (k l : Nat) : (s.modRes g).rd f k l = s.rd f k l := rfl
@[simp] theorem modRes_on (s : State) (g : Res → Res) (f : Fld) (k l : Nat) : (s.modRes g).on f k l = s.on f k l := rfl

/-! ### modBas -/

@[simp] theorem modBas_pending (s : State) (g : Basin → Basin) : (s.modBas g).pending = s.pending := rfl
@[simp] theorem modBas_regs (s : State) (g : Basin → Basin) : (s.modBas g).regs = s.regs := rfl
@[simp] theorem modBas_hold (s : State) (g : Basin → Basin) : (s.modBas g).hold = s.hold := rfl
@[simp] theorem modBas_dram (s : State) (g : Basin → Basin) : (s.modBas g).dram = s.dram := rfl
@[simp] theorem modBas_mram (s : State) (g : Basin → Basin) : (s.modBas g).mram = s.mram := rfl
@[simp] theorem modBas_tarn (s : State) (g : Basin → Basin) : (s.modBas g).tarn = s.tarn := rfl
@[simp] theorem modBas_ram (s : State) (g : Basin → Basin) : (s.modBas g).ram = s.ram := rfl
@[simp] theorem modBas_chip (s : State) (g : Basin → Basin) : (s.modBas g).chip = s.chip := rfl
@[simp] theorem modBas_pins (s : State) (g : Basin → Basin) : (s.modBas g).pins = s.pins := rfl
@[simp] theorem modBas_img (s : State) (g : Basin → Basin) : (s.modBas g).img = s.img := rfl
@[simp] theorem modBas_gov (s : State) (g : Basin → Basin) : (s.modBas g).gov = s.gov := rfl
@[simp] theorem modBas_fab (s : State) (g : Basin → Basin) : (s.modBas g).fab = s.fab := rfl
@[simp] theorem modBas_inl (s : State) (g : Basin → Basin) : (s.modBas g).inl = s.inl := rfl
@[simp] theorem modBas_tbs (s : State) (g : Basin → Basin) : (s.modBas g).tbs = s.tbs := rfl
@[simp] theorem modBas_own (s : State) (g : Basin → Basin) : (s.modBas g).own = s.own := rfl
@[simp] theorem modBas_locks (s : State) (g : Basin → Basin) : (s.modBas g).locks = s.locks := rfl
@[simp] theorem modBas_host (s : State) (g : Basin → Basin) : (s.modBas g).host = s.host := rfl
@[simp] theorem modBas_res (s : State) (g : Basin → Basin) : (s.modBas g).res = s.res := rfl
@[simp] theorem modBas_tst (s : State) (g : Basin → Basin) : (s.modBas g).tst = s.tst := rfl
@[simp] theorem modBas_out (s : State) (g : Basin → Basin) : (s.modBas g).out = s.out := rfl
@[simp] theorem modBas_snd (s : State) (g : Basin → Basin) : (s.modBas g).snd = s.snd := rfl
@[simp] theorem modBas_ptg (s : State) (g : Basin → Basin) : (s.modBas g).ptg = s.ptg := rfl
@[simp] theorem modBas_wel (s : State) (g : Basin → Basin) : (s.modBas g).wel = s.wel := rfl
@[simp] theorem modBas_loch (s : State) (g : Basin → Basin) : (s.modBas g).loch = s.loch := rfl
@[simp] theorem modBas_whd (s : State) (g : Basin → Basin) : (s.modBas g).whd = s.whd := rfl
@[simp] theorem modBas_pool (s : State) (g : Basin → Basin) : (s.modBas g).pool = s.pool := rfl
@[simp] theorem modBas_pla (s : State) (g : Basin → Basin) : (s.modBas g).pla = s.pla := rfl
@[simp] theorem modBas_sha (s : State) (g : Basin → Basin) : (s.modBas g).sha = s.sha := rfl
@[simp] theorem modBas_drg (s : State) (g : Basin → Basin) : (s.modBas g).drg = s.drg := rfl
@[simp] theorem modBas_elapsed (s : State) (g : Basin → Basin) : (s.modBas g).elapsed = s.elapsed := rfl
@[simp] theorem modBas_fresh (s : State) (g : Basin → Basin) : (s.modBas g).fresh = s.fresh := rfl
@[simp] theorem modBas_sent (s : State) (g : Basin → Basin) : (s.modBas g).sent = s.sent := rfl
@[simp] theorem modBas_resp (s : State) (g : Basin → Basin) : (s.modBas g).resp = s.resp := rfl
@[simp] theorem modBas_bas (s : State) (g : Basin → Basin) : (s.modBas g).bas = g s.bas := rfl
@[simp] theorem modBas_rd (s : State) (g : Basin → Basin) (f : Fld) (k l : Nat) : (s.modBas g).rd f k l = s.rd f k l := rfl
@[simp] theorem modBas_on (s : State) (g : Basin → Basin) (f : Fld) (k l : Nat) : (s.modBas g).on f k l = s.on f k l := rfl

/-! ### modTst -/

@[simp] theorem modTst_pending (s : State) (g : TarnSt → TarnSt) : (s.modTst g).pending = s.pending := rfl
@[simp] theorem modTst_regs (s : State) (g : TarnSt → TarnSt) : (s.modTst g).regs = s.regs := rfl
@[simp] theorem modTst_hold (s : State) (g : TarnSt → TarnSt) : (s.modTst g).hold = s.hold := rfl
@[simp] theorem modTst_dram (s : State) (g : TarnSt → TarnSt) : (s.modTst g).dram = s.dram := rfl
@[simp] theorem modTst_mram (s : State) (g : TarnSt → TarnSt) : (s.modTst g).mram = s.mram := rfl
@[simp] theorem modTst_tarn (s : State) (g : TarnSt → TarnSt) : (s.modTst g).tarn = s.tarn := rfl
@[simp] theorem modTst_ram (s : State) (g : TarnSt → TarnSt) : (s.modTst g).ram = s.ram := rfl
@[simp] theorem modTst_chip (s : State) (g : TarnSt → TarnSt) : (s.modTst g).chip = s.chip := rfl
@[simp] theorem modTst_pins (s : State) (g : TarnSt → TarnSt) : (s.modTst g).pins = s.pins := rfl
@[simp] theorem modTst_img (s : State) (g : TarnSt → TarnSt) : (s.modTst g).img = s.img := rfl
@[simp] theorem modTst_gov (s : State) (g : TarnSt → TarnSt) : (s.modTst g).gov = s.gov := rfl
@[simp] theorem modTst_fab (s : State) (g : TarnSt → TarnSt) : (s.modTst g).fab = s.fab := rfl
@[simp] theorem modTst_inl (s : State) (g : TarnSt → TarnSt) : (s.modTst g).inl = s.inl := rfl
@[simp] theorem modTst_tbs (s : State) (g : TarnSt → TarnSt) : (s.modTst g).tbs = s.tbs := rfl
@[simp] theorem modTst_own (s : State) (g : TarnSt → TarnSt) : (s.modTst g).own = s.own := rfl
@[simp] theorem modTst_locks (s : State) (g : TarnSt → TarnSt) : (s.modTst g).locks = s.locks := rfl
@[simp] theorem modTst_host (s : State) (g : TarnSt → TarnSt) : (s.modTst g).host = s.host := rfl
@[simp] theorem modTst_res (s : State) (g : TarnSt → TarnSt) : (s.modTst g).res = s.res := rfl
@[simp] theorem modTst_bas (s : State) (g : TarnSt → TarnSt) : (s.modTst g).bas = s.bas := rfl
@[simp] theorem modTst_out (s : State) (g : TarnSt → TarnSt) : (s.modTst g).out = s.out := rfl
@[simp] theorem modTst_snd (s : State) (g : TarnSt → TarnSt) : (s.modTst g).snd = s.snd := rfl
@[simp] theorem modTst_ptg (s : State) (g : TarnSt → TarnSt) : (s.modTst g).ptg = s.ptg := rfl
@[simp] theorem modTst_wel (s : State) (g : TarnSt → TarnSt) : (s.modTst g).wel = s.wel := rfl
@[simp] theorem modTst_loch (s : State) (g : TarnSt → TarnSt) : (s.modTst g).loch = s.loch := rfl
@[simp] theorem modTst_whd (s : State) (g : TarnSt → TarnSt) : (s.modTst g).whd = s.whd := rfl
@[simp] theorem modTst_pool (s : State) (g : TarnSt → TarnSt) : (s.modTst g).pool = s.pool := rfl
@[simp] theorem modTst_pla (s : State) (g : TarnSt → TarnSt) : (s.modTst g).pla = s.pla := rfl
@[simp] theorem modTst_sha (s : State) (g : TarnSt → TarnSt) : (s.modTst g).sha = s.sha := rfl
@[simp] theorem modTst_drg (s : State) (g : TarnSt → TarnSt) : (s.modTst g).drg = s.drg := rfl
@[simp] theorem modTst_elapsed (s : State) (g : TarnSt → TarnSt) : (s.modTst g).elapsed = s.elapsed := rfl
@[simp] theorem modTst_fresh (s : State) (g : TarnSt → TarnSt) : (s.modTst g).fresh = s.fresh := rfl
@[simp] theorem modTst_sent (s : State) (g : TarnSt → TarnSt) : (s.modTst g).sent = s.sent := rfl
@[simp] theorem modTst_resp (s : State) (g : TarnSt → TarnSt) : (s.modTst g).resp = s.resp := rfl
@[simp] theorem modTst_tst (s : State) (g : TarnSt → TarnSt) : (s.modTst g).tst = g s.tst := rfl
@[simp] theorem modTst_rd (s : State) (g : TarnSt → TarnSt) (f : Fld) (k l : Nat) : (s.modTst g).rd f k l = s.rd f k l := rfl
@[simp] theorem modTst_on (s : State) (g : TarnSt → TarnSt) (f : Fld) (k l : Nat) : (s.modTst g).on f k l = s.on f k l := rfl

/-! ### modOut -/

@[simp] theorem modOut_pending (s : State) (g : Outlet → Outlet) : (s.modOut g).pending = s.pending := rfl
@[simp] theorem modOut_regs (s : State) (g : Outlet → Outlet) : (s.modOut g).regs = s.regs := rfl
@[simp] theorem modOut_hold (s : State) (g : Outlet → Outlet) : (s.modOut g).hold = s.hold := rfl
@[simp] theorem modOut_dram (s : State) (g : Outlet → Outlet) : (s.modOut g).dram = s.dram := rfl
@[simp] theorem modOut_mram (s : State) (g : Outlet → Outlet) : (s.modOut g).mram = s.mram := rfl
@[simp] theorem modOut_tarn (s : State) (g : Outlet → Outlet) : (s.modOut g).tarn = s.tarn := rfl
@[simp] theorem modOut_ram (s : State) (g : Outlet → Outlet) : (s.modOut g).ram = s.ram := rfl
@[simp] theorem modOut_chip (s : State) (g : Outlet → Outlet) : (s.modOut g).chip = s.chip := rfl
@[simp] theorem modOut_pins (s : State) (g : Outlet → Outlet) : (s.modOut g).pins = s.pins := rfl
@[simp] theorem modOut_img (s : State) (g : Outlet → Outlet) : (s.modOut g).img = s.img := rfl
@[simp] theorem modOut_gov (s : State) (g : Outlet → Outlet) : (s.modOut g).gov = s.gov := rfl
@[simp] theorem modOut_fab (s : State) (g : Outlet → Outlet) : (s.modOut g).fab = s.fab := rfl
@[simp] theorem modOut_inl (s : State) (g : Outlet → Outlet) : (s.modOut g).inl = s.inl := rfl
@[simp] theorem modOut_tbs (s : State) (g : Outlet → Outlet) : (s.modOut g).tbs = s.tbs := rfl
@[simp] theorem modOut_own (s : State) (g : Outlet → Outlet) : (s.modOut g).own = s.own := rfl
@[simp] theorem modOut_locks (s : State) (g : Outlet → Outlet) : (s.modOut g).locks = s.locks := rfl
@[simp] theorem modOut_host (s : State) (g : Outlet → Outlet) : (s.modOut g).host = s.host := rfl
@[simp] theorem modOut_res (s : State) (g : Outlet → Outlet) : (s.modOut g).res = s.res := rfl
@[simp] theorem modOut_bas (s : State) (g : Outlet → Outlet) : (s.modOut g).bas = s.bas := rfl
@[simp] theorem modOut_tst (s : State) (g : Outlet → Outlet) : (s.modOut g).tst = s.tst := rfl
@[simp] theorem modOut_snd (s : State) (g : Outlet → Outlet) : (s.modOut g).snd = s.snd := rfl
@[simp] theorem modOut_ptg (s : State) (g : Outlet → Outlet) : (s.modOut g).ptg = s.ptg := rfl
@[simp] theorem modOut_wel (s : State) (g : Outlet → Outlet) : (s.modOut g).wel = s.wel := rfl
@[simp] theorem modOut_loch (s : State) (g : Outlet → Outlet) : (s.modOut g).loch = s.loch := rfl
@[simp] theorem modOut_whd (s : State) (g : Outlet → Outlet) : (s.modOut g).whd = s.whd := rfl
@[simp] theorem modOut_pool (s : State) (g : Outlet → Outlet) : (s.modOut g).pool = s.pool := rfl
@[simp] theorem modOut_pla (s : State) (g : Outlet → Outlet) : (s.modOut g).pla = s.pla := rfl
@[simp] theorem modOut_sha (s : State) (g : Outlet → Outlet) : (s.modOut g).sha = s.sha := rfl
@[simp] theorem modOut_drg (s : State) (g : Outlet → Outlet) : (s.modOut g).drg = s.drg := rfl
@[simp] theorem modOut_elapsed (s : State) (g : Outlet → Outlet) : (s.modOut g).elapsed = s.elapsed := rfl
@[simp] theorem modOut_fresh (s : State) (g : Outlet → Outlet) : (s.modOut g).fresh = s.fresh := rfl
@[simp] theorem modOut_sent (s : State) (g : Outlet → Outlet) : (s.modOut g).sent = s.sent := rfl
@[simp] theorem modOut_resp (s : State) (g : Outlet → Outlet) : (s.modOut g).resp = s.resp := rfl
@[simp] theorem modOut_out (s : State) (g : Outlet → Outlet) : (s.modOut g).out = g s.out := rfl
@[simp] theorem modOut_rd (s : State) (g : Outlet → Outlet) (f : Fld) (k l : Nat) : (s.modOut g).rd f k l = s.rd f k l := rfl
@[simp] theorem modOut_on (s : State) (g : Outlet → Outlet) (f : Fld) (k l : Nat) : (s.modOut g).on f k l = s.on f k l := rfl

/-! ### modSnd -/

@[simp] theorem modSnd_pending (s : State) (g : Snd → Snd) : (s.modSnd g).pending = s.pending := rfl
@[simp] theorem modSnd_regs (s : State) (g : Snd → Snd) : (s.modSnd g).regs = s.regs := rfl
@[simp] theorem modSnd_hold (s : State) (g : Snd → Snd) : (s.modSnd g).hold = s.hold := rfl
@[simp] theorem modSnd_dram (s : State) (g : Snd → Snd) : (s.modSnd g).dram = s.dram := rfl
@[simp] theorem modSnd_mram (s : State) (g : Snd → Snd) : (s.modSnd g).mram = s.mram := rfl
@[simp] theorem modSnd_tarn (s : State) (g : Snd → Snd) : (s.modSnd g).tarn = s.tarn := rfl
@[simp] theorem modSnd_ram (s : State) (g : Snd → Snd) : (s.modSnd g).ram = s.ram := rfl
@[simp] theorem modSnd_chip (s : State) (g : Snd → Snd) : (s.modSnd g).chip = s.chip := rfl
@[simp] theorem modSnd_pins (s : State) (g : Snd → Snd) : (s.modSnd g).pins = s.pins := rfl
@[simp] theorem modSnd_img (s : State) (g : Snd → Snd) : (s.modSnd g).img = s.img := rfl
@[simp] theorem modSnd_gov (s : State) (g : Snd → Snd) : (s.modSnd g).gov = s.gov := rfl
@[simp] theorem modSnd_fab (s : State) (g : Snd → Snd) : (s.modSnd g).fab = s.fab := rfl
@[simp] theorem modSnd_inl (s : State) (g : Snd → Snd) : (s.modSnd g).inl = s.inl := rfl
@[simp] theorem modSnd_tbs (s : State) (g : Snd → Snd) : (s.modSnd g).tbs = s.tbs := rfl
@[simp] theorem modSnd_own (s : State) (g : Snd → Snd) : (s.modSnd g).own = s.own := rfl
@[simp] theorem modSnd_locks (s : State) (g : Snd → Snd) : (s.modSnd g).locks = s.locks := rfl
@[simp] theorem modSnd_host (s : State) (g : Snd → Snd) : (s.modSnd g).host = s.host := rfl
@[simp] theorem modSnd_res (s : State) (g : Snd → Snd) : (s.modSnd g).res = s.res := rfl
@[simp] theorem modSnd_bas (s : State) (g : Snd → Snd) : (s.modSnd g).bas = s.bas := rfl
@[simp] theorem modSnd_tst (s : State) (g : Snd → Snd) : (s.modSnd g).tst = s.tst := rfl
@[simp] theorem modSnd_out (s : State) (g : Snd → Snd) : (s.modSnd g).out = s.out := rfl
@[simp] theorem modSnd_ptg (s : State) (g : Snd → Snd) : (s.modSnd g).ptg = s.ptg := rfl
@[simp] theorem modSnd_wel (s : State) (g : Snd → Snd) : (s.modSnd g).wel = s.wel := rfl
@[simp] theorem modSnd_loch (s : State) (g : Snd → Snd) : (s.modSnd g).loch = s.loch := rfl
@[simp] theorem modSnd_whd (s : State) (g : Snd → Snd) : (s.modSnd g).whd = s.whd := rfl
@[simp] theorem modSnd_pool (s : State) (g : Snd → Snd) : (s.modSnd g).pool = s.pool := rfl
@[simp] theorem modSnd_pla (s : State) (g : Snd → Snd) : (s.modSnd g).pla = s.pla := rfl
@[simp] theorem modSnd_sha (s : State) (g : Snd → Snd) : (s.modSnd g).sha = s.sha := rfl
@[simp] theorem modSnd_drg (s : State) (g : Snd → Snd) : (s.modSnd g).drg = s.drg := rfl
@[simp] theorem modSnd_elapsed (s : State) (g : Snd → Snd) : (s.modSnd g).elapsed = s.elapsed := rfl
@[simp] theorem modSnd_fresh (s : State) (g : Snd → Snd) : (s.modSnd g).fresh = s.fresh := rfl
@[simp] theorem modSnd_sent (s : State) (g : Snd → Snd) : (s.modSnd g).sent = s.sent := rfl
@[simp] theorem modSnd_resp (s : State) (g : Snd → Snd) : (s.modSnd g).resp = s.resp := rfl
@[simp] theorem modSnd_snd (s : State) (g : Snd → Snd) : (s.modSnd g).snd = g s.snd := rfl
@[simp] theorem modSnd_rd (s : State) (g : Snd → Snd) (f : Fld) (k l : Nat) : (s.modSnd g).rd f k l = s.rd f k l := rfl
@[simp] theorem modSnd_on (s : State) (g : Snd → Snd) (f : Fld) (k l : Nat) : (s.modSnd g).on f k l = s.on f k l := rfl

/-! ### modWel -/

@[simp] theorem modWel_pending (s : State) (g : Wel → Wel) : (s.modWel g).pending = s.pending := rfl
@[simp] theorem modWel_regs (s : State) (g : Wel → Wel) : (s.modWel g).regs = s.regs := rfl
@[simp] theorem modWel_hold (s : State) (g : Wel → Wel) : (s.modWel g).hold = s.hold := rfl
@[simp] theorem modWel_dram (s : State) (g : Wel → Wel) : (s.modWel g).dram = s.dram := rfl
@[simp] theorem modWel_mram (s : State) (g : Wel → Wel) : (s.modWel g).mram = s.mram := rfl
@[simp] theorem modWel_tarn (s : State) (g : Wel → Wel) : (s.modWel g).tarn = s.tarn := rfl
@[simp] theorem modWel_ram (s : State) (g : Wel → Wel) : (s.modWel g).ram = s.ram := rfl
@[simp] theorem modWel_chip (s : State) (g : Wel → Wel) : (s.modWel g).chip = s.chip := rfl
@[simp] theorem modWel_pins (s : State) (g : Wel → Wel) : (s.modWel g).pins = s.pins := rfl
@[simp] theorem modWel_img (s : State) (g : Wel → Wel) : (s.modWel g).img = s.img := rfl
@[simp] theorem modWel_gov (s : State) (g : Wel → Wel) : (s.modWel g).gov = s.gov := rfl
@[simp] theorem modWel_fab (s : State) (g : Wel → Wel) : (s.modWel g).fab = s.fab := rfl
@[simp] theorem modWel_inl (s : State) (g : Wel → Wel) : (s.modWel g).inl = s.inl := rfl
@[simp] theorem modWel_tbs (s : State) (g : Wel → Wel) : (s.modWel g).tbs = s.tbs := rfl
@[simp] theorem modWel_own (s : State) (g : Wel → Wel) : (s.modWel g).own = s.own := rfl
@[simp] theorem modWel_locks (s : State) (g : Wel → Wel) : (s.modWel g).locks = s.locks := rfl
@[simp] theorem modWel_host (s : State) (g : Wel → Wel) : (s.modWel g).host = s.host := rfl
@[simp] theorem modWel_res (s : State) (g : Wel → Wel) : (s.modWel g).res = s.res := rfl
@[simp] theorem modWel_bas (s : State) (g : Wel → Wel) : (s.modWel g).bas = s.bas := rfl
@[simp] theorem modWel_tst (s : State) (g : Wel → Wel) : (s.modWel g).tst = s.tst := rfl
@[simp] theorem modWel_out (s : State) (g : Wel → Wel) : (s.modWel g).out = s.out := rfl
@[simp] theorem modWel_snd (s : State) (g : Wel → Wel) : (s.modWel g).snd = s.snd := rfl
@[simp] theorem modWel_ptg (s : State) (g : Wel → Wel) : (s.modWel g).ptg = s.ptg := rfl
@[simp] theorem modWel_loch (s : State) (g : Wel → Wel) : (s.modWel g).loch = s.loch := rfl
@[simp] theorem modWel_whd (s : State) (g : Wel → Wel) : (s.modWel g).whd = s.whd := rfl
@[simp] theorem modWel_pool (s : State) (g : Wel → Wel) : (s.modWel g).pool = s.pool := rfl
@[simp] theorem modWel_pla (s : State) (g : Wel → Wel) : (s.modWel g).pla = s.pla := rfl
@[simp] theorem modWel_sha (s : State) (g : Wel → Wel) : (s.modWel g).sha = s.sha := rfl
@[simp] theorem modWel_drg (s : State) (g : Wel → Wel) : (s.modWel g).drg = s.drg := rfl
@[simp] theorem modWel_elapsed (s : State) (g : Wel → Wel) : (s.modWel g).elapsed = s.elapsed := rfl
@[simp] theorem modWel_fresh (s : State) (g : Wel → Wel) : (s.modWel g).fresh = s.fresh := rfl
@[simp] theorem modWel_sent (s : State) (g : Wel → Wel) : (s.modWel g).sent = s.sent := rfl
@[simp] theorem modWel_resp (s : State) (g : Wel → Wel) : (s.modWel g).resp = s.resp := rfl
@[simp] theorem modWel_wel (s : State) (g : Wel → Wel) : (s.modWel g).wel = g s.wel := rfl
@[simp] theorem modWel_rd (s : State) (g : Wel → Wel) (f : Fld) (k l : Nat) : (s.modWel g).rd f k l = s.rd f k l := rfl
@[simp] theorem modWel_on (s : State) (g : Wel → Wel) (f : Fld) (k l : Nat) : (s.modWel g).on f k l = s.on f k l := rfl

/-! ### modWhd -/

@[simp] theorem modWhd_pending (s : State) (g : Whd → Whd) : (s.modWhd g).pending = s.pending := rfl
@[simp] theorem modWhd_regs (s : State) (g : Whd → Whd) : (s.modWhd g).regs = s.regs := rfl
@[simp] theorem modWhd_hold (s : State) (g : Whd → Whd) : (s.modWhd g).hold = s.hold := rfl
@[simp] theorem modWhd_dram (s : State) (g : Whd → Whd) : (s.modWhd g).dram = s.dram := rfl
@[simp] theorem modWhd_mram (s : State) (g : Whd → Whd) : (s.modWhd g).mram = s.mram := rfl
@[simp] theorem modWhd_tarn (s : State) (g : Whd → Whd) : (s.modWhd g).tarn = s.tarn := rfl
@[simp] theorem modWhd_ram (s : State) (g : Whd → Whd) : (s.modWhd g).ram = s.ram := rfl
@[simp] theorem modWhd_chip (s : State) (g : Whd → Whd) : (s.modWhd g).chip = s.chip := rfl
@[simp] theorem modWhd_pins (s : State) (g : Whd → Whd) : (s.modWhd g).pins = s.pins := rfl
@[simp] theorem modWhd_img (s : State) (g : Whd → Whd) : (s.modWhd g).img = s.img := rfl
@[simp] theorem modWhd_gov (s : State) (g : Whd → Whd) : (s.modWhd g).gov = s.gov := rfl
@[simp] theorem modWhd_fab (s : State) (g : Whd → Whd) : (s.modWhd g).fab = s.fab := rfl
@[simp] theorem modWhd_inl (s : State) (g : Whd → Whd) : (s.modWhd g).inl = s.inl := rfl
@[simp] theorem modWhd_tbs (s : State) (g : Whd → Whd) : (s.modWhd g).tbs = s.tbs := rfl
@[simp] theorem modWhd_own (s : State) (g : Whd → Whd) : (s.modWhd g).own = s.own := rfl
@[simp] theorem modWhd_locks (s : State) (g : Whd → Whd) : (s.modWhd g).locks = s.locks := rfl
@[simp] theorem modWhd_host (s : State) (g : Whd → Whd) : (s.modWhd g).host = s.host := rfl
@[simp] theorem modWhd_res (s : State) (g : Whd → Whd) : (s.modWhd g).res = s.res := rfl
@[simp] theorem modWhd_bas (s : State) (g : Whd → Whd) : (s.modWhd g).bas = s.bas := rfl
@[simp] theorem modWhd_tst (s : State) (g : Whd → Whd) : (s.modWhd g).tst = s.tst := rfl
@[simp] theorem modWhd_out (s : State) (g : Whd → Whd) : (s.modWhd g).out = s.out := rfl
@[simp] theorem modWhd_snd (s : State) (g : Whd → Whd) : (s.modWhd g).snd = s.snd := rfl
@[simp] theorem modWhd_ptg (s : State) (g : Whd → Whd) : (s.modWhd g).ptg = s.ptg := rfl
@[simp] theorem modWhd_wel (s : State) (g : Whd → Whd) : (s.modWhd g).wel = s.wel := rfl
@[simp] theorem modWhd_loch (s : State) (g : Whd → Whd) : (s.modWhd g).loch = s.loch := rfl
@[simp] theorem modWhd_pool (s : State) (g : Whd → Whd) : (s.modWhd g).pool = s.pool := rfl
@[simp] theorem modWhd_pla (s : State) (g : Whd → Whd) : (s.modWhd g).pla = s.pla := rfl
@[simp] theorem modWhd_sha (s : State) (g : Whd → Whd) : (s.modWhd g).sha = s.sha := rfl
@[simp] theorem modWhd_drg (s : State) (g : Whd → Whd) : (s.modWhd g).drg = s.drg := rfl
@[simp] theorem modWhd_elapsed (s : State) (g : Whd → Whd) : (s.modWhd g).elapsed = s.elapsed := rfl
@[simp] theorem modWhd_fresh (s : State) (g : Whd → Whd) : (s.modWhd g).fresh = s.fresh := rfl
@[simp] theorem modWhd_sent (s : State) (g : Whd → Whd) : (s.modWhd g).sent = s.sent := rfl
@[simp] theorem modWhd_resp (s : State) (g : Whd → Whd) : (s.modWhd g).resp = s.resp := rfl
@[simp] theorem modWhd_whd (s : State) (g : Whd → Whd) : (s.modWhd g).whd = g s.whd := rfl
@[simp] theorem modWhd_rd (s : State) (g : Whd → Whd) (f : Fld) (k l : Nat) : (s.modWhd g).rd f k l = s.rd f k l := rfl
@[simp] theorem modWhd_on (s : State) (g : Whd → Whd) (f : Fld) (k l : Nat) : (s.modWhd g).on f k l = s.on f k l := rfl

/-! ### modLoch -/

@[simp] theorem modLoch_pending (s : State) (g : Loch → Loch) : (s.modLoch g).pending = s.pending := rfl
@[simp] theorem modLoch_regs (s : State) (g : Loch → Loch) : (s.modLoch g).regs = s.regs := rfl
@[simp] theorem modLoch_hold (s : State) (g : Loch → Loch) : (s.modLoch g).hold = s.hold := rfl
@[simp] theorem modLoch_dram (s : State) (g : Loch → Loch) : (s.modLoch g).dram = s.dram := rfl
@[simp] theorem modLoch_mram (s : State) (g : Loch → Loch) : (s.modLoch g).mram = s.mram := rfl
@[simp] theorem modLoch_tarn (s : State) (g : Loch → Loch) : (s.modLoch g).tarn = s.tarn := rfl
@[simp] theorem modLoch_ram (s : State) (g : Loch → Loch) : (s.modLoch g).ram = s.ram := rfl
@[simp] theorem modLoch_chip (s : State) (g : Loch → Loch) : (s.modLoch g).chip = s.chip := rfl
@[simp] theorem modLoch_pins (s : State) (g : Loch → Loch) : (s.modLoch g).pins = s.pins := rfl
@[simp] theorem modLoch_img (s : State) (g : Loch → Loch) : (s.modLoch g).img = s.img := rfl
@[simp] theorem modLoch_gov (s : State) (g : Loch → Loch) : (s.modLoch g).gov = s.gov := rfl
@[simp] theorem modLoch_fab (s : State) (g : Loch → Loch) : (s.modLoch g).fab = s.fab := rfl
@[simp] theorem modLoch_inl (s : State) (g : Loch → Loch) : (s.modLoch g).inl = s.inl := rfl
@[simp] theorem modLoch_tbs (s : State) (g : Loch → Loch) : (s.modLoch g).tbs = s.tbs := rfl
@[simp] theorem modLoch_own (s : State) (g : Loch → Loch) : (s.modLoch g).own = s.own := rfl
@[simp] theorem modLoch_locks (s : State) (g : Loch → Loch) : (s.modLoch g).locks = s.locks := rfl
@[simp] theorem modLoch_host (s : State) (g : Loch → Loch) : (s.modLoch g).host = s.host := rfl
@[simp] theorem modLoch_res (s : State) (g : Loch → Loch) : (s.modLoch g).res = s.res := rfl
@[simp] theorem modLoch_bas (s : State) (g : Loch → Loch) : (s.modLoch g).bas = s.bas := rfl
@[simp] theorem modLoch_tst (s : State) (g : Loch → Loch) : (s.modLoch g).tst = s.tst := rfl
@[simp] theorem modLoch_out (s : State) (g : Loch → Loch) : (s.modLoch g).out = s.out := rfl
@[simp] theorem modLoch_snd (s : State) (g : Loch → Loch) : (s.modLoch g).snd = s.snd := rfl
@[simp] theorem modLoch_ptg (s : State) (g : Loch → Loch) : (s.modLoch g).ptg = s.ptg := rfl
@[simp] theorem modLoch_wel (s : State) (g : Loch → Loch) : (s.modLoch g).wel = s.wel := rfl
@[simp] theorem modLoch_whd (s : State) (g : Loch → Loch) : (s.modLoch g).whd = s.whd := rfl
@[simp] theorem modLoch_pool (s : State) (g : Loch → Loch) : (s.modLoch g).pool = s.pool := rfl
@[simp] theorem modLoch_pla (s : State) (g : Loch → Loch) : (s.modLoch g).pla = s.pla := rfl
@[simp] theorem modLoch_sha (s : State) (g : Loch → Loch) : (s.modLoch g).sha = s.sha := rfl
@[simp] theorem modLoch_drg (s : State) (g : Loch → Loch) : (s.modLoch g).drg = s.drg := rfl
@[simp] theorem modLoch_elapsed (s : State) (g : Loch → Loch) : (s.modLoch g).elapsed = s.elapsed := rfl
@[simp] theorem modLoch_fresh (s : State) (g : Loch → Loch) : (s.modLoch g).fresh = s.fresh := rfl
@[simp] theorem modLoch_sent (s : State) (g : Loch → Loch) : (s.modLoch g).sent = s.sent := rfl
@[simp] theorem modLoch_resp (s : State) (g : Loch → Loch) : (s.modLoch g).resp = s.resp := rfl
@[simp] theorem modLoch_loch (s : State) (g : Loch → Loch) : (s.modLoch g).loch = g s.loch := rfl
@[simp] theorem modLoch_rd (s : State) (g : Loch → Loch) (f : Fld) (k l : Nat) : (s.modLoch g).rd f k l = s.rd f k l := rfl
@[simp] theorem modLoch_on (s : State) (g : Loch → Loch) (f : Fld) (k l : Nat) : (s.modLoch g).on f k l = s.on f k l := rfl

/-! ### modPtg -/

@[simp] theorem modPtg_pending (s : State) (g : Ptg → Ptg) : (s.modPtg g).pending = s.pending := rfl
@[simp] theorem modPtg_regs (s : State) (g : Ptg → Ptg) : (s.modPtg g).regs = s.regs := rfl
@[simp] theorem modPtg_hold (s : State) (g : Ptg → Ptg) : (s.modPtg g).hold = s.hold := rfl
@[simp] theorem modPtg_dram (s : State) (g : Ptg → Ptg) : (s.modPtg g).dram = s.dram := rfl
@[simp] theorem modPtg_mram (s : State) (g : Ptg → Ptg) : (s.modPtg g).mram = s.mram := rfl
@[simp] theorem modPtg_tarn (s : State) (g : Ptg → Ptg) : (s.modPtg g).tarn = s.tarn := rfl
@[simp] theorem modPtg_ram (s : State) (g : Ptg → Ptg) : (s.modPtg g).ram = s.ram := rfl
@[simp] theorem modPtg_chip (s : State) (g : Ptg → Ptg) : (s.modPtg g).chip = s.chip := rfl
@[simp] theorem modPtg_pins (s : State) (g : Ptg → Ptg) : (s.modPtg g).pins = s.pins := rfl
@[simp] theorem modPtg_img (s : State) (g : Ptg → Ptg) : (s.modPtg g).img = s.img := rfl
@[simp] theorem modPtg_gov (s : State) (g : Ptg → Ptg) : (s.modPtg g).gov = s.gov := rfl
@[simp] theorem modPtg_fab (s : State) (g : Ptg → Ptg) : (s.modPtg g).fab = s.fab := rfl
@[simp] theorem modPtg_inl (s : State) (g : Ptg → Ptg) : (s.modPtg g).inl = s.inl := rfl
@[simp] theorem modPtg_tbs (s : State) (g : Ptg → Ptg) : (s.modPtg g).tbs = s.tbs := rfl
@[simp] theorem modPtg_own (s : State) (g : Ptg → Ptg) : (s.modPtg g).own = s.own := rfl
@[simp] theorem modPtg_locks (s : State) (g : Ptg → Ptg) : (s.modPtg g).locks = s.locks := rfl
@[simp] theorem modPtg_host (s : State) (g : Ptg → Ptg) : (s.modPtg g).host = s.host := rfl
@[simp] theorem modPtg_res (s : State) (g : Ptg → Ptg) : (s.modPtg g).res = s.res := rfl
@[simp] theorem modPtg_bas (s : State) (g : Ptg → Ptg) : (s.modPtg g).bas = s.bas := rfl
@[simp] theorem modPtg_tst (s : State) (g : Ptg → Ptg) : (s.modPtg g).tst = s.tst := rfl
@[simp] theorem modPtg_out (s : State) (g : Ptg → Ptg) : (s.modPtg g).out = s.out := rfl
@[simp] theorem modPtg_snd (s : State) (g : Ptg → Ptg) : (s.modPtg g).snd = s.snd := rfl
@[simp] theorem modPtg_wel (s : State) (g : Ptg → Ptg) : (s.modPtg g).wel = s.wel := rfl
@[simp] theorem modPtg_loch (s : State) (g : Ptg → Ptg) : (s.modPtg g).loch = s.loch := rfl
@[simp] theorem modPtg_whd (s : State) (g : Ptg → Ptg) : (s.modPtg g).whd = s.whd := rfl
@[simp] theorem modPtg_pool (s : State) (g : Ptg → Ptg) : (s.modPtg g).pool = s.pool := rfl
@[simp] theorem modPtg_pla (s : State) (g : Ptg → Ptg) : (s.modPtg g).pla = s.pla := rfl
@[simp] theorem modPtg_sha (s : State) (g : Ptg → Ptg) : (s.modPtg g).sha = s.sha := rfl
@[simp] theorem modPtg_drg (s : State) (g : Ptg → Ptg) : (s.modPtg g).drg = s.drg := rfl
@[simp] theorem modPtg_elapsed (s : State) (g : Ptg → Ptg) : (s.modPtg g).elapsed = s.elapsed := rfl
@[simp] theorem modPtg_fresh (s : State) (g : Ptg → Ptg) : (s.modPtg g).fresh = s.fresh := rfl
@[simp] theorem modPtg_sent (s : State) (g : Ptg → Ptg) : (s.modPtg g).sent = s.sent := rfl
@[simp] theorem modPtg_resp (s : State) (g : Ptg → Ptg) : (s.modPtg g).resp = s.resp := rfl
@[simp] theorem modPtg_ptg (s : State) (g : Ptg → Ptg) : (s.modPtg g).ptg = g s.ptg := rfl
@[simp] theorem modPtg_rd (s : State) (g : Ptg → Ptg) (f : Fld) (k l : Nat) : (s.modPtg g).rd f k l = s.rd f k l := rfl
@[simp] theorem modPtg_on (s : State) (g : Ptg → Ptg) (f : Fld) (k l : Nat) : (s.modPtg g).on f k l = s.on f k l := rfl

/-! ### modPool -/

@[simp] theorem modPool_pending (s : State) (g : Pool → Pool) : (s.modPool g).pending = s.pending := rfl
@[simp] theorem modPool_regs (s : State) (g : Pool → Pool) : (s.modPool g).regs = s.regs := rfl
@[simp] theorem modPool_hold (s : State) (g : Pool → Pool) : (s.modPool g).hold = s.hold := rfl
@[simp] theorem modPool_dram (s : State) (g : Pool → Pool) : (s.modPool g).dram = s.dram := rfl
@[simp] theorem modPool_mram (s : State) (g : Pool → Pool) : (s.modPool g).mram = s.mram := rfl
@[simp] theorem modPool_tarn (s : State) (g : Pool → Pool) : (s.modPool g).tarn = s.tarn := rfl
@[simp] theorem modPool_ram (s : State) (g : Pool → Pool) : (s.modPool g).ram = s.ram := rfl
@[simp] theorem modPool_chip (s : State) (g : Pool → Pool) : (s.modPool g).chip = s.chip := rfl
@[simp] theorem modPool_pins (s : State) (g : Pool → Pool) : (s.modPool g).pins = s.pins := rfl
@[simp] theorem modPool_img (s : State) (g : Pool → Pool) : (s.modPool g).img = s.img := rfl
@[simp] theorem modPool_gov (s : State) (g : Pool → Pool) : (s.modPool g).gov = s.gov := rfl
@[simp] theorem modPool_fab (s : State) (g : Pool → Pool) : (s.modPool g).fab = s.fab := rfl
@[simp] theorem modPool_inl (s : State) (g : Pool → Pool) : (s.modPool g).inl = s.inl := rfl
@[simp] theorem modPool_tbs (s : State) (g : Pool → Pool) : (s.modPool g).tbs = s.tbs := rfl
@[simp] theorem modPool_own (s : State) (g : Pool → Pool) : (s.modPool g).own = s.own := rfl
@[simp] theorem modPool_locks (s : State) (g : Pool → Pool) : (s.modPool g).locks = s.locks := rfl
@[simp] theorem modPool_host (s : State) (g : Pool → Pool) : (s.modPool g).host = s.host := rfl
@[simp] theorem modPool_res (s : State) (g : Pool → Pool) : (s.modPool g).res = s.res := rfl
@[simp] theorem modPool_bas (s : State) (g : Pool → Pool) : (s.modPool g).bas = s.bas := rfl
@[simp] theorem modPool_tst (s : State) (g : Pool → Pool) : (s.modPool g).tst = s.tst := rfl
@[simp] theorem modPool_out (s : State) (g : Pool → Pool) : (s.modPool g).out = s.out := rfl
@[simp] theorem modPool_snd (s : State) (g : Pool → Pool) : (s.modPool g).snd = s.snd := rfl
@[simp] theorem modPool_ptg (s : State) (g : Pool → Pool) : (s.modPool g).ptg = s.ptg := rfl
@[simp] theorem modPool_wel (s : State) (g : Pool → Pool) : (s.modPool g).wel = s.wel := rfl
@[simp] theorem modPool_loch (s : State) (g : Pool → Pool) : (s.modPool g).loch = s.loch := rfl
@[simp] theorem modPool_whd (s : State) (g : Pool → Pool) : (s.modPool g).whd = s.whd := rfl
@[simp] theorem modPool_pla (s : State) (g : Pool → Pool) : (s.modPool g).pla = s.pla := rfl
@[simp] theorem modPool_sha (s : State) (g : Pool → Pool) : (s.modPool g).sha = s.sha := rfl
@[simp] theorem modPool_drg (s : State) (g : Pool → Pool) : (s.modPool g).drg = s.drg := rfl
@[simp] theorem modPool_elapsed (s : State) (g : Pool → Pool) : (s.modPool g).elapsed = s.elapsed := rfl
@[simp] theorem modPool_fresh (s : State) (g : Pool → Pool) : (s.modPool g).fresh = s.fresh := rfl
@[simp] theorem modPool_sent (s : State) (g : Pool → Pool) : (s.modPool g).sent = s.sent := rfl
@[simp] theorem modPool_resp (s : State) (g : Pool → Pool) : (s.modPool g).resp = s.resp := rfl
@[simp] theorem modPool_pool (s : State) (g : Pool → Pool) : (s.modPool g).pool = g s.pool := rfl
@[simp] theorem modPool_rd (s : State) (g : Pool → Pool) (f : Fld) (k l : Nat) : (s.modPool g).rd f k l = s.rd f k l := rfl
@[simp] theorem modPool_on (s : State) (g : Pool → Pool) (f : Fld) (k l : Nat) : (s.modPool g).on f k l = s.on f k l := rfl

/-! ### modPla -/

@[simp] theorem modPla_pending (s : State) (g : Pla → Pla) : (s.modPla g).pending = s.pending := rfl
@[simp] theorem modPla_regs (s : State) (g : Pla → Pla) : (s.modPla g).regs = s.regs := rfl
@[simp] theorem modPla_hold (s : State) (g : Pla → Pla) : (s.modPla g).hold = s.hold := rfl
@[simp] theorem modPla_dram (s : State) (g : Pla → Pla) : (s.modPla g).dram = s.dram := rfl
@[simp] theorem modPla_mram (s : State) (g : Pla → Pla) : (s.modPla g).mram = s.mram := rfl
@[simp] theorem modPla_tarn (s : State) (g : Pla → Pla) : (s.modPla g).tarn = s.tarn := rfl
@[simp] theorem modPla_ram (s : State) (g : Pla → Pla) : (s.modPla g).ram = s.ram := rfl
@[simp] theorem modPla_chip (s : State) (g : Pla → Pla) : (s.modPla g).chip = s.chip := rfl
@[simp] theorem modPla_pins (s : State) (g : Pla → Pla) : (s.modPla g).pins = s.pins := rfl
@[simp] theorem modPla_img (s : State) (g : Pla → Pla) : (s.modPla g).img = s.img := rfl
@[simp] theorem modPla_gov (s : State) (g : Pla → Pla) : (s.modPla g).gov = s.gov := rfl
@[simp] theorem modPla_fab (s : State) (g : Pla → Pla) : (s.modPla g).fab = s.fab := rfl
@[simp] theorem modPla_inl (s : State) (g : Pla → Pla) : (s.modPla g).inl = s.inl := rfl
@[simp] theorem modPla_tbs (s : State) (g : Pla → Pla) : (s.modPla g).tbs = s.tbs := rfl
@[simp] theorem modPla_own (s : State) (g : Pla → Pla) : (s.modPla g).own = s.own := rfl
@[simp] theorem modPla_locks (s : State) (g : Pla → Pla) : (s.modPla g).locks = s.locks := rfl
@[simp] theorem modPla_host (s : State) (g : Pla → Pla) : (s.modPla g).host = s.host := rfl
@[simp] theorem modPla_res (s : State) (g : Pla → Pla) : (s.modPla g).res = s.res := rfl
@[simp] theorem modPla_bas (s : State) (g : Pla → Pla) : (s.modPla g).bas = s.bas := rfl
@[simp] theorem modPla_tst (s : State) (g : Pla → Pla) : (s.modPla g).tst = s.tst := rfl
@[simp] theorem modPla_out (s : State) (g : Pla → Pla) : (s.modPla g).out = s.out := rfl
@[simp] theorem modPla_snd (s : State) (g : Pla → Pla) : (s.modPla g).snd = s.snd := rfl
@[simp] theorem modPla_ptg (s : State) (g : Pla → Pla) : (s.modPla g).ptg = s.ptg := rfl
@[simp] theorem modPla_wel (s : State) (g : Pla → Pla) : (s.modPla g).wel = s.wel := rfl
@[simp] theorem modPla_loch (s : State) (g : Pla → Pla) : (s.modPla g).loch = s.loch := rfl
@[simp] theorem modPla_whd (s : State) (g : Pla → Pla) : (s.modPla g).whd = s.whd := rfl
@[simp] theorem modPla_pool (s : State) (g : Pla → Pla) : (s.modPla g).pool = s.pool := rfl
@[simp] theorem modPla_sha (s : State) (g : Pla → Pla) : (s.modPla g).sha = s.sha := rfl
@[simp] theorem modPla_drg (s : State) (g : Pla → Pla) : (s.modPla g).drg = s.drg := rfl
@[simp] theorem modPla_elapsed (s : State) (g : Pla → Pla) : (s.modPla g).elapsed = s.elapsed := rfl
@[simp] theorem modPla_fresh (s : State) (g : Pla → Pla) : (s.modPla g).fresh = s.fresh := rfl
@[simp] theorem modPla_sent (s : State) (g : Pla → Pla) : (s.modPla g).sent = s.sent := rfl
@[simp] theorem modPla_resp (s : State) (g : Pla → Pla) : (s.modPla g).resp = s.resp := rfl
@[simp] theorem modPla_pla (s : State) (g : Pla → Pla) : (s.modPla g).pla = g s.pla := rfl
@[simp] theorem modPla_rd (s : State) (g : Pla → Pla) (f : Fld) (k l : Nat) : (s.modPla g).rd f k l = s.rd f k l := rfl
@[simp] theorem modPla_on (s : State) (g : Pla → Pla) (f : Fld) (k l : Nat) : (s.modPla g).on f k l = s.on f k l := rfl

/-! ### modSha -/

@[simp] theorem modSha_pending (s : State) (g : Sha → Sha) : (s.modSha g).pending = s.pending := rfl
@[simp] theorem modSha_regs (s : State) (g : Sha → Sha) : (s.modSha g).regs = s.regs := rfl
@[simp] theorem modSha_hold (s : State) (g : Sha → Sha) : (s.modSha g).hold = s.hold := rfl
@[simp] theorem modSha_dram (s : State) (g : Sha → Sha) : (s.modSha g).dram = s.dram := rfl
@[simp] theorem modSha_mram (s : State) (g : Sha → Sha) : (s.modSha g).mram = s.mram := rfl
@[simp] theorem modSha_tarn (s : State) (g : Sha → Sha) : (s.modSha g).tarn = s.tarn := rfl
@[simp] theorem modSha_ram (s : State) (g : Sha → Sha) : (s.modSha g).ram = s.ram := rfl
@[simp] theorem modSha_chip (s : State) (g : Sha → Sha) : (s.modSha g).chip = s.chip := rfl
@[simp] theorem modSha_pins (s : State) (g : Sha → Sha) : (s.modSha g).pins = s.pins := rfl
@[simp] theorem modSha_img (s : State) (g : Sha → Sha) : (s.modSha g).img = s.img := rfl
@[simp] theorem modSha_gov (s : State) (g : Sha → Sha) : (s.modSha g).gov = s.gov := rfl
@[simp] theorem modSha_fab (s : State) (g : Sha → Sha) : (s.modSha g).fab = s.fab := rfl
@[simp] theorem modSha_inl (s : State) (g : Sha → Sha) : (s.modSha g).inl = s.inl := rfl
@[simp] theorem modSha_tbs (s : State) (g : Sha → Sha) : (s.modSha g).tbs = s.tbs := rfl
@[simp] theorem modSha_own (s : State) (g : Sha → Sha) : (s.modSha g).own = s.own := rfl
@[simp] theorem modSha_locks (s : State) (g : Sha → Sha) : (s.modSha g).locks = s.locks := rfl
@[simp] theorem modSha_host (s : State) (g : Sha → Sha) : (s.modSha g).host = s.host := rfl
@[simp] theorem modSha_res (s : State) (g : Sha → Sha) : (s.modSha g).res = s.res := rfl
@[simp] theorem modSha_bas (s : State) (g : Sha → Sha) : (s.modSha g).bas = s.bas := rfl
@[simp] theorem modSha_tst (s : State) (g : Sha → Sha) : (s.modSha g).tst = s.tst := rfl
@[simp] theorem modSha_out (s : State) (g : Sha → Sha) : (s.modSha g).out = s.out := rfl
@[simp] theorem modSha_snd (s : State) (g : Sha → Sha) : (s.modSha g).snd = s.snd := rfl
@[simp] theorem modSha_ptg (s : State) (g : Sha → Sha) : (s.modSha g).ptg = s.ptg := rfl
@[simp] theorem modSha_wel (s : State) (g : Sha → Sha) : (s.modSha g).wel = s.wel := rfl
@[simp] theorem modSha_loch (s : State) (g : Sha → Sha) : (s.modSha g).loch = s.loch := rfl
@[simp] theorem modSha_whd (s : State) (g : Sha → Sha) : (s.modSha g).whd = s.whd := rfl
@[simp] theorem modSha_pool (s : State) (g : Sha → Sha) : (s.modSha g).pool = s.pool := rfl
@[simp] theorem modSha_pla (s : State) (g : Sha → Sha) : (s.modSha g).pla = s.pla := rfl
@[simp] theorem modSha_drg (s : State) (g : Sha → Sha) : (s.modSha g).drg = s.drg := rfl
@[simp] theorem modSha_elapsed (s : State) (g : Sha → Sha) : (s.modSha g).elapsed = s.elapsed := rfl
@[simp] theorem modSha_fresh (s : State) (g : Sha → Sha) : (s.modSha g).fresh = s.fresh := rfl
@[simp] theorem modSha_sent (s : State) (g : Sha → Sha) : (s.modSha g).sent = s.sent := rfl
@[simp] theorem modSha_resp (s : State) (g : Sha → Sha) : (s.modSha g).resp = s.resp := rfl
@[simp] theorem modSha_sha (s : State) (g : Sha → Sha) : (s.modSha g).sha = g s.sha := rfl
@[simp] theorem modSha_rd (s : State) (g : Sha → Sha) (f : Fld) (k l : Nat) : (s.modSha g).rd f k l = s.rd f k l := rfl
@[simp] theorem modSha_on (s : State) (g : Sha → Sha) (f : Fld) (k l : Nat) : (s.modSha g).on f k l = s.on f k l := rfl

/-! ### modDrg -/

@[simp] theorem modDrg_pending (s : State) (g : Drg → Drg) : (s.modDrg g).pending = s.pending := rfl
@[simp] theorem modDrg_regs (s : State) (g : Drg → Drg) : (s.modDrg g).regs = s.regs := rfl
@[simp] theorem modDrg_hold (s : State) (g : Drg → Drg) : (s.modDrg g).hold = s.hold := rfl
@[simp] theorem modDrg_dram (s : State) (g : Drg → Drg) : (s.modDrg g).dram = s.dram := rfl
@[simp] theorem modDrg_mram (s : State) (g : Drg → Drg) : (s.modDrg g).mram = s.mram := rfl
@[simp] theorem modDrg_tarn (s : State) (g : Drg → Drg) : (s.modDrg g).tarn = s.tarn := rfl
@[simp] theorem modDrg_ram (s : State) (g : Drg → Drg) : (s.modDrg g).ram = s.ram := rfl
@[simp] theorem modDrg_chip (s : State) (g : Drg → Drg) : (s.modDrg g).chip = s.chip := rfl
@[simp] theorem modDrg_pins (s : State) (g : Drg → Drg) : (s.modDrg g).pins = s.pins := rfl
@[simp] theorem modDrg_img (s : State) (g : Drg → Drg) : (s.modDrg g).img = s.img := rfl
@[simp] theorem modDrg_gov (s : State) (g : Drg → Drg) : (s.modDrg g).gov = s.gov := rfl
@[simp] theorem modDrg_fab (s : State) (g : Drg → Drg) : (s.modDrg g).fab = s.fab := rfl
@[simp] theorem modDrg_inl (s : State) (g : Drg → Drg) : (s.modDrg g).inl = s.inl := rfl
@[simp] theorem modDrg_tbs (s : State) (g : Drg → Drg) : (s.modDrg g).tbs = s.tbs := rfl
@[simp] theorem modDrg_own (s : State) (g : Drg → Drg) : (s.modDrg g).own = s.own := rfl
@[simp] theorem modDrg_locks (s : State) (g : Drg → Drg) : (s.modDrg g).locks = s.locks := rfl
@[simp] theorem modDrg_host (s : State) (g : Drg → Drg) : (s.modDrg g).host = s.host := rfl
@[simp] theorem modDrg_res (s : State) (g : Drg → Drg) : (s.modDrg g).res = s.res := rfl
@[simp] theorem modDrg_bas (s : State) (g : Drg → Drg) : (s.modDrg g).bas = s.bas := rfl
@[simp] theorem modDrg_tst (s : State) (g : Drg → Drg) : (s.modDrg g).tst = s.tst := rfl
@[simp] theorem modDrg_out (s : State) (g : Drg → Drg) : (s.modDrg g).out = s.out := rfl
@[simp] theorem modDrg_snd (s : State) (g : Drg → Drg) : (s.modDrg g).snd = s.snd := rfl
@[simp] theorem modDrg_ptg (s : State) (g : Drg → Drg) : (s.modDrg g).ptg = s.ptg := rfl
@[simp] theorem modDrg_wel (s : State) (g : Drg → Drg) : (s.modDrg g).wel = s.wel := rfl
@[simp] theorem modDrg_loch (s : State) (g : Drg → Drg) : (s.modDrg g).loch = s.loch := rfl
@[simp] theorem modDrg_whd (s : State) (g : Drg → Drg) : (s.modDrg g).whd = s.whd := rfl
@[simp] theorem modDrg_pool (s : State) (g : Drg → Drg) : (s.modDrg g).pool = s.pool := rfl
@[simp] theorem modDrg_pla (s : State) (g : Drg → Drg) : (s.modDrg g).pla = s.pla := rfl
@[simp] theorem modDrg_sha (s : State) (g : Drg → Drg) : (s.modDrg g).sha = s.sha := rfl
@[simp] theorem modDrg_elapsed (s : State) (g : Drg → Drg) : (s.modDrg g).elapsed = s.elapsed := rfl
@[simp] theorem modDrg_fresh (s : State) (g : Drg → Drg) : (s.modDrg g).fresh = s.fresh := rfl
@[simp] theorem modDrg_sent (s : State) (g : Drg → Drg) : (s.modDrg g).sent = s.sent := rfl
@[simp] theorem modDrg_resp (s : State) (g : Drg → Drg) : (s.modDrg g).resp = s.resp := rfl
@[simp] theorem modDrg_drg (s : State) (g : Drg → Drg) : (s.modDrg g).drg = g s.drg := rfl
@[simp] theorem modDrg_rd (s : State) (g : Drg → Drg) (f : Fld) (k l : Nat) : (s.modDrg g).rd f k l = s.rd f k l := rfl
@[simp] theorem modDrg_on (s : State) (g : Drg → Drg) (f : Fld) (k l : Nat) : (s.modDrg g).on f k l = s.on f k l := rfl

/-! ### modHc -/

@[simp] theorem modHc_pending (s : State) (n : Nat) (g : HeadComp → HeadComp) : (s.modHc n g).pending = s.pending := rfl
@[simp] theorem modHc_regs (s : State) (n : Nat) (g : HeadComp → HeadComp) : (s.modHc n g).regs = s.regs := rfl
@[simp] theorem modHc_hold (s : State) (n : Nat) (g : HeadComp → HeadComp) : (s.modHc n g).hold = s.hold := rfl
@[simp] theorem modHc_dram (s : State) (n : Nat) (g : HeadComp → HeadComp) : (s.modHc n g).dram = s.dram := rfl
@[simp] theorem modHc_mram (s : State) (n : Nat) (g : HeadComp → HeadComp) : (s.modHc n g).mram = s.mram := rfl
@[simp] theorem modHc_tarn (s : State) (n : Nat) (g : HeadComp → HeadComp) : (s.modHc n g).tarn = s.tarn := rfl
@[simp] theorem modHc_ram (s : State) (n : Nat) (g : HeadComp → HeadComp) : (s.modHc n g).ram = s.ram := rfl
@[simp] theorem modHc_chip (s : State) (n : Nat) (g : HeadComp → HeadComp) : (s.modHc n g).chip = s.chip := rfl
@[simp] theorem modHc_pins (s : State) (n : Nat) (g : HeadComp → HeadComp) : (s.modHc n g).pins = s.pins := rfl
@[simp] theorem modHc_img (s : State) (n : Nat) (g : HeadComp → HeadComp) : (s.modHc n g).img = s.img := rfl
@[simp] theorem modHc_gov (s : State) (n : Nat) (g : HeadComp → HeadComp) : (s.modHc n g).gov = s.gov := rfl
@[simp] theorem modHc_fab (s : State) (n : Nat) (g : HeadComp → HeadComp) : (s.modHc n g).fab = s.fab := rfl
@[simp] theorem modHc_inl (s : State) (n : Nat) (g : HeadComp → HeadComp) : (s.modHc n g).inl = s.inl := rfl
@[simp] theorem modHc_tbs (s : State) (n : Nat) (g : HeadComp → HeadComp) : (s.modHc n g).tbs = s.tbs := rfl
@[simp] theorem modHc_own (s : State) (n : Nat) (g : HeadComp → HeadComp) : (s.modHc n g).own = s.own := rfl
@[simp] theorem modHc_locks (s : State) (n : Nat) (g : HeadComp → HeadComp) : (s.modHc n g).locks = s.locks := rfl
@[simp] theorem modHc_host (s : State) (n : Nat) (g : HeadComp → HeadComp) : (s.modHc n g).host = s.host := rfl
@[simp] theorem modHc_res (s : State) (n : Nat) (g : HeadComp → HeadComp) : (s.modHc n g).res = s.res := rfl
@[simp] theorem modHc_tst (s : State) (n : Nat) (g : HeadComp → HeadComp) : (s.modHc n g).tst = s.tst := rfl
@[simp] theorem modHc_out (s : State) (n : Nat) (g : HeadComp → HeadComp) : (s.modHc n g).out = s.out := rfl
@[simp] theorem modHc_snd (s : State) (n : Nat) (g : HeadComp → HeadComp) : (s.modHc n g).snd = s.snd := rfl
@[simp] theorem modHc_ptg (s : State) (n : Nat) (g : HeadComp → HeadComp) : (s.modHc n g).ptg = s.ptg := rfl
@[simp] theorem modHc_wel (s : State) (n : Nat) (g : HeadComp → HeadComp) : (s.modHc n g).wel = s.wel := rfl
@[simp] theorem modHc_loch (s : State) (n : Nat) (g : HeadComp → HeadComp) : (s.modHc n g).loch = s.loch := rfl
@[simp] theorem modHc_whd (s : State) (n : Nat) (g : HeadComp → HeadComp) : (s.modHc n g).whd = s.whd := rfl
@[simp] theorem modHc_pool (s : State) (n : Nat) (g : HeadComp → HeadComp) : (s.modHc n g).pool = s.pool := rfl
@[simp] theorem modHc_pla (s : State) (n : Nat) (g : HeadComp → HeadComp) : (s.modHc n g).pla = s.pla := rfl
@[simp] theorem modHc_sha (s : State) (n : Nat) (g : HeadComp → HeadComp) : (s.modHc n g).sha = s.sha := rfl
@[simp] theorem modHc_drg (s : State) (n : Nat) (g : HeadComp → HeadComp) : (s.modHc n g).drg = s.drg := rfl
@[simp] theorem modHc_elapsed (s : State) (n : Nat) (g : HeadComp → HeadComp) : (s.modHc n g).elapsed = s.elapsed := rfl
@[simp] theorem modHc_fresh (s : State) (n : Nat) (g : HeadComp → HeadComp) : (s.modHc n g).fresh = s.fresh := rfl
@[simp] theorem modHc_sent (s : State) (n : Nat) (g : HeadComp → HeadComp) : (s.modHc n g).sent = s.sent := rfl
@[simp] theorem modHc_resp (s : State) (n : Nat) (g : HeadComp → HeadComp) : (s.modHc n g).resp = s.resp := rfl
@[simp] theorem modHc_rd (s : State) (n : Nat) (g : HeadComp → HeadComp) (f : Fld) (k l : Nat) : (s.modHc n g).rd f k l = s.rd f k l := rfl
@[simp] theorem modHc_on (s : State) (n : Nat) (g : HeadComp → HeadComp) (f : Fld) (k l : Nat) : (s.modHc n g).on f k l = s.on f k l := rfl

/-! ### modSlot -/

@[simp] theorem modSlot_pending (s : State) (n : Nat) (g : BasSlot → BasSlot) : (s.modSlot n g).pending = s.pending := rfl
@[simp] theorem modSlot_regs (s : State) (n : Nat) (g : BasSlot → BasSlot) : (s.modSlot n g).regs = s.regs := rfl
@[simp] theorem modSlot_hold (s : State) (n : Nat) (g : BasSlot → BasSlot) : (s.modSlot n g).hold = s.hold := rfl
@[simp] theorem modSlot_dram (s : State) (n : Nat) (g : BasSlot → BasSlot) : (s.modSlot n g).dram = s.dram := rfl
@[simp] theorem modSlot_mram (s : State) (n : Nat) (g : BasSlot → BasSlot) : (s.modSlot n g).mram = s.mram := rfl
@[simp] theorem modSlot_tarn (s : State) (n : Nat) (g : BasSlot → BasSlot) : (s.modSlot n g).tarn = s.tarn := rfl
@[simp] theorem modSlot_ram (s : State) (n : Nat) (g : BasSlot → BasSlot) : (s.modSlot n g).ram = s.ram := rfl
@[simp] theorem modSlot_chip (s : State) (n : Nat) (g : BasSlot → BasSlot) : (s.modSlot n g).chip = s.chip := rfl
@[simp] theorem modSlot_pins (s : State) (n : Nat) (g : BasSlot → BasSlot) : (s.modSlot n g).pins = s.pins := rfl
@[simp] theorem modSlot_img (s : State) (n : Nat) (g : BasSlot → BasSlot) : (s.modSlot n g).img = s.img := rfl
@[simp] theorem modSlot_gov (s : State) (n : Nat) (g : BasSlot → BasSlot) : (s.modSlot n g).gov = s.gov := rfl
@[simp] theorem modSlot_fab (s : State) (n : Nat) (g : BasSlot → BasSlot) : (s.modSlot n g).fab = s.fab := rfl
@[simp] theorem modSlot_inl (s : State) (n : Nat) (g : BasSlot → BasSlot) : (s.modSlot n g).inl = s.inl := rfl
@[simp] theorem modSlot_tbs (s : State) (n : Nat) (g : BasSlot → BasSlot) : (s.modSlot n g).tbs = s.tbs := rfl
@[simp] theorem modSlot_own (s : State) (n : Nat) (g : BasSlot → BasSlot) : (s.modSlot n g).own = s.own := rfl
@[simp] theorem modSlot_locks (s : State) (n : Nat) (g : BasSlot → BasSlot) : (s.modSlot n g).locks = s.locks := rfl
@[simp] theorem modSlot_host (s : State) (n : Nat) (g : BasSlot → BasSlot) : (s.modSlot n g).host = s.host := rfl
@[simp] theorem modSlot_res (s : State) (n : Nat) (g : BasSlot → BasSlot) : (s.modSlot n g).res = s.res := rfl
@[simp] theorem modSlot_tst (s : State) (n : Nat) (g : BasSlot → BasSlot) : (s.modSlot n g).tst = s.tst := rfl
@[simp] theorem modSlot_out (s : State) (n : Nat) (g : BasSlot → BasSlot) : (s.modSlot n g).out = s.out := rfl
@[simp] theorem modSlot_snd (s : State) (n : Nat) (g : BasSlot → BasSlot) : (s.modSlot n g).snd = s.snd := rfl
@[simp] theorem modSlot_ptg (s : State) (n : Nat) (g : BasSlot → BasSlot) : (s.modSlot n g).ptg = s.ptg := rfl
@[simp] theorem modSlot_wel (s : State) (n : Nat) (g : BasSlot → BasSlot) : (s.modSlot n g).wel = s.wel := rfl
@[simp] theorem modSlot_loch (s : State) (n : Nat) (g : BasSlot → BasSlot) : (s.modSlot n g).loch = s.loch := rfl
@[simp] theorem modSlot_whd (s : State) (n : Nat) (g : BasSlot → BasSlot) : (s.modSlot n g).whd = s.whd := rfl
@[simp] theorem modSlot_pool (s : State) (n : Nat) (g : BasSlot → BasSlot) : (s.modSlot n g).pool = s.pool := rfl
@[simp] theorem modSlot_pla (s : State) (n : Nat) (g : BasSlot → BasSlot) : (s.modSlot n g).pla = s.pla := rfl
@[simp] theorem modSlot_sha (s : State) (n : Nat) (g : BasSlot → BasSlot) : (s.modSlot n g).sha = s.sha := rfl
@[simp] theorem modSlot_drg (s : State) (n : Nat) (g : BasSlot → BasSlot) : (s.modSlot n g).drg = s.drg := rfl
@[simp] theorem modSlot_elapsed (s : State) (n : Nat) (g : BasSlot → BasSlot) : (s.modSlot n g).elapsed = s.elapsed := rfl
@[simp] theorem modSlot_fresh (s : State) (n : Nat) (g : BasSlot → BasSlot) : (s.modSlot n g).fresh = s.fresh := rfl
@[simp] theorem modSlot_sent (s : State) (n : Nat) (g : BasSlot → BasSlot) : (s.modSlot n g).sent = s.sent := rfl
@[simp] theorem modSlot_resp (s : State) (n : Nat) (g : BasSlot → BasSlot) : (s.modSlot n g).resp = s.resp := rfl
@[simp] theorem modSlot_rd (s : State) (n : Nat) (g : BasSlot → BasSlot) (f : Fld) (k l : Nat) : (s.modSlot n g).rd f k l = s.rd f k l := rfl
@[simp] theorem modSlot_on (s : State) (n : Nat) (g : BasSlot → BasSlot) (f : Fld) (k l : Nat) : (s.modSlot n g).on f k l = s.on f k l := rfl

/-! ### modComp -/

@[simp] theorem modComp_pending (s : State) (n : Nat) (g : Comp → Comp) : (s.modComp n g).pending = s.pending := rfl
@[simp] theorem modComp_regs (s : State) (n : Nat) (g : Comp → Comp) : (s.modComp n g).regs = s.regs := rfl
@[simp] theorem modComp_hold (s : State) (n : Nat) (g : Comp → Comp) : (s.modComp n g).hold = s.hold := rfl
@[simp] theorem modComp_dram (s : State) (n : Nat) (g : Comp → Comp) : (s.modComp n g).dram = s.dram := rfl
@[simp] theorem modComp_mram (s : State) (n : Nat) (g : Comp → Comp) : (s.modComp n g).mram = s.mram := rfl
@[simp] theorem modComp_tarn (s : State) (n : Nat) (g : Comp → Comp) : (s.modComp n g).tarn = s.tarn := rfl
@[simp] theorem modComp_ram (s : State) (n : Nat) (g : Comp → Comp) : (s.modComp n g).ram = s.ram := rfl
@[simp] theorem modComp_chip (s : State) (n : Nat) (g : Comp → Comp) : (s.modComp n g).chip = s.chip := rfl
@[simp] theorem modComp_pins (s : State) (n : Nat) (g : Comp → Comp) : (s.modComp n g).pins = s.pins := rfl
@[simp] theorem modComp_img (s : State) (n : Nat) (g : Comp → Comp) : (s.modComp n g).img = s.img := rfl
@[simp] theorem modComp_gov (s : State) (n : Nat) (g : Comp → Comp) : (s.modComp n g).gov = s.gov := rfl
@[simp] theorem modComp_fab (s : State) (n : Nat) (g : Comp → Comp) : (s.modComp n g).fab = s.fab := rfl
@[simp] theorem modComp_inl (s : State) (n : Nat) (g : Comp → Comp) : (s.modComp n g).inl = s.inl := rfl
@[simp] theorem modComp_tbs (s : State) (n : Nat) (g : Comp → Comp) : (s.modComp n g).tbs = s.tbs := rfl
@[simp] theorem modComp_own (s : State) (n : Nat) (g : Comp → Comp) : (s.modComp n g).own = s.own := rfl
@[simp] theorem modComp_locks (s : State) (n : Nat) (g : Comp → Comp) : (s.modComp n g).locks = s.locks := rfl
@[simp] theorem modComp_host (s : State) (n : Nat) (g : Comp → Comp) : (s.modComp n g).host = s.host := rfl
@[simp] theorem modComp_res (s : State) (n : Nat) (g : Comp → Comp) : (s.modComp n g).res = s.res := rfl
@[simp] theorem modComp_tst (s : State) (n : Nat) (g : Comp → Comp) : (s.modComp n g).tst = s.tst := rfl
@[simp] theorem modComp_out (s : State) (n : Nat) (g : Comp → Comp) : (s.modComp n g).out = s.out := rfl
@[simp] theorem modComp_snd (s : State) (n : Nat) (g : Comp → Comp) : (s.modComp n g).snd = s.snd := rfl
@[simp] theorem modComp_ptg (s : State) (n : Nat) (g : Comp → Comp) : (s.modComp n g).ptg = s.ptg := rfl
@[simp] theorem modComp_wel (s : State) (n : Nat) (g : Comp → Comp) : (s.modComp n g).wel = s.wel := rfl
@[simp] theorem modComp_loch (s : State) (n : Nat) (g : Comp → Comp) : (s.modComp n g).loch = s.loch := rfl
@[simp] theorem modComp_whd (s : State) (n : Nat) (g : Comp → Comp) : (s.modComp n g).whd = s.whd := rfl
@[simp] theorem modComp_pool (s : State) (n : Nat) (g : Comp → Comp) : (s.modComp n g).pool = s.pool := rfl
@[simp] theorem modComp_pla (s : State) (n : Nat) (g : Comp → Comp) : (s.modComp n g).pla = s.pla := rfl
@[simp] theorem modComp_sha (s : State) (n : Nat) (g : Comp → Comp) : (s.modComp n g).sha = s.sha := rfl
@[simp] theorem modComp_drg (s : State) (n : Nat) (g : Comp → Comp) : (s.modComp n g).drg = s.drg := rfl
@[simp] theorem modComp_elapsed (s : State) (n : Nat) (g : Comp → Comp) : (s.modComp n g).elapsed = s.elapsed := rfl
@[simp] theorem modComp_fresh (s : State) (n : Nat) (g : Comp → Comp) : (s.modComp n g).fresh = s.fresh := rfl
@[simp] theorem modComp_sent (s : State) (n : Nat) (g : Comp → Comp) : (s.modComp n g).sent = s.sent := rfl
@[simp] theorem modComp_resp (s : State) (n : Nat) (g : Comp → Comp) : (s.modComp n g).resp = s.resp := rfl
@[simp] theorem modComp_rd (s : State) (n : Nat) (g : Comp → Comp) (f : Fld) (k l : Nat) : (s.modComp n g).rd f k l = s.rd f k l := rfl
@[simp] theorem modComp_on (s : State) (n : Nat) (g : Comp → Comp) (f : Fld) (k l : Nat) : (s.modComp n g).on f k l = s.on f k l := rfl

/-! ### modOh -/

@[simp] theorem modOh_pending (s : State) (n : Nat) (g : OutHead → OutHead) : (s.modOh n g).pending = s.pending := rfl
@[simp] theorem modOh_regs (s : State) (n : Nat) (g : OutHead → OutHead) : (s.modOh n g).regs = s.regs := rfl
@[simp] theorem modOh_hold (s : State) (n : Nat) (g : OutHead → OutHead) : (s.modOh n g).hold = s.hold := rfl
@[simp] theorem modOh_dram (s : State) (n : Nat) (g : OutHead → OutHead) : (s.modOh n g).dram = s.dram := rfl
@[simp] theorem modOh_mram (s : State) (n : Nat) (g : OutHead → OutHead) : (s.modOh n g).mram = s.mram := rfl
@[simp] theorem modOh_tarn (s : State) (n : Nat) (g : OutHead → OutHead) : (s.modOh n g).tarn = s.tarn := rfl
@[simp] theorem modOh_ram (s : State) (n : Nat) (g : OutHead → OutHead) : (s.modOh n g).ram = s.ram := rfl
@[simp] theorem modOh_chip (s : State) (n : Nat) (g : OutHead → OutHead) : (s.modOh n g).chip = s.chip := rfl
@[simp] theorem modOh_pins (s : State) (n : Nat) (g : OutHead → OutHead) : (s.modOh n g).pins = s.pins := rfl
@[simp] theorem modOh_img (s : State) (n : Nat) (g : OutHead → OutHead) : (s.modOh n g).img = s.img := rfl
@[simp] theorem modOh_gov (s : State) (n : Nat) (g : OutHead → OutHead) : (s.modOh n g).gov = s.gov := rfl
@[simp] theorem modOh_fab (s : State) (n : Nat) (g : OutHead → OutHead) : (s.modOh n g).fab = s.fab := rfl
@[simp] theorem modOh_inl (s : State) (n : Nat) (g : OutHead → OutHead) : (s.modOh n g).inl = s.inl := rfl
@[simp] theorem modOh_tbs (s : State) (n : Nat) (g : OutHead → OutHead) : (s.modOh n g).tbs = s.tbs := rfl
@[simp] theorem modOh_own (s : State) (n : Nat) (g : OutHead → OutHead) : (s.modOh n g).own = s.own := rfl
@[simp] theorem modOh_locks (s : State) (n : Nat) (g : OutHead → OutHead) : (s.modOh n g).locks = s.locks := rfl
@[simp] theorem modOh_host (s : State) (n : Nat) (g : OutHead → OutHead) : (s.modOh n g).host = s.host := rfl
@[simp] theorem modOh_res (s : State) (n : Nat) (g : OutHead → OutHead) : (s.modOh n g).res = s.res := rfl
@[simp] theorem modOh_bas (s : State) (n : Nat) (g : OutHead → OutHead) : (s.modOh n g).bas = s.bas := rfl
@[simp] theorem modOh_tst (s : State) (n : Nat) (g : OutHead → OutHead) : (s.modOh n g).tst = s.tst := rfl
@[simp] theorem modOh_snd (s : State) (n : Nat) (g : OutHead → OutHead) : (s.modOh n g).snd = s.snd := rfl
@[simp] theorem modOh_ptg (s : State) (n : Nat) (g : OutHead → OutHead) : (s.modOh n g).ptg = s.ptg := rfl
@[simp] theorem modOh_wel (s : State) (n : Nat) (g : OutHead → OutHead) : (s.modOh n g).wel = s.wel := rfl
@[simp] theorem modOh_loch (s : State) (n : Nat) (g : OutHead → OutHead) : (s.modOh n g).loch = s.loch := rfl
@[simp] theorem modOh_whd (s : State) (n : Nat) (g : OutHead → OutHead) : (s.modOh n g).whd = s.whd := rfl
@[simp] theorem modOh_pool (s : State) (n : Nat) (g : OutHead → OutHead) : (s.modOh n g).pool = s.pool := rfl
@[simp] theorem modOh_pla (s : State) (n : Nat) (g : OutHead → OutHead) : (s.modOh n g).pla = s.pla := rfl
@[simp] theorem modOh_sha (s : State) (n : Nat) (g : OutHead → OutHead) : (s.modOh n g).sha = s.sha := rfl
@[simp] theorem modOh_drg (s : State) (n : Nat) (g : OutHead → OutHead) : (s.modOh n g).drg = s.drg := rfl
@[simp] theorem modOh_elapsed (s : State) (n : Nat) (g : OutHead → OutHead) : (s.modOh n g).elapsed = s.elapsed := rfl
@[simp] theorem modOh_fresh (s : State) (n : Nat) (g : OutHead → OutHead) : (s.modOh n g).fresh = s.fresh := rfl
@[simp] theorem modOh_sent (s : State) (n : Nat) (g : OutHead → OutHead) : (s.modOh n g).sent = s.sent := rfl
@[simp] theorem modOh_resp (s : State) (n : Nat) (g : OutHead → OutHead) : (s.modOh n g).resp = s.resp := rfl
@[simp] theorem modOh_rd (s : State) (n : Nat) (g : OutHead → OutHead) (f : Fld) (k l : Nat) : (s.modOh n g).rd f k l = s.rd f k l := rfl
@[simp] theorem modOh_on (s : State) (n : Nat) (g : OutHead → OutHead) (f : Fld) (k l : Nat) : (s.modOh n g).on f k l = s.on f k l := rfl

/-! ### modUnit -/

@[simp] theorem modUnit_pending (s : State) (n : Nat) (g : SndUnit → SndUnit) : (s.modUnit n g).pending = s.pending := rfl
@[simp] theorem modUnit_regs (s : State) (n : Nat) (g : SndUnit → SndUnit) : (s.modUnit n g).regs = s.regs := rfl
@[simp] theorem modUnit_hold (s : State) (n : Nat) (g : SndUnit → SndUnit) : (s.modUnit n g).hold = s.hold := rfl
@[simp] theorem modUnit_dram (s : State) (n : Nat) (g : SndUnit → SndUnit) : (s.modUnit n g).dram = s.dram := rfl
@[simp] theorem modUnit_mram (s : State) (n : Nat) (g : SndUnit → SndUnit) : (s.modUnit n g).mram = s.mram := rfl
@[simp] theorem modUnit_tarn (s : State) (n : Nat) (g : SndUnit → SndUnit) : (s.modUnit n g).tarn = s.tarn := rfl
@[simp] theorem modUnit_ram (s : State) (n : Nat) (g : SndUnit → SndUnit) : (s.modUnit n g).ram = s.ram := rfl
@[simp] theorem modUnit_chip (s : State) (n : Nat) (g : SndUnit → SndUnit) : (s.modUnit n g).chip = s.chip := rfl
@[simp] theorem modUnit_pins (s : State) (n : Nat) (g : SndUnit → SndUnit) : (s.modUnit n g).pins = s.pins := rfl
@[simp] theorem modUnit_img (s : State) (n : Nat) (g : SndUnit → SndUnit) : (s.modUnit n g).img = s.img := rfl
@[simp] theorem modUnit_gov (s : State) (n : Nat) (g : SndUnit → SndUnit) : (s.modUnit n g).gov = s.gov := rfl
@[simp] theorem modUnit_fab (s : State) (n : Nat) (g : SndUnit → SndUnit) : (s.modUnit n g).fab = s.fab := rfl
@[simp] theorem modUnit_inl (s : State) (n : Nat) (g : SndUnit → SndUnit) : (s.modUnit n g).inl = s.inl := rfl
@[simp] theorem modUnit_tbs (s : State) (n : Nat) (g : SndUnit → SndUnit) : (s.modUnit n g).tbs = s.tbs := rfl
@[simp] theorem modUnit_own (s : State) (n : Nat) (g : SndUnit → SndUnit) : (s.modUnit n g).own = s.own := rfl
@[simp] theorem modUnit_locks (s : State) (n : Nat) (g : SndUnit → SndUnit) : (s.modUnit n g).locks = s.locks := rfl
@[simp] theorem modUnit_host (s : State) (n : Nat) (g : SndUnit → SndUnit) : (s.modUnit n g).host = s.host := rfl
@[simp] theorem modUnit_res (s : State) (n : Nat) (g : SndUnit → SndUnit) : (s.modUnit n g).res = s.res := rfl
@[simp] theorem modUnit_bas (s : State) (n : Nat) (g : SndUnit → SndUnit) : (s.modUnit n g).bas = s.bas := rfl
@[simp] theorem modUnit_tst (s : State) (n : Nat) (g : SndUnit → SndUnit) : (s.modUnit n g).tst = s.tst := rfl
@[simp] theorem modUnit_out (s : State) (n : Nat) (g : SndUnit → SndUnit) : (s.modUnit n g).out = s.out := rfl
@[simp] theorem modUnit_ptg (s : State) (n : Nat) (g : SndUnit → SndUnit) : (s.modUnit n g).ptg = s.ptg := rfl
@[simp] theorem modUnit_wel (s : State) (n : Nat) (g : SndUnit → SndUnit) : (s.modUnit n g).wel = s.wel := rfl
@[simp] theorem modUnit_loch (s : State) (n : Nat) (g : SndUnit → SndUnit) : (s.modUnit n g).loch = s.loch := rfl
@[simp] theorem modUnit_whd (s : State) (n : Nat) (g : SndUnit → SndUnit) : (s.modUnit n g).whd = s.whd := rfl
@[simp] theorem modUnit_pool (s : State) (n : Nat) (g : SndUnit → SndUnit) : (s.modUnit n g).pool = s.pool := rfl
@[simp] theorem modUnit_pla (s : State) (n : Nat) (g : SndUnit → SndUnit) : (s.modUnit n g).pla = s.pla := rfl
@[simp] theorem modUnit_sha (s : State) (n : Nat) (g : SndUnit → SndUnit) : (s.modUnit n g).sha = s.sha := rfl
@[simp] theorem modUnit_drg (s : State) (n : Nat) (g : SndUnit → SndUnit) : (s.modUnit n g).drg = s.drg := rfl
@[simp] theorem modUnit_elapsed (s : State) (n : Nat) (g : SndUnit → SndUnit) : (s.modUnit n g).elapsed = s.elapsed := rfl
@[simp] theorem modUnit_fresh (s : State) (n : Nat) (g : SndUnit → SndUnit) : (s.modUnit n g).fresh = s.fresh := rfl
@[simp] theorem modUnit_sent (s : State) (n : Nat) (g : SndUnit → SndUnit) : (s.modUnit n g).sent = s.sent := rfl
@[simp] theorem modUnit_resp (s : State) (n : Nat) (g : SndUnit → SndUnit) : (s.modUnit n g).resp = s.resp := rfl
@[simp] theorem modUnit_rd (s : State) (n : Nat) (g : SndUnit → SndUnit) (f : Fld) (k l : Nat) : (s.modUnit n g).rd f k l = s.rd f k l := rfl
@[simp] theorem modUnit_on (s : State) (n : Nat) (g : SndUnit → SndUnit) (f : Fld) (k l : Nat) : (s.modUnit n g).on f k l = s.on f k l := rfl

/-! ### modHch -/

@[simp] theorem modHch_pending (s : State) (n : Nat) (g : PlaCh → PlaCh) : (s.modHch n g).pending = s.pending := rfl
@[simp] theorem modHch_regs (s : State) (n : Nat) (g : PlaCh → PlaCh) : (s.modHch n g).regs = s.regs := rfl
@[simp] theorem modHch_hold (s : State) (n : Nat) (g : PlaCh → PlaCh) : (s.modHch n g).hold = s.hold := rfl
@[simp] theorem modHch_dram (s : State) (n : Nat) (g : PlaCh → PlaCh) : (s.modHch n g).dram = s.dram := rfl
@[simp] theorem modHch_mram (s : State) (n : Nat) (g : PlaCh → PlaCh) : (s.modHch n g).mram = s.mram := rfl
@[simp] theorem modHch_tarn (s : State) (n : Nat) (g : PlaCh → PlaCh) : (s.modHch n g).tarn = s.tarn := rfl
@[simp] theorem modHch_ram (s : State) (n : Nat) (g : PlaCh → PlaCh) : (s.modHch n g).ram = s.ram := rfl
@[simp] theorem modHch_chip (s : State) (n : Nat) (g : PlaCh → PlaCh) : (s.modHch n g).chip = s.chip := rfl
@[simp] theorem modHch_pins (s : State) (n : Nat) (g : PlaCh → PlaCh) : (s.modHch n g).pins = s.pins := rfl
@[simp] theorem modHch_img (s : State) (n : Nat) (g : PlaCh → PlaCh) : (s.modHch n g).img = s.img := rfl
@[simp] theorem modHch_gov (s : State) (n : Nat) (g : PlaCh → PlaCh) : (s.modHch n g).gov = s.gov := rfl
@[simp] theorem modHch_fab (s : State) (n : Nat) (g : PlaCh → PlaCh) : (s.modHch n g).fab = s.fab := rfl
@[simp] theorem modHch_inl (s : State) (n : Nat) (g : PlaCh → PlaCh) : (s.modHch n g).inl = s.inl := rfl
@[simp] theorem modHch_tbs (s : State) (n : Nat) (g : PlaCh → PlaCh) : (s.modHch n g).tbs = s.tbs := rfl
@[simp] theorem modHch_own (s : State) (n : Nat) (g : PlaCh → PlaCh) : (s.modHch n g).own = s.own := rfl
@[simp] theorem modHch_locks (s : State) (n : Nat) (g : PlaCh → PlaCh) : (s.modHch n g).locks = s.locks := rfl
@[simp] theorem modHch_host (s : State) (n : Nat) (g : PlaCh → PlaCh) : (s.modHch n g).host = s.host := rfl
@[simp] theorem modHch_res (s : State) (n : Nat) (g : PlaCh → PlaCh) : (s.modHch n g).res = s.res := rfl
@[simp] theorem modHch_bas (s : State) (n : Nat) (g : PlaCh → PlaCh) : (s.modHch n g).bas = s.bas := rfl
@[simp] theorem modHch_tst (s : State) (n : Nat) (g : PlaCh → PlaCh) : (s.modHch n g).tst = s.tst := rfl
@[simp] theorem modHch_out (s : State) (n : Nat) (g : PlaCh → PlaCh) : (s.modHch n g).out = s.out := rfl
@[simp] theorem modHch_snd (s : State) (n : Nat) (g : PlaCh → PlaCh) : (s.modHch n g).snd = s.snd := rfl
@[simp] theorem modHch_ptg (s : State) (n : Nat) (g : PlaCh → PlaCh) : (s.modHch n g).ptg = s.ptg := rfl
@[simp] theorem modHch_wel (s : State) (n : Nat) (g : PlaCh → PlaCh) : (s.modHch n g).wel = s.wel := rfl
@[simp] theorem modHch_loch (s : State) (n : Nat) (g : PlaCh → PlaCh) : (s.modHch n g).loch = s.loch := rfl
@[simp] theorem modHch_whd (s : State) (n : Nat) (g : PlaCh → PlaCh) : (s.modHch n g).whd = s.whd := rfl
@[simp] theorem modHch_pool (s : State) (n : Nat) (g : PlaCh → PlaCh) : (s.modHch n g).pool = s.pool := rfl
@[simp] theorem modHch_sha (s : State) (n : Nat) (g : PlaCh → PlaCh) : (s.modHch n g).sha = s.sha := rfl
@[simp] theorem modHch_drg (s : State) (n : Nat) (g : PlaCh → PlaCh) : (s.modHch n g).drg = s.drg := rfl
@[simp] theorem modHch_elapsed (s : State) (n : Nat) (g : PlaCh → PlaCh) : (s.modHch n g).elapsed = s.elapsed := rfl
@[simp] theorem modHch_fresh (s : State) (n : Nat) (g : PlaCh → PlaCh) : (s.modHch n g).fresh = s.fresh := rfl
@[simp] theorem modHch_sent (s : State) (n : Nat) (g : PlaCh → PlaCh) : (s.modHch n g).sent = s.sent := rfl
@[simp] theorem modHch_resp (s : State) (n : Nat) (g : PlaCh → PlaCh) : (s.modHch n g).resp = s.resp := rfl
@[simp] theorem modHch_rd (s : State) (n : Nat) (g : PlaCh → PlaCh) (f : Fld) (k l : Nat) : (s.modHch n g).rd f k l = s.rd f k l := rfl
@[simp] theorem modHch_on (s : State) (n : Nat) (g : PlaCh → PlaCh) (f : Fld) (k l : Nat) : (s.modHch n g).on f k l = s.on f k l := rfl

/-! ### modChan -/

@[simp] theorem modChan_pending (s : State) (n : Nat) (g : Chan → Chan) : (s.modChan n g).pending = s.pending := rfl
@[simp] theorem modChan_regs (s : State) (n : Nat) (g : Chan → Chan) : (s.modChan n g).regs = s.regs := rfl
@[simp] theorem modChan_hold (s : State) (n : Nat) (g : Chan → Chan) : (s.modChan n g).hold = s.hold := rfl
@[simp] theorem modChan_dram (s : State) (n : Nat) (g : Chan → Chan) : (s.modChan n g).dram = s.dram := rfl
@[simp] theorem modChan_mram (s : State) (n : Nat) (g : Chan → Chan) : (s.modChan n g).mram = s.mram := rfl
@[simp] theorem modChan_tarn (s : State) (n : Nat) (g : Chan → Chan) : (s.modChan n g).tarn = s.tarn := rfl
@[simp] theorem modChan_ram (s : State) (n : Nat) (g : Chan → Chan) : (s.modChan n g).ram = s.ram := rfl
@[simp] theorem modChan_chip (s : State) (n : Nat) (g : Chan → Chan) : (s.modChan n g).chip = s.chip := rfl
@[simp] theorem modChan_pins (s : State) (n : Nat) (g : Chan → Chan) : (s.modChan n g).pins = s.pins := rfl
@[simp] theorem modChan_img (s : State) (n : Nat) (g : Chan → Chan) : (s.modChan n g).img = s.img := rfl
@[simp] theorem modChan_gov (s : State) (n : Nat) (g : Chan → Chan) : (s.modChan n g).gov = s.gov := rfl
@[simp] theorem modChan_fab (s : State) (n : Nat) (g : Chan → Chan) : (s.modChan n g).fab = s.fab := rfl
@[simp] theorem modChan_inl (s : State) (n : Nat) (g : Chan → Chan) : (s.modChan n g).inl = s.inl := rfl
@[simp] theorem modChan_tbs (s : State) (n : Nat) (g : Chan → Chan) : (s.modChan n g).tbs = s.tbs := rfl
@[simp] theorem modChan_own (s : State) (n : Nat) (g : Chan → Chan) : (s.modChan n g).own = s.own := rfl
@[simp] theorem modChan_locks (s : State) (n : Nat) (g : Chan → Chan) : (s.modChan n g).locks = s.locks := rfl
@[simp] theorem modChan_host (s : State) (n : Nat) (g : Chan → Chan) : (s.modChan n g).host = s.host := rfl
@[simp] theorem modChan_bas (s : State) (n : Nat) (g : Chan → Chan) : (s.modChan n g).bas = s.bas := rfl
@[simp] theorem modChan_tst (s : State) (n : Nat) (g : Chan → Chan) : (s.modChan n g).tst = s.tst := rfl
@[simp] theorem modChan_out (s : State) (n : Nat) (g : Chan → Chan) : (s.modChan n g).out = s.out := rfl
@[simp] theorem modChan_snd (s : State) (n : Nat) (g : Chan → Chan) : (s.modChan n g).snd = s.snd := rfl
@[simp] theorem modChan_ptg (s : State) (n : Nat) (g : Chan → Chan) : (s.modChan n g).ptg = s.ptg := rfl
@[simp] theorem modChan_wel (s : State) (n : Nat) (g : Chan → Chan) : (s.modChan n g).wel = s.wel := rfl
@[simp] theorem modChan_loch (s : State) (n : Nat) (g : Chan → Chan) : (s.modChan n g).loch = s.loch := rfl
@[simp] theorem modChan_whd (s : State) (n : Nat) (g : Chan → Chan) : (s.modChan n g).whd = s.whd := rfl
@[simp] theorem modChan_pool (s : State) (n : Nat) (g : Chan → Chan) : (s.modChan n g).pool = s.pool := rfl
@[simp] theorem modChan_pla (s : State) (n : Nat) (g : Chan → Chan) : (s.modChan n g).pla = s.pla := rfl
@[simp] theorem modChan_sha (s : State) (n : Nat) (g : Chan → Chan) : (s.modChan n g).sha = s.sha := rfl
@[simp] theorem modChan_drg (s : State) (n : Nat) (g : Chan → Chan) : (s.modChan n g).drg = s.drg := rfl
@[simp] theorem modChan_elapsed (s : State) (n : Nat) (g : Chan → Chan) : (s.modChan n g).elapsed = s.elapsed := rfl
@[simp] theorem modChan_fresh (s : State) (n : Nat) (g : Chan → Chan) : (s.modChan n g).fresh = s.fresh := rfl
@[simp] theorem modChan_sent (s : State) (n : Nat) (g : Chan → Chan) : (s.modChan n g).sent = s.sent := rfl
@[simp] theorem modChan_resp (s : State) (n : Nat) (g : Chan → Chan) : (s.modChan n g).resp = s.resp := rfl
@[simp] theorem modChan_rd (s : State) (n : Nat) (g : Chan → Chan) (f : Fld) (k l : Nat) : (s.modChan n g).rd f k l = s.rd f k l := rfl
@[simp] theorem modChan_on (s : State) (n : Nat) (g : Chan → Chan) (f : Fld) (k l : Nat) : (s.modChan n g).on f k l = s.on f k l := rfl

/-! ### modCove -/

@[simp] theorem modCove_pending (s : State) (n : Nat) (g : Cove → Cove) : (s.modCove n g).pending = s.pending := rfl
@[simp] theorem modCove_regs (s : State) (n : Nat) (g : Cove → Cove) : (s.modCove n g).regs = s.regs := rfl
@[simp] theorem modCove_hold (s : State) (n : Nat) (g : Cove → Cove) : (s.modCove n g).hold = s.hold := rfl
@[simp] theorem modCove_dram (s : State) (n : Nat) (g : Cove → Cove) : (s.modCove n g).dram = s.dram := rfl
@[simp] theorem modCove_mram (s : State) (n : Nat) (g : Cove → Cove) : (s.modCove n g).mram = s.mram := rfl
@[simp] theorem modCove_tarn (s : State) (n : Nat) (g : Cove → Cove) : (s.modCove n g).tarn = s.tarn := rfl
@[simp] theorem modCove_ram (s : State) (n : Nat) (g : Cove → Cove) : (s.modCove n g).ram = s.ram := rfl
@[simp] theorem modCove_chip (s : State) (n : Nat) (g : Cove → Cove) : (s.modCove n g).chip = s.chip := rfl
@[simp] theorem modCove_pins (s : State) (n : Nat) (g : Cove → Cove) : (s.modCove n g).pins = s.pins := rfl
@[simp] theorem modCove_img (s : State) (n : Nat) (g : Cove → Cove) : (s.modCove n g).img = s.img := rfl
@[simp] theorem modCove_gov (s : State) (n : Nat) (g : Cove → Cove) : (s.modCove n g).gov = s.gov := rfl
@[simp] theorem modCove_fab (s : State) (n : Nat) (g : Cove → Cove) : (s.modCove n g).fab = s.fab := rfl
@[simp] theorem modCove_inl (s : State) (n : Nat) (g : Cove → Cove) : (s.modCove n g).inl = s.inl := rfl
@[simp] theorem modCove_tbs (s : State) (n : Nat) (g : Cove → Cove) : (s.modCove n g).tbs = s.tbs := rfl
@[simp] theorem modCove_own (s : State) (n : Nat) (g : Cove → Cove) : (s.modCove n g).own = s.own := rfl
@[simp] theorem modCove_locks (s : State) (n : Nat) (g : Cove → Cove) : (s.modCove n g).locks = s.locks := rfl
@[simp] theorem modCove_res (s : State) (n : Nat) (g : Cove → Cove) : (s.modCove n g).res = s.res := rfl
@[simp] theorem modCove_bas (s : State) (n : Nat) (g : Cove → Cove) : (s.modCove n g).bas = s.bas := rfl
@[simp] theorem modCove_tst (s : State) (n : Nat) (g : Cove → Cove) : (s.modCove n g).tst = s.tst := rfl
@[simp] theorem modCove_out (s : State) (n : Nat) (g : Cove → Cove) : (s.modCove n g).out = s.out := rfl
@[simp] theorem modCove_snd (s : State) (n : Nat) (g : Cove → Cove) : (s.modCove n g).snd = s.snd := rfl
@[simp] theorem modCove_ptg (s : State) (n : Nat) (g : Cove → Cove) : (s.modCove n g).ptg = s.ptg := rfl
@[simp] theorem modCove_wel (s : State) (n : Nat) (g : Cove → Cove) : (s.modCove n g).wel = s.wel := rfl
@[simp] theorem modCove_loch (s : State) (n : Nat) (g : Cove → Cove) : (s.modCove n g).loch = s.loch := rfl
@[simp] theorem modCove_whd (s : State) (n : Nat) (g : Cove → Cove) : (s.modCove n g).whd = s.whd := rfl
@[simp] theorem modCove_pool (s : State) (n : Nat) (g : Cove → Cove) : (s.modCove n g).pool = s.pool := rfl
@[simp] theorem modCove_pla (s : State) (n : Nat) (g : Cove → Cove) : (s.modCove n g).pla = s.pla := rfl
@[simp] theorem modCove_sha (s : State) (n : Nat) (g : Cove → Cove) : (s.modCove n g).sha = s.sha := rfl
@[simp] theorem modCove_drg (s : State) (n : Nat) (g : Cove → Cove) : (s.modCove n g).drg = s.drg := rfl
@[simp] theorem modCove_elapsed (s : State) (n : Nat) (g : Cove → Cove) : (s.modCove n g).elapsed = s.elapsed := rfl
@[simp] theorem modCove_fresh (s : State) (n : Nat) (g : Cove → Cove) : (s.modCove n g).fresh = s.fresh := rfl
@[simp] theorem modCove_sent (s : State) (n : Nat) (g : Cove → Cove) : (s.modCove n g).sent = s.sent := rfl
@[simp] theorem modCove_resp (s : State) (n : Nat) (g : Cove → Cove) : (s.modCove n g).resp = s.resp := rfl
@[simp] theorem modCove_rd (s : State) (n : Nat) (g : Cove → Cove) (f : Fld) (k l : Nat) : (s.modCove n g).rd f k l = s.rd f k l := rfl
@[simp] theorem modCove_on (s : State) (n : Nat) (g : Cove → Cove) (f : Fld) (k l : Nat) : (s.modCove n g).on f k l = s.on f k l := rfl

/-! ### modLock -/

@[simp] theorem modLock_pending (s : State) (n : Nat) (g : Lock → Lock) : (s.modLock n g).pending = s.pending := rfl
@[simp] theorem modLock_regs (s : State) (n : Nat) (g : Lock → Lock) : (s.modLock n g).regs = s.regs := rfl
@[simp] theorem modLock_hold (s : State) (n : Nat) (g : Lock → Lock) : (s.modLock n g).hold = s.hold := rfl
@[simp] theorem modLock_dram (s : State) (n : Nat) (g : Lock → Lock) : (s.modLock n g).dram = s.dram := rfl
@[simp] theorem modLock_mram (s : State) (n : Nat) (g : Lock → Lock) : (s.modLock n g).mram = s.mram := rfl
@[simp] theorem modLock_tarn (s : State) (n : Nat) (g : Lock → Lock) : (s.modLock n g).tarn = s.tarn := rfl
@[simp] theorem modLock_ram (s : State) (n : Nat) (g : Lock → Lock) : (s.modLock n g).ram = s.ram := rfl
@[simp] theorem modLock_chip (s : State) (n : Nat) (g : Lock → Lock) : (s.modLock n g).chip = s.chip := rfl
@[simp] theorem modLock_pins (s : State) (n : Nat) (g : Lock → Lock) : (s.modLock n g).pins = s.pins := rfl
@[simp] theorem modLock_img (s : State) (n : Nat) (g : Lock → Lock) : (s.modLock n g).img = s.img := rfl
@[simp] theorem modLock_gov (s : State) (n : Nat) (g : Lock → Lock) : (s.modLock n g).gov = s.gov := rfl
@[simp] theorem modLock_fab (s : State) (n : Nat) (g : Lock → Lock) : (s.modLock n g).fab = s.fab := rfl
@[simp] theorem modLock_inl (s : State) (n : Nat) (g : Lock → Lock) : (s.modLock n g).inl = s.inl := rfl
@[simp] theorem modLock_tbs (s : State) (n : Nat) (g : Lock → Lock) : (s.modLock n g).tbs = s.tbs := rfl
@[simp] theorem modLock_own (s : State) (n : Nat) (g : Lock → Lock) : (s.modLock n g).own = s.own := rfl
@[simp] theorem modLock_host (s : State) (n : Nat) (g : Lock → Lock) : (s.modLock n g).host = s.host := rfl
@[simp] theorem modLock_res (s : State) (n : Nat) (g : Lock → Lock) : (s.modLock n g).res = s.res := rfl
@[simp] theorem modLock_bas (s : State) (n : Nat) (g : Lock → Lock) : (s.modLock n g).bas = s.bas := rfl
@[simp] theorem modLock_tst (s : State) (n : Nat) (g : Lock → Lock) : (s.modLock n g).tst = s.tst := rfl
@[simp] theorem modLock_out (s : State) (n : Nat) (g : Lock → Lock) : (s.modLock n g).out = s.out := rfl
@[simp] theorem modLock_snd (s : State) (n : Nat) (g : Lock → Lock) : (s.modLock n g).snd = s.snd := rfl
@[simp] theorem modLock_ptg (s : State) (n : Nat) (g : Lock → Lock) : (s.modLock n g).ptg = s.ptg := rfl
@[simp] theorem modLock_wel (s : State) (n : Nat) (g : Lock → Lock) : (s.modLock n g).wel = s.wel := rfl
@[simp] theorem modLock_loch (s : State) (n : Nat) (g : Lock → Lock) : (s.modLock n g).loch = s.loch := rfl
@[simp] theorem modLock_whd (s : State) (n : Nat) (g : Lock → Lock) : (s.modLock n g).whd = s.whd := rfl
@[simp] theorem modLock_pool (s : State) (n : Nat) (g : Lock → Lock) : (s.modLock n g).pool = s.pool := rfl
@[simp] theorem modLock_pla (s : State) (n : Nat) (g : Lock → Lock) : (s.modLock n g).pla = s.pla := rfl
@[simp] theorem modLock_sha (s : State) (n : Nat) (g : Lock → Lock) : (s.modLock n g).sha = s.sha := rfl
@[simp] theorem modLock_drg (s : State) (n : Nat) (g : Lock → Lock) : (s.modLock n g).drg = s.drg := rfl
@[simp] theorem modLock_elapsed (s : State) (n : Nat) (g : Lock → Lock) : (s.modLock n g).elapsed = s.elapsed := rfl
@[simp] theorem modLock_fresh (s : State) (n : Nat) (g : Lock → Lock) : (s.modLock n g).fresh = s.fresh := rfl
@[simp] theorem modLock_sent (s : State) (n : Nat) (g : Lock → Lock) : (s.modLock n g).sent = s.sent := rfl
@[simp] theorem modLock_resp (s : State) (n : Nat) (g : Lock → Lock) : (s.modLock n g).resp = s.resp := rfl
@[simp] theorem modLock_rd (s : State) (n : Nat) (g : Lock → Lock) (f : Fld) (k l : Nat) : (s.modLock n g).rd f k l = s.rd f k l := rfl
@[simp] theorem modLock_on (s : State) (n : Nat) (g : Lock → Lock) (f : Fld) (k l : Nat) : (s.modLock n g).on f k l = s.on f k l := rfl

end Sys2Proof.Machine
end

