-- ==== Sys2Proof/Laws/Frame.lean ====
section
/-!
SUPPORT. Frames of the shared operations: what each of them changes at most, and how frames compose; what a register field
reads after a write of it or of another one.
-/
namespace Sys2Proof.Machine

/-! ### Composition -/

theorem changes_refl (s : State) : s.changes s [] [] :=
  ⟨fun _ _ _ => rfl, fun p _ => by cases p <;> rfl⟩

theorem same_trans {p : Part} {s t u : State} (h : p.same s t) (g : p.same t u) : p.same s u := by
  cases p <;> exact Eq.trans g h

theorem changes_mono {s t : State} {ks ks' : List Nat} {ps ps' : List Part} (h : s.changes t ks ps)
    (hk : ks ⊆ ks') (hp : ps ⊆ ps') : s.changes t ks' ps' :=
  ⟨fun k d n => h.1 k d fun m => n (hk m), fun p n => h.2 p fun m => n (hp m)⟩

theorem changes_trans {s t u : State} {ks : List Nat} {ps : List Part} (h : s.changes t ks ps) (g : t.changes u ks ps) :
    s.changes u ks ps :=
  ⟨fun k d n => (g.1 k d n).trans (h.1 k d n), fun p n => same_trans (h.2 p n) (g.2 p n)⟩

/-- A field whose key is outside the frame reads as before. -/
theorem changes_rd {s t : State} {ks : List Nat} {ps : List Part} (h : s.changes t ks ps) (f : Fld) (i j : Nat)
    (n : f.key i j ∉ ks) : t.rd f i j = s.rd f i j := by
  unfold State.rd; rw [h.1 _ _ n]

/-! ### Register fields -/

theorem changes_wr (s : State) (f : Fld) (v i j : Nat) : s.changes (s.wr f v i j) [f.key i j] [] := by
  refine ⟨fun k d n => ?_, fun p _ => by cases p <;> rfl⟩
  simp only [List.mem_singleton] at n
  exact spGet_spSet_ne _ _ _ _ _ _ n

theorem rd_lt (s : State) (f : Fld) (i j : Nat) : s.rd f i j < 2 ^ f.width := Nat.mod_lt _ (Nat.two_pow_pos _)

@[simp] theorem rd_wr (s : State) (f : Fld) (v i j : Nat) : (s.wr f v i j).rd f i j = v % 2 ^ f.width := by
  unfold State.rd State.wr; simp

theorem rd_wr_ne (s : State) (f g : Fld) (v i j i' j' : Nat) (h : g.key i' j' ≠ f.key i j) :
    (s.wr f v i j).rd g i' j' = s.rd g i' j' :=
  changes_rd (changes_wr s f v i j) g i' j' (by simpa using h)

/-! ### Events -/

/-- With room, a raise is put in Inlet and nothing else happens. -/
theorem raise_room (s : State) (src info cove : Nat) (secure : Bool) (h : s.room src) :
    s.raise src info cove secure = { s with inl := { s.inl with awaiting := s.inl.awaiting ++ [s.ev src info cove secure] } } := by
  have h1 : (!s.isMA && decide (480 ≤ src) && decide (src ≤ 487)) = false := by
    rcases h.2 with h | h | h
    · simp [h]
    · simp; omega
    · simp; omega
  simp [State.raise, State.raiseGen, h1, State.putRaise, h.1, State.ev]

theorem changes_putRaise (s : State) (e : EvRaise) : s.changes (s.putRaise e).1 [] [.inl] := by
  unfold State.putRaise
  split
  · exact ⟨fun _ _ _ => rfl, fun p n => by cases p <;> first | rfl | simp at n⟩
  · exact changes_mono (changes_refl s) (by simp) (by simp)

/-- A raise changes Inlet and the counter of lost raises only. -/
theorem changes_raiseGen (s : State) (src info cove gen : Nat) (secure : Bool) :
    s.changes (s.raiseGen src info cove gen secure) [lostKey] [.inl] := by
  unfold State.raiseGen
  split
  · exact changes_mono (changes_refl s) (by simp) (by simp)
  · dsimp only
    split
    · rename_i h; have := changes_putRaise s
        { src := src, cove := cove, gen := gen, secure := secure, info := info % 65536, boot := !s.chip.ran }
      rw [h] at this; exact changes_mono this (by simp) (by simp)
    · rename_i s1 h; have h1 := changes_putRaise s
        { src := src, cove := cove, gen := gen, secure := secure, info := info % 65536, boot := !s.chip.ran }
      rw [h] at h1
      have h2 := changes_wr s1 F.INL_RAISE_LOST_COUNT (s1.rd F.INL_RAISE_LOST_COUNT 0 0 + 1) 0 0
      have h3 := changes_trans (ks := [lostKey]) (ps := [.inl]) (changes_mono h1 (by simp) (by simp))
        (changes_mono h2 (by simp [lostKey]) (by simp))
      split
      · exact h3
      · split
        · rename_i h; have := changes_putRaise (s1.inc F.INL_RAISE_LOST_COUNT 1)
            { src := 42, cove := 0, gen := s.gen 0, secure := secure, info := src, boot := !s.chip.ran }
          rw [h] at this; exact changes_trans h3 (changes_mono this (by simp) (by simp))
        · rename_i h; have := changes_putRaise (s1.inc F.INL_RAISE_LOST_COUNT 1)
            { src := 42, cove := 0, gen := s.gen 0, secure := secure, info := src, boot := !s.chip.ran }
          rw [h] at this
          exact changes_trans (changes_trans h3 (changes_mono this (by simp) (by simp)))
            (changes_mono (changes_wr _ _ _ _ _) (by simp [lostKey]) (by simp))

theorem changes_raise (s : State) (src info cove : Nat) (secure : Bool) :
    s.changes (s.raise src info cove secure) [lostKey] [.inl] := changes_raiseGen ..

/-! ### A frame kept by one more operation -/

theorem changes_wr_of {s t : State} {ks : List Nat} {ps : List Part} (f : Fld) (v i j : Nat) (h : s.changes t ks ps)
    (hk : f.key i j ∈ ks) : s.changes (t.wr f v i j) ks ps :=
  changes_trans h (changes_mono (changes_wr t f v i j) (by simpa using hk) (by simp))

theorem changes_clr_of {s t : State} {ks : List Nat} {ps : List Part} (f : Fld) (i j : Nat) (h : s.changes t ks ps)
    (hk : f.key i j ∈ ks) : s.changes (t.clr f i j) ks ps := by
  refine changes_trans h ⟨fun k d n => ?_, fun p _ => by cases p <;> rfl⟩
  exact spGet_spDrop_ne _ _ _ _ fun e => n (e ▸ hk)

theorem changes_raise_of {s t : State} {ks : List Nat} {ps : List Part} (src info cove : Nat) (secure : Bool)
    (h : s.changes t ks ps) (hk : lostKey ∈ ks) (hp : .inl ∈ ps) : s.changes (t.raise src info cove secure) ks ps :=
  changes_trans h (changes_mono (changes_raise t src info cove secure) (by simpa using hk) (by simpa using hp))

theorem changes_when_of {s t : State} {ks : List Nat} {ps : List Part} (b : Bool) (f : State → State)
    (h : s.changes t ks ps) (hf : b = true → s.changes (f t) ks ps) : s.changes (t.when b f) ks ps := by
  unfold State.when; split
  · exact hf ‹_›
  · exact h

theorem changes_each {ks : List Nat} {ps : List Part} {α : Type} (l : List α) (f : State → α → State)
    (hf : ∀ t : State, ∀ a ∈ l, t.changes (f t a) ks ps) (s : State) : s.changes (s.each l f) ks ps := by
  unfold State.each
  induction l generalizing s with
  | nil => exact changes_mono (changes_refl s) (by simp) (by simp)
  | cons a l ih =>
    exact changes_trans (hf s a (by simp)) (ih (fun t b hb => hf t b (by simp [hb])) _)

theorem changes_each_of {s t : State} {ks : List Nat} {ps : List Part} {α : Type} (l : List α) (f : State → α → State)
    (h : s.changes t ks ps) (hf : ∀ t : State, ∀ a ∈ l, t.changes (f t a) ks ps) : s.changes (t.each l f) ks ps :=
  changes_trans h (changes_each l f hf t)

theorem changes_send_of {s t : State} {ks : List Nat} {ps : List Part} (m : Sent) (h : s.changes t ks ps)
    (hp : .sent ∈ ps) : s.changes (t.send m) ks ps :=
  changes_trans h ⟨fun _ _ _ => rfl, fun p n => by cases p <;> first | rfl | exact absurd hp n⟩

theorem changes_answer_of {s t : State} {ks : List Nat} {ps : List Part} (v : Nat) (e : Bool) (h : s.changes t ks ps)
    (hp : .resp ∈ ps) : s.changes (t.answer v e) ks ps :=
  changes_trans h ⟨fun _ _ _ => rfl, fun p n => by cases p <;> first | rfl | exact absurd hp n⟩

/-- What holds after the response of an access holds of the access. -/
theorem answered {s t : State} {ks : List Nat} {ps : List Part} {v : Nat} {e : Bool} (h : (s.answer v e).changes t ks ps)
    (hp : .resp ∈ ps) : s.changes t ks ps :=
  changes_trans (changes_answer_of v e (changes_mono (changes_refl s) (by simp) (by simp)) hp) h

/-- A command of an initiator that can issue it runs, its response given. -/
theorem by_run {s : State} {ini : Initiator} {f : State → Ans} {P : State → Prop} (hi : s.issues ini = true)
    (h : ∃ t, f (s.answer 0) = .next t ∧ P t) : ∃ t, s.by ini f = .next t ∧ P t := by
  unfold State.by; rw [if_pos hi]; exact h

/-- The same of one that reaches a register outside the cove pages. -/
theorem bus_run {s : State} {ini : Initiator} {f : State → Ans} {P : State → Prop} (hi : s.onBus ini)
    (h : ∃ t, f (s.answer 0) = .next t ∧ P t) : ∃ t, s.busBy ini f = .next t ∧ P t := by
  unfold State.busBy; exact by_run hi.1 (by rw [hi.2]; exact h)

theorem changes_modChip_of {s t : State} {ks : List Nat} {ps : List Part} (g : Chip → Chip) (h : s.changes t ks ps)
    (hp : .chip ∈ ps) : s.changes (t.modChip g) ks ps :=
  changes_trans h ⟨fun _ _ _ => rfl, fun p n => by cases p <;> first | rfl | exact absurd hp n⟩

theorem changes_modPins_of {s t : State} {ks : List Nat} {ps : List Part} (g : Pins → Pins) (h : s.changes t ks ps)
    (hp : .pins ∈ ps) : s.changes (t.modPins g) ks ps :=
  changes_trans h ⟨fun _ _ _ => rfl, fun p n => by cases p <;> first | rfl | exact absurd hp n⟩

theorem changes_modImg_of {s t : State} {ks : List Nat} {ps : List Part} (g : Image → Image) (h : s.changes t ks ps)
    (hp : .img ∈ ps) : s.changes (t.modImg g) ks ps :=
  changes_trans h ⟨fun _ _ _ => rfl, fun p n => by cases p <;> first | rfl | exact absurd hp n⟩

theorem changes_modGov_of {s t : State} {ks : List Nat} {ps : List Part} (g : Gov → Gov) (h : s.changes t ks ps)
    (hp : .gov ∈ ps) : s.changes (t.modGov g) ks ps :=
  changes_trans h ⟨fun _ _ _ => rfl, fun p n => by cases p <;> first | rfl | exact absurd hp n⟩

theorem changes_modFab_of {s t : State} {ks : List Nat} {ps : List Part} (g : Fabric → Fabric) (h : s.changes t ks ps)
    (hp : .fab ∈ ps) : s.changes (t.modFab g) ks ps :=
  changes_trans h ⟨fun _ _ _ => rfl, fun p n => by cases p <;> first | rfl | exact absurd hp n⟩

theorem changes_modTbs_of {s t : State} {ks : List Nat} {ps : List Part} (g : Tbs → Tbs) (h : s.changes t ks ps)
    (hp : .tbs ∈ ps) : s.changes (t.modTbs g) ks ps :=
  changes_trans h ⟨fun _ _ _ => rfl, fun p n => by cases p <;> first | rfl | exact absurd hp n⟩

theorem changes_modOwn_of {s t : State} {ks : List Nat} {ps : List Part} (g : Owner → Owner) (h : s.changes t ks ps)
    (hp : .own ∈ ps) : s.changes (t.modOwn g) ks ps :=
  changes_trans h ⟨fun _ _ _ => rfl, fun p n => by cases p <;> first | rfl | exact absurd hp n⟩

theorem changes_modHost_of {s t : State} {ks : List Nat} {ps : List Part} (g : Host_ → Host_) (h : s.changes t ks ps)
    (hp : .host ∈ ps) : s.changes (t.modHost g) ks ps :=
  changes_trans h ⟨fun _ _ _ => rfl, fun p n => by cases p <;> first | rfl | exact absurd hp n⟩

theorem changes_modRes_of {s t : State} {ks : List Nat} {ps : List Part} (g : Res → Res) (h : s.changes t ks ps)
    (hp : .res ∈ ps) : s.changes (t.modRes g) ks ps :=
  changes_trans h ⟨fun _ _ _ => rfl, fun p n => by cases p <;> first | rfl | exact absurd hp n⟩

theorem changes_modBas_of {s t : State} {ks : List Nat} {ps : List Part} (g : Basin → Basin) (h : s.changes t ks ps)
    (hp : .bas ∈ ps) : s.changes (t.modBas g) ks ps :=
  changes_trans h ⟨fun _ _ _ => rfl, fun p n => by cases p <;> first | rfl | exact absurd hp n⟩

theorem changes_modTst_of {s t : State} {ks : List Nat} {ps : List Part} (g : TarnSt → TarnSt) (h : s.changes t ks ps)
    (hp : .tst ∈ ps) : s.changes (t.modTst g) ks ps :=
  changes_trans h ⟨fun _ _ _ => rfl, fun p n => by cases p <;> first | rfl | exact absurd hp n⟩

theorem changes_modOut_of {s t : State} {ks : List Nat} {ps : List Part} (g : Outlet → Outlet) (h : s.changes t ks ps)
    (hp : .out ∈ ps) : s.changes (t.modOut g) ks ps :=
  changes_trans h ⟨fun _ _ _ => rfl, fun p n => by cases p <;> first | rfl | exact absurd hp n⟩

theorem changes_modSnd_of {s t : State} {ks : List Nat} {ps : List Part} (g : Snd → Snd) (h : s.changes t ks ps)
    (hp : .snd ∈ ps) : s.changes (t.modSnd g) ks ps :=
  changes_trans h ⟨fun _ _ _ => rfl, fun p n => by cases p <;> first | rfl | exact absurd hp n⟩

theorem changes_modWel_of {s t : State} {ks : List Nat} {ps : List Part} (g : Wel → Wel) (h : s.changes t ks ps)
    (hp : .wel ∈ ps) : s.changes (t.modWel g) ks ps :=
  changes_trans h ⟨fun _ _ _ => rfl, fun p n => by cases p <;> first | rfl | exact absurd hp n⟩

theorem changes_modWhd_of {s t : State} {ks : List Nat} {ps : List Part} (g : Whd → Whd) (h : s.changes t ks ps)
    (hp : .whd ∈ ps) : s.changes (t.modWhd g) ks ps :=
  changes_trans h ⟨fun _ _ _ => rfl, fun p n => by cases p <;> first | rfl | exact absurd hp n⟩

theorem changes_modLoch_of {s t : State} {ks : List Nat} {ps : List Part} (g : Loch → Loch) (h : s.changes t ks ps)
    (hp : .loch ∈ ps) : s.changes (t.modLoch g) ks ps :=
  changes_trans h ⟨fun _ _ _ => rfl, fun p n => by cases p <;> first | rfl | exact absurd hp n⟩

theorem changes_modPtg_of {s t : State} {ks : List Nat} {ps : List Part} (g : Ptg → Ptg) (h : s.changes t ks ps)
    (hp : .ptg ∈ ps) : s.changes (t.modPtg g) ks ps :=
  changes_trans h ⟨fun _ _ _ => rfl, fun p n => by cases p <;> first | rfl | exact absurd hp n⟩

theorem changes_modPool_of {s t : State} {ks : List Nat} {ps : List Part} (g : Pool → Pool) (h : s.changes t ks ps)
    (hp : .pool ∈ ps) : s.changes (t.modPool g) ks ps :=
  changes_trans h ⟨fun _ _ _ => rfl, fun p n => by cases p <;> first | rfl | exact absurd hp n⟩

theorem changes_modPla_of {s t : State} {ks : List Nat} {ps : List Part} (g : Pla → Pla) (h : s.changes t ks ps)
    (hp : .pla ∈ ps) : s.changes (t.modPla g) ks ps :=
  changes_trans h ⟨fun _ _ _ => rfl, fun p n => by cases p <;> first | rfl | exact absurd hp n⟩

theorem changes_modSha_of {s t : State} {ks : List Nat} {ps : List Part} (g : Sha → Sha) (h : s.changes t ks ps)
    (hp : .sha ∈ ps) : s.changes (t.modSha g) ks ps :=
  changes_trans h ⟨fun _ _ _ => rfl, fun p n => by cases p <;> first | rfl | exact absurd hp n⟩

theorem changes_modDrg_of {s t : State} {ks : List Nat} {ps : List Part} (g : Drg → Drg) (h : s.changes t ks ps)
    (hp : .drg ∈ ps) : s.changes (t.modDrg g) ks ps :=
  changes_trans h ⟨fun _ _ _ => rfl, fun p n => by cases p <;> first | rfl | exact absurd hp n⟩

theorem changes_modHc_of {s t : State} {ks : List Nat} {ps : List Part} (n : Nat) (g : HeadComp → HeadComp) (h : s.changes t ks ps)
    (hp : .bas ∈ ps) : s.changes (t.modHc n g) ks ps :=
  changes_trans h ⟨fun _ _ _ => rfl, fun p n => by cases p <;> first | rfl | exact absurd hp n⟩

theorem changes_modSlot_of {s t : State} {ks : List Nat} {ps : List Part} (n : Nat) (g : BasSlot → BasSlot) (h : s.changes t ks ps)
    (hp : .bas ∈ ps) : s.changes (t.modSlot n g) ks ps :=
  changes_trans h ⟨fun _ _ _ => rfl, fun p n => by cases p <;> first | rfl | exact absurd hp n⟩

theorem changes_modComp_of {s t : State} {ks : List Nat} {ps : List Part} (n : Nat) (g : Comp → Comp) (h : s.changes t ks ps)
    (hp : .bas ∈ ps) : s.changes (t.modComp n g) ks ps :=
  changes_trans h ⟨fun _ _ _ => rfl, fun p n => by cases p <;> first | rfl | exact absurd hp n⟩

theorem changes_modOh_of {s t : State} {ks : List Nat} {ps : List Part} (n : Nat) (g : OutHead → OutHead) (h : s.changes t ks ps)
    (hp : .out ∈ ps) : s.changes (t.modOh n g) ks ps :=
  changes_trans h ⟨fun _ _ _ => rfl, fun p n => by cases p <;> first | rfl | exact absurd hp n⟩

theorem changes_modUnit_of {s t : State} {ks : List Nat} {ps : List Part} (n : Nat) (g : SndUnit → SndUnit) (h : s.changes t ks ps)
    (hp : .snd ∈ ps) : s.changes (t.modUnit n g) ks ps :=
  changes_trans h ⟨fun _ _ _ => rfl, fun p n => by cases p <;> first | rfl | exact absurd hp n⟩

theorem changes_modHch_of {s t : State} {ks : List Nat} {ps : List Part} (n : Nat) (g : PlaCh → PlaCh) (h : s.changes t ks ps)
    (hp : .pla ∈ ps) : s.changes (t.modHch n g) ks ps :=
  changes_trans h ⟨fun _ _ _ => rfl, fun p n => by cases p <;> first | rfl | exact absurd hp n⟩

theorem changes_modChan_of {s t : State} {ks : List Nat} {ps : List Part} (n : Nat) (g : Chan → Chan) (h : s.changes t ks ps)
    (hp : .res ∈ ps) : s.changes (t.modChan n g) ks ps :=
  changes_trans h ⟨fun _ _ _ => rfl, fun p n => by cases p <;> first | rfl | exact absurd hp n⟩

theorem changes_modCove_of {s t : State} {ks : List Nat} {ps : List Part} (n : Nat) (g : Cove → Cove) (h : s.changes t ks ps)
    (hp : .host ∈ ps) : s.changes (t.modCove n g) ks ps :=
  changes_trans h ⟨fun _ _ _ => rfl, fun p n => by cases p <;> first | rfl | exact absurd hp n⟩

theorem changes_modLock_of {s t : State} {ks : List Nat} {ps : List Part} (n : Nat) (g : Lock → Lock) (h : s.changes t ks ps)
    (hp : .locks ∈ ps) : s.changes (t.modLock n g) ks ps :=
  changes_trans h ⟨fun _ _ _ => rfl, fun p n => by cases p <;> first | rfl | exact absurd hp n⟩

/-- Recording an access error writes the two registers of its world, and raises at most one event (R128). -/
theorem changes_accessErr (s : State) (t : WorkTag) (addr kind : Nat) (write : Bool) :
    s.changes (s.accessErr t addr kind write) (lostKey :: aerrKeys (b2n t.secure)) [.inl] := by
  have key : ∀ u, s.changes u (lostKey :: aerrKeys (b2n t.secure)) [.inl] →
      s.changes (if kind = 2 then u else u.raise 32 (kind * 2 + b2n write + b2n t.secure * 32768) t.cove t.secure)
        (lostKey :: aerrKeys (b2n t.secure)) [.inl] := by
    intro u hu; split
    · exact hu
    · exact changes_raise_of _ _ _ _ hu (by simp) (by simp)
  unfold State.accessErr
  apply key
  have h0 : s.changes s (lostKey :: aerrKeys (b2n t.secure)) [.inl] := changes_mono (changes_refl s) (by simp) (by simp)
  split
  · exact changes_wr_of _ _ _ _ h0 (by simp [aerrKeys])
  · unfold State.wrB
    repeat' (first | apply changes_wr_of | exact h0 | simp [aerrKeys])

end Sys2Proof.Machine
end

