-- ==== Sys2Proof/Laws/Dram.lean ====
section
/-!
SUPPORT. What an allowed DRAM access does (R33, R36, R176), under a tag and at a cove physical address that its table leaves
untranslated.
-/
namespace Sys2Proof.Machine

theorem firstDenied_none (s : State) (t : WorkTag) (w : Bool) (addr : Nat) (l : List Nat)
    (h : ∀ p ∈ l, shorAllows (s.shorEntry p) t w = true) : firstDenied s t w addr l = none := by
  induction l with
  | nil => rfl
  | cons p l ih => simp only [firstDenied, h p (by simp), if_true]; exact ih fun q hq => h q (by simp [hq])

theorem mem_pagesOf (addr len p : Nat) (h : p ∈ pagesOf addr len) (hl : 0 < len) :
    addr / 65536 ≤ p ∧ p ≤ (addr + len - 1) / 65536 := by
  simp only [pagesOf, List.mem_map, List.mem_range] at h
  obtain ⟨k, hk, rfl⟩ := h
  have : addr / 65536 ≤ (addr + len - 1) / 65536 ∨ (addr + len - 1) / 65536 < addr / 65536 := by omega
  omega

/-- The initialised bit changes no part but the memory channels' own. -/
theorem changes_markInit (s : State) (p : Nat) : s.changes (s.markInit p) [] [.res] := by
  unfold State.markInit
  split
  · exact changes_mono (changes_refl s) (by simp) (by simp)
  · split <;> exact changes_modRes_of _ (changes_mono (changes_refl s) (by simp) (by simp)) (by simp)

theorem changes_unpoison (s : State) (a n : Nat) : s.changes (s.unpoison a n) [] [.res] := by
  unfold State.unpoison
  split
  · exact changes_mono (changes_refl s) (by simp) (by simp)
  · exact changes_modRes_of _ (changes_mono (changes_refl s) (by simp) (by simp)) (by simp)

theorem markInit_poison (s : State) (p : Nat) : (s.markInit p).res.poison = s.res.poison := by
  unfold State.markInit; split
  · rfl
  · split <;> rfl

theorem markInit_each_poison (s : State) (l : List Nat) : (s.each l State.markInit).res.poison = s.res.poison := by
  unfold State.each
  induction l generalizing s with
  | nil => rfl
  | cons p l ih => simp only [List.foldl_cons, ih, markInit_poison]

/-- Bytes written to DRAM stand there; nothing else changes but the channels' own, and no line becomes poisoned. -/
theorem dramPut_ok (s : State) (a : Nat) (l : List Byte) :
    s.changes (s.dramPut a l) [] [.dram, .res] ∧ (s.dramPut a l).dram = memWrite s.dram a l ∧
      (s.res.poison = [] → (s.dramPut a l).res.poison = []) := by
  unfold State.dramPut
  split
  · rename_i h; rw [List.isEmpty_iff] at h; subst h
    exact ⟨changes_mono (changes_refl s) (by simp) (by simp), rfl, id⟩
  · have hu : ({ s with dram := memWrite s.dram a l } : State).changes
        (({ s with dram := memWrite s.dram a l }.unpoison a l.length).each (pagesOf a l.length) State.markInit) []
        [.res] := changes_each_of _ _ (changes_unpoison _ _ _) fun t a _ => changes_markInit t a
    have hd := hu.2 .dram (by simp)
    simp only [Part.same] at hd
    refine ⟨changes_trans (t := { s with dram := memWrite s.dram a l })
        ⟨fun _ _ _ => rfl, fun p n => by cases p <;> first | rfl | simp at n⟩ (changes_mono hu (by simp) (by simp)), hd, fun hp => ?_⟩
    rw [markInit_each_poison]; unfold State.unpoison; split
    · exact hp
    · simp [hp]

/-- An access inside DRAM that no channel refuses and Shoreline allows on every page is allowed; a read meets no poisoned line. -/
theorem dramCheck_ok (s : State) (t : WorkTag) (addr len : Nat) (w : Bool) (h0 : addr + len ≤ tarnBase) (h1 : addr + len ≤ s.dramBytes)
    (h2 : s.fab.isolated = []) (hp : w = true ∨ s.res.poison = [])
    (h3 : ∀ p, addr / 65536 ≤ p → p ≤ (addr + len - 1) / 65536 → shorAllows (s.shorEntry p) t w = true) :
    s.dramCheck t addr len w = .ok := by
  unfold State.dramCheck
  split
  · rfl
  · rename_i hl
    have hn : inTarn addr len = false := by unfold inTarn tarnBase at *; simp; omega
    rw [hn, if_neg (by simp), if_neg (Nat.not_lt.2 h1), firstDenied_none _ _ _ _ _
      (fun p hp => h3 p (mem_pagesOf _ _ _ hp (by omega)).1 (mem_pagesOf _ _ _ hp (by omega)).2)]
    have hc : (chansOf addr len).any s.chanCut = false := by simp [State.chanCut, State.isIsolated, h2]
    simp only [hc]
    rcases hp with rfl | hp
    · rw [if_neg (by simp)]; split <;> rfl
    · simp [State.poisoned, hp]

/-- An allowed read of DRAM without a poisoned line answers its bytes and changes nothing. -/
theorem physRead_ok (s : State) (t : WorkTag) (addr len : Nat) (h0 : addr + len ≤ tarnBase) (h1 : addr + len ≤ s.dramBytes)
    (h2 : s.fab.isolated = []) (hp : s.res.poison = [])
    (h3 : ∀ p, addr / 65536 ≤ p → p ≤ (addr + len - 1) / 65536 → shorAllows (s.shorEntry p) t false = true) :
    s.physRead t addr len = (s, .ok (memRead s.dram addr len)) := by
  unfold State.physRead; rw [dramCheck_ok s t addr len false h0 h1 h2 (.inr hp) h3]

theorem dramRead_ok (s : State) (t : WorkTag) (addr len : Nat) (h0 : addr + len ≤ tarnBase) (h1 : addr + len ≤ s.dramBytes)
    (h2 : s.fab.isolated = []) (hp : s.res.poison = [])
    (h3 : ∀ p, addr / 65536 ≤ p → p ≤ (addr + len - 1) / 65536 → shorAllows (s.shorEntry p) t false = true) :
    s.dramRead t addr len = (s, some (memRead s.dram addr len)) := by
  unfold State.dramRead; rw [physRead_ok s t addr len h0 h1 h2 hp h3]

/-- An allowed write of DRAM stores its bytes, changes no byte elsewhere and touches no other part but the channels' own. -/
theorem physWrite_ok (s : State) (t : WorkTag) (addr : Nat) (l : List Byte) (h0 : addr + l.length ≤ tarnBase)
    (h1 : addr + l.length ≤ s.dramBytes) (h2 : s.fab.isolated = [])
    (h3 : ∀ p, addr / 65536 ≤ p → p ≤ (addr + l.length - 1) / 65536 → shorAllows (s.shorEntry p) t true = true) :
    s.physWrite t addr l = (s.dramPut addr l, none) := by
  unfold State.physWrite; rw [dramCheck_ok s t addr l.length true h0 h1 h2 (.inl rfl) h3]

theorem dramWrite_ok (s : State) (t : WorkTag) (addr : Nat) (l : List Byte) (h0 : addr + l.length ≤ tarnBase)
    (h1 : addr + l.length ≤ s.dramBytes) (h2 : s.fab.isolated = [])
    (h3 : ∀ p, addr / 65536 ≤ p → p ≤ (addr + l.length - 1) / 65536 → shorAllows (s.shorEntry p) t true = true) :
    ∃ u, s.dramWrite t addr l = (u, true) ∧ s.changes u [] [.dram, .res] ∧ u.dram = memWrite s.dram addr l ∧
      (s.res.poison = [] → u.res.poison = []) := by
  refine ⟨s.dramPut addr l, ?_, dramPut_ok s addr l⟩
  unfold State.dramWrite; rw [physWrite_ok s t addr l h0 h1 h2 h3]

/-- A Bare table leaves a cove physical address as it is. -/
theorem xlate_bare (s : State) (c cpa : Nat) (w : Bool) (h1 : bits (s.own.atp.getD c 0) 63 60 = 0) (h2 : s.own.iotlb = []) :
    s.xlate c cpa w = (s, .ok cpa) := by
  unfold State.xlate
  have : xlateTables s (s.own.atp.getD c 0) cpa w = .ok cpa := by
    unfold xlateTables; rw [h1]; rfl
  simp only [h2, List.find?_nil, this]
  rw [if_pos h1]

theorem spRead_split (d : Byte) (m : List Host.Cell) (k a n : Nat) (h : a ≤ n) :
    spRead d m k a ++ spRead d m (k + a) (n - a) = spRead d m k n := by
  induction a generalizing k n with
  | zero => rfl
  | succ a ih =>
    obtain ⟨n, rfl⟩ : ∃ j, n = j + 1 := ⟨n - 1, by omega⟩
    simp only [spRead, List.cons_append]
    rw [show k + (a + 1) = k + 1 + a by omega, show n + 1 - (a + 1) = n - a by omega, ih (k + 1) n (by omega)]

theorem cpaRead_ok (s : State) (c : Nat) (sec : Bool) : ∀ (fuel cpa len : Nat), len = 0 ∨ cpa % 4096 + len ≤ 4096 * fuel →
    (sec = true ∨ bits (s.own.atp.getD c 0) 63 60 = 0 ∧ s.own.iotlb = []) → s.fab.isolated = [] → s.res.poison = [] →
    cpa + len ≤ tarnBase → cpa + len ≤ s.dramBytes → ∀ t : WorkTag, t.cove = c → t.secure = sec →
    (∀ p, cpa / 65536 ≤ p → p ≤ (cpa + len - 1) / 65536 → shorAllows (s.shorEntry p) t false = true) →
    s.cpaRead t cpa fuel len = (s, .ok (memRead s.dram cpa len)) := by
  intro fuel
  induction fuel with
  | zero =>
    intro cpa len hf _ _ _ _ _ t _ _ _
    have : len = 0 := by omega
    subst this; rfl
  | succ n ih =>
    intro cpa len hf hx hi hp h0 hb t hc hs ha
    unfold State.cpaRead
    by_cases hl : len = 0
    · subst hl; rfl
    · rw [if_neg hl]
      have hle : inPage cpa len ≤ len := Nat.min_le_left _ _
      have hpos : 0 < inPage cpa len := by unfold inPage; omega
      have hxl : (if t.secure = true then (s, Xlate.ok cpa) else s.xlate t.cove cpa false) = (s, Xlate.ok cpa) := by
        rcases hx with hx | ⟨hx, hy⟩
        · rw [if_pos (by rw [hs, hx])]
        · split
          · rfl
          · exact xlate_bare _ _ _ _ (by rw [hc]; exact hx) hy
      simp only [hxl]
      rw [physRead_ok s t cpa (inPage cpa len) (by omega) (by omega) hi hp
        (fun p h1 h2 => ha p h1 (h2.trans (Nat.div_le_div_right (by omega))))]
      dsimp only
      rw [ih (cpa + inPage cpa len) (len - inPage cpa len) (by unfold inPage at *; omega) hx hi hp (by omega) (by omega) t hc hs
        (fun p h1 h2 => ha p (by omega) (h2.trans (Nat.div_le_div_right (by omega))))]
      simp only [memRead]
      congr 2
      exact spRead_split _ _ _ _ _ hle

/-- Work of cove `c` that reaches installed DRAM untranslated reads its bytes. -/
theorem engRead_ok (s : State) (c cpa len : Nat) (h : s.bareOk c cpa len false) :
    s.engRead (s.coveTag c) cpa len = (s, .ok (memRead s.dram cpa len)) := by
  obtain ⟨h1, h2, h3, h4, h0, h5, h6⟩ := h
  exact cpaRead_ok s c false _ _ _ (by omega) (.inr ⟨h1, h2⟩) h3 h4 h0 h5 _ rfl rfl h6

theorem cpaWrite_ok (c : Nat) (sec : Bool) : ∀ (fuel cpa : Nat) (l : List Byte) (s : State),
    l.length = 0 ∨ cpa % 4096 + l.length ≤ 4096 * fuel →
    (sec = true ∨ bits (s.own.atp.getD c 0) 63 60 = 0 ∧ s.own.iotlb = []) → s.fab.isolated = [] → s.res.poison = [] →
    cpa + l.length ≤ tarnBase → cpa + l.length ≤ s.dramBytes → ∀ t : WorkTag, t.cove = c → t.secure = sec →
    (∀ p, cpa / 65536 ≤ p → p ≤ (cpa + l.length - 1) / 65536 → shorAllows (s.shorEntry p) t true = true) →
    ∃ u, s.cpaWrite t cpa fuel l = (u, none) ∧ s.changes u [] [.dram, .res] ∧ u.dram = memWrite s.dram cpa l ∧
      u.res.poison = [] := by
  intro fuel
  induction fuel with
  | zero =>
    intro cpa l s hf _ _ hp _ _ t _ _ _
    have : l = [] := List.length_eq_zero_iff.1 (by omega)
    subst this; exact ⟨s, rfl, changes_mono (changes_refl s) (by simp) (by simp), rfl, hp⟩
  | succ n ih =>
    intro cpa l s hf hx hi hp h0 hb t hc hs ha
    unfold State.cpaWrite
    by_cases hl : l.isEmpty = true
    · rw [if_pos hl]
      rw [List.isEmpty_iff] at hl; subst hl
      exact ⟨s, rfl, changes_mono (changes_refl s) (by simp) (by simp), rfl, hp⟩
    · rw [if_neg hl]
      have hl0 : 0 < l.length := by
        rw [List.length_pos_iff]; intro h; exact hl (List.isEmpty_iff.2 h)
      have hle : inPage cpa l.length ≤ l.length := Nat.min_le_left _ _
      have hpos : 0 < inPage cpa l.length := by unfold inPage; omega
      have hxl : (if t.secure = true then (s, Xlate.ok cpa) else s.xlate t.cove cpa true) = (s, Xlate.ok cpa) := by
        rcases hx with hx | ⟨hx, hy⟩
        · rw [if_pos (by rw [hs, hx])]
        · split
          · rfl
          · exact xlate_bare _ _ _ _ (by rw [hc]; exact hx) hy
      simp only [hxl]
      have hlt : (l.take (inPage cpa l.length)).length = inPage cpa l.length := by rw [List.length_take]; omega
      rw [physWrite_ok s t cpa (l.take (inPage cpa l.length)) (by rw [hlt]; omega) (by rw [hlt]; omega) hi
        (fun p h1 h2 => ha p h1 (h2.trans (Nat.div_le_div_right (by rw [hlt]; omega))))]
      dsimp only
      obtain ⟨hch, hd, hpo⟩ := dramPut_ok s cpa (l.take (inPage cpa l.length))
      generalize s.dramPut cpa (l.take (inPage cpa l.length)) = u at hch hd hpo ⊢
      have hown : u.own = s.own := hch.2 .own (by simp)
      have hfab : u.fab = s.fab := hch.2 .fab (by simp)
      have hbytes : u.dramBytes = s.dramBytes := by unfold State.dramBytes; rw [changes_rd hch _ _ _ (by simp)]
      have hent : ∀ p, u.shorEntry p = s.shorEntry p := fun p => by unfold State.shorEntry; rw [hown]
      obtain ⟨v, hv, hvc, hvd, hvp⟩ := ih (cpa + inPage cpa l.length) (l.drop (inPage cpa l.length)) u
        (by rw [List.length_drop]; unfold inPage at *; omega) (by rw [hown]; exact hx) (by rw [hfab]; exact hi) (hpo hp)
        (by rw [List.length_drop]; omega) (by rw [List.length_drop, hbytes]; omega) t hc hs
        (fun p h1 h2 => by
          rw [hent]
          exact ha p (by omega) (h2.trans (Nat.div_le_div_right (by rw [List.length_drop]; omega))))
      refine ⟨v, hv, changes_trans hch hvc, ?_, hvp⟩
      rw [hvd, hd]
      conv => rhs; rw [← List.take_append_drop (inPage cpa l.length) l]
      unfold memWrite
      have : ∀ (m : List Host.Cell) (a : Nat) (x y : List Byte), spWrite memDflt m a (x ++ y) =
          spWrite memDflt (spWrite memDflt m a x) (a + x.length) y := by
        intro m a x
        induction x generalizing m a with
        | nil => intro y; rfl
        | cons b x ihx => intro y; simp only [List.cons_append, spWrite, ihx, List.length_cons]; congr 1; omega
      rw [this, hlt]

/-- Work of cove `c` that reaches installed DRAM untranslated stores its bytes there and nowhere else. -/
theorem engWrite_ok (s : State) (c cpa : Nat) (l : List Byte) (h : s.bareOk c cpa l.length true) :
    ∃ u, s.engWrite (s.coveTag c) cpa l = (u, none) ∧ s.changes u [] [.dram, .res] ∧ u.dram = memWrite s.dram cpa l ∧
      u.res.poison = [] := by
  obtain ⟨h1, h2, h3, h4, h0, h5, h6⟩ := h
  exact cpaWrite_ok c false _ _ l s (by omega) (.inr ⟨h1, h2⟩) h3 h4 h0 h5 _ rfl rfl h6

end Sys2Proof.Machine
end

