-- ==== Sys2Proof/Machine/Pins.lean ====
section
/-!
DEFINITION. What the balls do in each phase: control and debug balls (Table 02-3), Turnover balls (Table 02-5), the log balls of
DRAIN (R61), the pairs of the display ports (Table 02-8), the sync signals of a raster (R310), and the
clocks and frames of the audio ports (R424, R426).
-/
namespace Sys2Proof.Machine

/-- Only the balls on VBAT have a supply (R46). -/
def State.balls (s : State) : Bool := s.chip.phase != .off && s.chip.phase != .seep

/-- MGMT_SCL and MGMT_SDA (Table 02-3). -/
def State.mgmtBall (s : State) : Ball :=
  if !s.balls then .unpowered else if s.chip.phase = .reset then .hiZ else .i2c

/-- TDO: high impedance while JTAG_EN is 0 (R50). -/
def State.tdoBall (s : State) : Ball :=
  if !s.balls then .unpowered else if s.on F.CHIP_DEBUG_JTAG_EN then .test else .hiZ

/-- SVC_CLK and SVC_DATA carry frames from BOOT on (Table 02-3); each frame is sent as `Sent`. -/
def State.svcIdle (s : State) : Ball := if s.balls then .low else .unpowered

/-- SAFE_OK (R47). -/
def State.safeOkBall (s : State) : Ball :=
  if !s.balls then .unpowered else if s.pins.safeOk then .high else .low

/-- THERM_n is open-drain (Table 02-3). -/
def State.thermBall (s : State) : Ball :=
  if !s.balls then .unpowered else if s.chip.phase != .reset && s.pins.thermLow then .low else .hiZ

/-- PWR_REQ is on VBAT (Table 02-3). -/
def State.pwrReqBall (s : State) : Ball := if s.pins.pwrReq then .high else .low

/-- TURN0 to TURN11 without the flash and out of DRAIN: their RUN state (Table 02-5). -/
def turnRun (n : Nat) : Ball := if n = 0 || n = 2 then .high else if n = 1 then .low else .keeper

/-- TURN0 to TURN11 in DRAIN and TEST (Table 02-5): the log on TURN1 and TURN3 to TURN7. -/
def turnDrain (n : Nat) : Ball :=
  if n = 1 then .logClk else if n = 3 then .logValid
  else if 4 ≤ n && n ≤ 7 then .logData (Fin.ofNat 4 (n - 4)) else turnRun n

/-- Turnover ball `n` (R51). -/
def State.turnBall (s : State) (n : Nat) : Ball :=
  if !s.balls then .unpowered
  else if s.chip.phase = .reset then (if n = 0 || 11 < n then .hiZ else .strap)
  else if n = 12 then (if s.chip.phase = .run then .sbSync else .hiZ)
  else if n = 13 then (if s.chip.phase = .run then .sbAlert else .hiZ)
  else if s.chip.phase = .drain || s.chip.phase = .test then turnDrain n
  else if s.pins.turnFlash then .flash else turnRun n

/-- LOG_CLK runs (R61). -/
def State.logClockRuns (s : State) : Bool := s.chip.phase == .drain || s.chip.phase == .test

/-- Pair `k` of a port of electrical type `t` (Table 02-8). -/
def pairUse (t k : Nat) : Ball :=
  if t = 1 || t = 2 then (if k < 4 then .lane (Fin.ofNat 4 k) else if k = 8 then .aux else .hiZ)
  else if t = 3 then
    (if k < 4 then .lvdsData false (Fin.ofNat 4 k) else if k = 4 then .lvdsClock false
     else if k < 9 then .lvdsData true (Fin.ofNat 4 (k - 5)) else .lvdsClock true)
  else .hiZ

/-- Pair `k` of display port `p` (R62, R63, R65). -/
def State.pairBall (s : State) (p k : Nat) : Ball :=
  if !s.balls then .unpowered
  else if bit s.pins.portHiZ p then .hiZ else pairUse (bits (s.rd F.CHIP_PORT_TYPE_TYPES) (2 * p + 1) (2 * p)) k

/-! ### Raster (R310) -/

/-- Blanking lines before the first V_SYNC line and before the first V_BACK line of the frame that head `h` is in. -/
def State.frontLines (s : State) (h : Nat) : Nat := if s.on F.OUT_HEAD_STAT_ABORT h then 0 else (s.head h).vFront

/-- VSYNC is asserted from the start of the first V_SYNC line to the start of the first V_BACK line. -/
def State.vsyncOn (s : State) (h : Nat) : Bool :=
  (s.oh h).stage.frames && decide (s.frontLines h ≤ s.lineNow h) && decide (s.lineNow h < s.frontLines h + (s.head h).vSync)

/-- Pixel periods since the line's start: it begins with its H_ACTIVE period. -/
def State.columnNow (s : State) (h : Nat) : Nat :=
  let c := s.head h
  (s.elapsed - (s.oh h).fsAt) * c.pclk / 1000000 % max 1 (c.hActive + c.hFront + c.hSync + c.hBack)

/-- HSYNC is asserted for the H_SYNC period. -/
def State.hsyncOn (s : State) (h : Nat) : Bool :=
  let c := s.head h
  (s.oh h).stage.frames && decide (c.hActive + c.hFront ≤ s.columnNow h) && decide (s.columnNow h < c.hActive + c.hFront + c.hSync)

/-- Levels of HSYNC and VSYNC under SYNC_POL (bit 0 and bit 1: active high). -/
def State.hsyncLevel (s : State) (h : Nat) : Bool := s.hsyncOn h == bit (s.head h).syncPol 0
def State.vsyncLevel (s : State) (h : Nat) : Bool := s.vsyncOn h == bit (s.head h).syncPol 1

/-- Data enable: the H_ACTIVE period of the V_ACTIVE lines, and not after an abort (R318). -/
def State.dataEnable (s : State) (h : Nat) : Bool :=
  s.lineActive h && decide (s.columnNow h < (s.head h).hActive) && !(s.oh h).aborting

/-! ### Audio ports (R424, R426, Table 15-2) -/

/-- MCLK of port `n` in Hz; 0 while it is not driven. -/
def State.mclkHz (s : State) (n : Nat) : Nat :=
  let fs := (s.tdmSlot n).fs
  if !(s.poolOn && s.on F.POOL_TDM_CFG_MCLK_EN n) then 0
  else if fs = 3 ∨ fs = 5 ∨ fs = 7 then 22579200 else 24576000

/-- BCLK of a master port in Hz: 32 clocks for each slot; 0 where the port does not drive it. -/
def State.bclkHz (s : State) (n : Nat) : Nat :=
  let p := s.tdmSlot n
  if s.tdmOn n && !s.on F.POOL_TDM_CFG_ROLE n then rateHz p.fs * p.slots * 32 else 0

/-- The bit of a frame at which FSYNC is active: the first of slot 0, or the one before it. -/
def State.fsyncBit (s : State) (n : Nat) : Nat :=
  if s.on F.POOL_TDM_CFG_DELAY n then (s.tdmSlot n).slots * 32 - 1 else 0

/-- The level of FSYNC at bit `b` of a frame; FSYNC_POL 1 is active low. -/
def State.fsyncLevel (s : State) (n b : Nat) : Bool := (b == s.fsyncBit n) != s.on F.POOL_TDM_CFG_FSYNC_POL n

/-- Bit `b` of a frame on DOUT: the samples of the slots, most significant bit first in bits [31:8] of each. -/
def doutBit (frame : List Int) (b : Nat) : Bool := bit (256 * toTwos 24 (frame.getD (b / 32) 0)) (31 - b % 32)

/-- PDM_CLKc in Hz: 64 times the FS of the used microphones of its clock. -/
def State.pdmHz (s : State) (c : Nat) : Nat :=
  match ((List.range 4).map fun k => s.pslot (8 + 4 * c + k)).find? fun p => p.slots != 0 with
  | some p => if s.poolOn && bit (s.rd F.POOL_PDM_CFG_EN) c then 64 * rateHz p.fs else 0
  | none => 0

end Sys2Proof.Machine
end

