-- ==== Sys2Proof/Tests/Slice0.lean ====
section
/-!
SUPPORT. Tests of this model. Worked examples of the spec; an ill-formed command for each check of `Instr.wf`; and for every
statement of `Certificates/Slice0/Obligations.lean` that has hypotheses a theorem `witness_<statement>`: for each of its clauses
a state and operands that meet the clause's hypotheses together, written as the clause writes them. Three clauses (steps 4 and the
load window of `ChipPhases`, an accepted delta of `ImagesAndKeys`) need an image that verifies; no proof can see whether the opaque
P-384 and SHA-384 of `Config` accept one, so their witnesses stand under `Accepts`.
-/
set_option linter.unusedVariables false
set_option Elab.async false
set_option maxRecDepth 20000
namespace Sys2Proof.Tests
open Sys2Proof Sys2Proof.Machine
/-- RUN after a boot, everything else as reset leaves it. -/
def base : State := State.reset.modChip fun c => { c with phase := .run, ran := true }
def zAux : Aux := { cmd := 0, addr := 0, len := 0, data := [], defers := 0, silent := 0, waiting := false }
def zBlockId : BlockId := { unit := 0, inst := 0 }
def zBootReport : BootReport := { dram := false, slot := [], chans := [], ranks2 := false, dense := false, dbi := false, supported := false }
def zCand : Cand := { write := false, ix := 0, secure := false, hit := false, at_ := 0, line := 0, hint := 0, bank := 0, row := 0 }
def zComp : Comp := { seq := 0, at_ := 0, plans := [], forced := [], bg := 0, plane := [], planeId := none, nvrPlane := [], nvrLeft := [], dirty := [], left := [], jobs := [], granted := false, resv := 0, complete := false, restart := false }
def zDispatch : Dispatch := { kind := .bin, seq := 0, at_ := .waiting, resumed := false, ran := 0, charged := 0, counts := [], cache := [], rays := [] }
def zEvRaise : EvRaise := { src := 0, cove := 0, gen := 0, secure := false, boot := false, info := 0 }
def zFlight : Flight := { line := 0, fill := false, tries := 0 }
def zGenCheck : GenCheck := { secure := false, cove := 0, gen := 0, addr := 0, len := 0, salt := 0, compare := false, expect := 0 }
def zHartBank : HartBank := { x := [], pc := 0, rest := 0, machineMode := false, hpm := [], cycle := 0 }
def zLJob : LJob := { cove := 0, q := 0, gen := 0, engine := 0, op := 0, flags := 0, work := 0, deadline := 0, record := 0, waits := [], signals := [], waitStart := 0, timeoutMs := 0, waitMs := 0, prio := 0, started := false, desc := [], pipes := [], lost := false, binned := false, next := 0, total := 0, disps := [], fault := 0, replayed := false, partial_ := false, ordered := false, partials := 0, touched := [], spilled := [], urgent := false, blocked := false, nonres := false, rayFault := false, runNs := 0 }
def zLWait : LWait := { addr := 0, value := 0, deadline := 0, ok := false, failed := false }
def zMarchRead : MarchRead := { bg := 0, elem := 0, spare := false, addr := 0, value := 0 }
def zMarchReport : MarchReport := { insts := [], waves := 0, groups := 0, early := [] }
def zPStream : PStream := { cove := 0, q := 0, capture := false, fs := 0, anchorFs := 0, play := 0, held := [], gain := 0, fade := 0, halt := false, toIdle := false, gap := false, descs := [] }
def zPSwap : PSwap := { secure := false, j := 0, cols := [], old := [] }
def zPendSection : PendSection := { type := 0, data := [], secure := false, left := 0, started := false }
def zPlaFx : PlaFx := { port := none, cove := 0, gen := 0, secure := false, prio := 0, carrier := false, wave := 0, amp := 0, rep := 0, at_ := 0, order := 0, pos := 0, left := 0, stopped := false }
def zPlan : Plan := { slot := 0, raw := [], old := [], taking := false, commit := 0, gen := 0, placeholder := false, allDirty := false, released := false }
def zPlane : Plane := { id := 0, data := [], until_ := 0 }
def zPlaneRx : PlaneRx := { id := 0, nvr := false, w := 0, h := 0, validMs := 0, chunks := [] }
def zWorkTag : WorkTag := { secure := false, cove := 0, gen := 0 }
def zPtgCopy : PtgCopy := { tag := zWorkTag, src := 0, dst := 0, len := 0, faddr := 0, fval := 0, kind := 0, last := false, dest := 0, denied := false }
def zPtgMirror : PtgMirror := { srcPos := 0, srcHead := 0, head := 0, frame := none, ready := [], tiles := [] }
def zQDesc : QDesc := { cove := 0, q := 0, gen := 0, bytes := [] }
def zRayHit : RayHit := { t := default, u := default, v := default, prim := 0, geom := 0, inst := 0, back := false }
def zRayState : RayState := { inv := 0, token := 0, flags := 0, tmaxBits := 0, tmin := default, tmax := none, best := none, cand := zRayHit, left := [], entered := false }
def zReadReq : ReadReq := { tag := zWorkTag, line := 0, off := 0, data := [], hint := 0, at_ := 0, issued := false, shared := false }
def zRegionReq : RegionReq := { bytes := 0, ch := 0, write := false }
def zRepEntry : RepEntry := { inst := 0, kind := 0, spare := 0, target := 0, fused := false, bad := false }
def zSensorCfg : SensorCfg := { en := false, hasMutual := false, hasSelf := false, head := 0, txFirst := 0, txCount := 0, rxFirst := 0, rxCount := 0, drive := 0, rate := 0, glove := 0 }
def zShaCfg : ShaCfg := { thresh := 0, selfThr := 0, noise := 0, palm := 0, streak := 0, match_ := 0, sx := 0, sy := 0, ox := 0, oy := 0, flipU := false, flipV := false, swap := false }
def zShorCmd : ShorCmd := { secure := false, op := 0, first := 0, count := 0, owner := 0, reader := 0 }
def zSndEntry : SndEntry := { seq := 0, value := 0, tag := 0 }
def zTileBin : TileBin := { prims := [], orderedAt := none }
def zTileCtx : TileCtx := { es := [], samples := 0, ds := false, hsrOff := false }
def zWhPlane : WhPlane := { id := 0, data := [] }
def zWriteEntry : WriteEntry := { tag := zWorkTag, line := 0, mask := 0, given := 0, hint := 0, at_ := 0, selected := false, filling := false, sent := false }
/-- Cove `c` enabled and READY, with queues. -/
def ready (c : Nat) (s : State) : State := (s.wr F.COVE_STATE_STATE 1 c).wr F.COVE_QUEUES_COUNT 64 c
/-- 1 GiB of DRAM, its first pages cove `c`'s. -/
def dram1 (c : Nat) (s : State) : State :=
  (s.wr F.RES_CAP_SIZE_MIB 1024).modOwn fun o => { o with table := (List.range 128).map fun p => (p, mkEntry 1 c 0) }
/-- Cove 1 READY with its own DRAM. -/
def cove1 : State := ready 1 (dram1 1 base)
/-- A layer job of cove 1 that waits for its slot. -/
def job1 : LayerJob := { slot := 0, cove := some 1, cost := 1, kind := none, done := false, decoded := false }
/-- A started batch job of cove 1, one dispatch of it waiting. -/
def batch1 : LJob := { zLJob with cove := 1, op := 2, started := true, total := 1, engine := 2 }
/-- A cove state record without queues and held locks, sealed by unit 0. -/
def recBody0 : List Byte :=
  [0x43, 0x53, 0x54, 0x52] ++ leBytes 4 1 ++ leBytes 4 224 ++ List.replicate 52 0 ++ recSection 1 [] ++
    recSection 2 (List.replicate 96 0) ++ recSection 3 (List.replicate 4 0)
def rec0 : List Byte := recBody0 ++ leBytes 4 (recSeal 0 0 0 recBody0) ++ List.replicate 12 0
/-- Channel 0 READY with one read or one write of line 1 queued, its row open or not. -/
def oneReq (rq : List ReadReq) (wq : List WriteEntry) (hit : Bool) : State :=
  (base.wr F.RES_CH_STAT_STATE 1 0).modChan 0 fun k => { k with
    rq := rq
    wq := wq
    rows := if hit then [{ bank := (base.coord (chanAddr 64)).key, row := (base.coord (chanAddr 64)).row, hint := 2, last := 0 }] else [] }
def oneRead (hit : Bool) : State := oneReq [{ zReadReq with line := 1 }] [] hit
def oneWrite (m : Nat) : State := oneReq [] [{ zWriteEntry with line := 1, mask := m }] true
/-- A refresh of rank 0 of channel 0 has fallen due. -/
def due (s : State) : State := { s with elapsed := Config.refreshNs (nth (s.chan 0).mr4 0 0) + nth (s.chan 0).refAt 0 0 }
/-- Head 0 scans 64 x 64 pixels on a DisplayPort; slot 0 is enabled on it. -/
def headCfg (safety : Bool) : HeadCfg :=
  { en := true, safety := safety, lead := false, follow := false, depth30 := false, genlockRef := false, layers := 8, latchLine := 0,
    hActive := 64, hFront := 8, hSync := 8, hBack := 8, vActive := 64, vFront := 2, vSync := 2, vBack := 2, pclk := 25000,
    syncPol := 0, panelOn := 0, panelOff := 0, bg := 0 }
def layerCfg (owner : Nat) (secure : Bool) : LayerCfg :=
  { owner := owner, en := true, secure := secure, scaler := 255, vTaps := 1, srcW := 64, srcH := 64, dstW := 64, dstH := 64, bpp := 4,
    staleLimit := 0, coefSet := 255, placeholder := 0 }
def lit (safety : Bool) : State :=
  ((((base.modImg fun m => { m with heads := m.heads.modify 0 fun _ => headCfg safety }).modOh 0 fun o =>
    { o with stage := .lit }).wr F.OUT_ENG_STAT_ROLE 1 0).wr F.OUT_PORT_STAT_TYPE 2 0).wr F.OUT_PORT_STAT_UP 1 0
def slot0 (owner : Nat) (secure : Bool) (s : State) : State :=
  s.modImg fun m => { m with layers := m.layers.modify 0 fun _ => layerCfg owner secure }
/-- A descriptor of a 32 x 32 ARGB surface at `a`. -/
def desc0 (a : Nat) : List Byte :=
  leBytes 2 0x0101 ++ List.replicate 10 0 ++ leBytes 2 32 ++ leBytes 2 32 ++ List.replicate 4 0 ++ leBytes 2 32 ++ leBytes 2 32 ++
    leBytes 2 32 ++ leBytes 2 32 ++ List.replicate 4 0 ++ leBytes 8 a ++ List.replicate 16 0 ++ leBytes 4 128 ++ List.replicate 68 0
def stage0 (l : List Byte) (s : State) : State :=
  (List.range 32).foldl (fun s k => s.wr F.BAS_SLOT_DESC_DESC (leAt l (4 * k) 4) 0 k) s
/-- A queue commit of slot 0 whose descriptor lies at 256. -/
def qcommit : List Byte := leBytes 1 1 ++ leBytes 1 0 ++ leBytes 1 1 ++ leBytes 1 0 ++ leBytes 4 0 ++ leBytes 8 256 ++ List.replicate 48 0
def secJob : LayerJob := { job1 with kind := some .secure, cove := none }
/-- Head 0 has sent its first tile, and unit 0 checks pixel (0, 0) of it. -/
def sealed (expect : Nat) : State :=
  ((lit false).modOh 0 fun o => { o with scan := [(0, some (List.replicate 1024 7))] }).modUnit 0 fun x =>
    { x with cfg := { en := true, static_ := true, x0 := 0, y0 := 0, x1 := 1, y1 := 1, expect := expect }, expect := expect }
def sealPx : List Nat := [colourPx false [] 7]
def sealCrc : Nat := crc32c ((sealed 0).sealPrefix 0 ((sealed 0).rd F.OUT_HEAD_SEQ_SEQ 0) ++ sealPx.flatMap (pxBytes false))
/-- A dispatch descriptor of one workgroup, its state saved at 64 KiB. -/
def disp0 : List Byte :=
  leBytes 8 0x40 ++ List.replicate 8 0 ++ leBytes 4 1 ++ leBytes 4 1 ++ leBytes 4 1 ++ leBytes 2 1 ++ leBytes 2 1 ++ leBytes 2 1 ++
    List.replicate 30 0
/-- A sparse texture of one 4 KiB level and one layer, its residency map at 4096. -/
def sparse0 : List Byte :=
  leBytes 2 64 ++ leBytes 2 64 ++ leBytes 1 1 ++ leBytes 1 0 ++ leBytes 2 1 ++ leBytes 8 65536 ++ leBytes 8 4096 ++ List.replicate 16 0 ++
    leBytes 4 64 ++ List.replicate 20 0
/-- TDM port 0 receives `k` slots and transmits `t`. -/
def tdm0 (k t : Nat) : State :=
  (base.modImg fun m => { m with pslots := (m.pslots.modify 0 fun x => { x with slots := k, fs := 4 }).modify 4 fun x =>
    { x with slots := t, fs := 4 } }).wr F.POOL_TDM_CFG_EN 1 0
/-- Cove 1's queue 2 plays a stream `x`, its state `st`. -/
def strm (x : PStream) (st : Nat) : State :=
  (((cove1.wr F.COVE_Q_CFG_ENGINE 4 1 2).wr F.POOL_STR_STAT_STATE st 1 2).modPool fun p => { p with streams := [x] })
/-- A DRAIN descriptor of one frame. -/
def play0 : List Byte := leBytes 4 1 ++ leBytes 4 1 ++ List.replicate 56 0
theorem getD_all {α : Type} {l : List α} {d : α} {p : α → Nat → Prop} (h : ∀ k, k < l.length → p (l.getD k d) k) (hd : ∀ k, p d k)
    (k : Nat) : p (l.getD k d) k := by
  by_cases hk : k < l.length
  · exact h k hk
  · have e : l.getD k d = d := by rw [List.getD_eq_getElem?_getD, List.getElem?_eq_none (Nat.le_of_not_lt hk)]; rfl
    rw [e]; exact hd k
/-- Haptic channel 0 drives an LRA and allows cove 1; wave 0 is stored. -/
def lra : State :=
  ((ready 1 base).wr F.PLA_CH_COVES_COVES 2 0).modImg fun m =>
    { m with haptics := m.haptics.modify 0 fun x => { x with kind := 2 }, waves := 1 :: List.replicate 2055 0 }
/-- Sensor 0 has one mutual node, whose baseline is 0. -/
def node0 : State :=
  (base.modImg fun m => { m with sensors := m.sensors.modify 0 fun _ =>
    { zSensorCfg with en := true, hasMutual := true, txCount := 1, rxCount := 1 } }).modSns 0 fun x => { x with baseM := [0] }
def sha0 : ShaCfg := { zShaCfg with thresh := 10, palm := 4, streak := 4 }
def peak0 : PeakCand := ({ tx := 1, rx := 1, d := [20], selfTx := [], selfRx := [] } : ShaGrid).cand sha0 false 0 0
/-- The MA variant, its Wellhead link started and up. -/
def ma : State :=
  (((base.wr F.CHIP_ID_VARIANT 1).modWel fun w => { w with started := true }).wr F.WEL_STAT_LINK_UP 1).modImg fun m =>
    { m with legal := some { head := 0, window := 0, x0 := 0, y0 := 0, x1 := 8, y1 := 4 } }
def later (n : Nat) (s : State) : State := { s with elapsed := n }
/-- A cascade of positions 0 and 1 whose master is at `m`. -/
def casc (m : Nat) : State :=
  (((base.wr F.CHIP_STRAP_MODE 3).wr F.PTG_CFG_PRESENT 3).wr F.PTG_CFG_MASTER_POS m).wr F.PTG_CFG_MASTER (if m = 0 then 1 else 0)
/-- A good flit of class `c` from position 1. -/
def flitBody (c seq : Nat) : List Byte :=
  leBytes 1 c ++ leBytes 1 0 ++ leBytes 1 1 ++ leBytes 1 0 ++ leBytes 2 seq ++ List.replicate 242 0
def flit (c seq : Nat) : List Byte := flitBody c seq ++ leBytes 4 (crc32c (flitBody c seq)) ++ List.replicate 4 0
/-- BOOT halts in load mode 2, the load window open. -/
def window : State :=
  ((base.modChip fun c => { c with phase := .boot, imgldSize := 1000 }).wr F.CHIP_STRAP_MODE 2).wr F.CHIP_BOOT_STAT_STEP 3

/-! ### Worked examples of the spec -/

/-- The example of R526: bank 37 fails bit 41 in five rows, and row 1,234 in bit 3 too. -/
def bank37 : MarchKept :=
  { counts := (List.range 72).map fun b => if b = 41 then 3 else if b = 3 then 1 else 0,
    rows := [(100, 2 ^ 41), (900, 2 ^ 41), (1234, 2 ^ 3 + 2 ^ 41), (2000, 2 ^ 41), (3500, 2 ^ 41)].map fun p =>
      { row := p.1, spare := false, mask := BitVec.ofNat 72 p.2, elem := 1, bg := 0 },
    excess := 0, badRows := [], badCols := [] }
theorem test_march_repairs_bank_37 : (decideInst [] 37 bank37).1 = 1 ∧ (decideInst [] 37 bank37).2.map RepEntry.bytes =
    [[0x25, 0, 2, 0, 0x29, 0, 0, 0], [0x25, 0, 1, 0, 0xD2, 4, 0, 0]] := by decide
/-- The example of R215 and R216, 32 GiB in two ranks. -/
theorem test_dram_address : chanOf 0x123456780 = 3 ∧ chanAddr 0x123456780 = 0x48D15980 ∧
    (State.reset.wr F.RES_CFG_RANKS2 1).coord 0x48D15980 = { sc := 0, rank := 1, bank := 0xD, row := 0x2468, col := 19 } := by decide +kernel
/-- The example of R40. -/
theorem test_cove_5_page : State.reset.place 0x8A00000 = .regs 0x8A00000 true ∧ State.reset.place 0xBFFFFFC = .regs 0xBFFFFFC true := by
  decide +kernel
/-- The example of R105. -/
theorem test_power_allotments : lochLimit 24 11000 = 7000 ∧ coresLimit 24 11000 = 6000 ∧ lochLimit 16 11000 = 2000 ∧ coresLimit 16 11000 = 3000 := by
  decide
/-- The example of R200. -/
theorem test_entitlements : entitlementOf .memory 0 = 0 ∧ entitlementOf .memory 512 = 124 ∧ entitlementOf .memory 256 = 62 := by decide
/-- The example of R344: the seal of one amber pixel in frame 500. -/
theorem test_seal : crc32c ([2, 3, 0, 0, 0xF4, 1, 0, 0, 100, 0, 40, 0, 101, 0, 41, 0] ++ [0xFF, 0x80, 0]) = 0xC6FE4CD1 := by decide +kernel
/-- The example of R333. -/
theorem test_backlight_curve : curveAt 5050 [(100, 0x2000), (10000, 0x8000)] = 0x5000 ∧ 0x5000 * 1250 / 65535 = 390 := by decide
/-- The example of R434: GAIN[2] and GAIN[3] of the built-in curve. -/
theorem test_mix_gain : State.reset.curveGain 255 3 = 605396 ∧ State.reset.curveGain 255 2 = 741455 := by decide +kernel
/-- The example of R450. -/
theorem test_tone_880_hz : phaseStep 8800 = 39370534 := by decide
/-- The example of R484. -/
theorem test_scan_time : ({ zSensorCfg with hasMutual := true, hasSelf := true, txCount := 64, glove := 6 } : SensorCfg).scanUs = 3360 ∧
    ({ zSensorCfg with hasMutual := true, hasSelf := true, txCount := 128, glove := 6 } : SensorCfg).scanUs = 5920 := by decide
/-- A finger centred on an electrode (the example of 17.6). -/
theorem test_centroid : centroid [(46, 5), (47, 9), (48, 5)] = 12160 ∧ centroid [(31, 5), (32, 9), (33, 5)] = 8320 := by decide

/-! ### Reset and an empty queue -/

theorem test_reset : State.reset.pending = [] ∧ State.reset.chip.phase = .boot ∧ State.reset.dram = [] ∧ State.reset.fab.isolated = [] := by
  decide +kernel
theorem test_idle_step : step base = .next base.idle := rfl

/-! ### Well-formedness: an ill-formed term for each check -/

def bank0 (n : Nat) : HartBank := { x := List.replicate n 0, pc := 0, rest := 0, machineMode := false, hpm := [], cycle := 0 }
theorem wf_refuses_register_accesses :
    (Instr.registerWrite (.pair 0) 2 0).wf = false ∧ (Instr.registerWrite (.pair 0) 0x10000000 0).wf = false ∧
    (Instr.readToClear (.pair 0) 2 .word).wf = false ∧ (Instr.readToClear (.pair 0) 0x10000000 .byte).wf = false ∧
    (Instr.narrowRegisterWrite (.pair 0) 1 true 0).wf = false ∧ (Instr.narrowRegisterWrite (.pair 0) 0x10000000 false 0).wf = false ∧
    (Instr.lowWordRead (.pair 0) 1).wf = false ∧ (Instr.highWordRead (.pair 0) 0x10000001).wf = false ∧
    (Instr.unassignedAccess (.pair 0) (2 ^ 40) false).wf = false ∧ (Instr.covePageDenied (.pair 0) 0 0x200000 false).wf = false ∧
    (Instr.nvmApertureRead (.pair 0) 0x800000 .b1 .ok).wf = false ∧ (Instr.nvmApertureRead (.pair 0) 4 .b8 .ok).wf = false ∧
    (Instr.nvmApertureWrite (.pair 0) 0x800000 .b1 0).wf = false ∧ (Instr.nvmApertureWrite (.pair 0) 2 .b4 0).wf = false := by decide
theorem wf_refuses_memory_accesses :
    (Instr.dramAccess (.ini (.pair 0)) 0 0 none false).wf = false ∧ (Instr.dramAccess (.ini (.pair 0)) (2 ^ 50) 1 none false).wf = false ∧
    (Instr.dramAccess (.ini (.pair 0)) 0 2 (some [1]) false).wf = false ∧
    (Instr.requestTimeout (.ini (.pair 0)) (2 ^ 50) false 0).wf = false ∧
    (Instr.vfBar2Request 1 0 0 none).wf = false ∧ (Instr.vfBar2Request 1 0 513 (some (List.replicate 513 0))).wf = false ∧
    (Instr.resRequestEnter (.ini (.pair 0)) .cores 0 0 none).wf = false ∧
    (Instr.tarnDebugWrite (.pair 0) 0 [] .ok).wf = false ∧ (Instr.tarnDebugWrite (.pair 0) 134217727 [1, 2] .ok).wf = false := by decide
theorem wf_refuses_units :
    (Instr.govMargin .pcieTx 65536 true).wf = false ∧ (Instr.imgldDataWrite 32767 [1, 2]).wf = false ∧
    (Instr.flashTransferDone (List.replicate 257 0)).wf = false ∧ (Instr.deltaSectionApply 65536).wf = false ∧
    (Instr.weirEnter (.hart 0) 0 0 (bank0 31)).wf = false ∧ (Instr.weirReturn (.hart 0) 0 0 (List.replicate 9 0) 0).wf = false ∧
    (Instr.trnDone [0] [] 0).wf = false ∧ (Instr.trnDone [0, 0, 0, 0] (List.replicate 65 0) 0).wf = false ∧
    (Instr.tileComposed 0 8192 false false).wf = false ∧ (Instr.frameStart 0 (some 8192)).wf = false ∧
    (Instr.stripDecode 0 256 0 [] [] []).wf = false ∧ (Instr.scanUnderrun 0 8192 0).wf = false ∧ (Instr.scanUnderrun 0 0 8192).wf = false ∧
    (Instr.frameAbort 0 8192 0).wf = false ∧ (Instr.lockstepMismatch 0 0 8192).wf = false ∧
    (Instr.auxReply 0 0 (List.replicate 17 0)).wf = false ∧ (Instr.alsSample 0 (List.replicate 17 0)).wf = false ∧
    (Instr.rayTraverse 0 0 (List.replicate 65 0)).wf = false ∧ (Instr.tdmRxFrame 0 (List.replicate 33 0)).wf = false ∧
    (Instr.planeData 0 0 (List.replicate 1025 0)).wf = false ∧ (Instr.ident (List.replicate 1033 0)).wf = false ∧
    (Instr.flitReceive 0 (List.replicate 257 0) .control).wf = false := by decide +kernel
theorem wf_accepts : (Instr.registerWrite (.pair 0) 4 0).wf = true ∧ (Instr.dramAccess (.ini (.pair 0)) 0 2 (some [1, 2]) false).wf = true ∧
    (Instr.weirEnter (.hart 0) 0 0 (bank0 32)).wf = true := by decide
/-- Page 0 has entry `e` and no other page is assigned; the secure command names page 0 alone; none runs. -/
def shorAt (e : Nat) : State :=
  (base.modOwn fun o => { o with running := none, table := if e = 0 then [] else [(0, e)] }).wr F.SHOR_CMD_COUNT_COUNT 1 1
/-- What `Obligations.ShorelineCommands` asks of a command that runs. -/
def shorRuns (c : Instr) (op : Nat) (s : State) : Prop :=
  shorRow (.pair 0) 1 2 c op ∧ s.onBus (.pair 0) ∧ s.isCove0 (.pair 0) = true ∧ s.rd F.SHOR_STAT_BUSY (b2n (s.isSec (.pair 0))) = 0 ∧
    s.own.running = none ∧ shorPermits (s.isSec (.pair 0)) op = true ∧ 0 < s.rd F.SHOR_CMD_COUNT_COUNT (b2n (s.isSec (.pair 0))) ∧
    s.rd F.SHOR_CMD_FIRST_FIRST (b2n (s.isSec (.pair 0))) + s.rd F.SHOR_CMD_COUNT_COUNT (b2n (s.isSec (.pair 0))) ≤ 524288 ∧
    ∀ p, s.rd F.SHOR_CMD_FIRST_FIRST (b2n (s.isSec (.pair 0))) ≤ p →
      p < s.rd F.SHOR_CMD_FIRST_FIRST (b2n (s.isSec (.pair 0))) + s.rd F.SHOR_CMD_COUNT_COUNT (b2n (s.isSec (.pair 0))) →
      (s.isSec (.pair 0) = true ∨ s.delegated p = true) ∧ shorFrom op (entState (s.shorEntry p)) = true ∧
      (op = 2 → (2 : Fin 32).val ≠ entOwner (s.shorEntry p))
/-- Each of the seven rows meets the hypotheses from each state of its From column. -/
theorem witness_ShorelineRows :
    shorRuns (.shorAssign (.pair 0) 1 2) 1 (shorAt 0) ∧ shorRuns (.shorShare (.pair 0) 1 2) 2 (shorAt (mkEntry 1 1 0)) ∧
    shorRuns (.shorUnshare (.pair 0) 1 2) 3 (shorAt (mkEntry 2 1 2)) ∧ shorRuns (.shorRelease (.pair 0) 1 2) 4 (shorAt (mkEntry 1 1 0)) ∧
    shorRuns (.shorRelease (.pair 0) 1 2) 4 (shorAt (mkEntry 2 1 2)) ∧ shorRuns (.shorTakeSecure (.pair 0) 1 2) 5 (shorAt 0) ∧
    shorRuns (.shorReleaseSecure (.pair 0) 1 2) 6 (shorAt (mkEntry 3 0 0)) ∧
    shorRuns (.shorAssignKeep (.pair 0) 1 2) 7 (shorAt 0) := by
  unfold shorRuns State.onBus shorRow
  refine ⟨?_, ?_, ?_, ?_, ?_, ?_, ?_, ?_⟩ <;> decide +kernel
/-- Each of the five helpers meets the hypotheses of `Obligations.Training`. -/
theorem witness_TrainingRows :
    (base.onBus (.pair 0) ∧ base.isSec (.pair 0) = true ∧ base.res.trn = none) ∧
    trnRow (.pair 0) 15 1 7 (.trnWritePattern (.pair 0) 15 1 7) 1 ∧ trnRow (.pair 0) 15 1 7 (.trnReadCompare (.pair 0) 15 1 7) 2 ∧
    trnRow (.pair 0) 15 1 7 (.trnWriteReadCompare (.pair 0) 15 1 7) 3 ∧ trnRow (.pair 0) 15 1 7 (.trnCmdBusCompare (.pair 0) 15 1 7) 4 ∧
    trnRow (.pair 0) 15 1 7 (.trnWckSample (.pair 0) 15 1 7) 5 := by
  unfold State.onBus trnRow; decide +kernel

/-! ### Hypotheses that are met -/

theorem witness_RegisterAccess :
    (∃ (ini : Initiator) (off : Nat) (v : Word) (s : State) (a : Nat) (page : Bool) (h : Hit), (s.reaches ini off ∧ s.plainWrite ini off v.toNat ∧
        s.place off = .regs a page ∧ h.w = 0 ∧ h.f.lo ≤ h.f.hi ∧ h.f.hi < 32 ∧ h.f.own = false ∧ h.f.ordinary ∧ s.writeBlocked h v.toNat = false ∧
        s.mayWrite ini h.f h.i page = true) ∧ hitsAt a (b2n (s.isSec ini)) = [h]) ∧
    (∃ (ini : Initiator) (off : Nat) (v : Word) (s : State) (a : Nat) (page : Bool) (h : Hit), (s.reaches ini off ∧ s.plainWrite ini off v.toNat ∧
        s.place off = .regs a page ∧ h.f.ordinary ∧ s.mayWrite ini h.f h.i page = false ∧ s.wouldAct h v.toNat = true) ∧ hitsAt a (b2n (s.isSec ini))
        = [h]) ∧
    (∃ (ini : Initiator) (c : Fin 32) (off : Nat) (v : Word) (s : State), (∀ f, ini ≠ .pcie f) ∧ s.issues ini = true ∧ off < 0x200000 ∧ s.pageOk ini c
        = false ∧ s.plainWrite ini (0x8000000 + c * 0x200000 + off) v.toNat) ∧
    (∃ (ini : Initiator) (off : Nat) (size : RegSize) (s : State), s.reaches ini off ∧ s.nvmPlace off = none ∧ s.isWide ini (off / 4 * 4) 1 = false) ∧
    (∃ (ini : Initiator) (off : Nat) (half : Bool) (v : Word) (s : State), s.reaches ini off) ∧
    (∃ (ini : Initiator) (k : Nat) (s : State), s.reaches ini (4 * k) ∧ s.nvmPlace (4 * k) = none ∧ s.isWide ini (4 * k) 1 = false ∧ s.isWide ini (4 *
        k + 4) 1 = true ∧ s.seenMask ini (4 * k) ≠ 0) ∧
    (∃ (ini : Initiator) (k hi : Nat) (l : List (Initiator × Nat × Nat)) (s : State), s.reaches ini (4 * k + 4) ∧ s.nvmPlace (4 * k + 4) = none ∧
        s.isWide ini (4 * k + 4) 1 = true ∧ s.isWide ini (4 * k + 8) 1 = false ∧ s.hold = (ini, 4 * k, hi) :: l ∧ s.seenMask ini (4 * k + 4) ≠ 0) ∧
    (∃ (ini : Initiator) (k : Nat) (s : State), s.reaches ini (4 * k) ∧ s.nvmPlace (4 * k) = none ∧ s.isWide ini (4 * k) 1 = true ∧ (∀ e ∈ s.hold, e.1
        = ini → e.2.1 + 4 ≠ 4 * k)) :=
  ⟨⟨.pair 0, 0x4810014, 5, base, 0x4810014, false, ⟨F.SND_GEN_SALT_SALT, 0, 0, 0⟩,
      by unfold State.reaches State.plainWrite Fld.ordinary; decide +kernel, (by rfl)⟩,
    ⟨.hart 0, 0x4810014, 5, base.wr F.WEIR_HART_COVE_COVE 1 0, 0x4810014, false, ⟨F.SND_GEN_SALT_SALT, 0, 0, 0⟩,
        by unfold State.reaches State.plainWrite Fld.ordinary; decide +kernel, (by rfl)⟩,
    ⟨.hart 0, 2, 0, 0, base.wr F.WEIR_HART_COVE_COVE 1 0, by unfold State.plainWrite; decide +kernel⟩,
    ⟨.pair 0, 0, .byte, base, by unfold State.reaches; decide +kernel⟩,
    ⟨.pair 0, 0, false, 0, base, by unfold State.reaches; decide +kernel⟩,
    ⟨.pair 0, 0xC0000, base, by unfold State.reaches; decide +kernel⟩,
    ⟨.pair 0, 0xC0000, 3, [], { base with hold := [(.pair 0, 4 * 0xC0000, 3)] }, by unfold State.reaches; decide +kernel⟩,
    ⟨.pair 0, 0xC0001, base, by unfold State.reaches; decide +kernel⟩⟩

theorem witness_UnassignedAccess :
    (∃ (ini : Initiator) (addr : Nat) (write : Bool) (s : State), s.issues ini = true ∧ s.dramBytes ≤ addr ∧ inTarn addr 1 = false ∧ (addr <
        0xF000000000 ∨ 0xF010000000 ≤ addr)) ∧
    (∃ (ini : Initiator) (off : Nat) (s : State), s.reaches ini off ∧ off < 0x10000000 ∧ s.assigned ini off = false) ∧
    (∃ (ini : Initiator) (off : Nat) (s : State), s.reaches ini off ∧ off < 0x10000000 ∧ s.assigned ini off = false) :=
  ⟨⟨.pair 0, 0, false, base, by decide +kernel⟩,
    ⟨.pair 0, 0x0F000000, base, by unfold State.reaches; decide +kernel⟩,
    ⟨.pair 0, 0x0F000000, base, by unfold State.reaches; decide +kernel⟩⟩

theorem witness_DramAccess :
    (∃ (src : Source) (addr : Nat) (l : List Byte) (s : State), s.srcIssues src = true ∧ usesCpa src = false ∧ (∀ h, src ≠ .ini (.hart h)) ∧ addr +
        l.length ≤ tarnBase ∧ addr + l.length ≤ s.dramBytes ∧ s.fab.isolated = [] ∧ (∀ p, addr / 65536 ≤ p → p ≤ (addr + l.length - 1) / 65536 →
        shorAllows (s.shorEntry p) (s.srcTag src) true = true)) ∧
    (∃ (src : Source) (addr len : Nat) (s : State), s.srcIssues src = true ∧ usesCpa src = false ∧ (∀ h, src ≠ .ini (.hart h)) ∧ addr + len ≤ tarnBase
        ∧ addr + len ≤ s.dramBytes ∧ s.fab.isolated = [] ∧ s.res.poison = [] ∧ (∀ p, addr / 65536 ≤ p → p ≤ (addr + len - 1) / 65536 → shorAllows
        (s.shorEntry p) (s.srcTag src) false = true)) ∧
    (∃ (c : Fin 32) (q : Fin 64) (addr : Nat) (l : List Byte) (s : State), s.srcIssues (.queue c q) = true ∧ s.bareOk c addr l.length true) ∧
    (∃ (c : Fin 32) (q : Fin 64) (addr len : Nat) (s : State), s.srcIssues (.queue c q) = true ∧ s.bareOk c addr len false) ∧
    (∃ (h : Fin 8) (addr len : Nat) (s : State), s.issues (.hart h) = true ∧ 0 < len ∧ s.coreHit h (s.tag (.hart h)) false (linesOf addr len) = true)
        ∧
    (∃ (src : Source) (addr len : Nat) (s : State), s.srcIssues src = true ∧ usesCpa src = false ∧ (∀ h, src = .ini (.hart h) → s.coreHit h (s.srcTag
        src) false (linesOf addr len) = false) ∧ 0 < len ∧ addr + len ≤ tarnBase ∧ addr + len ≤ s.dramBytes ∧ shorAllows (s.shorEntry (addr / 65536))
        (s.srcTag src) false = false ∧ s.rd F.SHOR_DENY_INFO_VALID = 0) ∧
    (∃ (src : Source) (addr : Nat) (l : List Byte) (s : State), s.srcIssues src = true ∧ usesCpa src = false ∧ (∀ h, src = .ini (.hart h) → s.coreHit
        h (s.srcTag src) true (linesOf addr l.length) = false) ∧ l ≠ [] ∧ addr + l.length ≤ tarnBase ∧ addr + l.length ≤ s.dramBytes ∧ shorAllows
        (s.shorEntry (addr / 65536)) (s.srcTag src) true = false) :=
  ⟨⟨(.ini (.pair 0)), 64, [1, 2], ((dram1 1 base).modFab fun x => { x with isolated := [] }), by decide +kernel⟩,
    ⟨(.ini (.pair 0)), 64, 2, ((((dram1 1 base).modFab fun x => { x with isolated := [] })).modRes fun x => { x with poison := [] }),
        by decide +kernel⟩,
    ⟨1, 0, 64, [1, 2], cove1, by unfold State.bareOk; decide +kernel⟩,
    ⟨1, 0, 64, 2, cove1, by unfold State.bareOk; decide +kernel⟩,
    ⟨0, 64, 2, (dram1 0 base).modOwn fun o => { o with l1 := [[{ line := 1, secure := false, cove := 0, hart := 0, written := false }]] },
        by decide +kernel⟩,
    ⟨(.ini (.hart 0)), 64, 2, (dram1 1 base).wr F.SHOR_DENY_INFO_VALID 0, by decide +kernel⟩,
    ⟨(.ini (.hart 0)), 64, [1, 2], dram1 1 base, by decide +kernel⟩⟩

theorem witness_Arbiters :
    (∃ (n : Fin 289) (reqs ready : List Requester) (w m : Nat) (s : State), (s.rd F.RIP_ARB_CTRL_FREEZE n.val = 0 ∧ m = clearMask 24 (s.rd
        F.RIP_ARB_STAT_MASKED n.val) (arbMask n.val ready) ∧ w < arbInputs n.val ∧ (arbMask n.val reqs).testBit w = true ∧ (m ||| s.sideMask
        n.val).testBit w = false) ∧ (∀ v, w < v → v < arbInputs n.val → (arbMask n.val reqs).testBit v = true → (m ||| s.sideMask n.val).testBit v =
        true)) ∧
    (∃ (n : Fin 289) (reqs ready : List Requester) (m : Nat) (s : State), s.rd F.RIP_ARB_CTRL_FREEZE n.val = 0 ∧ m = clearMask 24 (s.rd
        F.RIP_ARB_STAT_MASKED n.val) (arbMask n.val ready) ∧ (∀ v, v < arbInputs n.val → (arbMask n.val reqs).testBit v = true → (m ||| s.sideMask
        n.val).testBit v = true)) ∧
    (∃ (n : Fin 289) (k : Fin 12) (s : State), n.val < 264 ∧ s.rd F.RIP_ARB_CTRL_FREEZE n.val = 0 ∧ (s.rd F.RIP_ARB_STAT_MASKED n.val).testBit (12 +
        k.val) = false) ∧
    (∃ (n : Fin 289) (reqs ready : List Requester) (s : State), s.rd F.RIP_ARB_CTRL_FREEZE n.val = 1) ∧
    (∃ (n : Fin 289) (input : Fin 24) (s : State), input.val < arbInputs n.val) ∧
    (∃ (ini : Initiator) (n : Fin 289) (v : Word) (s : State), s.onBus ini ∧ s.isSec ini = true) ∧
    (∃ (ini : Initiator) (n : Fin 289) (v : Word) (s : State), s.onBus ini ∧ s.isSec ini = false ∧ v.toNat % 2 ≠ s.rd F.RIP_ARB_CTRL_FREEZE n.val ∧
        s.room 64) :=
  ⟨⟨0, [.dredge], [], 0, 0, base.wr F.RIP_ARB_CTRL_FREEZE 0 0, by decide +kernel, (by intro v h1 h2; revert h1; revert h2; revert v; decide +kernel)⟩,
    ⟨0, [], [], 0, base.wr F.RIP_ARB_CTRL_FREEZE 0 0, by decide +kernel⟩,
    ⟨0, 0, base.wr F.RIP_ARB_CTRL_FREEZE 0 0, by decide +kernel⟩,
    ⟨0, [], [], base.wr F.RIP_ARB_CTRL_FREEZE 1 0, by decide +kernel⟩,
    ⟨0, 0, base, by decide +kernel⟩,
    ⟨.pair 0, 0, 0, base, by unfold State.onBus; decide +kernel⟩,
    ⟨.hart 0, 0, 1, base, by unfold State.onBus State.room; decide +kernel⟩⟩

theorem witness_CellsAndRequests :
    (∃ (b : BlockId) (w : Source) (us : Nat) (s : State), us ≤ max (s.rd F.RIP_RGN_CFG_STALL_US (regionOf b)) 1) ∧
    (∃ (b : BlockId) (w : Source) (us : Nat) (s : State), max (s.rd F.RIP_RGN_CFG_STALL_US (regionOf b)) 1 < us ∧ s.fab.flog.length < 64 ∧
        s.isIsolated b = false ∧ s.room 33) ∧
    (∃ (b : BlockId) (w : Source) (ue : Bool) (fails : Nat) (s : State), 1 ≤ fails ∧ fails ≤ 3 ∧ s.fab.flog.length < 64) ∧
    (∃ (b : BlockId) (w : Source) (ue : Bool) (fails : Nat) (s : State), 4 ≤ fails ∧ s.fab.flog.length < 64 ∧ s.isIsolated b = false ∧ s.room 34) ∧
    (∃ (src : Source) (addr us : Nat) (write : Bool) (s : State), 2000 ≤ us) ∧
    (∃ (ini : Initiator) (s : State), s.onBus ini ∧ s.isSec ini = true) ∧
    (∃ (ini : Initiator) (s : State), s.onBus ini ∧ s.isSec ini = false ∧ s.room 64) :=
  ⟨⟨zBlockId, (.ini (.hart 0)), 0, base, by decide +kernel⟩,
    ⟨zBlockId, (.ini (.hart 0)), 2000, base, by unfold State.room; decide +kernel⟩,
    ⟨zBlockId, (.ini (.hart 0)), false, 3, base, by decide +kernel⟩,
    ⟨zBlockId, (.ini (.hart 0)), false, 4, base, by unfold State.room; decide +kernel⟩,
    ⟨(.ini (.hart 0)), 0, 2000, false, base, by decide +kernel⟩,
    ⟨.pair 0, base, by unfold State.onBus; decide +kernel⟩,
    ⟨.hart 0, base, by unfold State.onBus State.room; decide +kernel⟩⟩

theorem witness_RegionVisits :
    (∃ (r : ShareRegion) (c : Fin 32) (q : RegionReq) (s : State), (r = .memory ∨ r = .sense) ∧ s.fab.waiting = [] ∧ s.fab.secWaiting = [] ∧ s.admits
        c.val = true ∧ s.overShare r c.val = false ∧ s.share r c.val ≠ 0 ∧ s.slotFor r c.val = true ∧ s.memFull r q = false ∧ (ceilDiv q.bytes 64 :
        Int) ≤ s.deficit r c.val + s.share r c.val * s.quantum r) ∧
    (∃ (r : ShareRegion) (c : Fin 32) (q : RegionReq) (s : State), (r = .memory ∨ r = .sense) ∧ s.fab.waiting = [] ∧ s.fab.secWaiting = [] ∧ s.admits
        c.val = true ∧ s.overShare r c.val = false ∧ s.share r c.val ≠ 0 ∧ s.memFull r q = false ∧ s.deficit r c.val + s.share r c.val * s.quantum r <
        (ceilDiv q.bytes 64 : Int)) ∧
    (∃ (r : ShareRegion) (c : Fin 32) (q : RegionReq) (s : State), (r = .memory ∨ r = .sense) ∧ s.fab.waiting = [] ∧ s.fab.secWaiting = [] ∧ (s.admits
        c.val = false ∨ s.overShare r c.val = true)) ∧
    (∃ (r : ShareRegion) (q : RegionReq) (s : State), (r = .memory ∨ r = .sense) ∧ s.fab.waiting = [] ∧ s.fab.secWaiting = [] ∧ s.memFull r q = false
        ∧ nth s.fab.secSlots (srIx r) 0 < 8) ∧
    (∃ (c : Fin 32) (w : WaitingJob) (s : State), s.waitingJobs = [w] ∧ w.job.cove = some c.val ∧ s.admits c.val = true ∧ s.overShare .display c.val =
        false ∧ s.share .display c.val ≠ 0 ∧ s.slotFor .display c.val = true ∧ (w.job.cost : Int) ≤ s.deficit .display c.val + s.share .display c.val
        * s.quantum .display) ∧
    (∃ (c : Fin 32) (s : State), (s.lochCosts c.val = [1] ∧ s.admits c.val = true ∧ s.overShare .graphics c.val = false ∧ s.share .graphics c.val ≠ 0
        ∧ s.slotFor .graphics c.val = true ∧ (1 : Int) ≤ s.deficit .graphics c.val + s.share .graphics c.val * s.quantum .graphics) ∧ (∀ d, d ≠ c.val
        → s.lochCosts d = [])) ∧
    (∃ (r : ShareRegion) (c : Fin 32) (s : State), (r = .memory ∨ r = .sense) ∧ s.overShare r c.val = false ∧ 0 < s.held r c.val) ∧
    (∃ (r : ShareRegion) (c : Fin 32) (s : State), (r = .memory ∨ r = .sense) ∧ s.overShare r c.val = true ∧ 0 < s.held r c.val ∧ s.held r c.val ≤
        s.entitled r c.val ∧ s.room 99) ∧
    (∃ (r : ShareRegion) (c : Fin 32) (s : State), (r = .memory ∨ r = .sense)) ∧
    (∃ (r : ShareRegion) (c : Fin 32) (s : State), (r = .memory ∨ r = .sense)) ∧
    (∃ (r : ShareRegion) (c : Fin 32) (k : SlotKind) (s : State), (r = .display ∨ r = .graphics)) :=
  ⟨⟨.memory, 1, { bytes := 64, ch := 0, write := false }, ((((cove1.modFab fun x => { x with waiting := [] })).modFab fun x =>
      { x with secWaiting := [] })).wr F.COVE_SHAREA_RES_SHARE 512 1, by decide +kernel⟩,
    ⟨.memory, 1, { bytes := 64, ch := 0, write := false }, ((((((cove1.modFab fun x => { x with waiting := [] })).modFab fun x =>
        { x with secWaiting := [] })).wr F.COVE_SHAREA_RES_SHARE 512 1).modFab fun x =>
        { x with deficit := List.replicate 4 (List.replicate 32 (-100000)) }), by decide +kernel⟩,
    ⟨.memory, 0, zRegionReq, (((base.modFab fun x => { x with waiting := [] })).modFab fun x => { x with secWaiting := [] }), by decide +kernel⟩,
    ⟨.memory, zRegionReq, (((base.modFab fun x => { x with waiting := [] })).modFab fun x => { x with secWaiting := [] }), by decide +kernel⟩,
    ⟨1, { latched := 0, head := 0, job := job1 }, ((cove1.wr F.COVE_SHAREB_BAS_SHARE 512 1).modHc 0 fun k =>
        { k with cur := some { zComp with jobs := [job1], granted := true } }), by decide +kernel⟩,
    ⟨1, ((cove1.wr F.COVE_SHAREA_LOCH_SHARE 512 1).modLoch fun x => { x with jobs := [batch1] }), by decide +kernel, by
    intro d hd
    have h : ∀ d, d ≠ 1 → State.lochCosts { cove1 with loch := { cove1.loch with jobs := [batch1] } } d = [] := by
      intro d hd
      simp [State.lochCosts, State.jobsOf, State.job, batch1, Ne.symm hd]
    exact h d hd⟩,
    ⟨.memory, 0, base.wr F.COVE_HOLD_MEM 3, by decide +kernel⟩,
    ⟨.memory, 0, ((base.wr F.COVE_HOLD_MEM 1 0).wr F.COVE_SHAREA_RES_SHARE 512 0).wr F.COVE_STATE_OVER_SHARE 1 0,
        by unfold State.room; decide +kernel⟩,
    ⟨.memory, 0, base, by decide +kernel⟩,
    ⟨.memory, 0, base, by decide +kernel⟩,
    ⟨.display, 0, .cove, base, by decide +kernel⟩⟩

theorem witness_Spillway :
    (∃ (r : Fin 7) (b : BlockId) (kind : Fin 6) (w : Source) (s : State), s.safe = false ∧ (s.rd F.RIP_SPILL_STAT_PENDING).testBit r.val = false ∧
        s.room 37) ∧
    (∃ (ini : Initiator) (r : Fin 8) (s : State), s.onBus ini ∧ s.isSec ini = true ∧ s.safe = false ∧ r.val < 7 ∧ r.val ≠ 5 ∧ (s.rd
        F.RIP_SPILL_STAT_PENDING).testBit r.val = true) ∧
    (∃ (ini : Initiator) (s : State), s.onBus ini ∧ s.isSec ini = true ∧ s.safe = false) ∧
    (∃ (r : Fin 7) (s : State), s.safe = false ∧ (s.rd F.RIP_SPILL_STAT_PENDING).testBit r.val = true ∧ nth s.fab.spillStart r.val 0 + 1000000 ≤
        s.elapsed) ∧
    (∃ (b : BlockId) (w : Source) (kind : Fin 6) (s : State), s.isIsolated b = false ∧ 14 ≤ b.unit.val ∧ s.safe = false ∧ (s.rd
        F.RIP_SPILL_STAT_PENDING).testBit (regionOf b) = false ∧ s.room 35 ∧ s.room 37) ∧
    (∃ (k : Fin 2) (s : State), nth s.fab.pairReset k.val false = false ∧ s.safe = false ∧ (s.rd F.RIP_SPILL_STAT_PENDING).testBit 2 = false) :=
  ⟨⟨0, zBlockId, 0, (.ini (.hart 0)), base, by unfold State.room; decide +kernel⟩,
    ⟨.pair 0, 0, base.wr F.RIP_SPILL_STAT_PENDING 1, by unfold State.onBus; decide +kernel⟩,
    ⟨.pair 0, base, by unfold State.onBus; decide +kernel⟩,
    ⟨0, ({ base with elapsed := 1000000 }).wr F.RIP_SPILL_STAT_PENDING 1, by decide +kernel⟩,
    ⟨{ unit := 14, inst := 0 }, (.ini (.hart 0)), 0, base, by unfold State.room; decide +kernel⟩,
    ⟨0, base, by decide +kernel⟩⟩

theorem witness_CaptureOrder :
    ∃ (l : List EvRaise) (e : EvRaise), nextGrant l = some e :=
  ⟨[{ zEvRaise with src := 5, cove := 0, gen := 0 }], { zEvRaise with src := 5, cove := 0, gen := 0 }, by decide +kernel⟩

theorem witness_EventCapture :
    (∃ (s : State), s.inl.awaiting = []) ∧
    (∃ (e : EvRaise) (s : State), s.inl.awaiting = [e] ∧ s.rd F.INL_ROUTE_EN e.src = 0) ∧
    (∃ (e : EvRaise) (s : State), s.inl.awaiting = [e] ∧ s.rd F.INL_ROUTE_EN e.src = 1 ∧ s.rd F.INL_ROUTE_DEST e.src ≠ 7 ∧ e.src ≠ 12 ∧ s.rd
        F.INL_ROUTE_GATE e.src = 1 ∧ s.inWindow (s.rd F.INL_ROUTE_WIN e.src) s.tbs.now = false) ∧
    (∃ (e : EvRaise) (s : State), s.inl.awaiting = [e] ∧ s.rd F.INL_ROUTE_EN e.src = 1 ∧ s.rd F.INL_ROUTE_DEST e.src = 0 ∧ e.src ≠ 12 ∧ s.rd
        F.INL_ROUTE_GATE e.src = 0 ∧ used32 (s.rd F.INL_SRING_PROD_PROD 0) (s.rd F.INL_SRING_CONS_CONS 0) < 256) ∧
    (∃ (e : EvRaise) (s : State), s.inl.awaiting = [e] ∧ e.src ≠ 40 ∧ s.rd F.INL_ROUTE_EN e.src = 1 ∧ s.rd F.INL_ROUTE_DEST e.src = 0 ∧ e.src ≠ 12 ∧
        s.rd F.INL_ROUTE_GATE e.src = 0 ∧ 256 ≤ used32 (s.rd F.INL_SRING_PROD_PROD 0) (s.rd F.INL_SRING_CONS_CONS 0) ∧ (s.ring 0).episode = false) ∧
    (∃ (e : EvRaise) (s : State), s.inl.awaiting = [e] ∧ s.rd F.INL_ROUTE_EN e.src = 1 ∧ s.rd F.INL_ROUTE_DEST e.src = 3 ∧ e.src ≠ 12 ∧ s.rd
        F.INL_ROUTE_GATE e.src = 0 ∧ e.cove ≠ 0 ∧ (s.rd F.COVE_EVT_MASK_MASK e.cove (e.src / 32)).testBit (e.src % 32) = false) ∧
    (∃ (e : EvRaise) (s : State), s.inl.awaiting = [e] ∧ s.rd F.INL_ROUTE_EN e.src = 1 ∧ s.rd F.INL_ROUTE_DEST e.src = 3 ∧ e.src ≠ 12 ∧ s.rd
        F.INL_ROUTE_GATE e.src = 0 ∧ e.cove ≠ 0 ∧ (s.rd F.COVE_EVT_MASK_MASK e.cove (e.src / 32)).testBit (e.src % 32) = true ∧ e.gen ≠ s.gen e.cove)
        :=
  ⟨⟨base, by decide +kernel⟩,
    ⟨{ zEvRaise with src := 65, cove := 0, gen := 0 },
        ((({ base with inl := { base.inl with awaiting := [{ zEvRaise with src := 65, cove := 0, gen := 0 }] } }).wr F.INL_ROUTE_EN 0 65).wr
        F.INL_ROUTE_DEST 0 65).wr F.INL_ROUTE_GATE 0 65, by decide +kernel⟩,
    ⟨{ zEvRaise with src := 65, cove := 0, gen := 0 },
        ((({ base with inl := { base.inl with awaiting := [{ zEvRaise with src := 65, cove := 0, gen := 0 }] } }).wr F.INL_ROUTE_EN 1 65).wr
        F.INL_ROUTE_DEST 0 65).wr F.INL_ROUTE_GATE 1 65, by decide +kernel⟩,
    ⟨{ zEvRaise with src := 65, cove := 0, gen := 0 },
        ((({ base with inl := { base.inl with awaiting := [{ zEvRaise with src := 65, cove := 0, gen := 0 }] } }).wr F.INL_ROUTE_EN 1 65).wr
        F.INL_ROUTE_DEST 0 65).wr F.INL_ROUTE_GATE 0 65, by decide +kernel⟩,
    ⟨{ zEvRaise with src := 65, cove := 0, gen := 0 },
        (((((({ base with inl := { base.inl with awaiting := [{ zEvRaise with src := 65, cove := 0, gen := 0 }] } }).modRing 0 fun x =>
        { x with episode := false })).wr F.INL_SRING_PROD_PROD 256 0).wr F.INL_ROUTE_EN 1 65).wr F.INL_ROUTE_DEST 0 65).wr F.INL_ROUTE_GATE 0 65,
        by decide +kernel⟩,
    ⟨{ zEvRaise with src := 65, cove := 1, gen := 0 },
        (((({ base with inl := { base.inl with awaiting := [{ zEvRaise with src := 65, cove := 1, gen := 0 }] } }).wr F.COVE_EVT_MASK_MASK 0 1 2).wr
        F.INL_ROUTE_EN 1 65).wr F.INL_ROUTE_DEST 3 65).wr F.INL_ROUTE_GATE 0 65, by decide +kernel⟩,
    ⟨{ zEvRaise with src := 65, cove := 1, gen := 3 },
        (((({ base with inl := { base.inl with awaiting := [{ zEvRaise with src := 65, cove := 1, gen := 3 }] } }).wr F.COVE_EVT_MASK_MASK 0xFFFFFFFF
        1 2).wr F.INL_ROUTE_EN 1 65).wr F.INL_ROUTE_DEST 3 65).wr F.INL_ROUTE_GATE 0 65, by decide +kernel⟩⟩

theorem witness_RoutesAndRings :
    (∃ (ini : Initiator) (n : Fin 512) (v : Word) (s : State), s.onBus ini ∧ s.isSec ini = true ∧ routeFixed n.val = false) ∧
    (∃ (ini : Initiator) (n : Fin 512) (v : Word) (s : State), s.onBus ini ∧ s.isSec ini = true ∧ routeFixed n.val = true) ∧
    (∃ (ini : Initiator) (n : Fin 512) (v : Word) (s : State), s.onBus ini ∧ s.isSec ini = false ∧ s.rd F.INL_ROUTE_LOCK n.val = 1 ∧ s.room 64) ∧
    (∃ (ini : Initiator) (n : Fin 512) (v : Word) (s : State), s.onBus ini ∧ s.isSec ini = false ∧ s.rd F.INL_ROUTE_LOCK n.val = 0 ∧ routeFixed n.val
        = false ∧ (v.toNat / 2 % 8 = 2 ∨ v.toNat / 2 % 8 = 3 ∨ v.toNat / 2 % 8 = 4 ∨ v.toNat / 2 % 8 = 5) ∧ v.toNat / 128 % 4 = 0 ∧ v.toNat / 2 ^ 30 %
        2 = 0) ∧
    (∃ (ini : Initiator) (k : Fin 2) (v : Word) (s : State), s.onBus ini ∧ s.isSec ini = true) ∧
    (∃ (ini : Initiator) (v : Word) (s : State), s.onBus ini ∧ v.toNat = s.rd F.INL_WRING_PROD_COUNT) ∧
    (∃ (ini : Initiator) (v : Word) (s : State), s.onBus ini ∧ s.isSec ini = true) ∧
    (∃ (ini : Initiator) (v : Word) (s : State), s.onBus ini ∧ s.isSec ini = true) ∧
    (∃ (ini : Initiator) (c : Fin 32) (v : Word) (s : State), s.issues ini = true ∧ c.val ≠ 0 ∧ s.pageOk ini c.val = true ∧ v.toNat = s.rd
        F.COVE_EVT_PROD_COUNT c.val) ∧
    (∃ (ini : Initiator) (c : Fin 32) (v : Word) (s : State), s.issues ini = true ∧ s.pageOk ini c.val = true) ∧
    (∃ (s : State), (s.ring 2).deferred = false) ∧
    (∃ (s : State), (s.ring 2).deferred = true ∧ s.holdoffOver 2 = true) ∧
    (∃ (c : Fin 32) (s : State), c.val ≠ 0 ∧ (s.cove c.val).ext = false ∧ (s.ring (3 + c.val)).deferred = true ∧ s.holdoffOver (3 + c.val) = true) :=
  ⟨⟨.pair 0, 0, 0, base, by unfold State.onBus; decide +kernel⟩,
    ⟨.pair 0, 5, 0, base, by unfold State.onBus; decide +kernel⟩,
    ⟨.hart 0, 0, 0, base.wr F.INL_ROUTE_LOCK 1 0, by unfold State.onBus State.room; decide +kernel⟩,
    ⟨.hart 0, 0, 4, base.wr F.INL_ROUTE_LOCK 0 0, by unfold State.onBus; decide +kernel⟩,
    ⟨.pair 0, 0, 0, base, by unfold State.onBus; decide +kernel⟩,
    ⟨.pair 0, 0, base, by unfold State.onBus; decide +kernel⟩,
    ⟨.pair 0, 0, base, by unfold State.onBus; decide +kernel⟩,
    ⟨.pair 0, 0, base, by unfold State.onBus; decide +kernel⟩,
    ⟨.pair 0, 1, 0, base, by decide +kernel⟩,
    ⟨.pair 0, 0, 0, base, by decide +kernel⟩,
    ⟨(base.modRing 2 fun x => { x with deferred := false }), by decide +kernel⟩,
    ⟨(base.modRing 2 fun x => { x with deferred := true }), by decide +kernel⟩,
    ⟨1, (((base.modCove 1 fun x => { x with ext := false })).modRing (3 + 1) fun x => { x with deferred := true }), by decide +kernel⟩⟩

theorem witness_Timebase :
    (∃ (ini : Initiator) (v : Word) (s : State), s.onBus ini ∧ s.isSec ini = true) ∧
    (∃ (s : State), s.tbs.slewing = true ∧ s.tbs.slew = 0 ∧ s.room 510) ∧
    (∃ (ini : Initiator) (hi : Word) (s : State), s.onBus ini ∧ s.isSec ini = true ∧ s.tbs.running = true) ∧
    (∃ (ini : Initiator) (hi : Word) (s : State), s.onBus ini ∧ s.isSec ini = false ∧ hi.toNat ≠ 0 ∧ s.room 64) ∧
    (∃ (falling : Bool) (s : State), s.rd F.TBS_CFG_SRC = 1 ∧ s.rd F.TBS_CFG_PPS_FALL = b2n falling ∧ s.tbs.ppsSeen = false ∧ s.room 504) ∧
    (∃ (falling : Bool) (s : State), s.rd F.TBS_CFG_SRC = 1 ∧ s.rd F.TBS_CFG_PPS_FALL = b2n falling ∧ s.tbs.ppsSeen = true ∧ s.rd F.TBS_PPS_CAP_CAP +
        999900000 ≤ s.tbs.now ∧ s.tbs.now ≤ s.rd F.TBS_PPS_CAP_CAP + 1000100000 ∧ s.room 504) ∧
    (∃ (s : State), s.rd F.TBS_CFG_SRC = 1 ∧ s.tbs.ppsSeen = true ∧ s.tbs.ppsLost = false ∧ s.rd F.TBS_PPS_CAP_CAP + 1100000000 ≤ s.tbs.now ∧ s.room
        505) ∧
    (∃ (s : State), s.powered = true ∧ s.rd F.TBS_STAT_REF_LOST = 0 ∧ s.room 511) ∧
    (∃ (n : Fin 8) (s : State), (s.rd F.TBS_WIN_CTRL_EN).testBit n.val = true ∧ (s.win n.val).startDone = false ∧ s.rd F.TBS_WIN_START_START n.val ≤
        s.tbs.now ∧ s.room 507) ∧
    (∃ (n : Fin 8) (s : State), (s.rd F.TBS_WIN_CTRL_EN).testBit n.val = true ∧ (s.win n.val).startDone = true ∧ (s.win n.val).endDone = false ∧ s.rd
        F.TBS_WIN_END_END n.val ≤ s.tbs.now ∧ s.room 507) :=
  ⟨⟨.pair 0, 0, base, by unfold State.onBus; decide +kernel⟩,
    ⟨(((base.modTbs fun x => { x with slewing := true })).modTbs fun x => { x with slew := 0 }), by unfold State.room; decide +kernel⟩,
    ⟨.pair 0, 0, (base.modTbs fun x => { x with running := true }), by unfold State.onBus; decide +kernel⟩,
    ⟨.hart 0, 1, base, by unfold State.onBus State.room; decide +kernel⟩,
    ⟨false, ((base.wr F.TBS_CFG_SRC 1).modTbs fun x => { x with ppsSeen := false }), by unfold State.room; decide +kernel⟩,
    ⟨false, (((((base.wr F.TBS_CFG_SRC 1).modTbs fun x => { x with ppsSeen := true })).wr F.TBS_PPS_CAP_CAP 5).modTbs fun x =>
        { x with now := 1000000005 }), by unfold State.room; decide +kernel⟩,
    ⟨(((((((base.wr F.TBS_CFG_SRC 1).modTbs fun x => { x with ppsSeen := true })).modTbs fun x => { x with ppsLost := false })).wr F.TBS_PPS_CAP_CAP
        5).modTbs fun x => { x with now := 1100000005 }), by unfold State.room; decide +kernel⟩,
    ⟨base.wr F.TBS_STAT_REF_LOST 0, by unfold State.room; decide +kernel⟩,
    ⟨0, base.wr F.TBS_WIN_CTRL_EN 1, by unfold State.room; decide +kernel⟩,
    ⟨0, ((base.wr F.TBS_WIN_CTRL_EN 1).modWin 0 fun w => { w with startDone := true }), by unfold State.room; decide +kernel⟩⟩

theorem witness_Weir :
    (∃ (h : Fin 8) (service : BitVec 16) (bank : HartBank) (s : State), s.onBus (.hart h) ∧ s.rd F.WEIR_HART_STAT_SECURE h.val = 0 ∧ s.rd
        F.WEIR_CFG_EN = 1) ∧
    (∃ (h : Fin 8) (service : BitVec 16) (bank : HartBank) (s : State), s.onBus (.hart h) ∧ s.rd F.WEIR_HART_STAT_SECURE h.val = 0 ∧ s.rd
        F.WEIR_CFG_EN = 0) ∧
    (∃ (ini : Initiator) (h : Fin 8) (service : BitVec 16) (bank : HartBank) (s : State), s.onBus ini ∧ (ini ≠ .hart h ∨ s.isSec ini = true) ∧ s.room
        66) ∧
    (∃ (ini : Initiator) (h : Fin 8) (status : BitVec 8) (a : List (BitVec 64)) (cycles : Word) (s : State), s.onBus ini ∧ s.isSec ini = true ∧ s.rd
        F.WEIR_HART_STAT_SECURE h.val = 1) ∧
    (∃ (h : Fin 8) (cycles : Word) (s : State), s.rd F.WEIR_HART_STAT_SECURE h.val = 1 ∧ (s.hart h.val).enteredAt + 1000 * max (s.rd
        F.WEIR_CFG_MAX_RES_US) 1 < s.elapsed) ∧
    (∃ (h : Fin 8) (cycles : Word) (s : State), s.rd F.WEIR_HART_STAT_SECURE h.val = 1 ∧ s.elapsed ≤ (s.hart h.val).enteredAt + 1000 * max (s.rd
        F.WEIR_CFG_MAX_RES_US) 1) ∧
    (∃ (ini : Initiator) (ways : BitVec 16) (s : State), s.onBus ini ∧ s.isSec ini = true ∧ s.rd F.WEIR_L3_STAT_BUSY = 0 ∧ ways.toNat ≠ s.rd
        F.WEIR_L3_SEC_WAYS_WAYS) ∧
    (∃ (s : State), s.rd F.WEIR_L3_STAT_BUSY = 1 ∧ s.room 67) ∧
    (∃ (ini : Initiator) (all : Bool) (c : Fin 32) (s : State), s.onBus ini ∧ s.isCove0 ini = true) :=
  ⟨⟨0, 0, zHartBank, (base.wr F.WEIR_HART_STAT_SECURE 0 0).wr F.WEIR_CFG_EN 1, by unfold State.onBus; decide +kernel⟩,
    ⟨0, 0, zHartBank, (base.wr F.WEIR_HART_STAT_SECURE 0 0).wr F.WEIR_CFG_EN 0, by unfold State.onBus; decide +kernel⟩,
    ⟨.pair 0, 0, 0, zHartBank, base, by unfold State.onBus State.room; decide +kernel⟩,
    ⟨.pair 0, 0, 0, [], 0, base.wr F.WEIR_HART_STAT_SECURE 1 0, by unfold State.onBus; decide +kernel⟩,
    ⟨0, 0, ({ base with elapsed := 100000000 }).wr F.WEIR_HART_STAT_SECURE 1 0, by decide +kernel⟩,
    ⟨0, 0, base.wr F.WEIR_HART_STAT_SECURE 1 0, by decide +kernel⟩,
    ⟨.pair 0, 3, base.wr F.WEIR_L3_STAT_BUSY 0, by unfold State.onBus; decide +kernel⟩,
    ⟨base.wr F.WEIR_L3_STAT_BUSY 1, by unfold State.room; decide +kernel⟩,
    ⟨.pair 0, false, 0, base, by unfold State.onBus; decide +kernel⟩⟩

theorem witness_ShorelineCommands :
    (∃ (ini : Initiator) (owner reader : Fin 32) (c : Instr) (op : Nat) (s : State), (s.onBus ini ∧ s.isCove0 ini = true ∧ s.rd F.SHOR_STAT_BUSY (b2n
        (s.isSec ini)) = 0 ∧ s.own.running = none ∧ shorPermits (s.isSec ini) op = true ∧ 0 < s.rd F.SHOR_CMD_COUNT_COUNT (b2n (s.isSec ini)) ∧ s.rd
        F.SHOR_CMD_FIRST_FIRST (b2n (s.isSec ini)) + s.rd F.SHOR_CMD_COUNT_COUNT (b2n (s.isSec ini)) ≤ 524288 ∧ (∀ p, s.rd F.SHOR_CMD_FIRST_FIRST (b2n
        (s.isSec ini)) ≤ p → p < s.rd F.SHOR_CMD_FIRST_FIRST (b2n (s.isSec ini)) + s.rd F.SHOR_CMD_COUNT_COUNT (b2n (s.isSec ini)) → (s.isSec ini =
        true ∨ s.delegated p = true) ∧ shorFrom op (entState (s.shorEntry p)) = true ∧ (op = 2 → reader.val ≠ entOwner (s.shorEntry p)))) ∧ shorRow
        ini owner reader c op) ∧
    (∃ (ini : Initiator) (owner reader : Fin 32) (c : Instr) (op : Nat) (s : State), (s.onBus ini ∧ s.isCove0 ini = true ∧ s.rd F.SHOR_STAT_BUSY (b2n
        (s.isSec ini)) = 0 ∧ s.own.running = none ∧ shorPermits (s.isSec ini) op = true ∧ s.rd F.SHOR_CMD_COUNT_COUNT (b2n (s.isSec ini)) = 0) ∧
        shorRow ini owner reader c op) :=
  ⟨⟨.pair 0, 0, 0, .shorRelease (.pair 0) 0 0, 4, ((cove1.modOwn fun x => { x with running := none })).wr F.SHOR_CMD_COUNT_COUNT 128 1,
      by unfold State.onBus; decide +kernel, (by unfold shorRow; decide +kernel)⟩,
    ⟨.pair 0, 0, 0, .shorAssign (.pair 0) 0 0, 1, (base.modOwn fun x => { x with running := none }),
        by unfold State.onBus; decide +kernel, (by unfold shorRow; decide +kernel)⟩⟩

theorem witness_ShorelineRuns :
    (∃ (k : ShorCmd) (s : State), s.own.waiting = some k ∧ s.own.running = none ∧ s.shorCheck k = none) ∧
    (∃ (k : ShorCmd) (s : State), s.own.running = some k ∧ s.own.waiting = none ∧ s.room 70) ∧
    (∃ (ini : Initiator) (page : Fin 524288) (s : State), s.onBus ini) :=
  ⟨⟨{ zShorCmd with op := 4, secure := true, first := 0, count := 128 }, (((cove1.modOwn fun x =>
      { x with waiting := some ({ zShorCmd with op := 4, secure := true, first := 0, count := 128 }) })).modOwn fun x => { x with running := none }),
      by decide +kernel⟩,
    ⟨zShorCmd, (((base.modOwn fun x => { x with running := some zShorCmd })).modOwn fun x => { x with waiting := none }),
        by unfold State.room; decide +kernel⟩,
    ⟨.pair 0, 0, base, by unfold State.onBus; decide +kernel⟩⟩

theorem witness_Sluice :
    (∃ (ini : Initiator) (p : Fin 536) (n : Fin 256) (wait : Bool) (s : State), s.hasPort ini p.val ∧ s.mayLock p.val n.val ∧ (s.lock n.val).state = 0
        ∧ (s.lock n.val).waiters = []) ∧
    (∃ (ini : Initiator) (p : Fin 536) (n : Fin 256) (s : State), s.hasPort ini p.val ∧ s.mayLock p.val n.val ∧ (s.lock n.val).state = 1) ∧
    (∃ (ini : Initiator) (p : Fin 536) (n : Fin 256) (s : State), s.hasPort ini p.val ∧ s.mayLock p.val n.val ∧ (s.lock n.val).state = 1) ∧
    (∃ (i j : Initiator) (p q : Fin 536) (n : Fin 256) (wait : Bool) (s : State), s.hasPort i p.val ∧ s.hasPort j q.val ∧ s.mayLock p.val n.val ∧
        s.mayLock q.val n.val ∧ p.val < q.val ∧ n.val < s.locks.length ∧ (s.lock n.val).state = 0 ∧ (s.lock n.val).waiters = []) ∧
    (∃ (ini : Initiator) (p : Fin 536) (n : Fin 256) (s : State), s.hasPort ini p.val ∧ (s.lock n.val).state = 1 ∧ (s.lock n.val).holder = p.val ∧
        (s.lock n.val).waiters = []) ∧
    (∃ (ini : Initiator) (p : Fin 536) (n : Fin 256) (s : State), s.hasPort ini p.val ∧ ((s.lock n.val).state ≠ 1 ∨ (s.lock n.val).holder ≠ p.val) ∧
        s.room 76) ∧
    (∃ (ini : Initiator) (p : Fin 536) (n : Nat) (s : State), s.hasPort ini p.val ∧ s.waitsFor p.val = some n) ∧
    (∃ (ini : Initiator) (p : Fin 536) (s : State), s.hasPort ini p.val ∧ s.waitsFor p.val = none) ∧
    (∃ (ini : Initiator) (n : Fin 256) (s : State), s.onBus ini ∧ s.isSec ini = true ∧ (s.lock n.val).state ≠ 1) ∧
    (∃ (ini : Initiator) (n : Fin 256) (s : State), (s.onBus ini ∧ s.isSec ini = true ∧ (s.lock n.val).state = 1 ∧ (s.lock n.val).waiters = []) ∧ (∀
        m, (s.lock m).state = 1 → (s.lock m).holder = (s.lock n.val).holder → m = n.val)) ∧
    (∃ (ini : Initiator) (n : Fin 256) (v : Word) (s : State), s.onBus ini ∧ s.isSec ini = true ∧ (s.lock n.val).state = 0 ∧ (s.lock n.val).waiters =
        []) ∧
    (∃ (ini : Initiator) (n : Fin 256) (v : Word) (s : State), s.onBus ini ∧ s.isSec ini = true ∧ (s.lock n.val).state = 0 ∧ (s.lock n.val).waiters =
        []) ∧
    (∃ (ini : Initiator) (n : Fin 256) (coves : Bool) (v : Word) (s : State), s.onBus ini ∧ s.isSec ini = true ∧ ((s.lock n.val).state ≠ 0 ∨ (s.lock
        n.val).waiters ≠ [])) :=
  ⟨⟨.hart 0, 16, 0, false, (((((base.modLock 0 fun x => { x with state := 0 })).modLock 0 fun x => { x with waiters := [] })).wr
      F.SLU_LOCK_COVES_COVES 2 0).wr F.WEIR_HART_COVE_COVE 1 0, by unfold State.hasPort State.mayLock; decide +kernel⟩,
    ⟨.hart 0, 16, 0, (((((base.modLock 0 fun x => { x with state := 1 })).wr F.SLU_LOCK_COVES_COVES 2 0).wr F.WEIR_HART_COVE_COVE 1 0).modLock 0 fun x
        => { x with holder := 512 }), by unfold State.hasPort State.mayLock; decide +kernel⟩,
    ⟨.hart 0, 16, 0, (((((base.modLock 0 fun x => { x with state := 1 })).wr F.SLU_LOCK_COVES_COVES 2 0).wr F.WEIR_HART_COVE_COVE 1 0).modLock 0 fun x
        => { x with holder := 512 }), by unfold State.hasPort State.mayLock; decide +kernel⟩,
    ⟨.pair 0, .pair 0, 16, 17, 0, false, ((((base.modLock 0 fun x => { x with state := 0 })).modLock 0 fun x => { x with waiters := [] })).wr
        F.SLU_LOCK_COVES_COVES 2 0, by unfold State.hasPort State.mayLock; decide +kernel⟩,
    ⟨.pair 0, 0, 0, (((((base.modLock 0 fun x => { x with state := 1 })).modLock 0 fun x => { x with holder := 0 })).modLock 0 fun x =>
        { x with waiters := [] }), by unfold State.hasPort; decide +kernel⟩,
    ⟨.pair 0, 0, 0, base, by unfold State.room State.hasPort; decide +kernel⟩,
    ⟨.pair 0, 0, 3, (base.modLock 3 fun x => { x with state := 1, holder := 512, waiters := [0] }), by unfold State.hasPort; decide +kernel⟩,
    ⟨.pair 0, 0, base, by unfold State.hasPort; decide +kernel⟩,
    ⟨.pair 0, 0, base, by unfold State.onBus; decide +kernel⟩,
    ⟨.pair 0, 0, (((((base.modLock 0 fun x => { x with state := 1 })).modLock 0 fun x => { x with waiters := [] })).modLock 0 fun x =>
        { x with state := 1, holder := 512 }), by unfold State.onBus; decide +kernel, by
    intro m h1 _
    by_contra h0
    have h : ∀ m, m ≠ 0 → ((base.modLock 0 fun x => { x with state := 1, holder := 512 }).lock m).state ≠ 1 := by
      intro m h0
      by_cases hm : m < 256
      · interval_cases m <;> first | exact absurd rfl h0 | decide +kernel
      · have e : (base.modLock 0 fun x => { x with state := 1, holder := 512 }).locks[m]? = none := by
          rw [List.getElem?_eq_none_iff]; exact Nat.le_of_not_lt hm
        simp [State.lock, List.getD, e]
    exact h m h0 h1⟩,
    ⟨.pair 0, 0, 0, (((base.modLock 0 fun x => { x with state := 0 })).modLock 0 fun x => { x with waiters := [] }),
        by unfold State.onBus; decide +kernel⟩,
    ⟨.pair 0, 0, 0, (((base.modLock 0 fun x => { x with state := 0 })).modLock 0 fun x => { x with waiters := [] }),
        by unfold State.onBus; decide +kernel⟩,
    ⟨.pair 0, 0, false, 0, (base.modLock 0 fun x => { x with state := 1, holder := 512 }), by unfold State.onBus; decide +kernel⟩⟩

theorem witness_QueueContexts :
    (∃ (ini : Initiator) (c : Fin 32) (q : Fin 64) (v : Word) (s : State), s.issues ini = true ∧ s.pageOk ini c.val = true ∧ q.val < s.rd
        F.COVE_QUEUES_COUNT c.val) ∧
    (∃ (ini : Initiator) (c : Fin 32) (q : Fin 64) (v : Word) (s : State), s.issues ini = true ∧ s.pageOk ini c.val = true ∧ q.val < s.rd
        F.COVE_QUEUES_COUNT c.val ∧ s.rd F.COVE_Q_CFG_EN c.val q.val = 0) ∧
    (∃ (ini : Initiator) (c : Fin 32) (q : Fin 64) (v : Word) (s : State), s.issues ini = true ∧ s.pageOk ini c.val = true ∧ q.val < s.rd
        F.COVE_QUEUES_COUNT c.val ∧ s.rd F.COVE_Q_CFG_EN c.val q.val = 1) ∧
    (∃ (ini : Initiator) (c : Fin 32) (q : Fin 64) (s : State), s.issues ini = true ∧ s.pageOk ini c.val = true ∧ q.val < s.rd F.COVE_QUEUES_COUNT
        c.val) ∧
    (∃ (c : Fin 32) (q : Fin 64) (s : State), s.queueRuns c.val q.val = true ∧ s.queueHeld c.val q.val = false ∧ s.queueSize c.val q.val < s.queueUsed
        c.val q.val ∧ s.room 101) ∧
    (∃ (c : Fin 32) (q : Fin 64) (s : State), s.queueRuns c.val q.val = true ∧ s.queueHeld c.val q.val = false ∧ s.rd F.COVE_Q_CFG_ENGINE c.val q.val
        = 3 ∧ 0 < s.queueUsed c.val q.val ∧ s.queueUsed c.val q.val ≤ s.queueSize c.val q.val ∧ s.bareOk c.val (s.rd F.COVE_Q_BASE_BASE c.val q.val *
        64 + 64 * (s.rd F.COVE_Q_CONS_CONS c.val q.val % s.queueSize c.val q.val)) 64 false) ∧
    (∃ (c : Fin 32) (q : Fin 64) (s : State), s.queueRuns c.val q.val = true ∧ s.queueHeld c.val q.val = false ∧ (s.rd F.COVE_Q_CFG_ENGINE c.val q.val
        = 4 ∨ s.rd F.COVE_Q_CFG_ENGINE c.val q.val = 5) ∧ 0 < s.queueUsed c.val q.val ∧ s.queueUsed c.val q.val ≤ s.queueSize c.val q.val ∧ s.bareOk
        c.val (s.rd F.COVE_Q_BASE_BASE c.val q.val * 64 + 64 * (s.rd F.COVE_Q_CONS_CONS c.val q.val % s.queueSize c.val q.val)) 64 false) :=
  ⟨⟨.pair 0, 0, 0, 0, base.wr F.COVE_QUEUES_COUNT (0+1) 0, by decide +kernel⟩,
    ⟨.pair 0, 0, 0, 0, (base.wr F.COVE_QUEUES_COUNT (0+1) 0).wr F.COVE_Q_CFG_EN 0 0 0, by decide +kernel⟩,
    ⟨.pair 0, 0, 0, 0, (base.wr F.COVE_QUEUES_COUNT (0+1) 0).wr F.COVE_Q_CFG_EN 1 0 0, by decide +kernel⟩,
    ⟨.pair 0, 0, 0, base.wr F.COVE_QUEUES_COUNT (0+1) 0, by decide +kernel⟩,
    ⟨1, 2, (cove1.wr F.COVE_Q_CFG_EN 1 1 2).wr F.COVE_Q_PROD_PROD 17 1 2, by unfold State.room; decide +kernel⟩,
    ⟨1, 2, (((cove1.wr F.COVE_Q_CFG_ENGINE 3 1 2).wr F.COVE_Q_CFG_EN 1 1 2).wr F.COVE_Q_PROD_PROD 16 1 2).wr F.COVE_Q_BASE_BASE 16 1 2,
        by unfold State.bareOk; decide +kernel⟩,
    ⟨1, 2, (((cove1.wr F.COVE_Q_CFG_EN 1 1 2).wr F.COVE_Q_PROD_PROD 16 1 2).wr F.COVE_Q_BASE_BASE 16 1 2).wr F.COVE_Q_CFG_ENGINE 4 1 2,
        by unfold State.bareOk; decide +kernel⟩⟩

theorem witness_CoveCommands :
    (∃ (ini : Initiator) (c : Fin 32) (s : State), s.onBus ini ∧ s.isCove0 ini = true ∧ s.rd F.COVE_CMD_STAT_BUSY = 0 ∧ c.val ≠ 0 ∧ (s.rd
        F.COVE_STATE_STATE c.val = 1 ∨ s.rd F.COVE_STATE_STATE c.val = 3 ∨ s.rd F.COVE_STATE_STATE c.val = 6)) ∧
    (∃ (ini : Initiator) (c : Fin 32) (s : State), s.onBus ini ∧ s.isCove0 ini = true ∧ s.rd F.COVE_CMD_STAT_BUSY = 0 ∧ c.val ≠ 0 ∧ s.rd
        F.COVE_STATE_STATE c.val = 1) ∧
    (∃ (ini : Initiator) (c : Fin 32) (s : State), s.onBus ini ∧ s.isCove0 ini = true ∧ s.rd F.COVE_CMD_STAT_BUSY = 0 ∧ c.val ≠ 0 ∧ s.rd
        F.COVE_STATE_STATE c.val = 3) ∧
    (∃ (ini : Initiator) (c : Fin 32) (s : State), s.onBus ini ∧ s.isCove0 ini = true ∧ s.rd F.COVE_CMD_STAT_BUSY = 0 ∧ c.val ≠ 0 ∧ (s.rd
        F.COVE_STATE_STATE c.val = 1 ∨ s.rd F.COVE_STATE_STATE c.val = 2 ∨ s.rd F.COVE_STATE_STATE c.val = 3) ∧ (s.cove c.val).heldReset = false) ∧
    (∃ (ini : Initiator) (c : Fin 32) (s : State), s.onBus ini ∧ s.isCove0 ini = true ∧ s.rd F.COVE_CMD_STAT_BUSY = 0 ∧ c.val ≠ 0 ∧ s.rd
        F.COVE_STATE_STATE c.val = 3 ∧ s.rd F.SND_GEN_CFG_ARMED (s.rd F.COVE_MIG_CFG_UNIT) = 0 ∧ (((s.answer 0).cmdTaken 4 c.val).coveRecord c.val
        (s.rd F.COVE_MIG_CFG_UNIT)).1.length ≤ s.rd F.COVE_MIG_LEN_LEN) ∧
    (∃ (ini : Initiator) (c : Fin 32) (s : State), s.onBus ini ∧ s.isCove0 ini = true ∧ s.rd F.COVE_CMD_STAT_BUSY = 0 ∧ c.val ≠ 0 ∧ s.rd
        F.COVE_STATE_STATE c.val = 3) ∧
    (∃ (ini : Initiator) (c : Fin 32) (s : State), s.onBus ini ∧ s.isCove0 ini = true ∧ s.rd F.COVE_CMD_STAT_BUSY = 0 ∧ c.val ≠ 0 ∧ s.rd
        F.COVE_STATE_STATE c.val = 0) :=
  ⟨⟨.pair 0, 1, (base.wr F.COVE_CMD_STAT_BUSY 0).wr F.COVE_STATE_STATE 1 1, by unfold State.onBus; decide +kernel⟩,
    ⟨.pair 0, 1, (base.wr F.COVE_CMD_STAT_BUSY 0).wr F.COVE_STATE_STATE 1 1, by unfold State.onBus; decide +kernel⟩,
    ⟨.pair 0, 1, (base.wr F.COVE_CMD_STAT_BUSY 0).wr F.COVE_STATE_STATE 3 1, by unfold State.onBus; decide +kernel⟩,
    ⟨.pair 0, 1, (((base.wr F.COVE_CMD_STAT_BUSY 0).modCove 1 fun x => { x with heldReset := false })).wr F.COVE_STATE_STATE 1 1,
        by unfold State.onBus; decide +kernel⟩,
    ⟨.pair 0, 1, ((base.wr F.COVE_CMD_STAT_BUSY 0).wr F.COVE_STATE_STATE 3 1).wr F.COVE_MIG_LEN_LEN 0xFFFFFFFF,
        by unfold State.onBus; decide +kernel⟩,
    ⟨.pair 0, 1, (base.wr F.COVE_CMD_STAT_BUSY 0).wr F.COVE_STATE_STATE 3 1, by unfold State.onBus; decide +kernel⟩,
    ⟨.pair 0, 1, (base.wr F.COVE_CMD_STAT_BUSY 0).wr F.COVE_STATE_STATE 0 1, by unfold State.onBus; decide +kernel⟩⟩

theorem witness_CoveCompletions :
    (∃ (c : Fin 32) (s : State), s.rd F.COVE_STATE_STATE c.val = 2 ∧ s.poolBusy c.val = false ∧ s.resBusy c.val = false ∧ (s.cove c.val).heldConfine =
        none ∧ (s.cove c.val).heldReset = false) ∧
    (∃ (c : Fin 32) (s : State), s.rd F.COVE_STATE_STATE c.val = 7 ∧ s.poolBusy c.val = false ∧ s.tracked c.val = false) ∧
    (∃ (c : Fin 32) (s : State), s.rd F.COVE_STATE_STATE c.val = 4 ∧ (s.cove c.val).heldConfine = none ∧ (s.cove c.val).heldReset = false ∧
        s.host.record ≠ [] ∧ s.fab.isolated = [] ∧ s.rd F.COVE_MIG_ADDR_ADDR * 16 + s.host.record.length ≤ tarnBase ∧ s.rd F.COVE_MIG_ADDR_ADDR * 16 +
        s.host.record.length ≤ s.dramBytes ∧ (∀ p, s.rd F.COVE_MIG_ADDR_ADDR * 16 / 65536 ≤ p → p ≤ (s.rd F.COVE_MIG_ADDR_ADDR * 16 +
        s.host.record.length - 1) / 65536 → shorAllows (s.shorEntry p) s.wardenTag true = true)) ∧
    (∃ (c : Fin 32) (s : State) (l : List Byte) (r : List (Nat × List Byte)) (g : Nat), s.rd F.COVE_STATE_STATE c.val = 5 ∧ (s.cove c.val).heldConfine
        = none ∧ (s.cove c.val).heldReset = false ∧ (∀ q, q < 64 → s.rd F.COVE_Q_CFG_EN c.val q = 0) ∧ s.mgrHeld = some g ∧ s.fab.isolated = [] ∧
        s.res.poison = [] ∧ 64 ≤ s.rd F.COVE_MIG_LEN_LEN ∧ s.rd F.COVE_MIG_ADDR_ADDR * 16 + s.rd F.COVE_MIG_LEN_LEN ≤ tarnBase ∧ s.rd
        F.COVE_MIG_ADDR_ADDR * 16 + s.rd F.COVE_MIG_LEN_LEN ≤ s.dramBytes ∧ (∀ p, s.rd F.COVE_MIG_ADDR_ADDR * 16 / 65536 ≤ p → p ≤ (s.rd
        F.COVE_MIG_ADDR_ADDR * 16 + s.rd F.COVE_MIG_LEN_LEN - 1) / 65536 → shorAllows (s.shorEntry p) s.wardenTag false = true) ∧ l = memRead s.dram
        (s.rd F.COVE_MIG_ADDR_ADDR * 16) (min (s.rd F.COVE_MIG_LEN_LEN) (max 64 (leAt (memRead s.dram (s.rd F.COVE_MIG_ADDR_ADDR * 16) 64) 8 4))) ∧
        recFormat (s.rd F.COVE_MIG_LEN_LEN) l = some r ∧ recSeal g (leAt l 0x10 1) (leAt l 0x14 2) (l.take (leAt l 8 4 - 16)) = leAt l (leAt l 8 4 -
        16) 4 ∧ recBody r 0x8010 = [] ∧ recBody r 0x8011 = [] ∧ recBody r 0x8012 = [] ∧ leAt l 0x28 1 ≤ s.rd F.COVE_QUEUES_COUNT c.val) :=
  ⟨⟨0, ((((base.wr F.COVE_STATE_STATE 2 0).modCove 0 fun x => { x with heldConfine := none })).modCove 0 fun x => { x with heldReset := false }),
      by decide +kernel⟩,
    ⟨0, base.wr F.COVE_STATE_STATE 7 0, by decide +kernel⟩,
    ⟨1, ((((((((((dram1 0 base).wr F.COVE_STATE_STATE 4 1).modCove 1 fun x => { x with heldConfine := none })).modCove 1 fun x =>
        { x with heldReset := false })).modFab fun x => { x with isolated := [] })).modHost fun x => { x with record := [1, 2, 3] })).wr
        F.COVE_MIG_ADDR_ADDR 4, by decide +kernel⟩,
    ⟨1, (((((((((((({ dram1 0 base with dram := memWrite [] 64 rec0 }).wr F.COVE_STATE_STATE 5 1).modCove 1 fun x =>
        { x with heldConfine := none })).modCove 1 fun x => { x with heldReset := false })).modFab fun x => { x with isolated := [] })).modRes fun x
        => { x with poison := [] })).wr F.COVE_MIG_ADDR_ADDR 4).wr F.COVE_MIG_LEN_LEN 224).wr F.SND_GEN_CFG_BY_COVE_MGR 1 0, rec0, [(1, []), (2,
        List.replicate 96 0), (3, List.replicate 4 0)], 0, by decide +kernel⟩⟩

theorem witness_HostEndpoint :
    (∃ (ini : Initiator) (c : Fin 32) (off : Nat) (write : Bool) (s : State), s.issues ini = true ∧ s.pageOk ini c.val = false ∧ ini ≠ .pcie c ∧
        s.room 106) ∧
    (∃ (c : Fin 32) (off : Nat) (write : Bool) (s : State), s.issues (.pcie c) = true ∧ s.pageOk (.pcie c) c.val = false) ∧
    (∃ (c : Fin 32) (off len : Nat) (w : Option (List Byte)) (s : State), s.issues (.pcie c) = true ∧ (s.chip.ran = false ∨ s.vfServes c.val = false))
        ∧
    (∃ (c : Fin 32) (off len : Nat) (l : List Byte) (s : State), s.issues (.pcie c) = true ∧ s.chip.ran = true ∧ s.vfServes c.val = true ∧ off +
        l.length ≤ 2 ^ 30 ∧ s.bareOk c.val (s.rd F.COVE_VFWIN_BASE c.val * 2 ^ 30 + off) l.length true) ∧
    (∃ (c : Fin 32) (off len : Nat) (s : State), s.issues (.pcie c) = true ∧ s.chip.ran = true ∧ s.vfServes c.val = true ∧ off + len ≤ 2 ^ 30 ∧
        s.bareOk c.val (s.rd F.COVE_VFWIN_BASE c.val * 2 ^ 30 + off) len false) ∧
    (∃ (s : State), s.host.linkUp = true ∧ s.host.lastStarved = none ∧ s.room 111) ∧
    (∃ (x : Nat) (s : State), s.host.linkUp = true ∧ s.host.lastStarved = some x ∧ s.elapsed < x + 1000000) ∧
    (∃ (speed : Fin 5) (width : Fin 9) (s : State), s.issues (.pcie 0) = true ∧ s.host.cfgReady = true ∧ 1 ≤ speed.val ∧ (width.val = 1 ∨ width.val =
        2 ∨ width.val = 4 ∨ width.val = 8) ∧ s.host.linkUp = false ∧ s.room 110) ∧
    (∃ (speed : Fin 5) (width : Fin 9) (vfEnable : Bool) (b : BitVec 32) (s : State), s.issues (.pcie 0) = true ∧ s.host.linkUp = true ∧ s.room 110) ∧
    (∃ (c status : Fin 32) (s : State), s.room 108) ∧
    (∃ (c : Fin 32) (s : State), s.issues (.pcie 0) = true ∧ s.host.cfgReady = true ∧ c.val ≠ 0 ∧ (s.cove c.val).ext = true ∧ s.rd F.COVE_STATE_STATE
        c.val = 1) ∧
    (∃ (c : Fin 32) (s : State), s.issues (.pcie 0) = true ∧ s.host.cfgReady = false ∧ c.val ≠ 0 ∧ (s.cove c.val).ext = true) ∧
    (∃ (b : Bool) (s : State), (s.issues (.pcie 0) = true ∧ s.host.cfgReady = true) ∧ (∀ c, (s.cove c).vfEnabled = false ∨ (s.cove c).ext = false)) ∧
    (∃ (ini : Initiator) (c : Fin 32) (v : Word) (s : State), (s.onBus ini ∧ s.isCove0 ini = true ∧ s.rd F.COVE_STATE_STATE c.val = 0 ∧ s.rd
        F.COVE_STATE_OVER_SHARE c.val = 0) ∧ (∀ r, s.held r c.val = 0)) ∧
    (∃ (ini : Initiator) (c : Fin 32) (regB : Bool) (v : Word) (s : State), s.onBus ini ∧ s.isCove0 ini = true ∧ s.shareTooBig (if regB then .sense
        else .graphics) c.val (min (bits v.toNat 26 16) 1024) = true ∧ s.room 102) :=
  ⟨⟨.hart 0, 2, 0, false, base.wr F.WEIR_HART_COVE_COVE 1 0, by unfold State.room; decide +kernel⟩,
    ⟨0, 0, false, base, by decide +kernel⟩,
    ⟨0, 0, 0, none, base, by decide +kernel⟩,
    ⟨1, 64, 0, [1, 2], (cove1.modCove 1 fun v => { v with ext := true }), by unfold State.bareOk; decide +kernel⟩,
    ⟨1, 64, 2, (cove1.modCove 1 fun v => { v with ext := true }), by unfold State.bareOk; decide +kernel⟩,
    ⟨(((base.modHost fun x => { x with linkUp := true })).modHost fun x => { x with lastStarved := none }), by unfold State.room; decide +kernel⟩,
    ⟨0, (((base.modHost fun x => { x with linkUp := true })).modHost fun x => { x with lastStarved := some 0 }), by decide +kernel⟩,
    ⟨4, 8, (((base.modHost fun x => { x with cfgReady := true })).modHost fun x => { x with linkUp := false }), by unfold State.room; decide +kernel⟩,
    ⟨0, 0, false, 0, (base.modHost fun x => { x with linkUp := true }), by unfold State.room; decide +kernel⟩,
    ⟨0, 0, base, by unfold State.room; decide +kernel⟩,
    ⟨1, ((((base.modHost fun x => { x with cfgReady := true })).modCove 1 fun x => { x with ext := true })).wr F.COVE_STATE_STATE 1 1,
        by decide +kernel⟩,
    ⟨1, (((base.modHost fun x => { x with cfgReady := false })).modCove 1 fun x => { x with ext := true }), by decide +kernel⟩,
    ⟨false, (base.modHost fun x => { x with cfgReady := true }),
        by decide +kernel, (by exact getD_all (p := fun (x : Cove) _ => x.vfEnabled = false ∨ x.ext = false) (by decide +kernel) (fun _ => .inl rfl))⟩,
    ⟨.pair 0, 2, 0, (base.wr F.COVE_STATE_STATE 0 2).wr F.COVE_STATE_OVER_SHARE 0 2,
        by unfold State.onBus; decide +kernel, (by intro r; cases r <;> decide +kernel)⟩,
    ⟨.pair 0, 1, true, 0x00020000, (ready 2 cove1).wr F.COVE_SHAREB_POOL_SHARE 1023 2, by unfold State.onBus State.room; decide +kernel⟩⟩

theorem witness_ReservoirRequests :
    (∃ (src : Source) (user : ResUser) (pa len : Nat) (l : List Byte) (s : State), s.resTakes src pa l.length true) ∧
    (∃ (src : Source) (user : ResUser) (pa len : Nat) (s : State), s.resTakes src pa len false ∧ s.pageInit (pa / 65536) = false) ∧
    (∃ (src : Source) (user : ResUser) (pa len : Nat) (s : State), s.resTakes src pa len false ∧ s.pageInit (pa / 65536) = true ∧ youngest (s.chan
        (chanOf pa)).wq (pa / 64) = none) ∧
    (∃ (src : Source) (user : ResUser) (pa len : Nat) (e : WriteEntry) (s : State), s.resTakes src pa len false ∧ s.pageInit (pa / 65536) = true ∧
        youngest (s.chan (chanOf pa)).wq (pa / 64) = some e ∧ e.mask = fullMask) ∧
    (∃ (src : Source) (user : ResUser) (pa len : Nat) (e : WriteEntry) (s : State), s.resTakes src pa len false ∧ s.pageInit (pa / 65536) = true ∧
        youngest (s.chan (chanOf pa)).wq (pa / 64) = some e ∧ e.mask ≠ fullMask) ∧
    (∃ (ch : Fin 4) (f : Flight) (fs : List Flight) (r : ReadReq) (s : State), (s.chan ch.val).flight = f :: fs ∧ f.fill = false ∧ ((s.chan
        ch.val).rq.find? fun r => r.issued && r.line == f.line) = some r ∧ s.res.poison.contains f.line = false) ∧
    (∃ (ch : Fin 4) (f : Flight) (fs : List Flight) (s : State), (s.chan ch.val).flight = f :: fs ∧ f.fill = true ∧ s.res.poison.contains f.line =
        false ∧ (∀ r, r ∈ (s.chan ch.val).rq → r.shared = false)) ∧
    (∃ (ch : Fin 4) (f : Flight) (fs : List Flight) (s : State), (s.chan ch.val).flight = f :: fs ∧ f.tries < 3) ∧
    (∃ (ch : Fin 4) (f : Flight) (fs : List Flight) (r : ReadReq) (s : State), (s.chan ch.val).flight = f :: fs ∧ 3 ≤ f.tries ∧ f.fill = false ∧
        ((s.chan ch.val).rq.find? fun r => r.issued && r.line == f.line) = some r ∧ s.rd F.RES_UE_INFO_VALID = 1 ∧ s.fab.flog.length < 64 ∧ s.room
        129) :=
  ⟨⟨(.ini (.pair 0)), .cores, 64, 0, [1, 2], ((((dram1 0 base).wr F.RES_CH_STAT_STATE 1 0).modRes fun x => { x with initUpTo := 128 })).wr
      F.RES_CH_STAT_STATE 1 (chanOf 64), by unfold State.resTakes; decide +kernel⟩,
    ⟨(.ini (.pair 0)), .cores, 64, 2, ((dram1 0 base).wr F.RES_CH_STAT_STATE 1 0).wr F.RES_CH_STAT_STATE 1 (chanOf 64),
        by unfold State.resTakes; decide +kernel⟩,
    ⟨(.ini (.pair 0)), .cores, 64, 2, ((((dram1 0 base).wr F.RES_CH_STAT_STATE 1 0).modRes fun x => { x with initUpTo := 128 })).wr
        F.RES_CH_STAT_STATE 1 (chanOf 64), by unfold State.resTakes; decide +kernel⟩,
    ⟨(.ini (.pair 0)), .cores, 64, 2, { zWriteEntry with line := 1, mask := fullMask }, ((((((dram1 0 base).wr F.RES_CH_STAT_STATE 1 0).modRes fun x
        => { x with initUpTo := 128 })).modChan (chanOf 64) fun x => { x with wq := [{ zWriteEntry with line := 1, mask := fullMask }] })).wr
        F.RES_CH_STAT_STATE 1 (chanOf 64), by unfold State.resTakes; decide +kernel⟩,
    ⟨(.ini (.pair 0)), .cores, 64, 2, { zWriteEntry with line := 1, mask := 1 }, ((((((dram1 0 base).wr F.RES_CH_STAT_STATE 1 0).modRes fun x =>
        { x with initUpTo := 128 })).modChan (chanOf 64) fun x => { x with wq := [{ zWriteEntry with line := 1, mask := 1 }] })).wr
        F.RES_CH_STAT_STATE 1 (chanOf 64), by unfold State.resTakes; decide +kernel⟩,
    ⟨0, { line := 1, fill := false, tries := 0 }, [], { zReadReq with line := 1, issued := true }, (base.modChan 0 fun x =>
        { x with flight := [{ line := 1, fill := false, tries := 0 }], rq := [{ zReadReq with line := 1, issued := true }] }), by decide +kernel⟩,
    ⟨0, { line := 1, fill := true, tries := 0 }, [], (base.modChan 0 fun x => { x with flight := [{ line := 1, fill := true, tries := 0 }] }),
        by decide +kernel⟩,
    ⟨0, zFlight, [], (base.modChan 0 fun x => { x with flight := zFlight :: [] }), by decide +kernel⟩,
    ⟨0, { line := 1, fill := false, tries := 3 }, [], { zReadReq with line := 1, issued := true }, ((base.wr F.RES_UE_INFO_VALID 1).modChan 0 fun x =>
        { x with flight := [{ line := 1, fill := false, tries := 3 }], rq := [{ zReadReq with line := 1, issued := true }] }),
        by unfold State.room; decide +kernel⟩⟩

theorem witness_ReservoirOrder :
    ∃ (l : List Cand) (c : Cand), bestCand l = some c :=
  ⟨[zCand], zCand, (by rfl)⟩

theorem witness_ReservoirCommands :
    (∃ (ch : Fin 4) (busy : List Nat) (wd rs : Bool) (c : Cand) (s : State), c.hit = false ∧ s.chooses ch.val busy rs c) ∧
    (∃ (ch : Fin 4) (busy : List Nat) (wd rs : Bool) (c : Cand) (s : State), (c.hit = true ∧ (c.write = false ∨ (s.atSlot ch.val).partialAt ch.val
        c.ix = true)) ∧ s.chooses ch.val busy rs c) ∧
    (∃ (ch : Fin 4) (busy : List Nat) (rs : Bool) (c : Cand) (s : State), (c.hit = true ∧ c.write = true ∧ (s.atSlot ch.val).partialAt ch.val c.ix =
        false) ∧ s.chooses ch.val busy rs c) ∧
    (∃ (ch : Fin 4) (busy : List Nat) (c : Cand) (s : State), (c.hit = true ∧ c.write = true ∧ (s.atSlot ch.val).partialAt ch.val c.ix = false ∧
        ((s.atSlot ch.val).chan ch.val).lastLate = none ∧ s.room 135) ∧ s.chooses ch.val busy false c) :=
  ⟨⟨0, [], false, true, (((oneRead false).atSlot 0).choose 0 [] true).get (by decide +kernel), oneRead false,
      by decide +kernel, (by unfold State.chooses; exact ⟨by decide +kernel, by decide +kernel, by decide +kernel, (Option.some_get _).symm⟩)⟩,
    ⟨0, [], false, true, (((oneRead true).atSlot 0).choose 0 [] true).get (by decide +kernel), oneRead true,
        by decide +kernel, (by unfold State.chooses; exact ⟨by decide +kernel, by decide +kernel, by decide +kernel, (Option.some_get _).symm⟩)⟩,
    ⟨0, [], false, (((oneWrite fullMask).atSlot 0).choose 0 [] false).get (by decide +kernel), oneWrite fullMask,
        by decide +kernel, (by unfold State.chooses; exact ⟨by decide +kernel, by decide +kernel, by decide +kernel, (Option.some_get _).symm⟩)⟩,
    ⟨0, [], (((oneWrite fullMask).atSlot 0).choose 0 [] false).get (by decide +kernel), oneWrite fullMask,
        by unfold State.room; decide +kernel, (by unfold State.chooses; exact ⟨by decide +kernel, by decide +kernel, by decide +kernel, (Option.some_get _).symm⟩)⟩⟩

theorem witness_ReservoirUpkeep :
    (∃ (ch : Fin 4) (rank : Fin 2) (rate : BitVec 4) (s : State), s.hasRank rank.val = true ∧ nth (s.chan ch.val).mr4 rank.val 0 ≠ rate.toNat ∧ s.room
        136) ∧
    (∃ (ch : Fin 4) (rank : Fin 2) (rate : BitVec 4) (s : State), s.hasRank rank.val = true ∧ nth (s.chan ch.val).mr4 rank.val 0 = rate.toNat ∧ s.room
        137) ∧
    (∃ (ch : Fin 4) (rank : Fin 2) (s : State), (s.chanReady ch.val = true ∧ s.hasRank rank.val = true ∧ (s.chan ch.val).ready = true ∧ nth (s.chan
        ch.val).refDebt rank.val 0 < 8) ∧ s.refreshIs ch.val rank.val = true) ∧
    (∃ (ch : Fin 4) (rank : Fin 2) (s : State), (s.chanReady ch.val = true ∧ s.hasRank rank.val = true ∧ (s.chan ch.val).ready = false) ∧ s.refreshIs
        ch.val rank.val = true) ∧
    (∃ (ch : Fin 4) (rank : Fin 2) (s : State), (s.chanReady ch.val = true ∧ s.hasRank rank.val = true) ∧ s.refreshIs ch.val rank.val = false) ∧
    (∃ (ch : Fin 4) (rank : Fin 2) (b : Fin 16) (s : State), s.chanReady ch.val = true ∧ s.hasRank rank.val = true) ∧
    (∃ (s : State), s.chip.phase = .run ∧ s.res.initDone = false ∧ s.res.initExtra = [] ∧ s.res.initUpTo + 1 < s.pageCount) ∧
    (∃ (s : State), s.chip.phase = .run ∧ s.res.initDone = false ∧ s.res.initExtra = [] ∧ s.res.initUpTo + 1 = s.pageCount ∧ s.room 138) ∧
    (∃ (ch : Fin 4) (s : State), s.rd F.RES_SCRUB_CFG_HOURS ≠ 0 ∧ s.chanReady ch.val = true ∧ s.chanOff ch.val = false ∧ ch.val < s.res.chans.length ∧
        (s.chan ch.val).scrubDone = false ∧ (s.chan ch.val).scrubPos + 1 < s.scrubLines ∧ s.res.poison = []) ∧
    (∃ (ch : Fin 4) (s : State), s.rd F.RES_SCRUB_CFG_HOURS ≠ 0 ∧ s.chanReady ch.val = true ∧ s.chanOff ch.val = false ∧ ch.val < s.res.chans.length ∧
        (s.chan ch.val).scrubDone = false ∧ (s.chan ch.val).scrubPos + 1 < s.scrubLines ∧ s.scrubSkips ch.val (s.chan ch.val).scrubPos = false ∧ s.rd
        F.RES_UE_INFO_VALID = 1 ∧ s.room 131) :=
  ⟨⟨0, 0, 2, base, by unfold State.room; decide +kernel⟩,
    ⟨0, 0, 0, base, by unfold State.room; decide +kernel⟩,
    ⟨0, 0, due (oneRead false), by decide +kernel, (by unfold State.refreshIs due; exact decide_eq_true (Nat.le_of_eq (Nat.add_comm _ _)))⟩,
    ⟨0, 0, due (base.wr F.RES_CH_STAT_STATE 1 0),
        by decide +kernel, (by unfold State.refreshIs due; exact decide_eq_true (Nat.le_of_eq (Nat.add_comm _ _)))⟩,
    ⟨0, 0, (base.wr F.RES_CH_STAT_STATE 1 0).modChan 0 fun k => { k with refAt := [1, 1] },
        by decide +kernel, (by exact decide_eq_false (Nat.not_le_of_lt (Nat.lt_of_lt_of_le Nat.zero_lt_one (Nat.le_add_right 1 _))))⟩,
    ⟨0, 0, 0, base.wr F.RES_CH_STAT_STATE 1 0, by decide +kernel⟩,
    ⟨((((((dram1 0 base).modChip fun x => { x with phase := .run })).modRes fun x => { x with initDone := false })).modRes fun x =>
        { x with initExtra := [] }), by decide +kernel⟩,
    ⟨((((((((dram1 0 base).modChip fun x => { x with phase := .run })).modRes fun x => { x with initDone := false })).modRes fun x =>
        { x with initExtra := [] })).modRes fun x => { x with initUpTo := 16383 }), by unfold State.room; decide +kernel⟩,
    ⟨0, ((((((dram1 0 base).wr F.RES_SCRUB_CFG_HOURS 1).modChan 0 fun x => { x with scrubDone := false })).modRes fun x =>
        { x with poison := [] })).wr F.RES_CH_STAT_STATE 1 0, by decide +kernel⟩,
    ⟨0, (((((((dram1 0 base).wr F.RES_SCRUB_CFG_HOURS 1).modChan 0 fun x => { x with scrubDone := false })).wr F.RES_UE_INFO_VALID 1).wr
        F.RES_CH_STAT_STATE 1 0).modRes fun x => { x with initUpTo := 128 }), by unfold State.room; decide +kernel⟩⟩

theorem witness_SoftRepair :
    (∃ (ini : Initiator) (s : State), s.onBus ini ∧ s.isSec ini = true ∧ s.res.ppr = none ∧ ((s.chan (bits (s.rd F.RES_PPR_TGT_TARGET) 29
        28)).repairs.any (sameBank (s.rd F.RES_PPR_TGT_TARGET))) = false ∧ (s.chan (bits (s.rd F.RES_PPR_TGT_TARGET) 29 28)).repairs.length < 16) ∧
    (∃ (ini : Initiator) (nr : Bool) (x : Nat) (s : State), s.onBus ini ∧ s.isSec ini = true ∧ s.res.ppr = some x ∧ s.room 134) ∧
    (∃ (x : Nat) (s : State), s.res.ppr = some x ∧ s.room 133) ∧
    (∃ (ok : Bool) (bad : List (Fin 32)) (x : Nat) (s : State), s.res.ppr = some x) ∧
    (∃ (x : Nat) (s : State), s.res.ppr = some x ∧ s.room 134) :=
  ⟨⟨.pair 0, (base.modRes fun x => { x with ppr := none }), by unfold State.onBus; decide +kernel⟩,
    ⟨.pair 0, false, 0, (base.modRes fun x => { x with ppr := some 0 }), by unfold State.onBus State.room; decide +kernel⟩,
    ⟨0, (base.modRes fun x => { x with ppr := some 0 }), by unfold State.room; decide +kernel⟩,
    ⟨false, [], 0, (base.modRes fun x => { x with ppr := some 0 }), by decide +kernel⟩,
    ⟨0, (base.modRes fun x => { x with ppr := some 0 }), by unfold State.room; decide +kernel⟩⟩

theorem witness_Training :
    (∃ (ini : Initiator) (m : BitVec 4) (p : Fin 4) (n : BitVec 11) (c : Instr) (op : Nat) (s : State), (s.onBus ini ∧ s.isSec ini = true ∧ s.res.trn
        = none) ∧ trnRow ini m p n c op) ∧
    (∃ (ini : Initiator) (ch : Fin 4) (rank sc : Fin 2) (ma : BitVec 7) (v : BitVec 8) (s : State), s.onBus ini ∧ s.isSec ini = true ∧ s.res.trn =
        none) ∧
    (∃ (ini : Initiator) (ch : Fin 4) (rank sc : Fin 2) (ma : BitVec 7) (s : State), s.onBus ini ∧ s.isSec ini = true ∧ s.res.trn = none) ∧
    (∃ (errs counts : List Nat) (mrr : BitVec 8) (ch : Nat) (s : State), s.res.trn = some (.mrr ch)) ∧
    (∃ (ch : Fin 4) (s : State), s.chip.phase = .boot ∧ s.chip.step10 = false ∧ s.rd F.RES_CH_STAT_STATE ch.val ≠ 3 ∧ s.res.warmTrain = false ∧ 0 <
        s.res.tryRate ∧ s.room 139) ∧
    (∃ (ch : Fin 4) (s : State), s.chip.phase = .boot ∧ s.chip.step10 = false ∧ s.rd F.RES_CH_STAT_STATE ch.val ≠ 3 ∧ s.res.warmTrain = false ∧
        s.res.tryRate = 0 ∧ s.room 140) ∧
    (∃ (ch : Fin 4) (s : State), s.chip.phase = .boot ∧ s.chip.step10 = false ∧ s.rd F.RES_CH_STAT_STATE ch.val ≠ 3 ∧ s.res.warmTrain = true) :=
  ⟨⟨.pair 0, 0, 0, 0, .trnReadCompare (.pair 0) 0 0 0, 2, (base.modRes fun x => { x with trn := none }),
      by unfold State.onBus; decide +kernel, (by unfold trnRow; decide +kernel)⟩,
    ⟨.pair 0, 0, 0, 0, 0, 0, (base.modRes fun x => { x with trn := none }), by unfold State.onBus; decide +kernel⟩,
    ⟨.pair 0, 0, 0, 0, 0, (base.modRes fun x => { x with trn := none }), by unfold State.onBus; decide +kernel⟩,
    ⟨[], [], 0, 0, (base.modRes fun x => { x with trn := some (.mrr 0) }), by decide +kernel⟩,
    ⟨0, (((((base.modChip fun x => { x with phase := .boot })).modChip fun x => { x with step10 := false })).modRes fun x =>
        { x with warmTrain := false }), by unfold State.room; decide +kernel⟩,
    ⟨0, (((((((base.modChip fun x => { x with phase := .boot })).modChip fun x => { x with step10 := false })).modRes fun x =>
        { x with warmTrain := false })).modRes fun x => { x with tryRate := 0 }), by unfold State.room; decide +kernel⟩,
    ⟨0, (((((base.modChip fun x => { x with phase := .boot })).modChip fun x => { x with step10 := false })).modRes fun x =>
        { x with warmTrain := true }), by decide +kernel⟩⟩

theorem witness_TarnStore :
    (∃ (ini : Initiator) (off : Fin 134217728) (l : List Byte) (s : State), s.issues ini = true ∧ s.isSec ini = true ∧ l ≠ [] ∧ off.val + l.length ≤
        134217728 ∧ s.tst.bad = []) ∧
    (∃ (w : Fin 128) (s : State), s.rd F.TARN_CFG_PATROL_MS ≠ 0 ∧ s.namedGrans ≠ [] ∧ (∀ g, g ∈ s.namedGrans → g ≤ 131071) ∧ s.tst.bad = []) ∧
    (∃ (ini : Initiator) (b : Fin 256) (v : Word) (s : State), s.onBus ini ∧ s.isSec ini = true ∧ v.toNat.testBit 31 = true ∧ s.rd
        F.TARN_BANK_MAP_EMPTY b.val = 0 ∧ s.bankUsed b.val ≠ 0 ∧ (∀ n, n < 256 → n ≠ b.val → s.rd F.TARN_BANK_MAP_RETIRE n = 0 ∨ s.rd
        F.TARN_BANK_MAP_EMPTY n = 1 ∨ s.bankUsed n ≠ 0)) ∧
    (∃ (ini : Initiator) (b : Fin 256) (v : Word) (s : State), s.onBus ini ∧ s.isSec ini = true ∧ v.toNat.testBit 31 = true ∧ s.rd
        F.TARN_BANK_MAP_EMPTY b.val = 0 ∧ s.bankUsed b.val = 0 ∧ (∀ n, n < 256 → n ≠ b.val → s.rd F.TARN_BANK_MAP_RETIRE n = 0) ∧ s.room 184) ∧
    (∃ (ini : Initiator) (b : Fin 256) (v : Word) (s : State), s.onBus ini ∧ s.isSec ini = true ∧ v.toNat.testBit 31 = false ∧ s.rd
        F.TARN_BANK_MAP_EMPTY b.val = 1 ∧ v.toNat % 512 < 264) :=
  ⟨⟨.pair 0, 134217727, [7], (base.modTst fun x => { x with bad := [] }), by decide +kernel⟩,
    ⟨0, ((((base.wr F.TARN_CFG_PATROL_MS 1).modTst fun x => { x with bad := [] })).modHc 0 fun k =>
        { k with disp := [{ count := 1, grans := [3], colour := 0, lost := false }] }), by decide +kernel⟩,
    ⟨.pair 0, 3, 0x80000000, ((base.wr F.TARN_BANK_MAP_EMPTY 0 3).modHc 0 fun k =>
        { k with disp := [{ count := 1, grans := [3], colour := 0, lost := false }] }), by unfold State.onBus; decide +kernel⟩,
    ⟨.pair 0, 0, 0x80000000, base.wr F.TARN_BANK_MAP_EMPTY 0 0, by unfold State.onBus State.room; decide +kernel⟩,
    ⟨.pair 0, 0, 0, base.wr F.TARN_BANK_MAP_EMPTY 1 0, by unfold State.onBus; decide +kernel⟩⟩

theorem witness_BasinCommits :
    (∃ (ini : Initiator) (i : Fin 64) (s : State), s.issues ini = true ∧ s.isSec ini = true ∧ s.slotWindow i.val = true ∧ (s.layer i.val).secure =
        true ∧ s.commitCheck [i.val] = 0 ∧ (s.slot i.val).pend = none ∧ (parseDesc (s.staged i.val)).check (s.layer i.val) = 0) ∧
    (∃ (ini : Initiator) (i : Fin 64) (v : Word) (s : State), s.issues ini = true ∧ s.isSec ini = true ∧ s.slotWindow i.val = true ∧ (s.layer
        i.val).secure = true ∧ v.toNat.testBit 31 = true ∧ s.safe = true ∧ s.room 179) ∧
    (∃ (c : Fin 32) (q : Fin 64) (d : QDesc) (s : State), s.bas.queue = [d] ∧ d.cove = c.val ∧ d.q = q.val ∧ queueCommitOk d.bytes = false ∧ s.room
        101) ∧
    (∃ (c : Fin 32) (q : Fin 64) (d : QDesc) (i : Nat) (s : State), s.bas.queue = [d] ∧ d.cove = c.val ∧ d.q = q.val ∧ queueCommitOk d.bytes = true ∧
        leAt d.bytes 0 1 = 1 ∧ slotsOf (leAt d.bytes 1 1) (leAt d.bytes 2 1) = [i] ∧ s.bareOk c.val (leAt d.bytes 8 8) 128 false ∧ s.queueCheck c.val
        [i] = 0 ∧ (s.slot i).pend = none ∧ i < 64 ∧ (parseDesc (memRead s.dram (leAt d.bytes 8 8) 128)).check (s.layer i) = 0) :=
  ⟨⟨.pair 0, 0, ((stage0 (desc0 0x10000) (slot0 0 true (lit false))).modSlot 0 fun x => { x with pend := none }), by decide +kernel⟩,
    ⟨.pair 0, 0, 0x80000000, (slot0 0 true (lit false)).wr F.RIP_SPILL_STAT_SAFE 1, by unfold State.room; decide +kernel⟩,
    ⟨0, 0, zQDesc, (base.modBas fun x => { x with queue := [zQDesc] }), by unfold State.room; decide +kernel⟩,
    ⟨1, 2, { zQDesc with cove := 1, q := 2, bytes := qcommit }, 0,
        (((({ slot0 1 false (ready 1 (dram1 1 (lit false))) with dram := memWrite [] 256 (desc0 0x10000) }).modBas fun x =>
        { x with queue := [({ zQDesc with cove := 1, q := 2, bytes := qcommit })] })).modSlot 0 fun x => { x with pend := none }),
        by unfold State.bareOk; decide +kernel⟩⟩

theorem witness_Compositions :
    (∃ (h : Fin 8) (s : State), s.scanning h.val = true ∧ s.runOrDip = true ∧ s.safe = false ∧ s.composer h.val = true ∧ (s.hc h.val).cur = none ∧
        (s.hc h.val).forced ≠ [] ∧ s.slotsOn h.val = [] ∧ h.val < s.bas.heads.length) ∧
    (∃ (h : Fin 8) (c : Comp) (s : State), (s.hc h.val).cur = some c ∧ c.granted = false ∧ s.canReserve h.val c = true) ∧
    (∃ (h : Fin 8) (k : Nat) (c : Comp) (s : State), (s.hc h.val).cur = some c ∧ c.granted = true ∧ k ∈ c.left ∧ s.plansAt h.val k c = [] ∧
        s.tileLegal h.val k = false) ∧
    (∃ (h : Fin 8) (i : Fin 64) (c : Comp) (j : LayerJob) (s : State), (s.hc h.val).cur = some c ∧ c.jobs = [j] ∧ j.slot = i.val ∧ j.kind = some
        .secure ∧ j.done = false ∧ c.left = [] ∧ (∀ p, p ∈ c.plans → p.taking = false)) ∧
    (∃ (h : Fin 8) (c : Comp) (s : State), (s.hc h.val).cur = some c ∧ c.granted = true ∧ c.complete = false ∧ c.left = [] ∧ c.nvrLeft = [] ∧ (∀ j, j
        ∈ c.jobs → j.done = true) ∧ (∀ p, p ∈ c.plans → p.taking = false)) ∧
    (∃ (h : Fin 8) (i : Fin 64) (c : Comp) (p : Plan) (j : LayerJob) (s : State), (s.hc h.val).cur = some c ∧ c.plans = [p] ∧ p.slot = i.val ∧
        p.placeholder = false ∧ p.taking = false ∧ c.jobs = [j] ∧ j.slot = i.val ∧ j.kind.isSome = true ∧ j.done = false ∧ (s.fetch p).2 = true) :=
  ⟨⟨0, ((((lit false).modHc 0 fun x => { x with cur := none })).modHc 0 fun x => { x with forced := [0] }), by decide +kernel⟩,
    ⟨0, zComp, (base.modHc 0 fun x => { x with cur := some zComp }), by decide +kernel⟩,
    ⟨0, 0, { zComp with granted := true, left := [0] }, ((lit false).modHc 0 fun x =>
        { x with cur := some ({ zComp with granted := true, left := [0] }) }), by decide +kernel⟩,
    ⟨0, 0, { zComp with jobs := [secJob] }, secJob, ((lit false).modHc 0 fun x => { x with cur := some ({ zComp with jobs := [secJob] }) }),
        by decide +kernel⟩,
    ⟨0, { zComp with granted := true }, ((lit false).modHc 0 fun x => { x with cur := some ({ zComp with granted := true }) }), by decide +kernel⟩,
    ⟨0, 0, { zComp with plans := [{ zPlan with raw := desc0 64 }], jobs := [secJob] }, { zPlan with raw := desc0 64 }, secJob, ((slot0 0 true (lit
        false)).modHc 0 fun x => { x with cur := some ({ zComp with plans := [{ zPlan with raw := desc0 64 }], jobs := [secJob] }) }),
        by decide +kernel⟩⟩

theorem witness_FrameStarts :
    (∃ (h : Fin 8) (e : Option Nat) (s : State), (s.oh h.val).stage.frames = true ∧ (s.head h.val).follow = false ∧ (s.hc h.val).cur = none) ∧
    (∃ (h : Fin 8) (seq : Nat) (c : Comp) (s : State), (s.hc h.val).cur = some c ∧ c.complete = true ∧ c.plans = []) ∧
    (∃ (p : Fin 8) (s : State), s.out.pllSpare = some p.val ∧ (s.head (s.rd F.OUT_PLL_STAT_HEAD 8)).safety = false ∧ s.rd F.OUT_PLL_STAT_HEAD 8 < 8 ∧
        s.room 265) :=
  ⟨⟨0, none, ((lit false).modHc 0 fun x => { x with cur := none }), by decide +kernel⟩,
    ⟨0, 0, { zComp with complete := true }, ((lit false).modHc 0 fun x => { x with cur := some ({ zComp with complete := true }) }),
        by decide +kernel⟩,
    ⟨0, (base.modOut fun x => { x with pllSpare := some 0 }), by unfold State.room; decide +kernel⟩⟩

theorem witness_ScanOut :
    (∃ (e : Fin 12) (strip : Nat) (fill : Fin 96) (s : State), s.role e.val = 1 ∧ s.tst.bad = [] ∧ s.scanning (s.rd F.OUT_ENG_STAT_HEAD e.val) = true
        ∧ strip < s.tilesH (s.rd F.OUT_ENG_STAT_HEAD e.val) ∧ s.fifoLow (s.rd F.OUT_ENG_STAT_HEAD e.val) ≤ (s.modOut fun o =>
        { o with fills := o.fills.set e.val fill.val }).fillOf (s.rd F.OUT_ENG_STAT_HEAD e.val) ∧ (∀ k, k ∈ s.stripTiles (s.rd F.OUT_ENG_STAT_HEAD
        e.val) (s.rd F.OUT_ENG_STAT_HALF e.val) strip → (s.tilePx (s.head (s.rd F.OUT_ENG_STAT_HEAD e.val)).depth30 (s.scanEntry (s.rd
        F.OUT_ENG_STAT_HEAD e.val) k)).isSome = true)) ∧
    (∃ (ini : Initiator) (h : Fin 8) (v : Word) (s : State), s.onBus ini ∧ s.isSec ini = true ∧ (s.head h.val).follow = false ∧ s.mayHead ini h.val) ∧
    (∃ (h : Fin 8) (line col : Nat) (s : State), s.scanning h.val = true ∧ (s.head h.val).safety = false ∧ s.inActive h.val line col = true ∧
        s.missing h.val line col = true ∧ (s.oh h.val).under = [] ∧ (s.oh h.val).underRaised = false ∧ s.room 257) :=
  ⟨⟨0, 0, 40, ((lit false).modTst fun x => { x with bad := [] }), by decide +kernel⟩,
    ⟨.pair 0, 0, 0, base, by unfold State.onBus State.mayHead; decide +kernel⟩,
    ⟨0, 0, 0, ((((lit false).modOh 0 fun x => { x with under := [] })).modOh 0 fun x => { x with underRaised := false }),
        by unfold State.room; decide +kernel⟩⟩

theorem witness_Aborts :
    (∃ (h : Fin 8) (line col : Nat) (s : State), s.scanning h.val = true ∧ (s.head h.val).safety = true ∧ s.inActive h.val line col = true ∧ s.missing
        h.val line col = true ∧ (s.oh h.val).aborting = false ∧ s.rd F.OUT_HEAD_ABORT_CONSEC h.val = 0 ∧ s.windowsDone h.val ∧ s.room 258) ∧
    (∃ (h : Fin 8) (line col e c : Nat) (s : State), s.engFor 1 h.val (s.halfOf h.val col) = some e ∧ s.engFor 2 h.val (s.halfOf h.val col) = some c ∧
        s.scanning h.val = true ∧ (s.head h.val).safety = true ∧ s.inActive h.val line col = true ∧ (s.oh h.val).aborting = false ∧ s.rd
        F.OUT_HEAD_ABORT_CONSEC h.val = 0 ∧ s.windowsDone h.val ∧ s.fab.flog.length < 64 ∧ s.room 258 ∧ s.room 261) ∧
    (∃ (p : Fin 8) (h : Nat) (s : State), s.rd F.OUT_PLL_STAT_LOCKED p.val = 1 ∧ s.rd F.OUT_PLL_STAT_IN_USE p.val = 1 ∧ s.rd F.OUT_PLL_STAT_IN_USE 8 =
        0 ∧ s.rd F.OUT_PLL_STAT_HEAD p.val = h ∧ s.windowsDone h ∧ s.room 264) :=
  ⟨⟨0, 0, 0, (((lit true).modOh 0 fun x => { x with aborting := false })).wr F.OUT_HEAD_ABORT_CONSEC 0 0,
      by unfold State.room State.windowsDone; decide +kernel⟩,
    ⟨0, 0, 0, 0, 8, ((((lit true).modOh 0 fun x => { x with aborting := false })).wr F.OUT_HEAD_ABORT_CONSEC 0 0).wr F.OUT_ENG_STAT_ROLE 2 8,
        by unfold State.room State.windowsDone; decide +kernel⟩,
    ⟨0, 0, (((base.wr F.OUT_PLL_STAT_LOCKED 1 0).wr F.OUT_PLL_STAT_IN_USE 1 0).wr F.OUT_PLL_STAT_IN_USE 0 8).wr F.OUT_PLL_STAT_HEAD 0 0,
        by unfold State.room State.windowsDone; decide +kernel⟩⟩

theorem witness_Links :
    (∃ (n : Fin 8) (ok : BitVec 4) (s : State), s.rd F.OUT_PORT_STAT_TRAINING n.val = 1 ∧ ok.toNat.testBit (s.img.ports.getD n.val default).rate =
        true ∧ s.room 266) ∧
    (∃ (n : Fin 8) (s : State), s.rd F.OUT_PORT_STAT_TRAINING n.val = 1 ∧ s.room 267) ∧
    (∃ (n : Fin 8) (us : Nat) (s : State), 2000 < us ∧ s.rd F.OUT_PORT_STAT_UP n.val = 1 ∧ s.room 267) ∧
    (∃ (n : Fin 8) (us : Nat) (s : State), 500 ≤ us ∧ us ≤ 2000 ∧ s.portDp n.val = true ∧ s.room 269) ∧
    (∃ (n : Fin 8) (us : Nat) (s : State), 500 ≤ us ∧ us ≤ 2000 ∧ s.portDp n.val = true ∧ s.rd F.OUT_PORT_CFG_AUTO_TRAIN n.val = 1 ∧ s.rd
        F.OUT_PORT_STAT_UP n.val = 1 ∧ s.room 269 ∧ s.room 267) ∧
    (∃ (n : Fin 8) (s : State), s.powered = true ∧ s.rd F.OUT_PORT_STAT_HPD n.val = 0 ∧ s.portDp n.val = true ∧ (s.oh n.val).stage = .hpdWait) ∧
    (∃ (ini : Initiator) (n : Fin 8) (s : State), s.onBus ini ∧ s.mayHead ini n.val ∧ s.portDp n.val = true ∧ (s.oh n.val).stage ≠ .off) :=
  ⟨⟨0, 15, base.wr F.OUT_PORT_STAT_TRAINING 1 0, by unfold State.room; decide +kernel⟩,
    ⟨0, base.wr F.OUT_PORT_STAT_TRAINING 1 0, by unfold State.room; decide +kernel⟩,
    ⟨0, 2001, base.wr F.OUT_PORT_STAT_UP 1 0, by unfold State.room; decide +kernel⟩,
    ⟨0, 2000, lit false, by unfold State.room; decide +kernel⟩,
    ⟨0, 500, ((lit false).wr F.OUT_PORT_CFG_AUTO_TRAIN 1 0).wr F.OUT_PORT_STAT_UP 1 0, by unfold State.room; decide +kernel⟩,
    ⟨0, (((lit false).wr F.OUT_PORT_STAT_HPD 0 0).modOh 0 fun x => { x with stage := .hpdWait }), by decide +kernel⟩,
    ⟨.pair 0, 0, lit false, by unfold State.onBus State.mayHead; decide +kernel⟩⟩

theorem witness_AuxChannel :
    (∃ (ini : Initiator) (n : Fin 8) (s : State), s.onBus ini ∧ s.mayHead ini n.val ∧ n.val < s.out.aux.length ∧ s.rd F.OUT_PORT_AUX_STAT_BUSY n.val =
        0) ∧
    (∃ (n : Fin 8) (data : List Byte) (a : Aux) (s : State), s.out.aux[n.val]? = some (some a) ∧ a.waiting = false ∧ a.cmd % 2 = 0 ∧ s.room 270) ∧
    (∃ (n : Fin 8) (data : List Byte) (a : Aux) (s : State), s.out.aux[n.val]? = some (some a) ∧ a.waiting = false ∧ (a.cmd = 1 ∨ a.cmd = 3 ∨ a.cmd =
        5) ∧ s.room 270) ∧
    (∃ (n : Fin 8) (data : List Byte) (a : Aux) (s : State), s.out.aux[n.val]? = some (some a) ∧ a.waiting = false ∧ a.defers < 7) ∧
    (∃ (n : Fin 8) (a : Aux) (s : State), s.out.aux[n.val]? = some (some a) ∧ a.waiting = true ∧ s.rd F.OUT_PORT_STAT_TRAINING n.val = 0) ∧
    (∃ (n : Fin 8) (a : Aux) (s : State), s.out.aux[n.val]? = some (some a) ∧ a.waiting = false ∧ a.silent < 2) ∧
    (∃ (n : Fin 8) (a : Aux) (s : State), s.out.aux[n.val]? = some (some a) ∧ a.waiting = false ∧ 2 ≤ a.silent ∧ s.room 270) :=
  ⟨⟨.pair 0, 0, base, by unfold State.onBus State.mayHead; decide +kernel⟩,
    ⟨0, [], zAux, (base.modOut fun x => { x with aux := [some zAux] }), by unfold State.room; decide +kernel⟩,
    ⟨0, [], { zAux with cmd := 5 }, (base.modOut fun x => { x with aux := [some ({ zAux with cmd := 5 })] }), by unfold State.room; decide +kernel⟩,
    ⟨0, [], { zAux with defers := 6 }, (base.modOut fun x => { x with aux := [some ({ zAux with defers := 6 })] }), by decide +kernel⟩,
    ⟨0, { zAux with waiting := true }, ((base.wr F.OUT_PORT_STAT_TRAINING 0 0).modOut fun x =>
        { x with aux := [some ({ zAux with waiting := true })] }), by decide +kernel⟩,
    ⟨0, { zAux with silent := 1 }, (base.modOut fun x => { x with aux := [some ({ zAux with silent := 1 })] }), by decide +kernel⟩,
    ⟨0, { zAux with silent := 2 }, (base.modOut fun x => { x with aux := [some ({ zAux with silent := 2 })] }), by unfold State.room; decide +kernel⟩⟩

theorem witness_Panels :
    (∃ (h : Fin 8) (s : State), (s.oh h.val).stage = .panelDelay ∧ s.portDp h.val = false) ∧
    (∃ (h : Fin 8) (s : State), (s.oh h.val).stage = .panelDelay ∧ s.portDp h.val = true ∧ s.rd F.OUT_PORT_STAT_HPD h.val = 1) ∧
    (∃ (h : Fin 8) (s : State), (s.oh h.val).stage = .hpdWait ∧ s.room 267) ∧
    (∃ (h : Fin 8) (s : State), (s.oh h.val).disabling = true ∧ s.offLast h.val = false ∧ (s.oh h.val).stage = .lit) ∧
    (∃ (h : Fin 8) (s : State), (s.oh h.val).stage = .lit) ∧
    (∃ (b : Fin 4) (x y : Byte) (h : Fin 8) (s : State), s.rd F.OUT_ALS_CFG_PERIOD_MS b.val ≠ 0 ∧ s.rd F.OUT_ALS_CFG_LEN3 b.val = 0 ∧ s.rd
        F.OUT_ALS_CFG_BIG_END b.val = 0 ∧ ((List.range 8).filter fun h => (s.head h).en && (s.img.ports.getD h default).als == b.val) = [h.val]) ∧
    (∃ (b : Fin 4) (s : State), s.rd F.OUT_ALS_CFG_PERIOD_MS b.val ≠ 0 ∧ s.room 273) :=
  ⟨⟨0, (base.modOh 0 fun x => { x with stage := .panelDelay }), by decide +kernel⟩,
    ⟨0, (((lit false).modOh 0 fun x => { x with stage := .panelDelay })).wr F.OUT_PORT_STAT_HPD 1 0, by decide +kernel⟩,
    ⟨0, (base.modOh 0 fun x => { x with stage := .hpdWait }), by unfold State.room; decide +kernel⟩,
    ⟨0, (((base.modOh 0 fun x => { x with disabling := true })).modOh 0 fun x => { x with stage := .lit }), by decide +kernel⟩,
    ⟨0, (base.modOh 0 fun x => { x with stage := .lit }), by decide +kernel⟩,
    ⟨1, 0, 0, 0, (((((lit false).wr F.OUT_ALS_CFG_PERIOD_MS 1 1).wr F.OUT_ALS_CFG_LEN3 0 1).wr F.OUT_ALS_CFG_BIG_END 0 1).modImg fun m =>
        { m with ports := m.ports.modify 0 fun p => { p with als := 1 } }), by decide +kernel⟩,
    ⟨1, base.wr F.OUT_ALS_CFG_PERIOD_MS 1 1, by unfold State.room; decide +kernel⟩⟩

theorem witness_Genlock :
    (∃ (h : Fin 8) (err : Int) (refNs : Nat) (s : State), s.glMode h.val ≠ 0 ∧ s.scanning h.val = true ∧ s.glIncompatible h.val refNs = false ∧
        s.glHolds h.val = false ∧ err.natAbs ≤ 10000 ∧ 2000 < err.natAbs) ∧
    (∃ (h : Fin 8) (err : Int) (refNs : Nat) (s : State), s.glMode h.val ≠ 0 ∧ s.scanning h.val = true ∧ s.glIncompatible h.val refNs = false ∧
        s.glHolds h.val = false ∧ err.natAbs ≤ 2000 ∧ (s.oh h.val).good = 7 ∧ s.rd F.OUT_HEAD_GL_STAT_LOCKED h.val = 0 ∧ s.room 271) ∧
    (∃ (h : Fin 8) (err : Int) (refNs : Nat) (s : State), s.glMode h.val ≠ 0 ∧ s.scanning h.val = true ∧ s.glIncompatible h.val refNs = true) ∧
    (∃ (h : Fin 8) (s : State), s.glMode h.val ≠ 0 ∧ s.glHolds h.val = false ∧ s.rd F.OUT_HEAD_GL_STAT_LOCKED h.val = 1 ∧ s.room 272) :=
  ⟨⟨0, -2001, (headCfg false).framePs / 1000, ((lit false).wr F.OUT_HEAD_GENLOCK_MODE 1 0).wr F.OUT_HEAD_GENLOCK_RATIO 0 0, by decide +kernel⟩,
    ⟨0, 2000, (headCfg false).framePs / 1000, (((((lit false).modOh 0 fun x => { x with good := 7 })).wr F.OUT_HEAD_GL_STAT_LOCKED 0 0).wr
        F.OUT_HEAD_GENLOCK_MODE 1 0).wr F.OUT_HEAD_GENLOCK_RATIO 0 0, by unfold State.room; decide +kernel⟩,
    ⟨0, 0, 1, ((lit false).wr F.OUT_HEAD_GENLOCK_MODE 1 0).wr F.OUT_HEAD_GENLOCK_RATIO 0 0, by decide +kernel⟩,
    ⟨0, (((lit false).wr F.OUT_HEAD_GL_STAT_LOCKED 1 0).wr F.OUT_HEAD_GENLOCK_MODE 1 0).wr F.OUT_HEAD_GENLOCK_RATIO 0 0,
        by unfold State.room; decide +kernel⟩⟩

theorem witness_Seals :
    (∃ (ini : Initiator) (u : Fin 64) (tag : BitVec 8) (s : State), s.onBus ini ∧ s.isSec ini = true ∧ s.pushRefusal u.val (s.rd
        F.SND_UNIT_EXP_SEQ_SEQ u.val) false = none) ∧
    (∃ (ini : Initiator) (u : Fin 64) (tag : BitVec 8) (s : State), s.onBus ini ∧ s.isSec ini = true ∧ 16 ≤ (s.unit u.val).entries.length ∧ s.room
        323) ∧
    (∃ (ini : Initiator) (u : Fin 64) (s : State), s.onBus ini ∧ s.isSec ini = true) ∧
    (∃ (u : Fin 64) (px : List Nat) (s : State), s.scanning (u.val / 8) = true ∧ (s.unit u.val).cfg.en = true ∧ (s.unit u.val).cfg.static_ = true ∧
        (s.unit u.val).done = false ∧ s.windowPx u.val = some px ∧ s.linkIsDown (u.val / 8) = false ∧ s.legalUnit ≠ some u.val ∧ crc32c (s.sealPrefix
        u.val (s.rd F.OUT_HEAD_SEQ_SEQ (u.val / 8)) ++ px.flatMap (pxBytes (s.head (u.val / 8)).depth30)) = (s.unit u.val).expect) ∧
    (∃ (u : Fin 64) (px : List Nat) (s : State), s.scanning (u.val / 8) = true ∧ (s.unit u.val).cfg.en = true ∧ (s.unit u.val).cfg.static_ = true ∧
        (s.unit u.val).done = false ∧ s.windowPx u.val = some px ∧ s.linkIsDown (u.val / 8) = false ∧ s.legalUnit ≠ some u.val ∧ crc32c (s.sealPrefix
        u.val (s.rd F.OUT_HEAD_SEQ_SEQ (u.val / 8)) ++ px.flatMap (pxBytes (s.head (u.val / 8)).depth30)) ≠ (s.unit u.val).expect ∧ s.room 320) ∧
    (∃ (ini : Initiator) (g : Fin 16) (c : Fin 32) (cmp : Bool) (s : State), s.onBus ini ∧ s.isSec ini = true ∧ s.domainOn 13 = true ∧ s.rd
        F.SND_GEN_LEN_LENGTH g.val ≠ 0 ∧ s.rd F.SND_GEN_CFG_SECURE g.val = 1 ∧ s.rd F.SND_GEN_CFG_ARMED g.val = 0) ∧
    (∃ (g : Fin 16) (c : Fin 32) (k : GenCheck) (s : State), s.domainUp 13 = true ∧ s.gen_ g.val = some k ∧ k.secure = false ∧ k.cove = c.val ∧ k.gen
        = s.gen c.val ∧ s.bareOk c.val k.addr k.len false ∧ k.compare = true ∧ crc32c (genPrefix 0 g.val false c.val k.gen k.len k.salt ++ memRead
        s.dram k.addr k.len) = k.expect ∧ s.room 325) ∧
    (∃ (g : Fin 16) (c : Fin 32) (k : GenCheck) (s : State), s.domainUp 13 = true ∧ s.gen_ g.val = some k ∧ k.secure = false ∧ k.cove = c.val ∧ k.gen
        ≠ s.gen c.val) :=
  ⟨⟨.pair 0, 0, 0, base, by unfold State.onBus; decide +kernel⟩,
    ⟨.pair 0, 0, 0, (base.modUnit 0 fun x => { x with entries := List.replicate 16 zSndEntry }), by unfold State.onBus State.room; decide +kernel⟩,
    ⟨.pair 0, 0, base, by unfold State.onBus; decide +kernel⟩,
    ⟨0, sealPx, ((sealed sealCrc).modUnit 0 fun x => { x with done := false }), by decide +kernel⟩,
    ⟨0, sealPx, ((sealed (sealCrc + 1)).modUnit 0 fun x => { x with done := false }), by unfold State.room; decide +kernel⟩,
    ⟨.pair 0, 1, 0, false, ((base.wr F.SND_GEN_LEN_LENGTH 1 1).wr F.SND_GEN_CFG_SECURE 1 1).wr F.SND_GEN_CFG_ARMED 0 1,
        by unfold State.onBus; decide +kernel⟩,
    ⟨0, 1, { zGenCheck with cove := 1, addr := 64, len := 4, compare := true, expect := crc32c (genPrefix 0 0 false 1 0 4 0 ++ List.replicate 4 0) },
        (cove1.modSnd fun x =>
        { x with gens := [some ({ zGenCheck with cove := 1, addr := 64, len := 4, compare := true, expect := crc32c (genPrefix 0 0 false 1 0 4 0 ++ List.replicate 4 0) })] }),
        by unfold State.room State.bareOk; decide +kernel⟩,
    ⟨0, 1, { zGenCheck with cove := 1, gen := 7 }, (cove1.modSnd fun x => { x with gens := [some ({ zGenCheck with cove := 1, gen := 7 })] }),
        by decide +kernel⟩⟩

theorem witness_Dredge :
    (∃ (ini : Initiator) (x : BitVec 12) (s : State), s.onBus ini ∧ s.isSec ini = true ∧ s.rd F.DRG_STAT_BUSY = 0 ∧ s.runOrDip = true ∧ x.toNat < 264
        ∧ s.rd F.DRG_INST_STATE x.toNat = 1) ∧
    (∃ (ini : Initiator) (x : BitVec 12) (b : Fin 256) (y : Nat) (l : List Nat) (s : State), s.onBus ini ∧ s.isSec ini = true ∧ s.rd F.DRG_STAT_BUSY =
        0 ∧ s.runOrDip = true ∧ x.toNat < 264 ∧ s.logicalOf x.toNat = some b.val ∧ s.spareBanks = y :: l ∧ s.bankUsed b.val ≠ 0 ∧ (∀ n, n < 256 → s.rd
        F.TARN_BANK_MAP_RETIRE n = 0)) ∧
    (∃ (ini : Initiator) (k : BitVec 12) (e : RepEntry) (s : State), s.onBus ini ∧ s.isSec ini = true ∧ s.rd F.DRG_STAT_BUSY = 0 ∧ s.chip.phase = .run
        ∧ s.rd F.DRG_FUSE_STAT_USED < 256 ∧ s.drg.map[k.toNat]? = some e ∧ e.fused = false ∧ (e.kind = 1 ∨ e.kind = 2)) ∧
    (∃ (x : Nat) (s : State), s.drg.job = some (.test x) ∧ 256 ≤ x ∧ x < 264 ∧ s.room 488) ∧
    (∃ (x y : Nat) (b : Fin 256) (s : State), s.drg.job = some (.swap x y) ∧ x < 264 ∧ y < 264 ∧ x ≠ y ∧ s.logicalOf x = some b.val ∧ s.rd
        F.TARN_BANK_MAP_EMPTY b.val = 1 ∧ s.room 494 ∧ s.room 491) ∧
    (∃ (k : Nat) (e : RepEntry) (s : State), s.drg.job = some (.fuse k) ∧ s.drg.map[k]? = some e ∧ s.room 493) ∧
    (∃ (k : Nat) (e : RepEntry) (s : State), s.drg.job = some (.fuse k) ∧ s.drg.map[k]? = some e ∧ s.room 492) ∧
    (∃ (desc : Bool) (n a : Nat) (b : Fin 72) (v : Bool), a < n) ∧
    (∃ (x : Nat) (desc : Bool) (r : MarchRead) (w : BitVec 72) (s : State), s.drg.job = some (.test x) ∧ 256 ≤ x ∧ x < 264 ∧ (∀ e, e ∈ s.drg.applied →
        e.inst ≠ x) ∧ s.drg.map.length < 4096 ∧ r.spare = false ∧ r.addr < 65536 ∧ marchExpect r.bg.val (r.elem.val + 1) r.addr = some w ∧ r.value ≠ w
        ∧ s.room 488) :=
  ⟨⟨.pair 0, 0, (base.wr F.DRG_STAT_BUSY 0).wr F.DRG_INST_STATE 1 0, by unfold State.onBus; decide +kernel⟩,
    ⟨.pair 0, 37, 37, 256, [], (((((base.wr F.DRG_STAT_BUSY 0).wr F.DRG_INST_STATE 1 256).modDrg fun x => { x with ready := [256] })).modHc 0 fun k =>
        { k with disp := [{ count := 1, grans := [37], colour := 0, lost := false }] }), by unfold State.onBus; decide +kernel⟩,
    ⟨.pair 0, 0, { zRepEntry with kind := 2 }, ((((base.wr F.DRG_STAT_BUSY 0).modChip fun x => { x with phase := .run })).modDrg fun x =>
        { x with map := [{ zRepEntry with kind := 2 }] }), by unfold State.onBus; decide +kernel⟩,
    ⟨263, (base.modDrg fun x => { x with job := some (.test 263) }), by unfold State.room; decide +kernel⟩,
    ⟨37, 256, 37, ((base.modDrg fun x => { x with job := some (.swap 37 256) })).wr F.TARN_BANK_MAP_EMPTY 1 37, by unfold State.room; decide +kernel⟩,
    ⟨0, { zRepEntry with kind := 2 }, (((base.modDrg fun x => { x with job := some (.fuse 0) })).modDrg fun x =>
        { x with map := [{ zRepEntry with kind := 2 }] }), by unfold State.room; decide +kernel⟩,
    ⟨0, { zRepEntry with kind := 2 }, (((base.modDrg fun x => { x with job := some (.fuse 0) })).modDrg fun x =>
        { x with map := [{ zRepEntry with kind := 2 }] }), by unfold State.room; decide +kernel⟩,
    ⟨false, 1, 0, 0, false, by decide +kernel⟩,
    ⟨256, false, { zMarchRead with elem := 1, value := 1 }, 0, (base.modDrg fun x => { x with job := some (.test 256) }),
        by unfold State.room; decide +kernel⟩⟩

theorem witness_LochJobs :
    (∃ (c : Fin 32) (q : Fin 64) (j : LJob) (s : State), s.loch.jobs = [j] ∧ j.cove = c.val ∧ j.q = q.val ∧ j.started = false ∧ s.admits c.val = true
        ∧ (∀ w, w ∈ j.waits → w.ok = true) ∧ j.op ≠ 1 ∧ j.op ≠ 2) ∧
    (∃ (c : Fin 32) (q : Fin 64) (j : LJob) (s : State), s.loch.jobs = [j] ∧ j.cove = c.val ∧ j.q = q.val ∧ j.started = false ∧ s.admits c.val = true
        ∧ (∀ w, w ∈ j.waits → w.ok = true) ∧ j.op = 2 ∧ s.bareOk c.val j.work 64 false ∧ dispOk j.work (memRead s.dram j.work 64) = true ∧
        dispIndirect (memRead s.dram j.work 64) = false ∧ leAt (memRead s.dram j.work 64) 0 8 ≠ 0 ∧ leAt (memRead s.dram j.work 64) 0 8 % 64 = 0 ∧
        s.rd F.LOCH_CTX_SAVE_SAVE c.val q.val ≠ 0) ∧
    (∃ (c : Fin 32) (q : Fin 64) (j : LJob) (s : State), s.loch.jobs = [j] ∧ j.cove = c.val ∧ j.q = q.val ∧ j.finished = true ∧ j.gen = s.gen c.val ∧
        j.signals = [] ∧ j.flags = 2 ∧ j.fault = 0 ∧ j.deadline = 0 ∧ s.room 352) ∧
    (∃ (c : Fin 32) (j : LJob) (w : LWait) (s : State), s.loch.jobs = [j] ∧ j.cove = c.val ∧ j.waits = [w] ∧ j.started = false ∧ w.ok = false ∧
        w.failed = false ∧ s.bareOk c.val w.addr 8 false) ∧
    (∃ (ini : Initiator) (c : Fin 32) (j : LJob) (w : LWait) (s : State), s.issues ini = true ∧ s.pageOk ini c.val = true ∧ s.loch.jobs = [j] ∧ j.cove
        = c.val ∧ j.waits = [w] ∧ j.started = false ∧ w.ok = false ∧ w.failed = false ∧ s.bareOk c.val w.addr 8 false) ∧
    (∃ (c : Fin 32) (q : Fin 64) (j : LJob) (w : LWait) (s : State), s.loch.jobs = [j] ∧ j.cove = c.val ∧ j.q = q.val ∧ j.waits = [w] ∧ j.started =
        false ∧ w.ok = false ∧ w.deadline ≤ s.tbs.now ∧ j.gen = s.gen c.val ∧ j.signals = [] ∧ j.flags = 0 ∧ j.disps = [] ∧ j.deadline = 0 ∧ s.room
        355) ∧
    (∃ (c : Fin 32) (q : Fin 64) (j : LJob) (s : State), s.loch.jobs = [j] ∧ j.cove = c.val ∧ j.q = q.val ∧ j.started = true ∧ j.op = 2 ∧ 1000000 *
        j.timeoutMs < j.runNs ∧ j.gen = s.gen c.val ∧ j.signals = [] ∧ j.flags = 0 ∧ j.disps = [] ∧ j.deadline = 0 ∧ s.room 354 ∧ s.room 353 ∧ s.room
        101) :=
  ⟨⟨1, 0, { zLJob with cove := 1 }, (cove1.modLoch fun x => { x with jobs := [({ zLJob with cove := 1 })] }), by decide +kernel⟩,
    ⟨1, 1, { zLJob with cove := 1, q := 1, op := 2, work := 256 }, ((({ cove1 with dram := memWrite [] 256 disp0 }).modLoch fun x =>
        { x with jobs := [({ zLJob with cove := 1, q := 1, op := 2, work := 256 })] })).wr F.LOCH_CTX_SAVE_SAVE 1 1 1,
        by unfold State.bareOk; decide +kernel⟩,
    ⟨0, 0, { zLJob with started := true, flags := 2, op := 3 }, (cove1.modLoch fun x =>
        { x with jobs := [({ zLJob with started := true, flags := 2, op := 3 })] }), by unfold State.room; decide +kernel⟩,
    ⟨1, { zLJob with cove := 1, waits := [{ zLWait with addr := 64 }] }, { zLWait with addr := 64 }, (cove1.modLoch fun x =>
        { x with jobs := [({ zLJob with cove := 1, waits := [{ zLWait with addr := 64 }] })] }), by unfold State.bareOk; decide +kernel⟩,
    ⟨.pair 0, 1, { zLJob with cove := 1, waits := [{ zLWait with addr := 64 }] }, { zLWait with addr := 64 }, (cove1.modLoch fun x =>
        { x with jobs := [({ zLJob with cove := 1, waits := [{ zLWait with addr := 64 }] })] }), by unfold State.bareOk; decide +kernel⟩,
    ⟨0, 0, { zLJob with waits := [{ zLWait with addr := 64 }] }, { zLWait with addr := 64 }, (base.modLoch fun x =>
        { x with jobs := [({ zLJob with waits := [{ zLWait with addr := 64 }] })] }), by unfold State.room; decide +kernel⟩,
    ⟨0, 0, { zLJob with started := true, op := 2, runNs := 1 }, (base.modLoch fun x =>
        { x with jobs := [({ zLJob with started := true, op := 2, runNs := 1 })] }), by unfold State.room; decide +kernel⟩⟩

theorem witness_LochScheduling :
    (∃ (lc : Fin 16) (j : LJob) (d : Dispatch) (s : State), s.loch.jobs = [j] ∧ j.disps = [d] ∧ d.at_ = .waiting ∧ s.coveReady j.cove = true ∧
        s.lcFree lc.val = true ∧ (s.placeLimit = 0 ∨ s.placeLimit = 1 ∧ j.rank d ≤ 3)) ∧
    (∃ (lc : Fin 16) (s : State), (s.placeLimit = 2 ∨ s.placeLimit = 1 ∧ (∀ p, p ∈ s.placeable → 3 < p.1.rank p.2))) ∧
    (∃ (c : Fin 32) (q : Fin 64) (j : LJob) (s : State), s.loch.jobs = [j] ∧ j.cove = c.val ∧ j.q = q.val ∧ j.engine = 1 ∧ j.deadline ≠ 0 ∧ j.urgent =
        false ∧ j.disps = [] ∧ j.deadline - 1000 * s.rd F.LOCH_SCHED_CFG_LEAD_US ≤ s.tbs.now) ∧
    (∃ (lc : Fin 16) (v j : LJob) (e d : Dispatch) (s : State), s.loch.jobs = [v, j] ∧ v.disps = [e] ∧ j.disps = [d] ∧ e.at_ = .running lc.val ∧
        e.resumed = true ∧ v.urgent = false ∧ d.at_ = .waiting ∧ j.urgent = true ∧ s.coveReady j.cove = true ∧ s.anyFree = false ∧ (v.cove ≠ j.cove ∨
        v.q ≠ j.q) ∧ v.cove < 32 ∧ v.q < 64) ∧
    (∃ (lc : Fin 16) (ns ran bytes : Nat) (j : LJob) (d : Dispatch) (s : State), s.loch.jobs = [j] ∧ j.disps = [d] ∧ d.at_ = .saving lc.val 1 ∧ ns ≤
        60000 ∧ j.cove < 32 ∧ j.q < 64 ∧ s.bareOk j.cove (s.rd F.LOCH_CTX_SAVE_SAVE j.cove j.q * 4096) 5242880 true) ∧
    (∃ (ini : Initiator) (s : State), s.onBus ini ∧ s.isSec ini = true) :=
  ⟨⟨0, { zLJob with cove := 1, disps := [zDispatch] }, zDispatch, (cove1.modLoch fun x =>
      { x with jobs := [({ zLJob with cove := 1, disps := [zDispatch] })] }), by decide +kernel⟩,
    ⟨0, (base.modLoch fun x => { x with estMw := 1000000, rankMw := 1000000 }), by decide +kernel⟩,
    ⟨0, 0, { zLJob with engine := 1, deadline := 1 }, (base.modLoch fun x => { x with jobs := [({ zLJob with engine := 1, deadline := 1 })] }),
        by decide +kernel⟩,
    ⟨0, { zLJob with cove := 1, disps := [{ zDispatch with at_ := .running 0, resumed := true }] },
        { zLJob with cove := 1, q := 1, urgent := true, disps := [zDispatch] }, { zDispatch with at_ := .running 0, resumed := true }, zDispatch,
        (((List.range 17).foldl (fun s p => s.wr F.LOCH_CLUSTER_STAT_ROLE 1 p) cove1).modLoch fun x =>
        { x with jobs := [({ zLJob with cove := 1, disps := [{ zDispatch with at_ := .running 0, resumed := true }] }), ({ zLJob with cove := 1, q := 1, urgent := true, disps := [zDispatch] })] }),
        by decide +kernel⟩,
    ⟨0, 0, 0, 0, { zLJob with cove := 1, q := 1, disps := [{ zDispatch with at_ := .saving 0 1, ran := 0 }] },
        { zDispatch with at_ := .saving 0 1, ran := 0 }, ((cove1.modLoch fun x =>
        { x with jobs := [({ zLJob with cove := 1, q := 1, disps := [{ zDispatch with at_ := .saving 0 1, ran := 0 }] })] })).wr F.LOCH_CTX_SAVE_SAVE
        16 1 1, by unfold State.bareOk; decide +kernel⟩,
    ⟨.pair 0, base, by unfold State.onBus; decide +kernel⟩⟩

theorem witness_LochWork :
    (∃ (ini : Initiator) (c : Fin 32) (q : Fin 64) (n : BitVec 16) (s : State), s.issues ini = true ∧ s.pageOk ini c.val = true ∧ s.assigned ini
        (0x8010010 + 0x200000 * c.val + 0x100 * q.val) = true ∧ n ≠ 0 ∧ s.rd F.LOCH_CTX_POOL_STAT_USED c.val q.val * 4 < min 65535 (s.rd
        F.LOCH_CTX_POOL_STAT_CHUNKS c.val q.val + n.toNat) * 3) ∧
    (∃ (c : Fin 32) (q : Fin 64) (j : LJob) (s : State), s.loch.jobs = [j] ∧ j.cove = c.val ∧ j.q = q.val ∧ j.started = true ∧ j.op = 1 ∧ j.binned =
        false ∧ s.chunksFree c.val q.val < 32 ∧ j.touched = [] ∧ s.room 357) ∧
    (∃ (lc : Fin 16) (ns n : Nat) (j : LJob) (d : Dispatch) (s : State), s.loch.jobs = [j] ∧ j.disps = [d] ∧ d.kind = .batch n ∧ d.at_ = .running
        lc.val ∧ d.counts = [] ∧ j.cove < 32 ∧ s.rd F.COVE_HOLD_GFX j.cove = 0) ∧
    (∃ (lc : Fin 16) (hdr layer px py x y b lod : Nat) (j : LJob) (d : Dispatch) (h : SparseHdr) (s : State), s.loch.jobs = [j] ∧ j.disps = [d] ∧
        d.at_ = .running lc.val ∧ d.cache = [] ∧ j.cove < 32 ∧ j.q < 64 ∧ j.nonres = false ∧ hdr % 64 = 0 ∧ s.bareOk j.cove hdr 64 false ∧ parseSparse
        (memRead s.dram hdr 64) = h ∧ h.ok = true ∧ layer < h.layers ∧ h.clamp = 0 ∧ h.counters = 0 ∧ lod = 0 ∧ x < h.lw 0 ∧ y < h.lh 0 ∧ s.bareOk
        j.cove (h.residency + layer * h.mapStride + h.entryOf 0 x y) 1 false ∧ ofLe (memRead s.dram (h.residency + layer * h.mapStride + h.entryOf 0 x
        y) 1) = 0 ∧ s.room 385) ∧
    (∃ (lc : Fin 16) (inv : Nat) (ray : List Byte) (j : LJob) (d : Dispatch) (s : State), s.loch.jobs = [j] ∧ j.disps = [d] ∧ d.at_ = .running lc.val
        ∧ rayInvalid ray = true) ∧
    (∃ (lc : Fin 16) (inv : Nat) (token : BitVec 64) (j : LJob) (d : Dispatch) (r : RayState) (s : State), s.loch.jobs = [j] ∧ j.disps = [d] ∧ d.at_ =
        .running lc.val ∧ d.rays = [r] ∧ r.inv = inv ∧ r.token = token.toNat ∧ bit r.flags 2 = true) ∧
    (∃ (lc : Fin 16) (inv : Nat) (token : BitVec 64) (acc : Bool) (j : LJob) (d : Dispatch) (s : State), s.loch.jobs = [j] ∧ j.disps = [d] ∧ d.at_ =
        .running lc.val ∧ d.rays = [] ∧ j.rayFault = false ∧ j.fault = 0 ∧ s.room 386 ∧ j.cove < 32) :=
  ⟨⟨.pair 0, 1, 1, 4, cove1.wr F.COVE_Q_CFG_ENGINE 1 1 1, by decide +kernel⟩,
    ⟨0, 0, { zLJob with started := true, op := 1 }, (base.modLoch fun x => { x with jobs := [({ zLJob with started := true, op := 1 })] }),
        by unfold State.room; decide +kernel⟩,
    ⟨0, 0, 0, { zLJob with disps := [{ zDispatch with kind := .batch 0, at_ := .running 0 }] },
        { zDispatch with kind := .batch 0, at_ := .running 0 }, (base.modLoch fun x =>
        { x with jobs := [({ zLJob with disps := [{ zDispatch with kind := .batch 0, at_ := .running 0 }] })] }), by decide +kernel⟩,
    ⟨0, 256, 0, 0, 0, 0, 0, 0, 0, { zLJob with cove := 1, disps := [{ zDispatch with at_ := .running 0 }] }, { zDispatch with at_ := .running 0 },
        parseSparse sparse0, (({ cove1 with dram := memWrite [] 256 sparse0 }).modLoch fun x =>
        { x with jobs := [({ zLJob with cove := 1, disps := [{ zDispatch with at_ := .running 0 }] })] }),
        by unfold State.room State.bareOk; decide +kernel⟩,
    ⟨0, 0, [], { zLJob with disps := [{ zDispatch with at_ := .running 0 }] }, { zDispatch with at_ := .running 0 }, (base.modLoch fun x =>
        { x with jobs := [({ zLJob with disps := [{ zDispatch with at_ := .running 0 }] })] }), by decide +kernel⟩,
    ⟨0, 0, 0, { zLJob with disps := [{ zDispatch with at_ := .running 0, rays := [{ zRayState with flags := 4 }] }] },
        { zDispatch with at_ := .running 0, rays := [{ zRayState with flags := 4 }] }, { zRayState with flags := 4 }, (base.modLoch fun x =>
        { x with jobs := [({ zLJob with disps := [{ zDispatch with at_ := .running 0, rays := [{ zRayState with flags := 4 }] }] })] }),
        by decide +kernel⟩,
    ⟨0, 0, 0, false, { zLJob with disps := [{ zDispatch with at_ := .running 0 }] }, { zDispatch with at_ := .running 0 }, (base.modLoch fun x =>
        { x with jobs := [({ zLJob with disps := [{ zDispatch with at_ := .running 0 }] })] }), by unfold State.room; decide +kernel⟩⟩

theorem witness_DeferralChangesNothing :
    (∃ (b : TileBin) (c : TileCtx) (pipes : List Pipe) (all : Bool) (t : List Smp), (∀ m, m ∈ t → m.colour.length ≤ c.es.length)) ∧
    (∃ (l : List (Pipe × List Frag)) (c : TileCtx) (t : List Smp), (∀ m, m ∈ t → m.colour.length ≤ c.es.length)) ∧
    (∃ (l : List (Pipe × List Frag)) (c : TileCtx) (t : List Smp), (∀ x, x ∈ l → x.1.deferrable c.hsrOff = false)) :=
  ⟨⟨zTileBin, zTileCtx, [], false, [], by decide +kernel⟩,
    ⟨[], zTileCtx, [], by decide +kernel⟩,
    ⟨[], zTileCtx, [], by decide +kernel⟩⟩

theorem witness_PoolMix :
    (∃ (starved : List (Nat × Nat)) (s : State), s.poolOn = true ∧ tickAt s.pool.nextTick ≤ s.tbs.now ∧ s.pool.streams = [] ∧ s.pool.newAudio = none)
        ∧
    (∃ (ini : Initiator) (o : Fin 96) (i : Fin 160) (g : BitVec 24) (s : State), s.onBus ini ∧ s.mayWrite ini F.POOL_NODE_GAIN o.val false = true ∧
        s.columnHeld o.val = false) ∧
    (∃ (ini : Initiator) (o : Fin 96) (i : Fin 160) (g : BitVec 24) (s : State), s.onBus ini ∧ s.mayWrite ini F.POOL_NODE_GAIN o.val false = true ∧
        s.columnHeld o.val = true) ∧
    (∃ (ini : Initiator) (s : State), s.onBus ini ∧ s.isCove0 ini = true ∧ s.rd F.POOL_XP_SWAP_BUSY (b2n (s.isSec ini)) = 0 ∧ s.pool.swap = none) ∧
    (∃ (w : PSwap) (s : State), s.pool.swap = some w ∧ 64 ≤ w.j ∧ (∀ o, o ∈ w.cols → o < 96) ∧ s.pool.heldWrites = [] ∧ s.pool.swapNext = none ∧
        s.room 424) ∧
    (∃ (ini : Initiator) (n : Fin 512) (s : State), s.onBus ini ∧ s.mayWrite ini F.POOL_BQ_CTRL_COMMIT n.val false = true) :=
  ⟨⟨[], (((base.modPool fun x => { x with streams := [] })).modPool fun x => { x with newAudio := none }), by decide +kernel⟩,
    ⟨.pair 0, 0, 0, 0, base, by unfold State.onBus; decide +kernel⟩,
    ⟨.pair 0, 0, 0, 0, base.modPool fun p => { p with swap := some { zPSwap with cols := [0] } }, by unfold State.onBus; decide +kernel⟩,
    ⟨.pair 0, (base.modPool fun x => { x with swap := none }), by unfold State.onBus; decide +kernel⟩,
    ⟨{ zPSwap with j := 64, cols := [3] }, (((((base.modPool fun x => { x with swap := some ({ zPSwap with j := 64, cols := [3] }) })).modPool fun x
        => { x with heldWrites := [] })).modPool fun x => { x with swapNext := none }), by unfold State.room; decide +kernel⟩,
    ⟨.pair 0, 0, base, by unfold State.onBus; decide +kernel⟩⟩

theorem witness_TdmPorts :
    (∃ (n : Fin 4) (slots : List Word) (s : State), s.tdmRunning n.val = true ∧ (s.pslot n.val).slots ≠ 0 ∧ n.val < s.pool.ports.length ∧ (s.port
        n.val).rx.length < 32) ∧
    (∃ (n : Fin 4) (slots : List Word) (s : State), s.tdmRunning n.val = true ∧ (s.pslot n.val).slots ≠ 0 ∧ n.val < s.pool.ports.length ∧ 32 ≤ (s.port
        n.val).rx.length ∧ (s.port n.val).dropAt = none ∧ s.room 422) ∧
    (∃ (n : Fin 4) (slots : List Word) (a : Nat) (s : State), s.tdmRunning n.val = true ∧ (s.pslot n.val).slots ≠ 0 ∧ n.val < s.pool.ports.length ∧ 32
        ≤ (s.port n.val).rx.length ∧ (s.port n.val).dropAt = some a ∧ s.elapsed < a + 1000000) ∧
    (∃ (n : Fin 4) (f : List Int) (l : List (List Int)) (s : State), s.tdmLocked n.val = true ∧ s.txSlots n.val ≠ 0 ∧ n.val < s.pool.ports.length ∧
        (s.port n.val).tx = f :: l ∧ s.tdmLow n.val ≤ l.length ∧ l.length < 32) ∧
    (∃ (n : Fin 4) (ps : Nat) (s : State), s.tdmOn n.val = true ∧ s.rd F.POOL_TDM_CFG_ROLE n.val = 1 ∧ 0 < ps ∧ n.val < s.pool.ports.length ∧
        tdmWithin (rateHz (s.tdmSlot n.val).fs) ps 1000 = true ∧ 63 ≤ (s.port n.val).good ∧ s.rd F.POOL_TDM_STAT_LOCKED n.val = 0 ∧ s.room 423) ∧
    (∃ (n : Fin 4) (s : State), s.tdmOn n.val = true ∧ s.rd F.POOL_TDM_CFG_ROLE n.val = 1 ∧ s.rd F.POOL_TDM_STAT_RUNNING n.val = 1 ∧ s.rd
        F.POOL_TDM_STAT_LOCKED n.val = 1 ∧ n.val < s.pool.ports.length ∧ s.fsyncGone n.val = true ∧ s.room 423) :=
  ⟨⟨0, [], tdm0 2 0, by decide +kernel⟩,
    ⟨0, [], ((tdm0 2 0).modPort 0 fun x => { x with rx := List.replicate 32 [] }), by unfold State.room; decide +kernel⟩,
    ⟨0, [], 0, ((tdm0 2 0).modPort 0 fun x => { x with rx := List.replicate 32 [], dropAt := some 0 }), by decide +kernel⟩,
    ⟨0, [1, 2], List.replicate 12 [], ((tdm0 0 2).modPort 0 fun x => { x with tx := [1, 2] :: List.replicate 12 [] }), by decide +kernel⟩,
    ⟨0, 20833333, ((((tdm0 2 0).wr F.POOL_TDM_CFG_ROLE 1 0).wr F.POOL_TDM_STAT_LOCKED 0 0).modPort 0 fun x => { x with good := 63 }),
        by unfold State.room; decide +kernel⟩,
    ⟨0, (((tdm0 2 0).wr F.POOL_TDM_CFG_ROLE 1 0).wr F.POOL_TDM_STAT_RUNNING 1 0).wr F.POOL_TDM_STAT_LOCKED 1 0, by unfold State.room; decide +kernel⟩⟩

theorem witness_StreamsAndTones :
    (∃ (c : Fin 32) (q : Fin 64) (l : List Byte) (x : PStream) (s : State), s.pool.fetched = [(c.val, q.val, l)] ∧ s.poolOn = true ∧ s.rd
        F.COVE_STATE_STATE c.val = 1 ∧ s.rd F.COVE_Q_STAT_FAULT c.val q.val = 0 ∧ strDescOk (strFormat s c.val q.val) l = true ∧ s.rd
        F.COVE_Q_CFG_ENGINE c.val q.val = 4 ∧ s.bindingsOk false c.val q.val = true ∧ leAt l 0 1 = 1 ∧ s.pool.streams = [x] ∧ x.cove = c.val ∧ x.q =
        q.val ∧ x.halt = false ∧ (s.rd F.POOL_STR_STAT_STATE c.val q.val = 1 ∨ s.rd F.POOL_STR_STAT_STATE c.val q.val = 2)) ∧
    (∃ (c : Fin 32) (q : Fin 64) (x : PStream) (s : State), s.str c.val q.val = some x ∧ s.rd F.POOL_STR_STAT_STATE c.val q.val = 2 ∧ 192 ≤ x.fade ∧
        x.toIdle = false ∧ x.halt = false ∧ s.room 416) ∧
    (∃ (ini : Initiator) (g : Fin 16) (at_ : Bool) (s : State), s.onBus ini ∧ s.toneMay ini g.val = true ∧ g.val < s.pool.tones.length) ∧
    (∃ (ini : Initiator) (g : Fin 16) (s : State), s.onBus ini ∧ s.toneMay ini g.val = true ∧ g.val < s.pool.tones.length ∧ s.rd
        F.POOL_TONE_STAT_PLAYING g.val = 1) ∧
    (∃ (ini : Initiator) (g : Fin 16) (s : State), s.onBus ini ∧ s.toneMay ini g.val = true ∧ g.val < s.pool.tones.length ∧ s.rd
        F.POOL_TONE_STAT_PLAYING g.val = 1) ∧
    (∃ (g : Fin 16) (s : State), s.rd F.POOL_TONE_STAT_PLAYING g.val = 1 ∧ (s.tone g.val).ending = false ∧ (s.tone g.val).left = 0 ∧ g.val <
        s.pool.tones.length ∧ s.rd F.POOL_TONE_STAT_SEG g.val < 15 ∧ s.rd F.POOL_TONE_SEG_A_DUR_MS g.val (s.rd F.POOL_TONE_STAT_SEG g.val + 1) ≠ 0) ∧
    (∃ (s : State), (s.rd F.POOL_REC_CFG_EN = 1 ∧ 96 ≤ s.pool.tap.length ∧ used32 (s.rd F.POOL_REC_PROD_COUNT) (s.rd F.POOL_REC_CONS_COUNT) ≠
        s.recSize ∧ s.fab.isolated = [] ∧ s.rd F.POOL_REC_BASE_BASE * 64 + 3136 * 4096 ≤ min tarnBase s.dramBytes) ∧ (∀ p, shorAllows (s.shorEntry p)
        (secTag s) true = true)) ∧
    (∃ (s : State), s.rd F.POOL_REC_CFG_EN = 1 ∧ 96 ≤ s.pool.tap.length ∧ used32 (s.rd F.POOL_REC_PROD_COUNT) (s.rd F.POOL_REC_CONS_COUNT) = s.recSize
        ∧ s.pool.recEpisode = false ∧ s.room 427) :=
  ⟨⟨1, 2, play0, { zPStream with cove := 1, q := 2 }, (((((strm ({ zPStream with cove := 1, q := 2 }) 1).modPool fun x =>
      { x with fetched := [(1, 2, play0)] })).wr F.COVE_STATE_STATE 1 1).wr F.COVE_Q_STAT_FAULT 0 1 2).wr F.COVE_Q_CFG_ENGINE 4 1 2,
      by decide +kernel⟩,
    ⟨1, 2, { zPStream with cove := 1, q := 2, fade := 192 }, (strm ({ zPStream with cove := 1, q := 2, fade := 192 }) 2).wr F.POOL_STR_STAT_STATE 2 1
        2, by unfold State.room; decide +kernel⟩,
    ⟨.pair 0, 0, false, base, by unfold State.onBus; decide +kernel⟩,
    ⟨.pair 0, 0, base.wr F.POOL_TONE_STAT_PLAYING 1 0, by unfold State.onBus; decide +kernel⟩,
    ⟨.pair 0, 0, base.wr F.POOL_TONE_STAT_PLAYING 1 0, by unfold State.onBus; decide +kernel⟩,
    ⟨0, (base.wr F.POOL_TONE_STAT_PLAYING 1 0).wr F.POOL_TONE_SEG_A_DUR_MS 5 0 1, by decide +kernel⟩,
    ⟨((((((base.wr F.RES_CAP_SIZE_MIB 1024)).wr F.POOL_REC_CFG_EN 1).modFab fun x => { x with isolated := [] })).modPool fun p =>
        { p with tap := List.replicate 96 (0, []) }), by decide +kernel, (by intro p; rfl)⟩,
    ⟨(((((base.wr F.POOL_REC_CFG_EN 1).modPool fun x => { x with recEpisode := false })).modPool fun p =>
        { p with tap := List.replicate 96 (0, []) })).wr F.POOL_REC_PROD_COUNT 1, by unfold State.room; decide +kernel⟩⟩

theorem witness_PlashEffects :
    (∃ (ini : Initiator) (p : Fin 136) (tag : BitVec 8) (c : Fin 16) (s : State), s.issues ini = true ∧ s.fxMay ini p.val = true ∧ s.rd
        F.PLA_FX_STAT_BUSY p.val = 0 ∧ s.rd F.PLA_FX_CFG_CHMASK p.val = 2 ^ c.val ∧ s.fxCheck c.val (if p.val < 128 then p.val / 4 else 0) (s.rd
        F.PLA_FX_CFG_WAVE p.val) (decide (128 ≤ p.val)) = 0 ∧ c.val < s.pla.chans.length) ∧
    (∃ (ini : Initiator) (p : Fin 136) (c : Fin 16) (x : PlaFx) (s : State), (s.issues ini = true ∧ s.fxMay ini p.val = true ∧ (s.hch c.val).cur =
        some x ∧ x.port = some p.val ∧ (s.plaState c.val = 1 ∨ s.plaState c.val = 2) ∧ s.rd F.PLA_CH_STAT_TABLE c.val = 255) ∧ (∀ k, (s.hch k).news =
        [] ∧ (s.hch k).queue = []) ∧ (∀ k, k ≠ c.val → (s.hch k).cur = none) ∧ s.noPiezo) ∧
    (∃ (c : Fin 16) (s : State), ((s.hch c.val).waveDone = true ∧ (s.hch c.val).forced = false ∧ (s.plaState c.val = 1 ∨ s.plaState c.val = 2) ∧ s.rd
        F.PLA_CH_STAT_TABLE c.val = 255) ∧ s.noPiezo) ∧
    (∃ (c : Fin 16) (at_ : Nat) (s : State), ((s.hch c.val).timer = some at_ ∧ at_ ≤ s.elapsed ∧ (s.hch c.val).forced = false ∧ s.plaState c.val = 1 ∧
        s.rd F.PLA_CH_STAT_TABLE c.val = 255) ∧ s.noPiezo) ∧
    (∃ (c : Fin 16) (p : Fin 136) (x : PlaFx) (s : State), ((s.hch c.val).mode = .brake ∧ 96 ≤ (s.hch c.val).settle ∧ (s.hch c.val).forced = false ∧
        (s.hch c.val).queue = [] ∧ (s.hch c.val).cur = some x ∧ x.stopped = false ∧ x.port = some p.val ∧ (s.fxPort p.val).open_ = 2 ^ c.val ∧
        (s.fxPort p.val).worst = 0 ∧ p.val < s.pla.ports.length ∧ (s.fxPort p.val).gen = s.gen (if p.val < 128 then p.val / 4 else 0) ∧ s.plaState
        c.val = 3 ∧ s.rd F.PLA_CH_STAT_TABLE c.val = 255 ∧ s.room 448) ∧ s.noPiezo) ∧
    (∃ (n cv ts : Nat) (l : List (Nat × Bool × Nat × Nat)) (c : Fin 16) (s : State), s.pla.trigs = (n, false, cv, ts) :: l ∧ s.rd F.PLA_TRIG_EN n = 1
        ∧ s.rd F.PLA_TRIG_SECURE n = 0 ∧ s.rd F.PLA_TRIG_OWNER n = cv ∧ s.rd F.PLA_TRIG_CHMASK n = 2 ^ c.val ∧ s.fxCheck c.val cv (s.rd
        F.PLA_TRIG_FX_WAVE n) false = 0 ∧ c.val < s.pla.chans.length) ∧
    (∃ (n : Nat) (sec : Bool) (cv ts : Nat) (l : List (Nat × Bool × Nat × Nat)) (s : State), s.pla.trigs = (n, sec, cv, ts) :: l ∧ s.rd F.PLA_TRIG_EN
        n = 0) ∧
    (∃ (at_ : Nat) (s : State), s.pla.boostIdle = some at_ ∧ at_ ≤ s.elapsed ∧ s.piezoLimits = [] ∧ s.boostRuns = true) ∧
    (∃ (c : Fin 16) (x : PlaFx) (s : State), (s.plaOn = true ∧ (s.hch c.val).cur = some x ∧ x.carrier = false ∧ (s.hch c.val).mode = .sustain ∧ -32767
        ≤ (s.loopStep c.val (waveValue (s.waveRec x.wave) x.amp x.pos) false).2.2 ∧ (s.loopStep c.val (waveValue (s.waveRec x.wave) x.amp x.pos)
        false).2.2 ≤ 32767) ∧ (∀ k, (s.hch k).pend = none ∧ (s.hch k).news = []) ∧ (∀ k, k ≠ c.val → (s.hch k).mode = .off)) ∧
    (∃ (slew : BitVec 16) (s : State), s.plaOn = true ∧ (∀ k, (s.hch k).pend = none ∧ (s.hch k).news = [] ∧ (s.hch k).mode = .off)) ∧
    (∃ (c : Fin 16) (vs e : Int) (s : State), s.plaOn = true ∧ (s.hch c.val).mode = .brake ∧ s.accOf c.val = none ∧ c.val < s.pla.chans.length ∧ s.rd
        F.PLA_CH_RES_TRACK_EN c.val = 1) ∧
    (∃ (code : Fin 8) (c : Fin 16) (vg5 : Bool) (s : State), (s.domainUp 10 = true ∧ 0 < code.val ∧ code.val < 4 ∧ s.plaState c.val ≠ 4 ∧ (s.hch
        c.val).cur = none ∧ (s.hch c.val).queue = [] ∧ s.room 454) ∧ s.noPiezo) ∧
    (∃ (ini : Initiator) (c : Fin 16) (ended : Bool) (s : State), (s.onBus ini ∧ s.mayWrite ini F.PLA_CH_FAULT_CLEAR c.val false = true ∧ s.plaState
        c.val = 4 ∧ (s.rd F.PLA_CH_FAULT_CODE c.val < 4 ∨ ended = true)) ∧ s.noPiezo) ∧
    (∃ (ini : Initiator) (c : Fin 16) (s : State), s.onBus ini ∧ s.mayWrite ini F.PLA_CH_FAULT_CLEAR c.val false = true ∧ s.plaState c.val = 4 ∧ 4 ≤
        s.rd F.PLA_CH_FAULT_CODE c.val) ∧
    (∃ (k : Fin 8) (b0 b1 : Byte) (n : Nat) (s : State), s.plaOn = true ∧ k.val < s.pla.accs.length ∧ s.pla.accs.getD k.val
        { bad := 0, faulty := false } = { bad := n, faulty := false } ∧ s.rd F.PLA_ACCK_CFG_BIG_END k.val = 1 ∧ (¬(b0 = 0 ∧ b1 = 0)) ∧ (¬(b0 = 0xFF ∧
        b1 = 0xFF))) ∧
    (∃ (k : Fin 8) (s : State), s.plaOn = true ∧ k.val < s.pla.accs.length ∧ s.pla.accs.getD k.val { bad := 0, faulty := false } =
        { bad := 2, faulty := false } ∧ s.room 453) ∧
    (∃ (ini : Initiator) (s : State), s.onBus ini ∧ s.mayWrite ini F.PLA_ACC_CFG_ACC_RETRY 0 false = true) :=
  ⟨⟨.pair 0, 4, 0, 0, (lra.wr F.PLA_FX_STAT_BUSY 0 4).wr F.PLA_FX_CFG_CHMASK 1 4, by decide +kernel⟩,
    ⟨.pair 0, 4, 0, { zPlaFx with port := some 4, cove := 1 }, (((lra.modHch 0 fun x =>
        { x with cur := some ({ zPlaFx with port := some 4, cove := 1 }) })).wr F.PLA_CH_STAT_TABLE 255 0).wr F.PLA_CH_STAT_STATE 1 0,
        by decide +kernel, (by exact getD_all (p := fun (x : PlaCh) k => x.news = [] ∧ x.queue = []) (by decide +kernel) (fun k => ⟨rfl, rfl⟩)), (by exact getD_all (p := fun (x : PlaCh) k => k ≠ 0 → x.cur = none) (by decide +kernel) (fun k => fun _ => rfl)), (by unfold State.noPiezo; exact ⟨getD_all (p := fun (x : HapticCfg) _ => x.kind ≠ 1) (by decide +kernel) (fun _ => by decide), by decide +kernel⟩)⟩,
    ⟨0, (((((base.modHch 0 fun x => { x with waveDone := true })).modHch 0 fun x => { x with forced := false })).wr F.PLA_CH_STAT_TABLE 255 0).wr
        F.PLA_CH_STAT_STATE 2 0,
        by decide +kernel, (by unfold State.noPiezo; exact ⟨getD_all (p := fun (x : HapticCfg) _ => x.kind ≠ 1) (by decide +kernel) (fun _ => by decide), by decide +kernel⟩)⟩,
    ⟨0, 0, (((((base.modHch 0 fun x => { x with timer := some 0 })).modHch 0 fun x => { x with forced := false })).wr F.PLA_CH_STAT_TABLE 255 0).wr
        F.PLA_CH_STAT_STATE 1 0,
        by decide +kernel, (by unfold State.noPiezo; exact ⟨getD_all (p := fun (x : HapticCfg) _ => x.kind ≠ 1) (by decide +kernel) (fun _ => by decide), by decide +kernel⟩)⟩,
    ⟨0, 4, { zPlaFx with port := some 4, cove := 1 }, (((((((((((((lra.modHch 0 fun x => { x with mode := .brake })).modHch 0 fun x =>
        { x with forced := false })).modHch 0 fun x => { x with queue := [] })).modHch 0 fun x =>
        { x with cur := some ({ zPlaFx with port := some 4, cove := 1 }) })).wr F.PLA_CH_STAT_TABLE 255 0).modHch 0 fun x =>
        { x with settle := 96 })).wr F.PLA_CH_STAT_STATE 3 0).modPla fun p => { p with ports := p.ports.modify 4 fun x => { x with open_ := 1 } }),
        by unfold State.room; decide +kernel, (by unfold State.noPiezo; exact ⟨getD_all (p := fun (x : HapticCfg) _ => x.kind ≠ 1) (by decide +kernel) (fun _ => by decide), by decide +kernel⟩)⟩,
    ⟨2, 1, 0, [], 0, (((((lra.modPla fun x => { x with trigs := (2, false, 1, 0) :: [] })).wr F.PLA_TRIG_EN 1 2).wr F.PLA_TRIG_SECURE 0 2).wr
        F.PLA_TRIG_OWNER 1 2).wr F.PLA_TRIG_CHMASK 1 2, by decide +kernel⟩,
    ⟨0, false, 0, 0, [], ((base.modPla fun x => { x with trigs := (0, false, 0, 0) :: [] })).wr F.PLA_TRIG_EN 0 0, by decide +kernel⟩,
    ⟨0, (base.modPla fun x => { x with boostIdle := some 0 }), by decide +kernel⟩,
    ⟨0, { zPlaFx with port := some 4, cove := 1 }, (((((lra.modHch 0 fun x =>
        { x with cur := some ({ zPlaFx with port := some 4, cove := 1 }) })).modHch 0 fun x => { x with mode := .sustain })).modHch 0 fun x =>
        { x with mode := .sustain }),
        by decide +kernel, (by exact getD_all (p := fun (x : PlaCh) k => x.pend = none ∧ x.news = []) (by decide +kernel) (fun k => ⟨rfl, rfl⟩)), (by exact getD_all (p := fun (x : PlaCh) k => k ≠ 0 → x.mode = .off) (by decide +kernel) (fun k => fun _ => rfl))⟩,
    ⟨0, base,
        by decide +kernel, (by exact getD_all (p := fun (x : PlaCh) k => x.pend = none ∧ x.news = [] ∧ x.mode = .off) (by decide +kernel) (fun k => ⟨rfl, rfl, rfl⟩))⟩,
    ⟨0, 0, 0, ((base.modHch 0 fun x => { x with mode := .brake })).wr F.PLA_CH_RES_TRACK_EN 1 0, by decide +kernel⟩,
    ⟨1, 0, false, (((base.modHch 0 fun x => { x with cur := none })).modHch 0 fun x => { x with queue := [] }),
        by unfold State.room; decide +kernel, (by unfold State.noPiezo; exact ⟨getD_all (p := fun (x : HapticCfg) _ => x.kind ≠ 1) (by decide +kernel) (fun _ => by decide), by decide +kernel⟩)⟩,
    ⟨.pair 0, 0, false, base.wr F.PLA_CH_STAT_STATE 4 0,
        by unfold State.onBus; decide +kernel, (by unfold State.noPiezo; exact ⟨getD_all (p := fun (x : HapticCfg) _ => x.kind ≠ 1) (by decide +kernel) (fun _ => by decide), by decide +kernel⟩)⟩,
    ⟨.pair 0, 0, (base.wr F.PLA_CH_FAULT_CODE (4+1) 0).wr F.PLA_CH_STAT_STATE 4 0, by unfold State.onBus; decide +kernel⟩,
    ⟨0, 1, 0, 0, base.wr F.PLA_ACCK_CFG_BIG_END 1 0, by decide +kernel⟩,
    ⟨0, (base.modPla fun p => { p with accs := p.accs.modify 0 fun _ => { bad := 2, faulty := false } }), by unfold State.room; decide +kernel⟩,
    ⟨.pair 0, base, by unfold State.onBus; decide +kernel⟩⟩

theorem witness_TouchFrames :
    (∃ (n : Fin 4) (noise : List Nat) (s : State), s.domainOn 11 = true ∧ s.runOrDip = true ∧ s.rd F.SHA_SNS_STAT_RUNNING n.val = 0 ∧ s.sha.pend = []
        ∧ (s.touchCfg n.val).en = true ∧ (s.sns n.val).grid ≤ s.tbs.now ∧ (∀ p, s.deltaOf 0x35 = some p → p.started = false) ∧ s.rd
        F.SHA_SNS_TABLE_TABLE_ID n.val = 255 ∧ (s.sns n.val).rows = shallowsTable ∧ n.val < s.sha.sensors.length ∧ (∃ k, k < 4 ∧ noise.getD k 0 ≤ s.rd
        F.SHA_SNS_DET_NOISE n.val)) ∧
    (∃ (n : Fin 4) (noise : List Nat) (s : State), s.domainOn 11 = true ∧ s.runOrDip = true ∧ s.rd F.SHA_SNS_STAT_RUNNING n.val = 0 ∧ s.sha.pend = []
        ∧ (s.touchCfg n.val).en = true ∧ (s.sns n.val).grid ≤ s.tbs.now ∧ (∀ p, s.deltaOf 0x35 = some p → p.started = false) ∧ s.rd
        F.SHA_SNS_TABLE_TABLE_ID n.val = 255 ∧ (s.sns n.val).rows = shallowsTable ∧ (∀ k, k < 4 → s.rd F.SHA_SNS_DET_NOISE n.val < noise.getD k 0) ∧
        s.rd F.SHA_SNS_STAT_NOISY n.val = 0 ∧ s.room 471) ∧
    (∃ (n : Fin 4) (nodes tx rx : List Int) (cfg : ShaCfg) (s : State), (s.sns n.val).cfg = some cfg ∧ s.domainUp 11 = true ∧ s.runOrDip = true ∧ s.rd
        F.SHA_SNS_STAT_RUNNING n.val = 1 ∧ (s.sns n.val).began + 1000 * (s.touchCfg n.val).frameUs ≤ s.tbs.now ∧ s.rd F.SHA_SNS_STAT_WET n.val = 0 ∧
        (s.sns n.val).contacts = [] ∧ (s.sns n.val).cancel = false ∧ (s.sns n.val).cancelDrop = false ∧ (s.shaGrid n.val nodes tx rx).cands cfg
        ((s.touchCfg n.val).hasMutual && (s.touchCfg n.val).hasSelf) = []) ∧
    (∃ (n : Fin 4) (nodes tx rx : List Int) (cfg : ShaCfg) (k : PeakCand) (s : State), (s.sns n.val).cfg = some cfg ∧ s.domainUp 11 = true ∧
        s.runOrDip = true ∧ s.rd F.SHA_SNS_STAT_RUNNING n.val = 1 ∧ (s.sns n.val).began + 1000 * (s.touchCfg n.val).frameUs ≤ s.tbs.now ∧ s.rd
        F.SHA_SNS_STAT_WET n.val = 0 ∧ (s.sns n.val).contacts = [] ∧ (s.sns n.val).cancel = false ∧ (s.sns n.val).cancelDrop = false ∧ (s.sns
        n.val).rows = shallowsTable ∧ k.kept = true ∧ k.film = false ∧ (s.shaGrid n.val nodes tx rx).cands cfg ((s.touchCfg n.val).hasMutual &&
        (s.touchCfg n.val).hasSelf) = [k]) ∧
    (∃ (n cause : Fin 4) (s : State), s.rd F.SHA_SNS_STAT_RUNNING n.val = 1 ∧ s.room 466) :=
  ⟨⟨0, [], (((((((base.wr F.SHA_SNS_STAT_RUNNING 0 0).modSha fun x => { x with pend := [] })).wr F.SHA_SNS_TABLE_TABLE_ID 255 0).modSns 0 fun x =>
      { x with rows := shallowsTable })).modImg fun m => { m with sensors := m.sensors.modify 0 fun _ => { zSensorCfg with en := true } }),
      by decide +kernel⟩,
    ⟨0, [0x7FFFFFF, 0x7FFFFFF, 0x7FFFFFF, 0x7FFFFFF], ((((((((base.wr F.SHA_SNS_STAT_RUNNING 0 0).modSha fun x => { x with pend := [] })).wr
        F.SHA_SNS_TABLE_TABLE_ID 255 0).modSns 0 fun x => { x with rows := shallowsTable })).wr F.SHA_SNS_STAT_NOISY 0 0).modImg fun m =>
        { m with sensors := m.sensors.modify 0 fun _ => { zSensorCfg with en := true } }), by unfold State.room; decide +kernel⟩,
    ⟨0, [], [], [], zShaCfg, (((((((((((((base.modSns 0 fun x => { x with cfg := some zShaCfg })).wr F.SHA_SNS_STAT_RUNNING 1 0).wr F.SHA_SNS_STAT_WET
        0 0).modSns 0 fun x => { x with contacts := [] })).modSns 0 fun x => { x with cancel := false })).modSns 0 fun x =>
        { x with cancelDrop := false })).modImg fun m => { m with sensors := m.sensors.modify 0 fun _ => { zSensorCfg with en := true } })).modTbs fun
        x => { x with now := 1000000000 }), by decide +kernel⟩,
    ⟨0, [20], [], [], sha0, peak0, (((((((((((((node0.modSns 0 fun x => { x with cfg := some sha0 })).wr F.SHA_SNS_STAT_RUNNING 1 0).wr
        F.SHA_SNS_STAT_WET 0 0).modSns 0 fun x => { x with contacts := [] })).modSns 0 fun x => { x with cancel := false })).modSns 0 fun x =>
        { x with cancelDrop := false })).modSns 0 fun x => { x with rows := shallowsTable })).modTbs fun x => { x with now := 1000000000 }),
        by decide +kernel⟩,
    ⟨0, 0, base.wr F.SHA_SNS_STAT_RUNNING 1 0, by unfold State.room; decide +kernel⟩⟩

theorem witness_WellheadLink :
    (∃ (s : State), s.welRuns = true ∧ s.rd F.WEL_STAT_LINK_UP = 0 ∧ bit (s.rd F.WEL_STAT_REASONS) 5 = true ∧ s.room 480) ∧
    (∃ (s : State), s.welUp = true) ∧
    (∃ (slow : Bool) (s : State), s.welRuns = true ∧ s.rd F.WEL_STAT_LINK_UP = 1 ∧ (if slow then s.wel.lastTime + 100000000 else s.wel.lastTx +
        1000000) ≤ s.elapsed) ∧
    (∃ (s : State), s.welUp = true ∧ s.wel.lastRx + 10000000 ≤ s.elapsed ∧ bit (s.rd F.WEL_STAT_REASONS) 2 = false ∧ s.room 481 ∧ s.room 483) ∧
    (∃ (s : State), s.welRuns = true ∧ s.wel.lastMsgErr = none ∧ s.room 486) ∧
    (∃ (id w h ms : BitVec 16) (nvr : Bool) (s : State), s.welUp = true) ∧
    (∃ (id : BitVec 16) (o : Word) (d : List Byte) (r : PlaneRx) (s : State), s.welUp = true ∧ s.wel.rx = some r ∧ r.id = id.toNat ∧ o.toNat % 1024 =
        0 ∧ d ≠ [] ∧ d.length ≤ 1024) ∧
    (∃ (id : BitVec 16) (crc : Word) (r : PlaneRx) (d : List Byte) (s : State), s.welUp = true ∧ s.wel.rx = some r ∧ r.id = id.toNat ∧ s.planeStatus r
        crc.toNat = (0, 0, d) ∧ r.nvr = false) ∧
    (∃ (id : BitVec 16) (crc : Word) (r : PlaneRx) (st miss : Nat) (d : List Byte) (s : State), s.welUp = true ∧ s.wel.rx = some r ∧ r.id = id.toNat ∧
        s.planeStatus r crc.toNat = (st, miss, d) ∧ st ≠ 0 ∧ s.room 484) ∧
    (∃ (id ms : BitVec 16) (p : Plane) (s : State), s.welUp = true ∧ s.wel.current = some p ∧ p.id = id.toNat ∧ s.wel.composing = none ∧ s.wel.waiting
        = none ∧ bit (s.rd F.WEL_STAT_REASONS) 1 = false) ∧
    (∃ (s : State), s.welUp = true ∧ bit (s.rd F.WEL_STAT_REASONS) 0 = false ∧ s.room 483) ∧
    (∃ (p : Plane) (s : State), s.welUp = true ∧ s.wel.current = some p ∧ p.until_ ≤ s.tbs.now ∧ bit (s.rd F.WEL_STAT_REASONS) 1 = false ∧ s.room 483)
        ∧
    (∃ (ini : Initiator) (s : State), (s.onBus ini ∧ s.welUp = true ∧ s.isSec ini = true ∧ bit (s.rd F.WEL_STAT_REASONS) 4 = false ∧ s.room 483) ∧ (∀
        h, s.legalHead = some h → h < 8)) ∧
    (∃ (ini : Initiator) (k : Fin 4) (colour : BitVec 30) (s : State), s.onBus ini ∧ s.isMA = true ∧ s.isSec ini = true) ∧
    (∃ (id : BitVec 16) (o : Word) (d : List Byte) (s : State), s.welRuns = true ∧ (d = [] ∨ 1024 < d.length)) ∧
    (∃ (l : List Byte) (s : State), s.welRuns = true ∧ l.length ≠ 20) :=
  ⟨⟨ma.wr F.WEL_STAT_LINK_UP 0, by unfold State.room; decide +kernel⟩,
    ⟨ma, by decide +kernel⟩,
    ⟨false, (later 200000000 ma).wr F.WEL_STAT_LINK_UP 1, by decide +kernel⟩,
    ⟨later 200000000 ma, by unfold State.room; decide +kernel⟩,
    ⟨(ma.modWel fun x => { x with lastMsgErr := none }), by unfold State.room; decide +kernel⟩,
    ⟨0, 0, 0, 0, false, ma, by decide +kernel⟩,
    ⟨0, 0, [1, 2], zPlaneRx, (ma.modWel fun x => { x with rx := some zPlaneRx }), by decide +kernel⟩,
    ⟨0, BitVec.ofNat 32 (crc32c (List.replicate 8 9)), { zPlaneRx with w := 8, h := 4, chunks := [(0, List.replicate 8 9)] }, List.replicate 8 9,
        (ma.modWel fun x => { x with rx := some ({ zPlaneRx with w := 8, h := 4, chunks := [(0, List.replicate 8 9)] }) }), by decide +kernel⟩,
    ⟨0, 0, zPlaneRx, 2, 0, [], (ma.modWel fun x => { x with rx := some zPlaneRx }), by unfold State.room; decide +kernel⟩,
    ⟨0, 0, zPlane, (((((ma.modWel fun x => { x with current := some zPlane })).modWel fun x => { x with composing := none })).modWel fun x =>
        { x with waiting := none }), by decide +kernel⟩,
    ⟨ma, by unfold State.room; decide +kernel⟩,
    ⟨zPlane, (ma.modWel fun x => { x with current := some zPlane }), by unfold State.room; decide +kernel⟩,
    ⟨.pair 0, ma, by unfold State.onBus State.room; decide +kernel, (by intro h e; have e2 : some 0 = some h := e; cases e2; decide)⟩,
    ⟨.pair 0, 0, 0, base, by unfold State.onBus; decide +kernel⟩,
    ⟨0, 0, [], ma, by decide +kernel⟩,
    ⟨[], ma, by decide +kernel⟩⟩

theorem witness_WellheadDie :
    (∃ (seq value : Word) (tag : BitVec 8) (u : Nat) (s : State), s.legalUnit = some u ∧ s.welUp = true ∧ u < s.snd.units.length ∧ s.pushRefusal u
        seq.toNat true = none) ∧
    (∃ (u : Nat) (s : State), s.legalUnit = some u ∧ s.welUp = true ∧ u < s.snd.units.length) ∧
    (∃ (c : Fin 2) (st : BitVec 6) (un de : BitVec 8) (v m : Word) (s : State), s.welUp = true ∧ s.wel.lastReading.getD c.val none = none ∧ s.room
        485) ∧
    (∃ (l : List Byte) (s : State), s.welUp = true ∧ l.length = 20 ∧ s.room 487) ∧
    (∃ (head window : Fin 8) (d : Bool) (x0 y0 x1 y1 : BitVec 16) (seq : Word) (s : State), s.isMA = true) ∧
    (∃ (id : BitVec 16) (miss : Word) (d : List Byte) (s : State), s.whd.up = true ∧ s.whd.pushedAhead = []) ∧
    (∃ (id : BitVec 16) (miss : Word) (d : List Byte) (s : State), s.whd.up = true ∧ s.whd.resent = none) ∧
    (∃ (seq : Word) (tag : BitVec 8) (p : WhPlane) (s : State), s.whd.up = true ∧ s.whd.current = some p ∧ p.id % 256 = tag.toNat ∧ s.whd.toPush
        seq.toNat = []) ∧
    (∃ (seq : Word) (st : Fin 6) (tag : BitVec 8) (s : State), s.whd.up = true ∧ st.val ≠ 1 ∧ s.whd.badRow + 1 = s.whd.displayLimit ∧ s.whd.toPush
        seq.toNat = [] ∧ s.whd.audit.length < 4096) ∧
    (∃ (s : State), s.whd.up = true ∧ s.whd.resultAt + 200000000 ≤ s.elapsed ∧ s.whd.audit.length < 4096) ∧
    (∃ (x : BitVec 64) (s : State), s.whd.up = true) ∧
    (∃ (s : State), s.isMA = true) ∧
    (∃ (o : Bool) (s : State), s.isMA = true ∧ o ≠ s.whd.sealOpen ∧ s.whd.audit.length < 4096 ∧ s.whd.up = false) ∧
    (∃ (x : Word) (s : State), s.isMA = true ∧ s.whd.checksum = x.toNat ∧ x.toNat ≠ s.whd.stored ∧ s.whd.audit.length < 4096 ∧ s.whd.up = false) :=
  ⟨⟨0, 0, 0, 0, ma, by decide +kernel⟩,
    ⟨0, ma, by decide +kernel⟩,
    ⟨0, 0, 0, 0, 0, 0, ma, by unfold State.room; decide +kernel⟩,
    ⟨List.replicate 20 1, ma, by unfold State.room; decide +kernel⟩,
    ⟨0, 0, false, 0, 0, 0, 0, 0, base, by decide +kernel⟩,
    ⟨0, 0, [], (ma.modWhd fun x => { x with up := true }), by decide +kernel⟩,
    ⟨0, 0, [], (((base.modWhd fun x => { x with up := true })).modWhd fun x => { x with resent := none }), by decide +kernel⟩,
    ⟨0, 0, zWhPlane, (((((base.modWhd fun x => { x with up := true })).modWhd fun x => { x with current := some zWhPlane })).modWhd fun x =>
        { x with pushed := some 3 }), by decide +kernel⟩,
    ⟨0, 0, 0, (((((base.modWhd fun x => { x with up := true })).modWhd fun x => { x with pushed := some 3 })).modWhd fun x => { x with badRow := 2 }),
        by decide +kernel⟩,
    ⟨((later 200000000 ma).modWhd fun x => { x with up := true }), by decide +kernel⟩,
    ⟨0, (base.modWhd fun x => { x with up := true }), by decide +kernel⟩,
    ⟨base, by decide +kernel⟩,
    ⟨true, (ma.modWhd fun x => { x with up := false }), by decide +kernel⟩,
    ⟨7, (((ma.modWhd fun x => { x with checksum := 7 })).modWhd fun x => { x with up := false }), by decide +kernel⟩⟩

theorem witness_WellheadUart :
    (∃ (s : State), s.isMA = true) ∧
    (∃ (n : Nat) (r : List Byte) (s : State), s.isMA = true ∧ s.whd.audit[n]? = some r) ∧
    (∃ (c : Nat) (st : BitVec 6) (un de : BitVec 8) (v m : Word) (s : State), s.isMA = true ∧ c < 2 ∧ s.whd.valid = true) ∧
    (∃ (k : BitVec 16) (s : State), s.isMA = true) ∧
    (∃ (k : BitVec 16) (v : Word) (s : State), s.isMA = true ∧ s.whd.sealOpen = true ∧ s.whd.audit.length < 4096 ∧ s.whd.up = false) ∧
    (∃ (k : BitVec 16) (v : Word) (s : State), s.isMA = true ∧ s.whd.sealOpen = false) ∧
    (∃ (s : State), s.isMA = true) :=
  ⟨⟨base, by decide +kernel⟩,
    ⟨0, [1, 2], (ma.modWhd fun x => { x with audit := [[1, 2]] }), by decide +kernel⟩,
    ⟨0, 0, 0, 0, 0, 0, (base.modWhd fun x => { x with valid := true }), by decide +kernel⟩,
    ⟨0, base, by decide +kernel⟩,
    ⟨0, 0, (((base.modWhd fun x => { x with sealOpen := true })).modWhd fun x => { x with up := false }), by decide +kernel⟩,
    ⟨0, 0, (base.modWhd fun x => { x with sealOpen := false }), by decide +kernel⟩,
    ⟨base, by decide +kernel⟩⟩

theorem witness_CascadeRoles :
    (∃ (ns : Nat) (s : State), s.sbReads = true ∧ 500 ≤ ns ∧ ns ≤ 2000) ∧
    (∃ (ns : Nat) (s : State), s.sbReads = true ∧ 3000 ≤ ns ∧ ns ≤ 5000 ∧ s.tbs.markCap = none) ∧
    (∃ (ns c : Nat) (s : State), s.sbReads = true ∧ 3000 ≤ ns ∧ ns ≤ 5000 ∧ s.tbs.markCap = some c ∧ s.tbsSrc = 2 ∧ 2 ≤ s.ptg.missed) ∧
    (∃ (ns : Nat) (s : State), s.sbReads = true ∧ (ns < 500 ∨ (2000 < ns ∧ ns < 3000) ∨ 5000 < ns)) ∧
    (∃ (next : Option Nat) (s : State), s.isMaster = true ∧ s.pins.sbDrive = true) ∧
    (∃ (x : BitVec 64) (c : Nat) (s : State), s.tbs.markCap = some c ∧ s.tbsSrc = 2 ∧ s.isMaster = false ∧ 7 ≤ s.ptg.paired ∧ c ≤ x.toNat ∧ x.toNat <
        c + 2 ^ 31) ∧
    (∃ (s : State), s.ptg.pulseAt.getD s.ptg.bootAt + 2000000 ≤ s.elapsed ∧ s.isMaster = false ∧ s.startsUp = false ∧ s.sbReads = true ∧
        s.heartbeatHeld = false ∧ s.ptg.failover = none ∧ s.room 499) ∧
    (∃ (at_ : Nat) (s : State), s.ptg.failover = some at_ ∧ at_ ≤ s.elapsed ∧ s.room 498) ∧
    (∃ (s : State), s.pos = 0 ∧ s.isMaster = false ∧ s.ptg.pulseSeen = false ∧ s.sbReads = true ∧ s.ptg.bootAt + 3000000 ≤ s.elapsed ∧ s.room 498) ∧
    (∃ (q : Fin 4) (s : State), s.powered = true ∧ s.room 498) ∧
    (∃ (ini : Initiator) (q : Fin 4) (s : State), s.onBus ini ∧ s.isMaster = true ∧ s.isSec ini = true ∧ s.present q.val = true ∧ q.val ≠ s.pos ∧
        s.room 498) ∧
    (∃ (ns : Nat) (s : State), s.pins.sbDrive = true ∧ 100 < ns ∧ s.room 509) ∧
    (∃ (level : Bool) (s : State), s.powered = true ∧ s.rd F.PTG_ALERT_LEVEL = b2n !level ∧ s.room 503) :=
  ⟨⟨1000, base, by decide +kernel⟩,
    ⟨4000, (base.modTbs fun x => { x with markCap := none }), by decide +kernel⟩,
    ⟨4000, 5, ((((base.modTbs fun x => { x with markCap := some 5 })).wr F.TBS_CFG_SRC 2).modPtg fun x => { x with missed := 2 }), by decide +kernel⟩,
    ⟨0, base, by decide +kernel⟩,
    ⟨none, ((base.modPins fun x => { x with sbDrive := true })).wr F.PTG_CFG_MASTER 1, by decide +kernel⟩,
    ⟨9, 5, ((((base.modTbs fun x => { x with markCap := some 5 })).wr F.TBS_CFG_SRC 2).modPtg fun x => { x with paired := 7 }), by decide +kernel⟩,
    ⟨((((later 10000000 base).modPtg fun x => { x with failover := none })).modPtg fun x => { x with pulseSeen := true }),
        by unfold State.room; decide +kernel⟩,
    ⟨0, (base.modPtg fun x => { x with failover := some 0 }), by unfold State.room; decide +kernel⟩,
    ⟨((later 10000000 base).modPtg fun x => { x with pulseSeen := false }), by unfold State.room; decide +kernel⟩,
    ⟨0, base, by unfold State.room; decide +kernel⟩,
    ⟨.pair 0, 1, (base.wr F.PTG_CFG_MASTER 1).wr F.PTG_CFG_PRESENT 2, by unfold State.onBus State.room; decide +kernel⟩,
    ⟨101, (base.modPins fun x => { x with sbDrive := true }), by unfold State.room; decide +kernel⟩,
    ⟨false, base, by unfold State.room; decide +kernel⟩⟩

theorem witness_PortageLinks :
    (∃ (q : Fin 4) (s : State), s.cascade = true ∧ s.isMaster = false ∧ q.val = s.pos ∧ s.present s.masterPos = true) ∧
    (∃ (q : Fin 4) (s : State), s.cascade = true ∧ s.isMaster = true ∧ q.val ≠ s.pos ∧ s.present q.val = true ∧ s.ptg.holder = none) ∧
    (∃ (s : State), s.cascade = true ∧ s.isMaster = false) ∧
    (∃ (q : Fin 4) (s : State), s.isMaster = true ∧ s.ptg.holder = some q.val) ∧
    (∃ (ms : Nat) (s : State), s.isMaster = false) ∧
    (∃ (s : State), s.ptg.masterDip = true) ∧
    (∃ (l : Fin 2) (p : Fin 4) (x : Word) (reach booting : BitVec 4) (s : State), s.linksMayTrain = true ∧ s.rd F.PTG_LINK_STAT_UP l.val = 0 ∧
        s.domainOn (7 + l.val) = true ∧ l.val < s.ptg.links.length ∧ s.room 496) ∧
    (∃ (l : Fin 2) (cause : Fin 3) (reach : BitVec 4) (s : State), (s.rd F.PTG_LINK_STAT_UP l.val = 1 ∧ l.val < s.ptg.links.length ∧ s.room 497) ∧ (∀
        q w, s.ptg.racc = some (q, w) → bit reach.toNat q = false) ∧ (∀ k c, s.ptg.copies.getD k none = some c → bit reach.toNat c.dest = false)) ∧
    (∃ (l : Fin 2) (cause : Fin 3) (reach : BitVec 4) (q : Nat) (w : Bool) (s : State), (s.rd F.PTG_LINK_STAT_UP l.val = 1 ∧ s.ptg.racc = some (q, w)
        ∧ bit reach.toNat q = true ∧ l.val < s.ptg.links.length ∧ s.room 497) ∧ (∀ k c, s.ptg.copies.getD k none = some c → bit reach.toNat c.dest =
        false)) ∧
    (∃ (l : Fin 2) (s : State), s.rd F.PTG_LINK_STAT_UP l.val = 1 ∧ (s.ptgLink l.val).starvedAt = none ∧ s.room 501) ∧
    (∃ (ini : Initiator) (q : Fin 4) (s : State), s.onBus ini ∧ s.isSec ini = true ∧ s.ptg.racc = none ∧ s.present q.val = true) ∧
    (∃ (ini : Initiator) (q : Fin 4) (s : State), s.onBus ini ∧ s.isSec ini = true ∧ s.ptg.racc = none ∧ s.present q.val = true) ∧
    (∃ (l : Fin 2) (f : List Byte) (c : FlitContent) (s : State), s.rd F.PTG_LINK_STAT_UP l.val = 1 ∧ flitGood f = false) ∧
    (∃ (l : Fin 2) (f : List Byte) (c : FlitContent) (s : State), s.rd F.PTG_LINK_STAT_UP l.val = 1 ∧ flitGood f = true ∧ flitSeq f ≠ (s.ptgLink
        l.val).rx) ∧
    (∃ (l : Fin 2) (f : List Byte) (w : Word) (q : Nat) (s : State), s.rd F.PTG_LINK_STAT_UP l.val = 1 ∧ flitGood f = true ∧ flitSeq f = (s.ptgLink
        l.val).rx ∧ flitDest f = s.pos ∧ flitClass f = 2 ∧ s.ptg.racc = some (q, false) ∧ l.val < s.ptg.links.length) ∧
    (∃ (l : Fin 2) (f : List Byte) (o : Nat) (s : State), s.rd F.PTG_LINK_STAT_UP l.val = 1 ∧ flitGood f = true ∧ flitSeq f = (s.ptgLink l.val).rx ∧
        flitDest f = s.pos ∧ flitClass f = 1 ∧ s.rd F.PTG_CFG_REMOTE_EN = 0) :=
  ⟨⟨0, casc 1, by decide +kernel⟩,
    ⟨1, ((casc 0).modPtg fun x => { x with holder := none }), by decide +kernel⟩,
    ⟨casc 1, by decide +kernel⟩,
    ⟨0, ((casc 0).modPtg fun x => { x with holder := some 0 }), by decide +kernel⟩,
    ⟨0, base, by decide +kernel⟩,
    ⟨(base.modPtg fun x => { x with masterDip := true }), by decide +kernel⟩,
    ⟨0, 0, 0, 0, 0, (base.wr F.PTG_LINK_STAT_UP 0 0).wr F.CHIP_BOOT_STAT_STEP 13, by unfold State.room; decide +kernel⟩,
    ⟨0, 0, 0, base.wr F.PTG_LINK_STAT_UP 1 0,
        by unfold State.room; decide +kernel, (by intro q w h; cases h), (by intro k c h; revert h; revert c; exact getD_all (p := fun (x : Option PtgCopy) _ => ∀ c, x = some c → bit (0 : Nat) c.dest = false) (by decide +kernel) (fun _ _ e => by cases e) k)⟩,
    ⟨0, 0, 2, 1, true, ((base.wr F.PTG_LINK_STAT_UP 1 0).modPtg fun x => { x with racc := some (1, true) }),
        by unfold State.room; decide +kernel, (by intro k c h; revert h; revert c; exact getD_all (p := fun (x : Option PtgCopy) _ => ∀ c, x = some c → bit (2 : Nat) c.dest = false) (by decide +kernel) (fun _ _ e => by cases e) k)⟩,
    ⟨0, base.wr F.PTG_LINK_STAT_UP 1 0, by unfold State.room; decide +kernel⟩,
    ⟨.pair 0, 1, ((casc 0).modPtg fun x => { x with racc := none }), by unfold State.onBus; decide +kernel⟩,
    ⟨.pair 0, 1, ((casc 0).modPtg fun x => { x with racc := none }), by unfold State.onBus; decide +kernel⟩,
    ⟨0, [], .control, base.wr F.PTG_LINK_STAT_UP 1 0, by decide +kernel⟩,
    ⟨0, flit 1 5, .control, base.wr F.PTG_LINK_STAT_UP 1 0, by decide +kernel⟩,
    ⟨0, flit 2 0, 0, 1, ((base.wr F.PTG_LINK_STAT_UP 1 0).modPtg fun x => { x with racc := some (1, false) }), by decide +kernel⟩,
    ⟨0, flit 1 0, 0, (base.wr F.PTG_LINK_STAT_UP 1 0).wr F.PTG_CFG_REMOTE_EN 0, by decide +kernel⟩⟩

theorem witness_PortageCopies :
    (∃ (ini : Initiator) (k : Fin 4) (v : Word) (s : State), (s.onBus ini ∧ bit v.toNat 31 = true ∧ s.mayWrite ini F.PTG_CPY_CTRL_GO k.val false =
        true ∧ s.rd F.PTG_CPY_STAT_BUSY k.val = 0 ∧ s.present (bits v.toNat 1 0) = true ∧ k.val < s.ptg.copies.length ∧ s.fab.isolated = [] ∧
        s.res.poison = [] ∧ s.rd F.PTG_CPY_SRC_ADDR k.val + s.rd F.PTG_CPY_LEN_LEN k.val ≤ tarnBase ∧ s.rd F.PTG_CPY_SRC_ADDR k.val + s.rd
        F.PTG_CPY_LEN_LEN k.val ≤ s.dramBytes) ∧ (∀ p, shorAllows (s.shorEntry p) (s.tag ini) false = true)) ∧
    (∃ (k : Fin 4) (c : PtgCopy) (s : State), s.ptg.copies.getD k.val none = some c ∧ c.denied = false ∧ c.kind = 0 ∧ c.tag.gen = s.gen c.tag.cove ∧
        s.room 500) ∧
    (∃ (ini : Initiator) (m : Fin 8) (v : Word) (sf : Bool) (s : State), s.onBus ini ∧ s.isSec ini = true ∧ bit v.toNat 31 = true ∧ s.hasLayers (bits
        v.toNat 2 0) = false ∧ s.legalHead ≠ some (bits v.toNat 2 0) ∧ ((s.head (bits v.toNat 2 0)).safety = true → sf = true) ∧ s.present (bits
        v.toNat 17 16) = true) ∧
    (∃ (ini : Initiator) (m : Fin 8) (v : Word) (al sf : Bool) (s : State), s.onBus ini ∧ s.isSec ini = true ∧ bit v.toNat 31 = true ∧ (s.hasLayers
        (bits v.toNat 2 0) = true ∨ al = false)) ∧
    (∃ (ini : Initiator) (m : Fin 8) (v : Word) (al sf : Bool) (s : State), s.onBus ini ∧ s.isSec ini = true ∧ bit v.toNat 31 = false) ∧
    (∃ (m : Fin 8) (f : Word) (b : PtgMirror) (s : State), s.ptg.mirrors.getD m.val none = some b ∧ b.frame = none) ∧
    (∃ (m : Fin 8) (f : Word) (b : PtgMirror) (n : Nat) (s : State), s.ptg.mirrors.getD m.val none = some b ∧ b.frame = some n ∧ s.room 502) :=
  ⟨⟨.pair 0, 0, 0x80000001, (((((casc 0).wr F.PTG_CPY_STAT_BUSY 0 0).modFab fun x => { x with isolated := [] })).modRes fun x =>
      { x with poison := [] }), by unfold State.onBus; decide +kernel, (by intro p; rfl)⟩,
    ⟨0, zPtgCopy, (base.modPtg fun x => { x with copies := x.copies.set 0 (some zPtgCopy) }), by unfold State.room; decide +kernel⟩,
    ⟨.pair 0, 3, 0x80010000, false, casc 0, by unfold State.onBus; decide +kernel⟩,
    ⟨.pair 0, 0, 0x80000000, false, false, base, by unfold State.onBus; decide +kernel⟩,
    ⟨.pair 0, 0, 0, false, false, base, by unfold State.onBus; decide +kernel⟩,
    ⟨0, 0, zPtgMirror, (base.modPtg fun x => { x with mirrors := x.mirrors.set 0 (some zPtgMirror) }), by decide +kernel⟩,
    ⟨0, 0, { zPtgMirror with frame := some 7 }, 7, (base.modPtg fun x =>
        { x with mirrors := x.mirrors.set 0 (some ({ zPtgMirror with frame := some 7 })) }), by unfold State.room; decide +kernel⟩⟩

theorem witness_PowerControl :
    (∃ (f : Watched) (fill : Nat) (s : State), s.powered = true ∧ (∀ h, f ≠ .head h) ∧ f ≠ .pcieTx ∧ fill < s.threshold f ∧ s.gov.below.contains f =
        false ∧ s.room 1) ∧
    (∃ (f : Watched) (fill : Nat) (s : State), s.powered = true ∧ (∀ h, f ≠ .head h) ∧ f ≠ .pcieTx ∧ s.threshold f ≤ fill) ∧
    (∃ (fill : Nat) (s : State), s.powered = true ∧ fill < 1024 ∧ s.gov.below.contains .pcieTx = false ∧ s.room 1) ∧
    (∃ (h : Fin 8) (fill : Nat) (s : State), s.powered = true ∧ fill < s.fifoLow h.val ∧ s.gov.below.contains (.head h) = false ∧ s.room 1) ∧
    (∃ (s : State), s.powered = true ∧ s.gov.raising = true ∧ s.frameDue 1000 = true ∧ s.gov.code < 69) ∧
    (∃ (s : State), s.powered = true ∧ s.gov.raising = true ∧ s.frameDue 1000 = true ∧ 70 ≤ s.gov.code ∧ s.gov.ceiling = false ∧ s.room 2) ∧
    (∃ (fast : Bool) (s : State), s.powered = true ∧ s.govClear = true ∧ s.gov.raising = false ∧ s.gov.below = [] ∧ s.frameDue 840 = true ∧ (if fast
        then 12 else 26) ≤ s.gov.code) ∧
    (∃ (r : Fin 7) (s : State), s.powered = true ∧ s.gov.code < 24) ∧
    (∃ (us : Nat) (s : State), s.powered = true ∧ 2 ≤ us ∧ s.room 3) ∧
    (∃ (us : Nat) (s : State), us < 2) ∧
    (∃ (ini : Initiator) (reg : PdReg) (v : BitVec 14) (s : State), s.onBus ini ∧ s.isSec ini = true ∧ (s.chip.phase = .drain ∨ s.chip.phase = .test))
        ∧
    (∃ (ini : Initiator) (v : BitVec 14) (d : Fin 14) (s : State), s.onBus ini ∧ s.isSec ini = true ∧ s.chip.phase = .run ∧ bit s.chip.pdTarget d.val
        = false ∧ (s.wr F.CHIP_PD_VOTE_SEC_VAL v.toNat).pdWant d.val = true ∧ (∀ e, e < 14 → e ≠ d.val → bit s.chip.pdTarget e = (s.wr
        F.CHIP_PD_VOTE_SEC_VAL v.toNat).pdWant e)) ∧
    (∃ (d : Fin 14) (s : State), s.powered = true ∧ s.pdStat d.val = 3 ∧ bit s.chip.pdTarget d.val = true ∧ (d.val = 0 ∨ d.val = 1 ∨ d.val = 6 ∨ d.val
        = 7 ∨ d.val = 8 ∨ d.val = 9 ∨ d.val = 12 ∨ d.val = 13)) ∧
    (∃ (d : Fin 14) (s : State), s.powered = true ∧ s.pdStat d.val = 3 ∧ bit s.chip.pdTarget d.val = true ∧ (d.val = 2 ∨ d.val = 3 ∨ d.val = 4 ∨ d.val
        = 5)) ∧
    (∃ (d : Fin 14) (s : State), s.powered = true ∧ s.pdStat d.val = 3 ∧ bit s.chip.pdTarget d.val = false ∧ s.pdBusy d.val = true) ∧
    (∃ (fixed loch rank cores : Nat) (s : State), s.powered = true ∧ fixed + loch + cores ≤ 1000 * s.pcapEffective ∧ loch ≤ lochLimit s.pcapEffective
        fixed ∧ cores ≤ coresLimit s.pcapEffective fixed) ∧
    (∃ (fixed loch rank cores : Nat) (s : State), s.powered = true ∧ 1000 * s.pcapEffective < fixed + loch + cores ∧ loch ≤ 2000 ∧ cores ≤ 2000 ∧ s.rd
        F.CHIP_PCAP_THROTTLING = 0 ∧ s.rd F.CHIP_PCAP_UNMET = 0 ∧ s.room 8 ∧ s.room 9) ∧
    (∃ (tj : Int) (s : State), s.powered = true ∧ 125 ≤ tj ∧ s.pins.thermLow = false ∧ s.room 10) ∧
    (∃ (tj : Int) (s : State), tj < 120) :=
  ⟨⟨(.tdmTx 0), 0, base, by unfold State.room; decide +kernel⟩,
    ⟨(.tdmTx 0), 40, base, by decide +kernel⟩,
    ⟨0, base, by unfold State.room; decide +kernel⟩,
    ⟨0, 0, base, by unfold State.room; decide +kernel⟩,
    ⟨(base.modGov fun x => { x with raising := true }), by decide +kernel⟩,
    ⟨(((((base.modGov fun x => { x with raising := true })).modGov fun x => { x with ceiling := false })).modGov fun x => { x with code := 70 }),
        by unfold State.room; decide +kernel⟩,
    ⟨false, ((((later 200000000 base).modGov fun x => { x with raising := false })).modGov fun x => { x with below := [] }), by decide +kernel⟩,
    ⟨0, (base.modGov fun x => { x with code := 20 }), by decide +kernel⟩,
    ⟨2, base, by unfold State.room; decide +kernel⟩,
    ⟨0, base, by decide +kernel⟩,
    ⟨.pair 0, .voteSec, 0, (base.modChip fun c => { c with phase := .test }), by unfold State.onBus; decide +kernel⟩,
    ⟨.pair 0, 0x3FFF, 13, (((base.modChip fun x => { x with phase := .run })).modChip fun c => { c with pdTarget := 0x1FFF }),
        by unfold State.onBus; decide +kernel⟩,
    ⟨0, base.wr F.CHIP_PD_STAT_VAL 3, by decide +kernel⟩,
    ⟨2, ((base.wr F.CHIP_PD_STAT_VAL 48).modChip fun c => { c with pdTarget := 4 }), by decide +kernel⟩,
    ⟨0, (((base.wr F.CHIP_PD_STAT_VAL 3).modChip fun c => { c with pdTarget := 0 })).wr F.WEIR_HART_STAT_SECURE 1 0, by decide +kernel⟩,
    ⟨0, 0, 0, 0, base, by decide +kernel⟩,
    ⟨1000000000, 0, 0, 0, (base.wr F.CHIP_PCAP_THROTTLING 0).wr F.CHIP_PCAP_UNMET 0, by unfold State.room; decide +kernel⟩,
    ⟨125, (base.modPins fun x => { x with thermLow := false }), by unfold State.room; decide +kernel⟩,
    ⟨0, base, by decide +kernel⟩⟩

theorem witness_Resets :
    (∃ (mV : Nat) (s : State), 2400 < mV ∧ s.chip.phase = .off) ∧
    (∃ (mV : Nat) (s : State), mV < 2000 ∧ s.chip.phase = .seep) ∧
    (∃ (w : Fin 2) (falling : Bool) (us : Nat) (s : State), s.chip.phase = .seep ∧ 100 ≤ us ∧ (if w.val = 0 then s.rd F.CHIP_SEEP_WAKE_W0_EN else s.rd
        F.CHIP_SEEP_WAKE_W1_EN) = 1 ∧ (if w.val = 0 then s.rd F.CHIP_SEEP_WAKE_W0_FALL else s.rd F.CHIP_SEEP_WAKE_W1_FALL) = b2n falling ∧
        s.chip.wakeCause < 16) ∧
    (∃ (s : State), s.chip.phase = .seep ∧ s.rd F.CHIP_SEEP_WAKE_ALARM_EN = 1 ∧ s.rd F.CHIP_SEEP_CNT_COUNT = s.rd F.CHIP_SEEP_ALARM_ALARM ∧
        s.chip.wakeCause < 16) ∧
    (∃ (s : State), s.powered = true ∧ s.pins.porst = true) ∧
    (∃ (s : State), s.chip.phase = .reset ∧ s.pins.porst = true) ∧
    (∃ (turn : BitVec 11) (s : State), s.chip.phase = .reset ∧ s.pins.porst = false ∧ s.pins.vcoreOk = true ∧ bits turn.toNat 2 0 ≠ 7 ∧ popCount 8
        (bits turn.toNat 10 3) ≤ 4) ∧
    (∃ (us : Nat) (s : State), s.powered = true ∧ 1 ≤ us) ∧
    (∃ (s : State), s.chip.phase = .reset ∧ s.pins.wrst = false ∧ s.chip.resetKind ≠ .powerOn ∧ s.pins.porst = true ∧ s.pins.vcoreOk = true ∧ s.rd
        F.CHIP_STRAP_MODE ≠ 7) ∧
    (∃ (ini : Initiator) (s : State), s.onBus ini ∧ s.powered = true ∧ s.isSec ini = true) ∧
    (∃ (x : Nat) (s : State), s.chip.internalReset = some x ∧ x ≤ s.elapsed ∧ s.chip.phase = .reset ∧ s.pins.porst = true ∧ s.pins.vcoreOk = true ∧
        s.rd F.CHIP_STRAP_MODE ≠ 7) ∧
    (∃ (us : Nat) (s : State), s.powered = true ∧ 50 ≤ us) ∧
    (∃ (us : Nat) (s : State), us < 50) ∧
    (∃ (s : State), s.chip.phase = .reset ∧ s.chip.resetKind = .brownOut ∧ s.pins.vcoreOk = false) :=
  ⟨⟨2401, (base.modChip fun x => { x with phase := .off }), by decide +kernel⟩,
    ⟨0, (base.modChip fun x => { x with phase := .seep }), by decide +kernel⟩,
    ⟨0, false, 100, (base.modChip fun x => { x with phase := .seep }), by decide +kernel⟩,
    ⟨((base.modChip fun x => { x with phase := .seep })).wr F.CHIP_SEEP_WAKE_ALARM_EN 1, by decide +kernel⟩,
    ⟨(base.modPins fun x => { x with porst := true }), by decide +kernel⟩,
    ⟨(((base.modChip fun x => { x with phase := .reset })).modPins fun x => { x with porst := true }), by decide +kernel⟩,
    ⟨0, (((((base.modChip fun x => { x with phase := .reset })).modPins fun x => { x with porst := false })).modPins fun x =>
        { x with vcoreOk := true }), by decide +kernel⟩,
    ⟨1, base, by decide +kernel⟩,
    ⟨(((((((((base.modChip fun x => { x with phase := .reset })).modPins fun x => { x with wrst := false })).modPins fun x =>
        { x with porst := true })).modPins fun x => { x with vcoreOk := true })).modChip fun c => { c with resetKind := .warm }), by decide +kernel⟩,
    ⟨.pair 0, base, by unfold State.onBus; decide +kernel⟩,
    ⟨0, (((((((base.modChip fun x => { x with internalReset := some 0 })).modChip fun x => { x with phase := .reset })).modPins fun x =>
        { x with porst := true })).modPins fun x => { x with vcoreOk := true }), by decide +kernel⟩,
    ⟨50, base, by decide +kernel⟩,
    ⟨0, base, by decide +kernel⟩,
    ⟨(((((base.modChip fun x => { x with phase := .reset })).modChip fun x => { x with resetKind := .brownOut })).modPins fun x =>
        { x with vcoreOk := false }), by decide +kernel⟩⟩

theorem witness_ChipPhases :
    (∃ (r : BootReport) (s : State), s.chip.phase = .boot ∧ r.dram = false ∧ s.rd F.CHIP_BOOT_STAT_FAIL = 0 ∧ s.rd F.CHIP_BOOT_STAT_STEP = 0) ∧
    (∃ (r : BootReport) (n : Nat) (ts : List Nat) (s : State), s.chip.phase = .boot ∧ r.dram = false ∧ s.rd F.CHIP_BOOT_STAT_FAIL = 0 ∧ (n, ts) ∈ [(5,
        [0x20]), (6, [0x30]), (11, [0x30, 0x31, 0x32, 0x33, 0x34, 0x35]), (12, [0x40])] ∧ s.rd F.CHIP_BOOT_STAT_STEP = n - 1 ∧ s.lateBad n ts = none)
        ∧
    (∃ (r : BootReport) (n : Nat) (s : State), s.chip.phase = .boot ∧ r.dram = false ∧ s.rd F.CHIP_BOOT_STAT_FAIL = 0 ∧ (n = 7 ∨ n = 8) ∧ s.rd
        F.CHIP_BOOT_STAT_STEP = n - 1 ∧ s.safetyAt (n - 5) = true) ∧
    (∃ (r : BootReport) (s : State), s.chip.phase = .boot ∧ r.dram = false ∧ s.rd F.CHIP_BOOT_STAT_FAIL = 0 ∧ s.rd F.CHIP_BOOT_STAT_STEP = 8 ∧
        s.safetyLit = true) ∧
    (∃ (r : BootReport) (s : State), s.chip.phase = .boot ∧ r.dram = true ∧ s.dramMay = true ∧ r.supported = false) ∧
    (∃ (r : BootReport) (s : State), s.chip.phase = .boot ∧ r.dram = true ∧ s.dramMay = true ∧ r.supported = true) ∧
    (∃ (r : BootReport) (s : State), s.chip.phase = .boot ∧ r.dram = false ∧ s.rd F.CHIP_BOOT_STAT_FAIL = 0 ∧ s.rd F.CHIP_BOOT_STAT_STEP = 13) ∧
    (∃ (o : Fin 32768) (data : List Byte) (s : State), s.windowOpen = true ∧ s.loadReady = true ∧ data ≠ [] ∧ o.val + data.length ≤ 32768 ∧ o.val %
        1024 + data.length ≤ 1024 ∧ 32768 * s.chip.imgldBank + o.val + data.length ≤ s.chip.imgldSize) ∧
    (∃ (o : Fin 32768) (data : List Byte) (s : State), s.windowOpen = true ∧ s.loadReady = true ∧ s.chip.imgldSize ≤ 32768 * s.chip.imgldBank + o.val)
        ∧
    (∃ (s : State), s.windowOpen = true ∧ s.loadReady = true) ∧
    (∃ (s : State), s.windowOpen = true ∧ s.chip.stagedBusy = false) ∧
    (∃ (code k : Nat) (s : State), s.chip.stagedBusy = true ∧ s.chip.phase = .boot ∧ s.stagedBad = some (code, k) ∧ code < 32 ∧ k < 256) ∧
    (∃ (ini : Initiator) (limit : BitVec 10) (s : State), s.onBus ini ∧ s.chip.phase = .run ∧ s.isSec ini = true ∧ s.cascade = false ∧ s.rd
        F.RIP_SPILL_STAT_SAFE = 0 ∧ s.room 0) ∧
    (∃ (ini : Initiator) (limit : BitVec 10) (s : State), s.onBus ini ∧ s.chip.phase = .run ∧ s.isSec ini = true ∧ (s.dipToken = false ∨ s.rd
        F.RIP_SPILL_STAT_SAFE = 1) ∧ s.room 13) ∧
    (∃ (ini : Initiator) (s : State), s.onBus ini ∧ s.chip.phase = .dip ∧ s.isSec ini = true ∧ s.chip.dipEnding = false ∧ s.cascade = false) ∧
    (∃ (s : State), s.chip.phase = .dip ∧ s.chip.dipEnding = false ∧ s.chip.dipEnd ≤ s.elapsed ∧ s.cascade = false ∧ s.room 14) ∧
    (∃ (s : State), s.chip.phase = .dip ∧ s.chip.dipEnding = true ∧ s.chip.flashOp = none ∧ s.room 0) ∧
    (∃ (ini : Initiator) (v : Word) (s : State), s.onBus ini ∧ s.isSec ini = true ∧ s.chip.flashOp = none ∧ bit v.toNat 31 = true ∧ s.chip.phase =
        .dip ∧ s.chip.dipEnding = false) ∧
    (∃ (ini : Initiator) (v : Word) (s : State), s.onBus ini ∧ s.isSec ini = true ∧ s.chip.flashOp = none ∧ bit v.toNat 31 = true ∧ s.chip.phase ≠
        .dip ∧ s.room 15) ∧
    (∃ (ini : Initiator) (v : Word) (s : State), s.onBus ini ∧ s.isSec ini = true ∧ (bit v.toNat 31 = false ∨ s.chip.flashOp.isSome = true)) ∧
    (∃ (data : List Byte) (len : Nat) (s : State), s.chip.flashOp = some (true, len) ∧ s.chip.pendingShutdown = none) ∧
    (∃ (data : List Byte) (len : Nat) (s : State), s.chip.flashOp = some (false, len) ∧ s.chip.pendingShutdown = none) ∧
    (∃ (ini : Initiator) (s : State), s.onBus ini ∧ s.chip.phase = .run ∧ s.isSec ini = true ∧ s.chip.flashOp = none) ∧
    (∃ (ini : Initiator) (s : State), s.onBus ini ∧ s.chip.phase = .run ∧ s.isSec ini = true ∧ s.chip.flashOp = none) ∧
    (∃ (ini : Initiator) (op : Bool × Nat) (s : State), s.onBus ini ∧ s.chip.phase = .dip ∧ s.isSec ini = true ∧ s.chip.flashOp = some op) ∧
    (∃ (n : Nat) (s : State), s.chip.phase = .drain ∧ s.chip.kind ≠ .powerFail ∧ (n = 1 ∨ (n = 5 ∧ s.headsOff = true)) ∧ s.chip.drainStep + 1 = n) ∧
    (∃ (s : State), s.chip.phase = .drain ∧ s.chip.kind ≠ .powerFail ∧ 2 ≤ s.chip.drainStep ∧ s.chip.drainLogged = false) ∧
    (∃ (s : State), s.chip.phase = .drain ∧ s.chip.kind ≠ .powerFail ∧ s.chip.drainStep = 5 ∧ s.chip.drainLogged = true) ∧
    (∃ (s : State), s.chip.phase = .drain ∧ s.chip.kind = .powerFail ∧ s.chip.drainStep = 2) ∧
    (∃ (s : State), s.chip.phase = .drain ∧ s.chip.kind = .powerFail ∧ s.chip.drainStep = 3) ∧
    (∃ (s : State), s.chip.phase = .drain ∧ s.chip.kind = .thermal ∧ s.chip.drainStep = 7) ∧
    (∃ (s : State), s.chip.phase = .drain ∧ (s.chip.kind = .off ∨ s.chip.kind = .restart) ∧ s.chip.drainStep = 7 ∧ s.room 0) ∧
    (∃ (r : MarchReport) (s : State), s.chip.phase = .test ∧ s.chip.kind = .restart) ∧
    (∃ (r : MarchReport) (s : State), s.chip.phase = .test ∧ s.chip.kind = .off) ∧
    (∃ (mV us : Nat) (m : MarchReport) (s : State), 10 ≤ us ∧ mV < 1000 * s.pfailVolts ∧ s.rd F.CHIP_PFAIL_EN = 1 ∧ s.chip.phase = .test) ∧
    (∃ (mV us : Nat) (m : MarchReport) (s : State), (us < 10 ∨ 1000 * s.pfailVolts ≤ mV ∨ s.rd F.CHIP_PFAIL_EN = 0)) ∧
    (∃ (mV us : Nat) (m : MarchReport) (s : State), 10 ≤ us ∧ mV < 1000 * s.pfailVolts ∧ s.rd F.CHIP_PFAIL_EN = 1 ∧ s.chip.phase = .run) ∧
    (∃ (tj : Int) (m : MarchReport) (s : State), 130 ≤ tj ∧ s.chip.phase = .run) ∧
    (∃ (tj : Int) (m : MarchReport) (s : State), 130 ≤ tj ∧ s.chip.phase = .drain ∧ (s.chip.kind = .off ∨ s.chip.kind = .restart)) ∧
    (∃ (tj : Int) (m : MarchReport) (s : State), 130 ≤ tj ∧ s.chip.phase = .test) :=
  ⟨⟨zBootReport, (((base.modChip fun x => { x with phase := .boot })).wr F.CHIP_BOOT_STAT_FAIL 0).wr F.CHIP_BOOT_STAT_STEP 0, by decide +kernel⟩,
    ⟨zBootReport, 5, [0x20], (((base.modChip fun x => { x with phase := .boot })).wr F.CHIP_BOOT_STAT_FAIL 0).wr F.CHIP_BOOT_STAT_STEP 4,
        by decide +kernel⟩,
    ⟨zBootReport, 7, (((base.modChip fun x => { x with phase := .boot })).wr F.CHIP_BOOT_STAT_FAIL 0).wr F.CHIP_BOOT_STAT_STEP 6, by decide +kernel⟩,
    ⟨zBootReport, (((base.modChip fun x => { x with phase := .boot })).wr F.CHIP_BOOT_STAT_FAIL 0).wr F.CHIP_BOOT_STAT_STEP 8, by decide +kernel⟩,
    ⟨{ zBootReport with dram := true, supported := false }, ((base.modChip fun x => { x with phase := .boot })).wr F.CHIP_BOOT_STAT_STEP 2,
        by decide +kernel⟩,
    ⟨{ zBootReport with dram := true, supported := true }, ((base.modChip fun x => { x with phase := .boot })).wr F.CHIP_BOOT_STAT_STEP 2,
        by decide +kernel⟩,
    ⟨zBootReport, (((base.modChip fun x => { x with phase := .boot })).wr F.CHIP_BOOT_STAT_FAIL 0).wr F.CHIP_BOOT_STAT_STEP 13, by decide +kernel⟩,
    ⟨0, [1, 2], window, by decide +kernel⟩,
    ⟨1000, [1, 2], window, by decide +kernel⟩,
    ⟨window, by decide +kernel⟩,
    ⟨(window.modChip fun x => { x with stagedBusy := false }), by decide +kernel⟩,
    ⟨2, 255, (((base.modChip fun x => { x with stagedBusy := true })).modChip fun x => { x with phase := .boot }), by decide +kernel⟩,
    ⟨.pair 0, 0, ((base.modChip fun x => { x with phase := .run })).wr F.RIP_SPILL_STAT_SAFE 0, by unfold State.onBus State.room; decide +kernel⟩,
    ⟨.pair 0, 0, ((base.modChip fun x => { x with phase := .run })).wr F.RIP_SPILL_STAT_SAFE 1, by unfold State.onBus State.room; decide +kernel⟩,
    ⟨.pair 0, (((base.modChip fun x => { x with phase := .dip })).modChip fun x => { x with dipEnding := false }),
        by unfold State.onBus; decide +kernel⟩,
    ⟨(((base.modChip fun x => { x with phase := .dip })).modChip fun x => { x with dipEnding := false }), by unfold State.room; decide +kernel⟩,
    ⟨(((((base.modChip fun x => { x with phase := .dip })).modChip fun x => { x with dipEnding := true })).modChip fun x =>
        { x with flashOp := none }), by unfold State.room; decide +kernel⟩,
    ⟨.pair 0, 0x80000000, (((((base.modChip fun x => { x with flashOp := none })).modChip fun x => { x with phase := .dip })).modChip fun x =>
        { x with dipEnding := false }), by unfold State.onBus; decide +kernel⟩,
    ⟨.pair 0, 0x80000000, (base.modChip fun x => { x with flashOp := none }), by unfold State.onBus State.room; decide +kernel⟩,
    ⟨.pair 0, 0, base, by unfold State.onBus; decide +kernel⟩,
    ⟨[], 0, (((base.modChip fun x => { x with flashOp := some (true, 0) })).modChip fun x => { x with pendingShutdown := none }), by decide +kernel⟩,
    ⟨[], 0, (((base.modChip fun x => { x with flashOp := some (false, 0) })).modChip fun x => { x with pendingShutdown := none }), by decide +kernel⟩,
    ⟨.pair 0, (((base.modChip fun x => { x with phase := .run })).modChip fun x => { x with flashOp := none }),
        by unfold State.onBus; decide +kernel⟩,
    ⟨.pair 0, (((base.modChip fun x => { x with phase := .run })).modChip fun x => { x with flashOp := none }),
        by unfold State.onBus; decide +kernel⟩,
    ⟨.pair 0, (false, 0), (((base.modChip fun x => { x with phase := .dip })).modChip fun x => { x with flashOp := some ((false, 0)) }),
        by unfold State.onBus; decide +kernel⟩,
    ⟨1, (base.modChip fun x => { x with phase := .drain }), by decide +kernel⟩,
    ⟨(((((base.modChip fun x => { x with phase := .drain })).modChip fun x => { x with drainLogged := false })).modChip fun c =>
        { c with drainStep := 2 }), by decide +kernel⟩,
    ⟨(((((base.modChip fun x => { x with phase := .drain })).modChip fun x => { x with drainStep := 5 })).modChip fun x =>
        { x with drainLogged := true }), by decide +kernel⟩,
    ⟨(((((base.modChip fun x => { x with phase := .drain })).modChip fun x => { x with kind := .powerFail })).modChip fun x =>
        { x with drainStep := 2 }), by decide +kernel⟩,
    ⟨(((((base.modChip fun x => { x with phase := .drain })).modChip fun x => { x with kind := .powerFail })).modChip fun x =>
        { x with drainStep := 3 }), by decide +kernel⟩,
    ⟨(((((base.modChip fun x => { x with phase := .drain })).modChip fun x => { x with kind := .thermal })).modChip fun x =>
        { x with drainStep := 7 }), by decide +kernel⟩,
    ⟨(((base.modChip fun x => { x with phase := .drain })).modChip fun x => { x with drainStep := 7 }), by unfold State.room; decide +kernel⟩,
    ⟨zMarchReport, (((base.modChip fun x => { x with phase := .test })).modChip fun x => { x with kind := .restart }), by decide +kernel⟩,
    ⟨zMarchReport, (((base.modChip fun x => { x with phase := .test })).modChip fun x => { x with kind := .off }), by decide +kernel⟩,
    ⟨0, 10, zMarchReport, ((base.wr F.CHIP_PFAIL_EN 1).modChip fun x => { x with phase := .test }), by decide +kernel⟩,
    ⟨0, 0, zMarchReport, base, by decide +kernel⟩,
    ⟨0, 10, zMarchReport, ((base.wr F.CHIP_PFAIL_EN 1).modChip fun x => { x with phase := .run }), by decide +kernel⟩,
    ⟨130, zMarchReport, (base.modChip fun x => { x with phase := .run }), by decide +kernel⟩,
    ⟨130, zMarchReport, (base.modChip fun x => { x with phase := .drain }), by decide +kernel⟩,
    ⟨130, zMarchReport, (base.modChip fun x => { x with phase := .test }), by decide +kernel⟩⟩

theorem witness_ImagesAndKeys :
    (∃ (ini : Initiator) (s : State), s.onBus ini ∧ s.isSec ini = true ∧ bit (s.rd F.CHIP_KEY_STAT_PROG) 0 = false) ∧
    (∃ (ini : Initiator) (s : State), s.onBus ini ∧ s.isSec ini = true ∧ bit (s.rd F.CHIP_KEY_STAT_PROG) 1 = false) ∧
    (∃ (ini : Initiator) (s : State), s.onBus ini ∧ s.isSec ini = true ∧ bit (s.rd F.CHIP_KEY_STAT_PROG) 1 = true ∧ s.rd F.CHIP_KEY_STAT_REVOKED = 0)
        ∧
    (∃ (ini : Initiator) (s : State), s.onBus ini ∧ s.isSec ini = true ∧ bit (s.rd F.CHIP_KEY_STAT_PROG) 0 = true ∧ s.rd F.CHIP_KEY_STAT_REVOKED = 0)
        ∧
    (∃ (ini : Initiator) (s : State), s.onBus ini ∧ s.isSec ini = true ∧ (bit (s.rd F.CHIP_KEY_STAT_PROG) 1 = false ∨ bit (s.rd
        F.CHIP_KEY_STAT_REVOKED) 1 = true)) ∧
    (∃ (ini : Initiator) (v : Word) (s : State), s.onBus ini ∧ s.isSec ini = true ∧ s.rd F.CHIP_IMG_MINVER_MINVER ≤ v.toNat) ∧
    (∃ (ini : Initiator) (v : Word) (s : State), s.onBus ini ∧ s.isSec ini = true ∧ v.toNat < s.rd F.CHIP_IMG_MINVER_MINVER) ∧
    (∃ (ini : Initiator) (s : State), s.onBus ini ∧ s.isSec ini = true) ∧
    (∃ (s : State), s.chip.phase = .run ∧ s.chip.cacheMissed = true) ∧
    (∃ (ini : Initiator) (l : List Byte) (s : State), s.onBus ini ∧ s.rd F.CHIP_IMG_STAT_BUSY (b2n (s.isSec ini)) = 0 ∧ s.rd F.CHIP_IMG_STAT_PENDING
        (b2n (s.isSec ini)) = 0 ∧ s.chip.delta = none ∧ s.chip.deltaQueued = [] ∧ (s.answer 0).deltaRead (s.tag ini) (s.rd F.CHIP_IMG_ADDR_ADDR (b2n
        (s.isSec ini)) * 64) = (s.answer 0, l, none)) ∧
    (∃ (ini : Initiator) (l : List Byte) (bad : Option Nat) (code k : Nat) (s : State), s.onBus ini ∧ s.rd F.CHIP_IMG_STAT_BUSY (b2n (s.isSec ini)) =
        0 ∧ s.rd F.CHIP_IMG_STAT_PENDING (b2n (s.isSec ini)) = 0 ∧ (s.chip.delta.isSome = true ∨ s.chip.deltaQueued ≠ []) ∧ (s.answer 0).deltaRead
        (s.tag ini) (s.rd F.CHIP_IMG_ADDR_ADDR (b2n (s.isSec ini)) * 64) = (s.answer 0, l, bad) ∧ ((s.answer 0).deltaBad (s.isSec ini) l bad).getD
        (0x12, 255) = (code, k) ∧ code < 32 ∧ k < 256) ∧
    (∃ (sec : Bool) (l : List Byte) (u : Option Nat) (code k : Nat) (s : State), s.chip.delta = some (sec, l, u) ∧ s.deltaBad sec l u = some (code, k)
        ∧ code < 32 ∧ k < 256) ∧
    (∃ (p : PendSection) (s : State), s.chip.deltaQueued = [p] ∧ (p.type = 0x31 ∨ p.type = 0x33 ∨ p.type = 0x34) ∧ p.left = wholePart) ∧
    (∃ (p : PendSection) (s : State), s.deltaOf 0x12 = some p ∧ s.portsMay p.data = false) ∧
    (∃ (ini : Initiator) (o : Nat) (z : AccSize) (s : State), s.onBus ini ∧ nvmFits o z = true ∧ s.isSec ini = true ∧ 0x1000 ≤ s.nvmAt o) ∧
    (∃ (ini : Initiator) (o : Nat) (z : AccSize) (e : EccResult) (s : State), s.onBus ini ∧ nvmFits o z = true ∧ s.isSec ini = false) ∧
    (∃ (ini : Initiator) (o : Nat) (z : AccSize) (s : State), s.onBus ini ∧ nvmFits o z = true ∧ s.isSec ini = true ∧ s.rd F.NVM_STAT_UE = 0 ∧ s.rd
        F.NVM_WIN_BANK < 5 ∧ s.room 16) ∧
    (∃ (ini : Initiator) (o : Nat) (z : AccSize) (v : BitVec 64) (s : State), s.onBus ini ∧ nvmFits o z = true ∧ 4 ≤ accBytes z ∧ s.isSec ini = true ∧
        0x130000 ≤ s.nvmAt o ∧ s.nvmAt o < 0x400000) ∧
    (∃ (ini : Initiator) (o : Nat) (z : AccSize) (v : BitVec 64) (s : State), s.onBus ini ∧ nvmFits o z = true ∧ 4 ≤ accBytes z ∧ s.isSec ini = true ∧
        (s.nvmAt o < 0x130000 ∨ 0x400000 ≤ s.nvmAt o) ∧ s.room 17) ∧
    (∃ (ini : Initiator) (v : Word) (s : State), s.onBus ini ∧ s.isSec ini = true ∧ bit v.toNat 31 = false ∧ s.rd F.CHIP_DEBUG_LOCK = 0 ∧ (b2n (bit
        v.toNat 0) ≠ s.rd F.CHIP_DEBUG_JTAG_EN ∨ b2n (bit v.toNat 1) ≠ s.rd F.CHIP_DEBUG_SEC_DEBUG) ∧ s.room 18) ∧
    (∃ (ini : Initiator) (v : Word) (s : State), s.onBus ini ∧ s.isSec ini = true ∧ bit v.toNat 31 = false ∧ s.rd F.CHIP_DEBUG_LOCK = 1) ∧
    (∃ (ini : Initiator) (v : Word) (s : State), s.onBus ini ∧ s.isSec ini = true ∧ bit v.toNat 31 = true ∧ b2n (bit v.toNat 0) = s.rd
        F.CHIP_DEBUG_JTAG_EN ∧ b2n (bit v.toNat 1) = s.rd F.CHIP_DEBUG_SEC_DEBUG) ∧
    (∃ (d : Nat) (s : State), s.rd F.CHIP_DEBUG_JTAG_EN = 1) ∧
    (∃ (s : State), s.rd F.CHIP_DEBUG_JTAG_EN = 1) ∧
    (∃ (k : Fin 2) (s : State), s.rd F.CHIP_DEBUG_JTAG_EN = 1 ∧ s.rd F.CHIP_DEBUG_SEC_DEBUG = 0) ∧
    (∃ (h : Fin 8) (s : State), s.rd F.CHIP_DEBUG_JTAG_EN = 1 ∧ s.rd F.WEIR_HART_STAT_SECURE h.val = 0) ∧
    (∃ (j : JtagInstr) (s : State), s.rd F.CHIP_DEBUG_JTAG_EN = 0) :=
  ⟨⟨.pair 0, base, by unfold State.onBus; decide +kernel⟩,
    ⟨.pair 0, base, by unfold State.onBus; decide +kernel⟩,
    ⟨.pair 0, (base.wr F.CHIP_KEY_STAT_REVOKED 0).wr F.CHIP_KEY_STAT_PROG 3, by unfold State.onBus; decide +kernel⟩,
    ⟨.pair 0, (base.wr F.CHIP_KEY_STAT_REVOKED 0).wr F.CHIP_KEY_STAT_PROG 1, by unfold State.onBus; decide +kernel⟩,
    ⟨.pair 0, base, by unfold State.onBus; decide +kernel⟩,
    ⟨.pair 0, 0, base, by unfold State.onBus; decide +kernel⟩,
    ⟨.pair 0, 0, base.wr F.CHIP_IMG_MINVER_MINVER (0+1), by unfold State.onBus; decide +kernel⟩,
    ⟨.pair 0, base, by unfold State.onBus; decide +kernel⟩,
    ⟨(((base.modChip fun x => { x with phase := .run })).modChip fun x => { x with cacheMissed := true }), by decide +kernel⟩,
    ⟨.pair 0, List.replicate 256 0, ((((dram1 0 base).modChip fun x => { x with delta := none })).modChip fun x => { x with deltaQueued := [] }),
        by unfold State.onBus; decide +kernel⟩,
    ⟨.pair 0, List.replicate 256 0, none, 2, 255, ((dram1 0 base).modChip fun c => { c with delta := some (true, [], none) }),
        by unfold State.onBus; decide +kernel⟩,
    ⟨false, [], none, 2, 255, (base.modChip fun x => { x with delta := some (false, [], none) }), by decide +kernel⟩,
    ⟨{ zPendSection with type := 0x31, left := wholePart }, (base.modChip fun x =>
        { x with deltaQueued := [({ zPendSection with type := 0x31, left := wholePart })] }), by decide +kernel⟩,
    ⟨{ zPendSection with type := 0x12, data := leBytes 1 2 }, (((lit false)).modChip fun c =>
        { c with deltaQueued := [{ zPendSection with type := 0x12, data := leBytes 1 2 }] }), by decide +kernel⟩,
    ⟨.pair 0, 0x1000, .b1, base, by unfold State.onBus; decide +kernel⟩,
    ⟨.hart 0, 0, .b1, .ok, base, by unfold State.onBus; decide +kernel⟩,
    ⟨.pair 0, 0, .b1, base.wr F.NVM_STAT_UE 0, by unfold State.onBus State.room; decide +kernel⟩,
    ⟨.pair 0, 0x30000, .b4, 0, base.wr F.NVM_WIN_BANK 1, by unfold State.onBus; decide +kernel⟩,
    ⟨.pair 0, 0x1000, .b4, 0, base, by unfold State.onBus State.room; decide +kernel⟩,
    ⟨.pair 0, 1, base.wr F.CHIP_DEBUG_LOCK 0, by unfold State.onBus State.room; decide +kernel⟩,
    ⟨.pair 0, 0, base.wr F.CHIP_DEBUG_LOCK 1, by unfold State.onBus; decide +kernel⟩,
    ⟨.pair 0, 0x80000000, base, by unfold State.onBus; decide +kernel⟩,
    ⟨0, base.wr F.CHIP_DEBUG_JTAG_EN 1, by decide +kernel⟩,
    ⟨base.wr F.CHIP_DEBUG_JTAG_EN 1, by decide +kernel⟩,
    ⟨0, (base.wr F.CHIP_DEBUG_JTAG_EN 1).wr F.CHIP_DEBUG_SEC_DEBUG 0, by decide +kernel⟩,
    ⟨0, (base.wr F.CHIP_DEBUG_JTAG_EN 1).wr F.WEIR_HART_STAT_SECURE 0 0, by decide +kernel⟩,
    ⟨(.takeOver 0), base.wr F.CHIP_DEBUG_JTAG_EN 0, by decide +kernel⟩⟩

theorem witness_StepRunsCommand :
    (∃ (s : State), s.pending = []) ∧
    (∃ (s : State), (s.elapsed + 1) % (1000 * max 1 (s.rd F.LOCH_CFG_POLL_US)) ≠ 0) :=
  ⟨⟨base, by decide +kernel⟩,
    ⟨base, by decide +kernel⟩⟩

theorem witness_EveryStepKeepsMemory :
    ∃ s t : State, s.memOk ∧ step s = .next t :=
  ⟨base, base.idle, by unfold State.memOk memsOk; decide +kernel, rfl⟩

/-! ### Images that are accepted -/

/-- A directory entry. -/
def entry (t o n : Nat) : List Byte := leBytes 2 t ++ List.replicate 2 0 ++ leBytes 4 o ++ leBytes 4 n ++ List.replicate 52 0
def header (delta : Bool) (size n : Nat) : List Byte :=
  [0x54, 0x52, 0x58, 0x49, 1, 0] ++ leBytes 2 (b2n delta) ++ leBytes 4 size ++ List.replicate 12 0 ++ leBytes 2 0x8480 ++ leBytes 1 3 ++
    [0, 0] ++ leBytes 1 16 ++ leBytes 2 n ++ List.replicate 32 0
/-- A delta with one integrator section. -/
def delta0 : List Byte := header true 320 1 ++ entry 0x7000 320 0 ++ List.replicate 192 0
def lyr : List Byte := [0, 0, 255, 1] ++ List.replicate 8 0 ++ [1, 0, 255, 0, 0, 0, 0, 0]
/-- The parts before and behind the LAYERS section of an image with every required section: all heads, slots, ports, channels and sensors off, cove 0 alone enabled. -/
def imgA : List Byte :=
  header false 102400 10 ++ entry 0x10 896 256 ++ entry 0x11 1152 1280 ++ entry 0x12 2432 64 ++ entry 0x13 2496 256 ++
    entry 0x14 2752 64 ++ entry 0x15 2816 256 ++ entry 0x16 3072 384 ++ entry 0x17 3456 32 ++ entry 0x30 3584 98496 ++
    entry 0x40 3520 20 ++ List.replicate 192 0 ++ List.replicate 256 0
def imgB : List Byte :=
    List.replicate 64 0 ++
    (List.replicate 96 [0, 255]).flatten ++ List.replicate 64 0 ++
    (List.replicate 16 [0, 0, 255, 0]).flatten ++
    (List.replicate 4 (List.replicate 6 0 ++ [8, 1] ++ List.replicate 8 0)).flatten ++ List.replicate 192 0 ++
    [1] ++ List.replicate 383 0 ++
    leBytes 6 0 ++ leBytes 2 10 ++ List.replicate 14 255 ++ [15, 15] ++ List.replicate 8 0
def image0 : List Byte := imgA ++ ((List.replicate 64 lyr).flatten ++ imgB)
/-- A SHA-384 that answers 0 for every string, and a P-384 that accepts every signature: what the two witnesses below assume of the
opaque constants, whose values no proof can see. -/
def Accepts : Prop := (∀ b, Config.sha384 b = List.replicate 48 0) ∧ ∀ k m g, Config.ecdsaP384 k m g = true
theorem digestOk_open (h : Accepts) (e : DirEnt) (b : List Byte) : digestOk e b = (List.replicate 48 0 == e.digest) := by
  simp only [digestOk, h.1]
theorem sigOk_open (h : Accepts) (l : List Byte) : sigOk l = true := h.2 _ _ _
def booting : State := (base.modChip fun c => { c with phase := .boot }).wr F.CHIP_BOOT_STAT_STEP 3
theorem keyOk_base (s : State) (l : List Byte) (h : s.on F.CHIP_KEY_STAT_UNKEYED = true) : s.keyOk l = true := by
  simp only [State.keyOk, h, Bool.true_or]
theorem headChecks_open (h : Accepts) (s : State) (l : List Byte) (d : Bool) (hk : s.on F.CHIP_KEY_STAT_UNKEYED = true)
    (h1 : (formatOk l d && decide (s.rd F.CHIP_IMG_MINVER_MINVER ≤ leAt l 0x0C 4) && s.partOk l && s.strapOk l && (s.contentBad l d).isNone) = true) :
    s.headChecks l d = none := by
  simp only [Bool.and_eq_true, decide_eq_true_eq, Option.isNone_iff_eq_none] at h1
  obtain ⟨⟨⟨⟨a, b⟩, c⟩, e⟩, f⟩ := h1
  simp only [State.headChecks, a, keyOk_base s l hk, sigOk_open h, Nat.not_lt.2 b, c, e, f, Bool.not_true, Bool.false_eq_true, if_false]

theorem slice_append_right (a b : List Byte) (o n : Nat) : slice (a ++ b) (a.length + o) n = slice b o n := by
  simp only [slice, List.drop_append, List.drop_eq_nil_of_le (Nat.le_add_right a.length o), List.nil_append, Nat.add_sub_cancel_left]
theorem leAt_rep (r : List Byte) (k i j n : Nat) (hi : i < k) (hj : j + n ≤ r.length) :
    leAt ((List.replicate k r).flatten) (r.length * i + j) n = leAt r j n := by
  unfold leAt
  congr 1
  induction i generalizing k with
  | zero =>
    obtain ⟨k, rfl⟩ : ∃ m, k = m + 1 := ⟨k - 1, by omega⟩
    have e : (r.drop j).length - n + n = (r.drop j).length := by simp; omega
    simp only [slice, List.replicate_succ, List.flatten_cons, Nat.mul_zero, Nat.zero_add]
    rw [List.drop_append_of_le_length (by omega), List.take_append_of_le_length (by simp; omega)]
  | succ i ih =>
    obtain ⟨k, rfl⟩ : ∃ m, k = m + 1 := ⟨k - 1, by omega⟩
    rw [show r.length * (i + 1) + j = r.length + (r.length * i + j) by ring, List.replicate_succ, List.flatten_cons, slice_append_right]
    exact ih k (by omega)
def dir0 : List DirEnt :=
  [(0x10, 896, 256), (0x11, 1152, 1280), (0x12, 2432, 64), (0x13, 2496, 256), (0x14, 2752, 64), (0x15, 2816, 256), (0x16, 3072, 384),
    (0x17, 3456, 32), (0x30, 3584, 98496), (0x40, 3520, 20)].map fun e =>
    { type := e.1, sflags := 0, off := e.2.1, len := e.2.2, digest := List.replicate 48 0, clean := true }
theorem dirOf_image0 : dirOf image0 = dir0 := by decide +kernel
def secL : List Byte := (List.replicate 64 lyr).flatten
theorem secBytes_layers : secBytes image0 { type := 0x11, sflags := 0, off := 1152, len := 1280, digest := List.replicate 48 0, clean := true } = secL := by
  have h1 : imgA.length = 1152 := by decide +kernel
  have h2 : secL.length = 1280 := by decide +kernel
  show slice (imgA ++ (secL ++ imgB)) 1152 1280 = secL
  rw [show (1152 : Nat) = imgA.length + 0 from h1.symm, slice_append_right, ← h2]
  simp only [slice, List.drop_zero, List.take_left, Nat.sub_self, List.replicate_zero, List.append_nil]
theorem layerRec_secL (i : Nat) (h : i < 64) : layerRec secL i = layerRec lyr 0 := by
  have e : ∀ j n, j + n ≤ 20 → leAt secL (20 * i + j) n = leAt lyr j n := fun j n hj => leAt_rep lyr 64 i j n h hj
  have e0 : leAt secL (20 * i) 1 = leAt lyr 0 1 := e 0 1 (by omega)
  simp only [layerRec, Nat.add_assoc, e0, Nat.mul_zero, Nat.zero_add]
  rw [e 1 1, e 2 1, e 3 1, e (4 + 2 * 0) 2, e (4 + 2 * 1) 2, e (4 + 2 * 2) 2, e (4 + 2 * 3) 2, e 12 1, e 13 1, e 14 1, e 16 4] <;> omega
theorem layers_secL : (List.range 64).map (layerRec secL) = List.replicate 64 (layerRec lyr 0) := by
  rw [List.eq_replicate_iff]
  refine ⟨by simp, fun b hb => ?_⟩
  obtain ⟨i, hi, rfl⟩ := List.mem_map.1 hb
  exact layerRec_secL i (List.mem_range.1 hi)
theorem reserved_secL : reservedOk 0x11 secL = true := by
  have e : ∀ i, i < 64 → ∀ j n, j + n ≤ 20 → leAt secL (20 * i + j) n = leAt lyr j n := fun i hi j n hj => leAt_rep lyr 64 i j n hi hj
  simp only [reservedOk, List.all_eq_true, List.mem_range, zeroAt, colourOk]
  intro i hi
  rw [e i hi 1 1 (by omega), e i hi 15 1 (by omega), e i hi 16 4 (by omega)]
  decide +kernel
theorem slice_imgB (o n : Nat) : slice image0 (2432 + o) n = slice imgB o n := by
  have h1 : imgA.length = 1152 := by decide +kernel
  have h2 : secL.length = 1280 := by decide +kernel
  show slice (imgA ++ (secL ++ imgB)) (2432 + o) n = _
  rw [show 2432 + o = imgA.length + (secL.length + o) by omega, slice_append_right, slice_append_right]
theorem sec_ports : slice image0 2432 64 = slice imgB 0 64 := slice_imgB 0 64
theorem sec_audio : slice image0 2496 256 = slice imgB 64 256 := slice_imgB 64 256
theorem sec_haptics : slice image0 2752 64 = slice imgB 320 64 := slice_imgB 320 64
theorem sec_touch : slice image0 2816 256 = slice imgB 384 256 := slice_imgB 384 256
theorem sec_coves : slice image0 3072 384 = slice imgB 640 384 := slice_imgB 640 384
theorem sec_power : slice image0 3456 32 = slice imgB 1024 32 := slice_imgB 1024 32
theorem sec_heads : slice image0 896 256 = List.replicate 256 0 := by decide +kernel
def img0 : Image :=
  let b (o n : Nat) : List Byte := slice imgB o n
  { noImage with
    heads := (List.range 8).map (headRec (List.replicate 256 0)), layers := List.replicate 64 (layerRec lyr 0), ports := (List.range 8).map (portRec (b 0 64)),
    outs := (List.range 96).map (outRec (b 64 256)), pslots := (List.range 16).map (pslotRec (b 64 256)),
    haptics := (List.range 16).map (hapticRec (b 320 64)), sensors := (List.range 4).map (sensorRec (b 384 256)),
    claims := (List.range 16).map (claimRec (b 384 256)), coves := (List.range 32).map (coveRec (b 640 384)),
    power := powerRec (b 1024 32) }
theorem layAll_image0 : layAll image0 step4Types noImage = img0 := by
  have h := secBytes_layers
  have h2 := layers_secL
  simp only [layAll, dirOf_image0, dir0, List.map_cons, List.map_nil, List.filter_cons, List.filter_nil, show step4Types.contains 0x10 = true from rfl,
    show step4Types.contains 0x11 = true from rfl, show step4Types.contains 0x12 = true from rfl, show step4Types.contains 0x13 = true from rfl,
    show step4Types.contains 0x14 = true from rfl, show step4Types.contains 0x15 = true from rfl, show step4Types.contains 0x16 = true from rfl,
    show step4Types.contains 0x17 = true from rfl, show step4Types.contains 0x30 = false from rfl, show step4Types.contains 0x40 = false from rfl,
    if_true, Bool.false_eq_true, if_false, List.foldl_cons, List.foldl_nil, layOver, h, h2]
  simp only [secBytes, sec_ports, sec_audio, sec_haptics, sec_touch, sec_coves, sec_power, sec_heads]
  rfl

/-! The known sections: COLOUR and FIRMWARE behind those of step 4. -/
theorem leAt_zeros (m o n : Nat) : leAt (List.replicate m 0) o n = 0 := by
  have e : slice (List.replicate m 0) o n = List.replicate n 0 := by
    rw [List.eq_replicate_iff]
    constructor
    · simp [slice]
    · intro b hb
      simp only [slice, List.mem_append, List.mem_replicate] at hb
      rcases hb with hb | hb
      · exact List.eq_of_mem_replicate (List.mem_of_mem_drop (List.mem_of_mem_take hb))
      · exact hb.2
  have z : ∀ k, ofLe (List.replicate k 0) = 0 := by
    intro k
    induction k with
    | zero => rfl
    | succ k ih => rw [List.replicate_succ, ofLe, ih]; rfl
  rw [leAt, e, z]
theorem slice_past (l : List Byte) (o n : Nat) (h : l.length ≤ o) : slice l o n = List.replicate n 0 := by
  simp [slice, List.drop_eq_nil_of_le h]
theorem image0_length : image0.length = 3488 := by decide +kernel
theorem sec_colour : slice image0 3584 98496 = List.replicate 98496 0 := slice_past _ _ _ (by rw [image0_length]; decide)
theorem sec_fw : slice image0 3520 20 = List.replicate 20 0 := slice_past _ _ _ (by rw [image0_length]; decide)
def img1 : Image := { img0 with colour := List.replicate 98496 0, fw := List.replicate 20 0 }
def known0 : List Nat := ((dirOf image0).map (·.type)).filter knownType
theorem known0_eq : known0 = [0x10, 0x11, 0x12, 0x13, 0x14, 0x15, 0x16, 0x17, 0x30, 0x40] := by rw [known0, dirOf_image0]; decide +kernel
theorem rangeOk_late (m : Image) (c f : List Byte) (n : Nat) (k : Counts) (t : Nat) :
    ({ m with colour := c, fw := f } : Image).rangeOk n k t = m.rangeOk n k t := by
  unfold Image.rangeOk
  split <;> rfl
theorem budgets_late (m : Image) (c f : List Byte) : ({ m with colour := c, fw := f } : Image).budgets = m.budgets := rfl
theorem rangeOk_img1 (k : Counts) (t : Nat) : img1.rangeOk 0 k t = img0.rangeOk 0 k t := rangeOk_late img0 _ _ 0 k t
theorem budgets_img1 : img1.budgets = img0.budgets := budgets_late img0 _ _
theorem img0_range : (step4Types.find? fun t => !img0.rangeOk 0 (countsOf image0 noImage) t) = none := by decide +kernel
theorem img0_budgets : img0.budgets = 0 := by decide +kernel
theorem layAll_known : layAll image0 known0 noImage = img1 := by
  have h := secBytes_layers
  have h2 := layers_secL
  rw [known0_eq]
  simp only [layAll, dirOf_image0]
  rw [show (dir0.filter fun e => [0x10, 0x11, 0x12, 0x13, 0x14, 0x15, 0x16, 0x17, 0x30, 0x40].contains e.type) = dir0 from by decide +kernel]
  simp only [dir0, List.map_cons, List.map_nil, List.foldl_cons, List.foldl_nil, layOver, h, h2]
  simp only [secBytes, sec_ports, sec_audio, sec_haptics, sec_touch, sec_coves, sec_power, sec_heads, sec_colour, sec_fw]
  rfl
/-- The state of a boot that is checking a staged image. -/
def staging (s : State) : State := s
theorem bodyChecks_none (s : State) (l : List Byte) (ts : List Nat) (b m : Image) (d : List DirEnt) (cov : List (DirEnt × Nat)) (n : Nat)
    (hd : dirOf l = d) (hc : (d.zipIdx.filter fun e => ts.contains e.1.type) = cov) (hm : layAll l ts b = m)
    (hn : s.rd F.CHIP_STRAP_SAFE_MASK = n) (h1 : ∀ e ∈ cov, digestOk e.1 (secBytes l e.1) = true)
    (h2 : ∀ e ∈ cov, reservedOk e.1.type (secBytes l e.1) = true ∧ lateOk m s.tablesNamed e.1.type (secBytes l e.1) = true)
    (h3 : (step4Types.find? fun t => !m.rangeOk n (countsOf l b) t) = none) (h4 : m.budgets = 0) : s.bodyChecks l ts b = none := by
  subst hd hm hn hc
  have e1 : (((dirOf l).zipIdx.filter fun e => ts.contains e.1.type).find? fun e => !digestOk e.1 (secBytes l e.1)) = none := by
    rw [List.find?_eq_none]; intro e he; simp [h1 e he]
  have e2 : (((dirOf l).zipIdx.filter fun e => ts.contains e.1.type).find? fun e =>
      !reservedOk e.1.type (secBytes l e.1) || !lateOk (layAll l ts b) s.tablesNamed e.1.type (secBytes l e.1)) = none := by
    rw [List.find?_eq_none]; intro e he; simp [(h2 e he).1, (h2 e he).2]
  simp only [State.bodyChecks, e1, e2, h3, h4, if_true]
theorem digest_dir0 (h : Accepts) (e : DirEnt × Nat) (he : e ∈ dir0.zipIdx) : digestOk e.1 (secBytes image0 e.1) = true := by
  have h1 : (dir0.zipIdx.all fun e => List.replicate 48 0 == e.1.digest) = true := by decide +kernel
  rw [digestOk_open h]; exact List.all_eq_true.1 h1 e he
theorem raw_dir0 (m : Image) (u : List (Nat × Nat)) (e : DirEnt × Nat) (he : e ∈ dir0.zipIdx) :
    reservedOk e.1.type (secBytes image0 e.1) = true ∧ lateOk m u e.1.type (secBytes image0 e.1) = true := by
  simp only [dir0, List.map_cons, List.map_nil, List.zipIdx_cons, List.zipIdx_nil, List.mem_cons, List.not_mem_nil, or_false] at he
  rcases he with rfl | rfl | rfl | rfl | rfl | rfl | rfl | rfl | rfl | rfl
  · exact ⟨by simp only [secBytes, sec_heads]; decide +kernel, rfl⟩
  · exact ⟨by simp only [secBytes_layers, reserved_secL], rfl⟩
  · exact ⟨by simp only [secBytes, sec_ports]; decide +kernel, rfl⟩
  · exact ⟨by simp only [secBytes, sec_audio]; decide +kernel, rfl⟩
  · exact ⟨by simp only [secBytes, sec_haptics]; decide +kernel, rfl⟩
  · exact ⟨by simp only [secBytes, sec_touch]; decide +kernel, rfl⟩
  · exact ⟨by simp only [secBytes, sec_coves]; decide +kernel, rfl⟩
  · exact ⟨by simp only [secBytes, sec_power]; decide +kernel, rfl⟩
  · exact ⟨by simp only [secBytes, sec_colour, reservedOk, colourRecsOk, zeroAt, leAt_zeros]; decide +kernel, rfl⟩
  · exact ⟨by simp only [secBytes, sec_fw]; decide +kernel, by simp only [secBytes, sec_fw]; rfl⟩
theorem image0_head (h : Accepts) : booting.headChecks image0 false = none := headChecks_open h _ _ _ (by decide +kernel) (by decide +kernel)
theorem strap0 : booting.rd F.CHIP_STRAP_SAFE_MASK = 0 := by decide +kernel
theorem image0_known (h : Accepts) : booting.bodyChecks image0 known0 noImage = none :=
  bodyChecks_none _ _ _ _ img1 dir0 dir0.zipIdx 0 dirOf_image0 (by rw [known0_eq]; decide +kernel) layAll_known strap0 (digest_dir0 h)
    (raw_dir0 _ _) (by simp only [rangeOk_img1]; exact img0_range) (budgets_img1.trans img0_budgets)
theorem cov8 : (dir0.zipIdx.filter fun e => step4Types.contains e.1.type) = dir0.zipIdx.take 8 := by decide +kernel
theorem image0_step4 (h : Accepts) : booting.bodyChecks image0 step4Types noImage = none :=
  bodyChecks_none _ _ _ _ img0 dir0 (dir0.zipIdx.take 8) 0 dirOf_image0 cov8 layAll_image0 strap0
    (fun e he => digest_dir0 h e (List.mem_of_mem_take he)) (fun e he => raw_dir0 _ _ e (List.mem_of_mem_take he)) img0_range img0_budgets

theorem image0_boot : booting.bootImage image0 = (booting, image0, true) := by
  have e : booting.cacheHit image0 = false := by
    unfold State.cacheHit
    rw [show booting.on F.CHIP_IMG_CACHE_VALID = false from by decide +kernel]; rfl
  simp only [State.bootImage, e]; rfl
/-! ### A delta that is accepted -/
/-- A configuration as `image0` gives it, written out. -/
def lit0 : Image :=
  { noImage with
    layers := List.replicate 64 { owner := 0, en := false, secure := false, scaler := 255, vTaps := 1, srcW := 0, srcH := 0, dstW := 0,
                                  dstH := 0, bpp := 1, staleLimit := 0, coefSet := 255, placeholder := 0 }
    outs := List.replicate 96 { cls := 0, curve := 255 }
    haptics := List.replicate 16 { kind := 0, bridge := 0, accCs := 255, limit := 0 }
    sensors := List.replicate 4 { en := false, hasMutual := false, hasSelf := false, head := 0, txFirst := 0, txCount := 0, rxFirst := 0,
                                  rxCount := 0, drive := 8, rate := 1, glove := 0 }
    coves := [{ en := true, ext := false, queues := 0, res := 0, loch := 0, bas := 0, pool := 0 }]
    power := { voteSec := 0, voteNs := 0, forceOff := 0, pfail := 10, groups := List.replicate 14 255, pcapSec := 15, pcapNs := 15 } }
def deltaSt : State := (base.modImg fun _ => lit0).modChip fun c => { c with delta := some (false, delta0, none) }
theorem deltaBad_none (s : State) (sec : Bool) (l : List Byte) (d : List DirEnt) (ts : List Nat) (h1 : s.headChecks l true = none)
    (h2 : s.runOrDip = true) (hd : dirOf l = d) (ht : (d.map (·.type)).filter knownType = ts) (h3 : s.bodyChecks l ts s.imgNow = none)
    (h4 : ∀ e ∈ d, s.ownerBad e.type (secBytes l e) = false ∧ s.activeBad l e.type (secBytes l e) = false) :
    s.deltaBad sec l none = none := by
  subst hd ht
  have m : ∀ e ∈ (dirOf l).zipIdx, e.1 ∈ dirOf l := fun e he => List.fst_mem_of_mem_zipIdx he
  have e1 : ((dirOf l).zipIdx.find? fun e => !sec && s.ownerBad e.1.type (secBytes l e.1)) = none := by
    rw [List.find?_eq_none]; intro e he; rw [(h4 e.1 (m e he)).1, Bool.and_false]; exact Bool.false_ne_true
  have e2 : ((dirOf l).zipIdx.find? fun e => s.activeBad l e.1.type (secBytes l e.1)) = none := by
    rw [List.find?_eq_none]; intro e he; rw [(h4 e.1 (m e he)).2]; exact Bool.false_ne_true
  unfold State.deltaBad
  rw [h1, h2]
  dsimp only
  rw [if_neg (by decide : ¬((!true) = true)), h3]
  dsimp only
  rw [e1]
  dsimp only
  rw [e2]
  rfl
def ent0 : DirEnt := { type := 0x7000, sflags := 0, off := 320, len := 0, digest := List.replicate 48 0, clean := true }
theorem delta0_head (h : Accepts) : deltaSt.headChecks delta0 true = none := headChecks_open h _ _ _ (by decide +kernel) (by decide +kernel)
theorem delta0_dir : dirOf delta0 = [ent0] := by decide +kernel
theorem delta0_range : (step4Types.find? fun t => !deltaSt.imgNow.rangeOk 0 (countsOf delta0 deltaSt.imgNow) t) = none := by decide +kernel
theorem delta0_budgets : deltaSt.imgNow.budgets = 0 := by decide +kernel
theorem layAll_nil (l : List Byte) (m : Image) : layAll l [] m = m := by simp [layAll]
theorem delta0_body : deltaSt.bodyChecks delta0 [] deltaSt.imgNow = none :=
  bodyChecks_none _ _ _ _ deltaSt.imgNow _ [] 0 delta0_dir (by decide +kernel) (layAll_nil _ _) (by decide +kernel)
    (fun _ he => absurd he List.not_mem_nil) (fun _ he => absurd he List.not_mem_nil)
    delta0_range delta0_budgets
theorem deltaSt_passes (h : Accepts) : deltaSt.deltaBad false delta0 none = none :=
  deltaBad_none _ _ _ [ent0] [] (delta0_head h) (by decide +kernel) delta0_dir (by decide +kernel) delta0_body
    (by intro e he; rw [List.mem_singleton.1 he]; exact ⟨rfl, rfl⟩)
theorem slice_pad (l : List Byte) (k o n : Nat) : slice (l ++ List.replicate k 0) o n = slice l o n := by
  apply List.ext_getElem?
  intro i
  simp only [slice, List.getElem?_append, List.getElem?_take, List.getElem?_drop, List.getElem?_replicate, List.length_take,
    List.length_drop, List.length_append, List.length_replicate]
  split_ifs <;> first | rfl | omega

/-! ### A staged image that is accepted -/
theorem dirOf_congr (l m : List Byte) (h : ∀ o n, slice l o n = slice m o n) : dirOf l = dirOf m := by
  have e : dirEnt l = dirEnt m := by funext k; simp only [dirEnt, leAt, h]; rfl
  simp only [dirOf, dirCount, leAt, h, e]
theorem headChecks_congr (s : State) (l m : List Byte) (h : ∀ o n, slice l o n = slice m o n) : s.headChecks l false = s.headChecks m false := by
  simp only [State.headChecks, formatOk, dirCount, extentsOk, State.keyOk, sigOk, State.partOk, State.strapOk, State.contentBad, leAt, h,
    dirOf_congr l m h]
  first | done | rfl
theorem bodyChecks_congr (s : State) (l m : List Byte) (ts : List Nat) (b : Image) (h : ∀ o n, slice l o n = slice m o n) :
    s.bodyChecks l ts b = s.bodyChecks m ts b := by
  simp only [State.bodyChecks, secBytes, layAll, countsOf, h, dirOf_congr l m h]
  first | done | rfl
def block (k : Nat) : List Byte := slice image0 (1024 * k) 1024
def tarn0 : List Host.Cell :=
  memWrite (memWrite (memWrite (memWrite [] (1024 * (131071 - 3)) (block 3)) (1024 * (131071 - 2)) (block 2)) (1024 * (131071 - 1)) (block 1))
    (1024 * (131071 - 0)) (block 0)
def stagedSt : State := { (booting.modChip fun c => { c with imgldSize := 102400, stagedBusy := true }) with tarn := tarn0 }
theorem block_length (k : Nat) : (block k).length = 1024 := by simp [block, slice]
theorem memRead_nil (a n : Nat) : memRead [] a n = List.replicate n 0 := by
  induction n generalizing a with
  | zero => rfl
  | succ n ih => show _ :: memRead [] (a + 1) n = _; rw [ih]; rfl
theorem staged_block (k : Nat) (h : k < 100) :
    memRead tarn0 (stageAt (1024 * k)) 1024 = if k < 4 then block k else List.replicate 1024 0 := by
  have b := block_length
  have e : stageAt (1024 * k) = 1024 * (131071 - k) := by simp [stageAt]
  have out : ∀ (m : List Host.Cell) (x : Nat) (j : Nat), j ≠ k → j < 4 →
      memRead (memWrite m (1024 * (131071 - j)) (block j)) (1024 * (131071 - k)) 1024 = memRead m (1024 * (131071 - k)) 1024 := by
    intro m x j hj h4
    apply memRead_memWrite_out
    rw [b]
    rcases Nat.lt_or_gt_of_ne hj with g | g
    · exact .inl (by omega)
    · exact .inr (by omega)
  have same : ∀ m : List Host.Cell, memRead (memWrite m (1024 * (131071 - k)) (block k)) (1024 * (131071 - k)) 1024 = block k := by
    intro m
    have := memRead_memWrite m (1024 * (131071 - k)) (block k)
    rwa [b] at this
  rw [e]
  unfold tarn0
  by_cases h4 : k < 4
  · rw [if_pos h4]
    interval_cases k
    · exact same _
    · rw [out _ 0 0 (by omega) (by omega)]; exact same _
    · rw [out _ 0 0 (by omega) (by omega), out _ 0 1 (by omega) (by omega)]; exact same _
    · rw [out _ 0 0 (by omega) (by omega), out _ 0 1 (by omega) (by omega), out _ 0 2 (by omega) (by omega)]; exact same _
  · rw [if_neg h4, out _ 0 0 (by omega) (by omega), out _ 0 1 (by omega) (by omega), out _ 0 2 (by omega) (by omega),
      out _ 0 3 (by omega) (by omega), memRead_nil]
theorem slice_add (l : List Byte) (o a b : Nat) : slice l o a ++ slice l (o + a) b = slice l o (a + b) := by
  apply List.ext_getElem?
  intro i
  simp only [slice, List.getElem?_append, List.getElem?_take, List.getElem?_drop, List.getElem?_replicate, List.length_take,
    List.length_drop, List.length_append, List.length_replicate]
  split_ifs <;> first | rfl | omega | (congr 1; omega)
theorem flat_zeros (n m : Nat) : (List.replicate n (List.replicate m (0 : Byte))).flatten = List.replicate (n * m) 0 := by
  induction n with
  | zero => simp
  | succ n ih => rw [List.replicate_succ, List.flatten_cons, ih, ← List.replicate_add]; congr 1; ring
theorem blocks (f g : Nat → List Byte) (a b m : Nat) (h : ∀ k, k < a → f k = g k)
    (h0 : ∀ k, a ≤ k → k < a + b → f k = List.replicate m 0) :
    (List.range (a + b)).flatMap f = (List.range a).flatMap g ++ List.replicate (b * m) 0 := by
  rw [List.range_add, List.flatMap_append, ← flat_zeros]
  congr 1
  · rw [List.flatMap_def, List.flatMap_def]
    congr 1
    exact List.map_congr_left fun k hk => h k (List.mem_range.1 hk)
  · rw [List.flatMap_def, List.map_map]
    congr 1
    rw [List.eq_replicate_iff]
    refine ⟨by simp, fun x hx => ?_⟩
    obtain ⟨k, hk, rfl⟩ := List.mem_map.1 hx
    exact h0 _ (Nat.le_add_right _ _) (Nat.add_lt_add_left (List.mem_range.1 hk) _)
theorem slice_whole (l : List Byte) (n : Nat) (h : l.length ≤ n) : slice l 0 n = l ++ List.replicate (n - l.length) 0 := by
  rw [slice, List.drop_zero, List.take_of_length_le h]
theorem first_blocks : (List.range 4).flatMap block = image0 ++ List.replicate 608 0 := by
  have e : (List.range 4).flatMap block = slice image0 0 1024 ++ (slice image0 1024 1024 ++ (slice image0 2048 1024 ++ (slice image0 3072 1024 ++ []))) := rfl
  rw [e, List.append_nil, slice_add image0 2048, slice_add image0 1024, slice_add image0 0, slice_whole _ _ (by rw [image0_length]; decide),
    image0_length]
theorem stageRead_zero (s : State) (b : Nat) :
    s.stageRead 0 (b * 1024) = (((List.range b).flatMap fun k => memRead s.tarn (stageAt (1024 * k)) 1024).take (b * 1024)) := by
  have e : ceilDiv (0 % 1024 + b * 1024) 1024 = b := by simp [ceilDiv]; omega
  rw [State.stageRead, e]
  simp only [Nat.zero_mod, Nat.zero_div, Nat.zero_mul, Nat.zero_add, List.drop_zero]
theorem stagedImage_eq : stagedSt.stagedImage = image0 ++ List.replicate (608 + 96 * 1024) 0 := by
  have h : stagedSt.stagedImage = stagedSt.stageRead 0 (100 * 1024) := congrArg (stagedSt.stageRead 0) (by decide)
  have ht : stagedSt.tarn = tarn0 := by simp only [stagedSt]
  have hb : ((List.range (4 + 96)).flatMap fun k => memRead tarn0 (stageAt (1024 * k)) 1024) =
      (List.range 4).flatMap block ++ List.replicate (96 * 1024) 0 :=
    blocks _ _ 4 96 1024 (fun k hk => by rw [staged_block k (by omega), if_pos hk])
      (fun k h4 hk => by rw [staged_block k hk, if_neg (Nat.not_lt.2 h4)])
  rw [h, stageRead_zero, ht, show (100 : Nat) = 4 + 96 from rfl, hb, first_blocks, List.append_assoc, ← List.replicate_add,
    List.take_of_length_le]
  rw [List.length_append, List.length_replicate, image0_length]
theorem stagedSt_passes (h : Accepts) : stagedSt.stagedBad = none := by
  have hs : ∀ o n, slice stagedSt.stagedImage o n = slice image0 o n := fun o n => by rw [stagedImage_eq, slice_pad]
  have hl : leAt stagedSt.stagedImage 8 4 = 102400 := by rw [leAt, hs]; decide +kernel
  have hc : stagedSt.headChecks stagedSt.stagedImage false = none := by
    rw [headChecks_congr _ _ _ hs]; exact headChecks_open h _ _ _ (by decide +kernel) (by decide +kernel)
  have hb : stagedSt.bodyChecks stagedSt.stagedImage known0 noImage = none := by
    rw [bodyChecks_congr _ _ _ _ _ hs]
    exact bodyChecks_none _ _ _ _ img1 dir0 dir0.zipIdx 0 dirOf_image0 (by rw [known0_eq]; decide +kernel) layAll_known (by decide +kernel)
      (digest_dir0 h) (raw_dir0 _ _) (by simp only [rangeOk_img1]; exact img0_range) (budgets_img1.trans img0_budgets)
  have hd : ((dirOf stagedSt.stagedImage).map (·.type)).filter knownType = known0 := by rw [dirOf_congr _ _ hs]; rfl
  have hn : stagedSt.chip.imgldSize = 102400 := rfl
  simp only [State.stagedBad, hc, hd, hb, hl, hn]
  rfl

theorem witness_ChipPhases_images (h : Accepts) :
    (∃ (r : BootReport) (s s1 : State) (l : List Byte) (miss : Bool), (s.chip.phase = .boot ∧ r.dram = false ∧ s.rd F.CHIP_BOOT_STAT_FAIL = 0 ∧
      s.rd F.CHIP_BOOT_STAT_STEP = 3 ∧ s.flashBoot = true) ∧ s.headChecks r.slot false = none ∧ s.bootImage r.slot = (s1, l, miss) ∧
      s1.bodyChecks l step4Types noImage = none) ∧
    (∃ s : State, (s.chip.stagedBusy = true ∧ s.chip.phase = .boot) ∧ s.stagedBad = none) :=
  ⟨⟨{ zBootReport with slot := image0 }, booting, booting, image0, true, by decide +kernel, image0_head h, image0_boot, image0_step4 h⟩,
    ⟨stagedSt, ⟨rfl, rfl⟩, stagedSt_passes h⟩⟩

theorem witness_ImagesAndKeys_delta (h : Accepts) :
    ∃ (sec : Bool) (l : List Byte) (u : Option Nat) (s : State), s.chip.delta = some (sec, l, u) ∧ s.deltaBad sec l u = none :=
  ⟨false, delta0, none, deltaSt, rfl, deltaSt_passes h⟩

end Sys2Proof.Tests
end

section
/-!
SUPPORT. What the record of an access error (R128) raises and leaves as it is, and the accesses that nothing answers (R9, R37).
-/
namespace Sys2Proof.Machine

/-! ### The record of an access error -/

/-- No cove's generation lies among the access-error registers of a world. -/
theorem gen_key_not_mem_aerrKeys (c : Nat) (b : Bool) : F.COVE_ID_GEN.key c 0 ∉ aerrKeys (b2n b) := by
  cases b <;>
    simp [aerrKeys, Fld.key, b2n, F.COVE_ID_GEN, F.RIP_AERR_ADDR_ADDR, F.RIP_AERR_INFO_VALID, F.RIP_AERR_INFO_WORLD,
      F.RIP_AERR_INFO_COVE, F.RIP_AERR_INFO_KIND, F.RIP_AERR_INFO_WRITE, F.RIP_AERR_INFO_OVERRUN] <;> omega

/-- An access error that is no world denial is written to the registers of its world, and then raises event 32 (R128). -/
theorem accessErr_eq_raise (s : State) (t : WorkTag) (addr kind : Nat) (write : Bool) (hk : kind ≠ 2) :
    ∃ u, s.changes u (aerrKeys (b2n t.secure)) [] ∧
      s.accessErr t addr kind write = u.raise 32 (kind * 2 + b2n write + b2n t.secure * 32768) t.cove t.secure := by
  unfold State.accessErr
  refine ⟨_, ?_, if_neg hk⟩
  have h0 : s.changes s (aerrKeys (b2n t.secure)) [] := changes_mono (changes_refl s) (by simp) (by simp)
  split
  · exact changes_wr_of _ _ _ _ h0 (by simp [aerrKeys])
  · iterate 6 refine changes_wr_of _ _ _ _ ?_ (by simp [aerrKeys])
    exact h0

/-- Where Inlet has room, an access error that is no world denial puts event 32 in it and nothing else (R128, R144). -/
theorem accessErr_raises (s : State) (t : WorkTag) (addr kind : Nat) (write : Bool) (hk : kind ≠ 2) (hr : s.room 32) :
    s.raises (s.accessErr t addr kind write) [s.ev 32 (kind * 2 + b2n write + b2n t.secure * 32768) t.cove t.secure] := by
  obtain ⟨u, hu, he⟩ := accessErr_eq_raise s t addr kind write hk
  have hinl : u.inl = s.inl := hu.2 .inl (by simp)
  have hchip : u.chip = s.chip := hu.2 .chip (by simp)
  have hgen : u.gen t.cove = s.gen t.cove := changes_rd hu _ _ _ (gen_key_not_mem_aerrKeys t.cove t.secure)
  have hroom : u.room 32 := ⟨hinl ▸ hr.1, by omega⟩
  rw [he, raise_room u _ _ _ _ hroom]
  simp [State.raises, State.ev, hinl, hchip, hgen]

/-- The response of an access is not touched by the record of its error. -/
@[simp] theorem accessErr_resp (s : State) (t : WorkTag) (addr kind : Nat) (write : Bool) :
    (s.accessErr t addr kind write).resp = s.resp := (changes_accessErr s t addr kind write).2 .resp (by simp)

/-- Frame of an access that is answered and recorded as an error. -/
theorem changes_answer_accessErr (s : State) (v : Nat) (e : Bool) (t : WorkTag) (addr kind : Nat) (write : Bool) :
    s.changes ((s.answer v e).accessErr t addr kind write) (lostKey :: aerrKeys (b2n t.secure)) [.inl, .resp] :=
  answered (changes_mono (changes_accessErr _ t addr kind write) (List.Subset.refl _) (by simp)) (by simp)

/-! ### Accesses that nothing answers -/

/-- An access gets to its register or not whatever the response stands at, and whether it writes or reads. -/
theorem unreached_answer_none_iff (s : State) (v : Nat) (e : Bool) (ini : Initiator) (off : Nat) (write : Bool) :
    (s.answer v e).unreached ini off write = none ↔ s.unreached ini off true = none := by
  have hp : ∀ c, (s.answer v e).pageOk ini c = s.pageOk ini c := fun _ => rfl
  unfold State.unreached
  cases pageCove off <;> simp [hp]

/-- R37: an address outside DRAM, the Tarn window and the registers has an error response, and the access is recorded. -/
theorem exec_unassignedAccess_address {s : State} {ini : Initiator} {addr : Nat} {write : Bool} (hi : s.issues ini = true)
    (hd : s.dramBytes ≤ addr) (ht : inTarn addr 1 = false) (ha : addr < 0xF000000000 ∨ 0xF010000000 ≤ addr) :
    exec (.unassignedAccess ini addr write) s = .next (((s.answer 0).accessErr (s.tag ini) addr 0 write).answer 0 true) := by
  have hreg : ¬ (regBase ≤ addr ∧ addr < regBase + 0x10000000) := by unfold regBase; omega
  have hdram : ¬ addr < (s.answer 0).dramBytes := Nat.not_lt.mpr hd
  show execUnassignedAccess ini addr write s = _
  simp only [execUnassignedAccess, State.by, hi, Bool.and_eq_true, decide_eq_true_eq, hreg, Bool.or_eq_true, hdram, ht]
  rfl

/-- An address among the registers leads to the register offset that it names. -/
theorem exec_unassignedAccess_register {s : State} {ini : Initiator} {off : Nat} (write : Bool) (hi : s.issues ini = true)
    (ho : off < 0x10000000) :
    exec (.unassignedAccess ini (0xF000000000 + off) write) s = .next ((s.answer 0).unassignedReg ini off write) := by
  have hreg : regBase ≤ 0xF000000000 + off ∧ 0xF000000000 + off < regBase + 0x10000000 := by unfold regBase; omega
  have hoff : 0xF000000000 + off - regBase = off := by unfold regBase; omega
  show execUnassignedAccess ini (0xF000000000 + off) write s = _
  simp only [execUnassignedAccess, State.by, hi, Bool.and_eq_true, decide_eq_true_eq, hreg, hoff, and_self, if_true]

/-- R9: a read of an offset that nothing occupies changes nothing. -/
theorem unassignedReg_read {s : State} {ini : Initiator} {off : Nat} (hu : s.unreached ini off false = none) :
    s.unassignedReg ini off false = s := by
  simp [State.unassignedReg, hu]

/-- R9: a write to an offset that nothing occupies is recorded as an access error. -/
theorem unassignedReg_write {s : State} {ini : Initiator} {off : Nat} (hu : s.unreached ini off true = none)
    (ha : s.assigned ini off = false) :
    s.unassignedReg ini off true = s.accessErr (s.tag ini) (regBase + off) 0 true := by
  simp [State.unassignedReg, hu, ha]

end Sys2Proof.Machine

open Sys2Proof Sys2Proof.Machine

/-- Settles O2: what the command answers is known in each case (`exec_unassignedAccess_address`, `exec_unassignedAccess_register`),
and the frame and the raise are those of the record of an access error with KIND 0. -/
theorem unassignedAccess : Obligations.UnassignedAccess := by
  refine ⟨fun ini addr write s hi hd ht ha => ?address, fun ini off s hr ho _ => ?read, fun ini off s hr ho ha => ?write⟩
  case address =>
    have herr := accessErr_raises (s.answer 0) (s.tag ini) addr 0 write (by decide)
    rw [Nat.zero_mul, Nat.zero_add] at herr
    refine ⟨_, exec_unassignedAccess_address hi hd ht ha, ?_, rfl, herr⟩
    exact changes_answer_of _ _ (changes_answer_accessErr ..) (by simp)
  case read =>
    obtain ⟨hi, hu, -⟩ := hr
    have hread := unassignedReg_read ((unreached_answer_none_iff s 0 false ini off false).mpr hu)
    refine ⟨_, (exec_unassignedAccess_register false hi ho).trans (congrArg _ hread), ?_, rfl⟩
    exact changes_answer_of _ _ (changes_mono (changes_refl s) (by simp) (by simp)) (by simp)
  case write =>
    obtain ⟨hi, hu, -⟩ := hr
    have hwrite := unassignedReg_write ((unreached_answer_none_iff s 0 false ini off true).mpr hu) ha
    refine ⟨_, (exec_unassignedAccess_register true hi ho).trans (congrArg _ hwrite), ?_, ?_, ?_⟩
    · exact changes_answer_accessErr ..
    · exact accessErr_resp ..
    · exact accessErr_raises (s.answer 0) (s.tag ini) (regBase + off) 0 true (by decide)

end

section
/-!
SUPPORT. What a DRAM access does (R33, R170, R172, R176): a denial is recorded and raised, an allowed write stores its bytes, and each
source's access is answered by the rule of the path that it takes.
-/
namespace Sys2Proof.Machine

/-! ### A denial by Shoreline (R176) -/

/-- The keys of SHOR_DENY_ADDR and SHOR_DENY_INFO. -/
def denyKeys : List Nat :=
  [F.SHOR_DENY_ADDR_ADDR.key 0 0, F.SHOR_DENY_INFO_VALID.key 0 0, F.SHOR_DENY_INFO_OVERRUN.key 0 0, F.SHOR_DENY_INFO_WORLD.key 0 0,
   F.SHOR_DENY_INFO_COVE.key 0 0, F.SHOR_DENY_INFO_STATE.key 0 0, F.SHOR_DENY_INFO_WRITE.key 0 0]

/-- No cove's generation lies among the registers of a denial. -/
theorem gen_key_not_mem_denyKeys (c : Nat) : F.COVE_ID_GEN.key c 0 ∉ denyKeys := by
  simp [denyKeys, Fld.key, F.COVE_ID_GEN, F.SHOR_DENY_ADDR_ADDR, F.SHOR_DENY_INFO_VALID, F.SHOR_DENY_INFO_OVERRUN,
    F.SHOR_DENY_INFO_WORLD, F.SHOR_DENY_INFO_COVE, F.SHOR_DENY_INFO_STATE, F.SHOR_DENY_INFO_WRITE]
  omega

/-- The record of a denial writes its registers, and raises at most one event. -/
theorem changes_shorDeny (s : State) (t : WorkTag) (addr e : Nat) (write : Bool) :
    s.changes (s.shorDeny t addr e write) (lostKey :: denyKeys) [.inl] := by
  have h0 : s.changes s (lostKey :: denyKeys) [.inl] := changes_mono (changes_refl s) (by simp) (by simp)
  unfold State.shorDeny
  refine changes_trans ?_ (changes_mono (changes_raiseGen ..) (by simp) (by simp))
  split
  · exact changes_wr_of _ _ _ _ h0 (by simp [denyKeys])
  · iterate 6 refine changes_wr_of _ _ _ _ ?_ (by simp [denyKeys])
    exact h0

/-- The first denial is recorded, and then raises event 68 for the generation of the access. -/
theorem shorDeny_eq_raiseGen {s : State} (t : WorkTag) (addr e : Nat) (write : Bool) (hv : s.rd F.SHOR_DENY_INFO_VALID = 0) :
    ∃ u, s.changes u denyKeys [] ∧
      (u.rd F.SHOR_DENY_INFO_VALID = 1 ∧ u.rd F.SHOR_DENY_INFO_STATE = entState e ∧ u.rd F.SHOR_DENY_INFO_WRITE = b2n write) ∧
      s.shorDeny t addr e write = u.raiseGen 68 (entState e + b2n write * 8) t.cove t.gen t.secure := by
  have hoff : s.on F.SHOR_DENY_INFO_VALID = false := by simp [State.on, hv]
  unfold State.shorDeny
  rw [hoff, if_neg Bool.false_ne_true]
  refine ⟨_, ?frame, ⟨?valid, ?state, ?write⟩, rfl⟩
  case frame =>
    iterate 6 refine changes_wr_of _ _ _ _ ?_ (by simp [denyKeys])
    exact changes_mono (changes_refl s) (by simp) (by simp)
  case valid =>
    unfold State.wrB
    iterate 4 rw [rd_wr_ne _ _ _ _ _ _ _ _ (by decide)]
    exact rd_wr ..
  case state =>
    unfold State.wrB
    rw [rd_wr_ne _ _ _ _ _ _ _ _ (by decide), rd_wr]
    exact Nat.mod_eq_of_lt (Nat.mod_lt _ (by decide))
  case write =>
    unfold State.wrB
    rw [rd_wr]
    cases write <;> rfl

/-- What the first denial leaves in the registers stands there after its raise too. -/
theorem shorDeny_recorded {s : State} (t : WorkTag) (addr e : Nat) (write : Bool) (hv : s.rd F.SHOR_DENY_INFO_VALID = 0) :
    (s.shorDeny t addr e write).rd F.SHOR_DENY_INFO_VALID = 1 ∧
      (s.shorDeny t addr e write).rd F.SHOR_DENY_INFO_STATE = entState e ∧
      (s.shorDeny t addr e write).rd F.SHOR_DENY_INFO_WRITE = b2n write := by
  obtain ⟨u, -, ⟨hvalid, hstate, hwrite⟩, heq⟩ := shorDeny_eq_raiseGen t addr e write hv
  have hkeep : ∀ f : Fld, f.key 0 0 ≠ lostKey → (s.shorDeny t addr e write).rd f = u.rd f := fun f hf =>
    heq ▸ changes_rd (changes_raiseGen u ..) f 0 0 (by simpa using hf)
  exact ⟨(hkeep _ (by decide)).trans hvalid, (hkeep _ (by decide)).trans hstate, (hkeep _ (by decide)).trans hwrite⟩

/-- Where Inlet has room, the first denial under a tag of the present generation puts event 68 in it and nothing else (R144, R176). -/
theorem shorDeny_raises {s : State} {t : WorkTag} (addr e : Nat) (write : Bool) (hv : s.rd F.SHOR_DENY_INFO_VALID = 0)
    (hg : t.gen = s.gen t.cove) (hr : s.room 68) :
    s.raises (s.shorDeny t addr e write) [s.ev 68 (entState e + b2n write * 8) t.cove t.secure] := by
  obtain ⟨u, hu, -, heq⟩ := shorDeny_eq_raiseGen t addr e write hv
  have hinl : u.inl = s.inl := hu.2 .inl (by simp)
  have hchip : u.chip = s.chip := hu.2 .chip (by simp)
  have hgen : u.gen t.cove = s.gen t.cove := changes_rd hu _ _ _ (gen_key_not_mem_denyKeys t.cove)
  have hroom : u.room 68 := ⟨hinl ▸ hr.1, by omega⟩
  have hraise : s.shorDeny t addr e write = u.raise 68 (entState e + b2n write * 8) t.cove t.secure := by
    rw [heq, hg, ← hgen]; rfl
  rw [hraise, raise_room u _ _ _ _ hroom]
  simp [State.raises, State.ev, hinl, hchip, hgen]

/-- A source's transactions carry the present generation of their cove (R32). -/
theorem srcTag_gen (s : State) (src : Source) : (s.srcTag src).gen = s.gen (s.srcTag src).cove := by
  cases src with
  | ini i =>
    cases i with
    | hart h => unfold State.srcTag State.tag; dsimp only; split <;> rfl
    | _ => rfl
  | genUnit g => unfold State.srcTag; dsimp only; split <;> rfl
  | _ => rfl

/-! ### A denied access -/

/-- The first page of an access is the first that Shoreline looks at. -/
theorem firstDenied_pagesOf_first {s : State} {t : WorkTag} {write : Bool} {addr : Nat} (len : Nat)
    (hd : shorAllows (s.shorEntry (addr / 65536)) t write = false) :
    firstDenied s t write addr (pagesOf addr len) = some (addr, s.shorEntry (addr / 65536)) := by
  rw [pagesOf, List.range_succ_eq_map, List.map_cons, Nat.add_zero, firstDenied, if_neg (ne_true_of_eq_false hd),
    Nat.max_eq_left (Nat.div_mul_le_self addr 65536)]

/-- An access of installed DRAM whose first page Shoreline denies is refused there (R33, R176). -/
theorem dramCheck_denied {s : State} {t : WorkTag} {addr len : Nat} {write : Bool} (hl : 0 < len) (hw : addr + len ≤ tarnBase)
    (hb : addr + len ≤ s.dramBytes) (hd : shorAllows (s.shorEntry (addr / 65536)) t write = false) :
    s.dramCheck t addr len write = .denied addr (s.shorEntry (addr / 65536)) := by
  have hwin : ¬ inTarn addr len = true := by simp only [inTarn, Bool.and_eq_true, decide_eq_true_eq]; omega
  rw [State.dramCheck, if_neg hl.ne', if_neg hwin, if_neg hb.not_gt, firstDenied_pagesOf_first len hd]

theorem physRead_denied {s : State} {t : WorkTag} {addr len a e : Nat} (h : s.dramCheck t addr len false = .denied a e) :
    s.physRead t addr len = (s.shorDeny t a e false, .error (.denied a e)) := by
  rw [State.physRead, h]; rfl

theorem physWrite_denied {s : State} {t : WorkTag} {addr a e : Nat} {l : List Byte}
    (h : s.dramCheck t addr l.length true = .denied a e) :
    s.physWrite t addr l = (s.shorDeny t a e true, some (.denied a e)) := by
  rw [State.physWrite, h]; rfl

/-- The L3 lies behind Shoreline: a denied read is refused whatever it holds (R33, R171). -/
theorem physReadL3_denied {s : State} {t : WorkTag} {addr len a e : Nat} (h : s.dramCheck t addr len false = .denied a e) :
    s.physReadL3 t addr len = (s.shorDeny t a e false, .error (.denied a e)) := by
  rw [State.physReadL3, h]; exact physRead_denied h

/-! ### The path of each source -/

/-- A source of physical addresses without caches reads DRAM by way of Shoreline. -/
theorem srcRead_eq_dramRead (s : State) {src : Source} (t : WorkTag) (addr len : Nat) (hu : usesCpa src = false)
    (hh : ∀ h, src ≠ .ini (.hart h)) :
    s.srcRead src t addr len =
      (s.dramRead t addr len).1.answer ((s.dramRead t addr len).2.elim 0 ofLe) (s.dramRead t addr len).2.isNone := by
  unfold State.srcRead
  split
  · exact absurd rfl (hh _)
  · rw [hu, if_neg Bool.false_ne_true]
    rcases s.dramRead t addr len with ⟨u, _ | l⟩ <;> rfl

/-- A source of physical addresses without caches writes DRAM by way of Shoreline. -/
theorem srcWrite_eq_dramWrite (s : State) {src : Source} (t : WorkTag) (addr : Nat) (l : List Byte) (hu : usesCpa src = false)
    (hh : ∀ h, src ≠ .ini (.hart h)) :
    s.srcWrite src t addr l = (s.dramWrite t addr l).1.answer 0 (!(s.dramWrite t addr l).2) := by
  unfold State.srcWrite
  split
  · exact absurd rfl (hh _)
  · rw [hu, if_neg Bool.false_ne_true]
    rcases s.dramWrite t addr l with ⟨u, _ | _⟩ <;> rfl

/-- A queue's read by a cove physical address that succeeds answers its bytes. -/
theorem srcRead_queue_of_ok {s u : State} {c : Fin 32} {q : Fin 64} {t : WorkTag} {addr len : Nat} {l : List Byte}
    (h : s.engRead t addr len = (u, .ok l)) : s.srcRead (.queue c q) t addr len = u.answer (ofLe l) := by
  simp only [State.srcRead, usesCpa, if_true, h]

/-- A queue's write by a cove physical address that succeeds is answered without an error. -/
theorem srcWrite_queue_of_ok {s u : State} {c : Fin 32} {q : Fin 64} {t : WorkTag} {addr : Nat} {l : List Byte}
    (h : s.engWrite t addr l = (u, none)) : s.srcWrite (.queue c q) t addr l = u.answer 0 := by
  simp only [State.srcWrite, usesCpa, if_true, h]

/-- A hart's read that hits in L1 or L2 does not leave the cluster (R170). -/
theorem hartRead_hit {s : State} {h : Nat} {t : WorkTag} {addr len : Nat} (hl : 0 < len)
    (hc : s.coreHit h t false (linesOf addr len) = true) : s.hartRead h t addr len = s.answer (ofLe (memRead s.dram addr len)) := by
  rw [State.hartRead, if_pos (by simp [hc, hl])]

/-- A read that Shoreline denies has an error response, whether a hart makes it or another source of physical addresses. -/
theorem srcRead_denied {s : State} {src : Source} {t : WorkTag} {addr len a e : Nat} (hu : usesCpa src = false)
    (hm : ∀ h, src = .ini (.hart h) → s.coreHit h t false (linesOf addr len) = false)
    (hd : s.dramCheck t addr len false = .denied a e) :
    s.srcRead src t addr len = (s.shorDeny t a e false).answer 0 true := by
  by_cases hh : ∃ h, src = .ini (.hart h)
  · obtain ⟨h, rfl⟩ := hh
    show s.hartRead h t addr len = _
    rw [State.hartRead, if_neg (by simp [hm h rfl]), physReadL3_denied hd]
  · rw [srcRead_eq_dramRead s t addr len hu (not_exists.mp hh), State.dramRead, physRead_denied hd]; rfl

/-- A write that Shoreline denies has an error response, whether a hart makes it or another source of physical addresses. -/
theorem srcWrite_denied {s : State} {src : Source} {t : WorkTag} {addr a e : Nat} {l : List Byte} (hu : usesCpa src = false)
    (hm : ∀ h, src = .ini (.hart h) → s.coreHit h t true (linesOf addr l.length) = false)
    (hd : s.dramCheck t addr l.length true = .denied a e) :
    s.srcWrite src t addr l = (s.shorDeny t a e true).answer 0 true := by
  by_cases hh : ∃ h, src = .ini (.hart h)
  · obtain ⟨h, rfl⟩ := hh
    show s.hartWrite h t addr l = _
    rw [State.hartWrite, if_neg (by simp [hm h rfl]), physWrite_denied hd]
  · rw [srcWrite_eq_dramWrite s t addr l hu (not_exists.mp hh), State.dramWrite, physWrite_denied hd]; rfl

/-! ### The command -/

/-- A read whose owner-table word is good goes the way of its source, under the tag that its source gives it. -/
theorem exec_dramAccess_read {s : State} {src : Source} (addr len : Nat) (hi : s.srcIssues src = true) :
    exec (.dramAccess src addr len none false) s = .next (s.srcRead src (s.srcTag src) addr len) := by
  show execDramAccess src addr len none false s = _
  rw [execDramAccess, hi]; rfl

/-- A write whose owner-table word is good goes the way of its source, under the tag that its source gives it. -/
theorem exec_dramAccess_write {s : State} {src : Source} (addr len : Nat) (l : List Byte) (hi : s.srcIssues src = true) :
    exec (.dramAccess src addr len (some l) false) s = .next (s.srcWrite src (s.srcTag src) addr l) := by
  show execDramAccess src addr len (some l) false s = _
  rw [execDramAccess, hi]; rfl

/-- A response alone changes nothing else. -/
theorem changes_answer (s : State) (v : Nat) (e : Bool) : s.changes (s.answer v e) [] [.resp] :=
  changes_answer_of _ _ (changes_mono (changes_refl s) (by simp) (by simp)) (by simp)

/-- A write that stored its bytes and was answered: they stand there, every byte elsewhere is as before, and so is everything else. -/
theorem answer_stored {s u : State} {addr : Nat} {l : List Byte} (hu : s.changes u [] [.dram, .res])
    (hd : u.dram = memWrite s.dram addr l) :
    s.changes (u.answer 0) [] [.dram, .res, .resp] ∧ memRead (u.answer 0).dram addr l.length = l ∧
      (∀ b n, b + n ≤ addr ∨ addr + l.length ≤ b → memRead (u.answer 0).dram b n = memRead s.dram b n) ∧ (u.answer 0).done := by
  refine ⟨changes_answer_of _ _ (changes_mono hu (by simp) (by simp)) (by simp), ?_, fun b n ho => ?_, rfl⟩
  · rw [answer_dram, hd, memRead_memWrite]
  · rw [answer_dram, hd, memRead_memWrite_out _ _ _ _ _ ho]

/-- The record of a denial touches no byte of DRAM. -/
@[simp] theorem shorDeny_dram (s : State) (t : WorkTag) (addr e : Nat) (write : Bool) : (s.shorDeny t addr e write).dram = s.dram :=
  (changes_shorDeny s t addr e write).2 .dram (by simp)

end Sys2Proof.Machine

open Sys2Proof Sys2Proof.Machine

/-- Settles O3: an allowed access is the memory's own read or write (`dramRead_ok`, `dramWrite_ok`, `engRead_ok`, `engWrite_ok`), a hit
never gets to Shoreline (`hartRead_hit`), and a denied access is its record and an error response (`srcRead_denied`, `srcWrite_denied`). -/
theorem dramAccess : Obligations.DramAccess := by
  refine ⟨fun src addr l s hi hu hh hw hb hf ha => ?write, fun src addr len s hi hu hh hw hb hf hp ha => ?read,
    fun c q addr l s hi hok => ?queueWrite, fun c q addr len s hi hok => ?queueRead, fun h addr len s hi hl hc => ?hit,
    fun src addr len s hi hu hm hl hw hb hd hv => ?deniedRead, fun src addr l s hi hu hm hl hw hb hd => ?deniedWrite⟩
  case write =>
    obtain ⟨u, hwr, hch, hdram, -⟩ := dramWrite_ok s (s.srcTag src) addr l hw hb hf ha
    have hsrc : s.srcWrite src (s.srcTag src) addr l = u.answer 0 := by rw [srcWrite_eq_dramWrite s _ addr l hu hh, hwr]; rfl
    exact ⟨_, (exec_dramAccess_write addr _ l hi).trans (congrArg _ hsrc), answer_stored hch hdram⟩
  case read =>
    have hsrc : s.srcRead src (s.srcTag src) addr len = s.answer (ofLe (memRead s.dram addr len)) := by
      rw [srcRead_eq_dramRead s _ addr len hu hh, dramRead_ok s _ addr len hw hb hf hp ha]; rfl
    exact ⟨_, (exec_dramAccess_read addr len hi).trans (congrArg _ hsrc), changes_answer .., rfl⟩
  case queueWrite =>
    obtain ⟨u, hwr, hch, hdram, -⟩ := engWrite_ok s c addr l hok
    exact ⟨_, (exec_dramAccess_write addr _ l hi).trans (congrArg _ (srcWrite_queue_of_ok hwr)), answer_stored hch hdram⟩
  case queueRead =>
    have hsrc := srcRead_queue_of_ok (c := c) (q := q) (engRead_ok s c addr len hok)
    exact ⟨_, (exec_dramAccess_read addr len hi).trans (congrArg _ hsrc), changes_answer .., rfl⟩
  case hit =>
    exact ⟨_, (exec_dramAccess_read (src := .ini (.hart h)) addr len hi).trans (congrArg _ (hartRead_hit hl hc)), changes_answer .., rfl⟩
  case deniedRead =>
    have hsrc := srcRead_denied hu hm (dramCheck_denied hl hw hb hd)
    obtain ⟨hvalid, hstate, hwrite⟩ := shorDeny_recorded (s.srcTag src) addr (s.shorEntry (addr / 65536)) false hv
    exact ⟨_, (exec_dramAccess_read addr len hi).trans (congrArg _ hsrc), shorDeny_dram .., rfl, hvalid, hstate, hwrite,
      shorDeny_raises addr _ false hv (srcTag_gen s src)⟩
  case deniedWrite =>
    have hsrc := srcWrite_denied hu hm (dramCheck_denied (List.length_pos_iff.mpr hl) hw hb hd)
    exact ⟨_, (exec_dramAccess_write addr _ l hi).trans (congrArg _ hsrc), shorDeny_dram .., rfl⟩

end

section
/-!
SUPPORT. Genlock (R335 to R337): the keys of a head's status lie apart from those of the PLLs, a new trim stays within 500 ppm, and what
a reference instant and its loss do in each case of R336.
-/
namespace Sys2Proof.Machine

/-! ### A raise at the end of a command -/

/-- A raise that comes last is the one that the first state would have made, where what came before it left Inlet, the phase and the
cove's generation as they were (R144). -/
theorem raises_raise_of {s u : State} {ks : List Nat} {ps : List Part} {src cove : Nat} (info : Nat) (secure : Bool)
    (h : s.changes u ks ps) (hi : .inl ∉ ps) (hc : .chip ∉ ps) (hg : F.COVE_ID_GEN.key cove 0 ∉ ks) (hsrc : src < 480)
    (hr : s.room src) : s.raises (u.raise src info cove secure) [s.ev src info cove secure] := by
  have hinl : u.inl = s.inl := h.2 .inl hi
  have hchip : u.chip = s.chip := h.2 .chip hc
  have hgen : u.gen cove = s.gen cove := changes_rd h _ _ _ hg
  rw [raise_room u _ _ _ _ ⟨hinl ▸ hr.1, .inr (.inl hsrc)⟩]
  simp [State.raises, State.ev, hinl, hchip, hgen]

/-- A raise leaves every register that lies above the counter of lost raises as it is. -/
theorem rd_raise {f : Fld} (hf : F.INL_RAISE_LOST_COUNT.off < f.off) (s : State) (i src info cove : Nat) (secure : Bool) :
    (s.raise src info cove secure).rd f i = s.rd f i := by
  have hkey : f.key i 0 ≠ lostKey := by
    simp only [lostKey, Fld.key, F.INL_RAISE_LOST_COUNT] at hf ⊢
    omega
  exact changes_rd (changes_raise s src info cove secure) f i 0 (by simpa using hkey)

/-- A raise leaves the heads as they are. -/
theorem oh_raise (s : State) (n src info cove : Nat) (secure : Bool) : (s.raise src info cove secure).oh n = s.oh n := by
  have hout : (s.raise src info cove secure).out = s.out := (changes_raise s src info cove secure).2 .out (by simp)
  simp [State.oh, hout]

/-! ### The keys of a head and of the PLLs -/

/-- The registers of the PLLs lie above those of the heads. -/
theorem key_ne_trimKey {f : Fld} {h : Fin 8} (hf : f.key h.val 0 < F.OUT_PLL_STAT_TRIM.key 0 0) (p : Nat) :
    f.key h.val 0 ≠ F.OUT_PLL_STAT_TRIM.key p 0 := by
  simp only [Fld.key, F.OUT_PLL_STAT_TRIM] at hf ⊢
  omega

/-- The registers of a cove lie above those of every head. -/
theorem genKey_not_mem_glKeys (h : Fin 8) (p : Nat) :
    F.COVE_ID_GEN.key 0 0 ∉ [F.OUT_HEAD_GL_STAT_LOCKED.key h.val 0, F.OUT_HEAD_GL_STAT_INCOMPATIBLE.key h.val 0,
      F.OUT_HEAD_GL_STAT_ERR_NS.key h.val 0, F.OUT_PLL_STAT_TRIM.key p 0] := by
  simp only [Fld.key, F.COVE_ID_GEN, F.OUT_HEAD_GL_STAT_LOCKED, F.OUT_HEAD_GL_STAT_INCOMPATIBLE, F.OUT_HEAD_GL_STAT_ERR_NS,
    F.OUT_PLL_STAT_TRIM, List.mem_cons, List.not_mem_nil, or_false, not_or]
  omega

theorem genKey_not_mem_lockedKey (h : Fin 8) : F.COVE_ID_GEN.key 0 0 ∉ [F.OUT_HEAD_GL_STAT_LOCKED.key h.val 0] :=
  fun hk => genKey_not_mem_glKeys h 0 (List.mem_cons.mpr (.inl (List.mem_singleton.mp hk)))

/-! ### The trim (R336) -/

/-- A number in two's complement fits its width. -/
theorem toTwos_lt (w : Nat) (x : Int) : toTwos w x < 2 ^ w := by
  have hpos : (0 : Int) < (2 ^ w : Nat) := Int.natCast_pos.mpr (Nat.two_pow_pos w)
  have hlt := Int.emod_lt_of_pos x hpos
  have hge := Int.emod_nonneg x hpos.ne'
  unfold toTwos
  omega

/-- The frame of a new trim: the trim of the head's PLL, and the free value that it took. -/
theorem changes_steer_of {s t : State} {ks : List Nat} {ps : List Part} (n : Nat) (h : s.changes t ks ps)
    (hk : F.OUT_PLL_STAT_TRIM.key (t.rd F.OUT_HEAD_STAT_PLL n) 0 ∈ ks) (hp : .fresh ∈ ps) : s.changes (t.steer n) ks ps := by
  have hdraw : s.changes t.draw.2 ks ps :=
    changes_trans h ⟨fun _ _ _ => rfl, fun p hn => by
      cases p with
      | fresh => exact absurd hp hn
      | _ => rfl⟩
  exact changes_wr_of _ _ _ _ hdraw hk

/-- A new trim is within 500 ppm, whatever the free value is. -/
theorem exists_rd_steer_trim (s : State) (n : Nat) :
    ∃ d : Int, d.natAbs ≤ 8388 ∧ (s.steer n).rd F.OUT_PLL_STAT_TRIM (s.rd F.OUT_HEAD_STAT_PLL n) = toTwos 16 d := by
  refine ⟨((s.draw.1 % 16777 : Nat) : Int) - 8388, by omega, ?_⟩
  exact (rd_wr ..).trans (Nat.mod_eq_of_lt (toTwos_lt 16 _))

/-- A new trim leaves a head's registers as they are. -/
theorem rd_steer {f : Fld} {h : Fin 8} (hf : f.key h.val 0 < F.OUT_PLL_STAT_TRIM.key 0 0) (s : State) (n : Nat) :
    (s.steer n).rd f h.val = s.rd f h.val :=
  rd_wr_ne s.draw.2 F.OUT_PLL_STAT_TRIM f _ _ 0 h.val 0 (key_ne_trimKey hf _)

/-! ### A reference instant of a compatible head (R336) -/

/-- The head has reported its error, and is compatible. -/
def State.glReported (s : State) (n : Nat) (err : Int) : State :=
  (s.wr F.OUT_HEAD_GL_STAT_INCOMPATIBLE 0 n).wr F.OUT_HEAD_GL_STAT_ERR_NS (errNs err) n

/-- The head has reported its error and its PLL has taken a new trim. -/
def State.glSteered (s : State) (n : Nat) (err : Int) : State := (s.glReported n err).steer n

/-- A report does not move the head to another PLL. -/
theorem glReported_rd_pll (s : State) (h : Fin 8) (err : Int) :
    (s.glReported h.val err).rd F.OUT_HEAD_STAT_PLL h.val = s.rd F.OUT_HEAD_STAT_PLL h.val := by
  unfold State.glReported
  iterate 2 rw [rd_wr_ne _ _ _ _ _ _ _ _ (by decide +revert)]

/-- The frame of a report and a new trim. -/
theorem changes_glSteered (s : State) (h : Fin 8) (err : Int) :
    s.changes (s.glSteered h.val err) [F.OUT_HEAD_GL_STAT_INCOMPATIBLE.key h.val 0, F.OUT_HEAD_GL_STAT_ERR_NS.key h.val 0,
      F.OUT_PLL_STAT_TRIM.key (s.rd F.OUT_HEAD_STAT_PLL h.val) 0] [.fresh] := by
  refine changes_steer_of _ ?_ (by simp [glReported_rd_pll]) (by simp)
  iterate 2 refine changes_wr_of _ _ _ _ ?_ (by simp)
  exact changes_mono (changes_refl s) (by simp) (by simp)

theorem glSteered_rd_errNs (s : State) (h : Fin 8) (err : Int) :
    (s.glSteered h.val err).rd F.OUT_HEAD_GL_STAT_ERR_NS h.val = errNs err := by
  rw [State.glSteered, rd_steer (by decide +revert), State.glReported, rd_wr]
  exact Nat.mod_eq_of_lt (toTwos_lt 24 _)

theorem glSteered_rd_incompatible (s : State) (h : Fin 8) (err : Int) :
    (s.glSteered h.val err).rd F.OUT_HEAD_GL_STAT_INCOMPATIBLE h.val = 0 := by
  rw [State.glSteered, rd_steer (by decide +revert), State.glReported, rd_wr_ne _ _ _ _ _ _ _ _ (by decide +revert), rd_wr]
  rfl

/-- The new trim stands in the PLL that serves the head. -/
theorem exists_glSteered_rd_trim (s : State) (h : Fin 8) (err : Int) :
    ∃ d : Int, d.natAbs ≤ 8388 ∧
      (s.glSteered h.val err).rd F.OUT_PLL_STAT_TRIM (s.rd F.OUT_HEAD_STAT_PLL h.val) = toTwos 16 d :=
  glReported_rd_pll s h err ▸ exists_rd_steer_trim (s.glReported h.val err) h.val

/-! ### LOCKED (R336) -/

/-- The head is steered for the eighth good instant in a row, and locked. -/
def State.glLocked (s : State) (n : Nat) (err : Int) : State :=
  ((s.glSteered n err).modOh n fun o => { o with good := 8 }).wr F.OUT_HEAD_GL_STAT_LOCKED 1 n

/-- The head counts its good instants from 0, and is not locked. -/
def State.glUnlocked (s : State) (n : Nat) : State :=
  (s.modOh n fun o => { o with good := 0 }).wr F.OUT_HEAD_GL_STAT_LOCKED 0 n

theorem changes_glLocked (s : State) (h : Fin 8) (err : Int) :
    s.changes (s.glLocked h.val err) [F.OUT_HEAD_GL_STAT_LOCKED.key h.val 0, F.OUT_HEAD_GL_STAT_INCOMPATIBLE.key h.val 0,
      F.OUT_HEAD_GL_STAT_ERR_NS.key h.val 0, F.OUT_PLL_STAT_TRIM.key (s.rd F.OUT_HEAD_STAT_PLL h.val) 0] [.out, .fresh] :=
  changes_wr_of _ _ _ _ (changes_modOh_of _ _ (changes_mono (changes_glSteered s h err) (by simp) (by simp)) (by simp)) (by simp)

theorem changes_glUnlocked (s : State) (n : Nat) : s.changes (s.glUnlocked n) [F.OUT_HEAD_GL_STAT_LOCKED.key n 0] [.out] :=
  changes_wr_of _ _ _ _ (changes_modOh_of _ _ (changes_mono (changes_refl s) (by simp) (by simp)) (by simp)) (by simp)

theorem glLocked_rd_errNs (s : State) (h : Fin 8) (err : Int) :
    (s.glLocked h.val err).rd F.OUT_HEAD_GL_STAT_ERR_NS h.val = errNs err :=
  (rd_wr_ne _ _ _ _ _ _ _ _ (by decide +revert)).trans (glSteered_rd_errNs s h err)

/-- The count of good instants of a head that the part has begins anew. -/
theorem glUnlocked_oh_good {s : State} {n : Nat} (hn : n < s.out.heads.length) : ((s.glUnlocked n).oh n).good = 0 := by
  simp [State.glUnlocked, State.oh, State.modOh, State.modOut, hn]

/-! ### The commands -/

section
variable {h : Fin 8} {err : Int} {refNs : Nat} {s : State}

/-- R337: a head that cannot be steered is only marked. -/
theorem exec_genlockReference_incompatible (hm : s.glMode h.val ≠ 0) (hs : s.scanning h.val = true)
    (hc : s.glIncompatible h.val refNs = true) :
    exec (.genlockReference h err refNs) s = .next (s.wr F.OUT_HEAD_GL_STAT_INCOMPATIBLE 1 h.val) := by
  show execGenlockReference h err refNs s = _
  simp [execGenlockReference, hm, hs, hc]

/-- R336: an error between 2 and 10 µs steers the head, and the run of good instants begins anew. -/
theorem exec_genlockReference_off (hm : s.glMode h.val ≠ 0) (hs : s.scanning h.val = true)
    (hc : s.glIncompatible h.val refNs = false) (hh : s.glHolds h.val = false) (hle : err.natAbs ≤ 10000) (hlt : 2000 < err.natAbs) :
    exec (.genlockReference h err refNs) s = .next ((s.glSteered h.val err).modOh h.val fun o => { o with good := 0 }) := by
  show execGenlockReference h err refNs s = _
  simp [execGenlockReference, State.glSteered, State.glReported, hm, hs, hc, hh, hle.not_gt, hlt]

/-- R336: the eighth good instant in a row steers the head, which is then locked. -/
theorem exec_genlockReference_locks (hm : s.glMode h.val ≠ 0) (hs : s.scanning h.val = true)
    (hc : s.glIncompatible h.val refNs = false) (hh : s.glHolds h.val = false) (hle : err.natAbs ≤ 2000)
    (hg : (s.oh h.val).good = 7) (hl : s.rd F.OUT_HEAD_GL_STAT_LOCKED h.val = 0) :
    exec (.genlockReference h err refNs) s = .next ((s.glLocked h.val err).raise 271 h.val) := by
  have hfar : ¬ 10000 < err.natAbs := by omega
  have hoff : s.on F.OUT_HEAD_GL_STAT_LOCKED h.val = false := by simp [State.on, hl]
  show execGenlockReference h err refNs s = _
  simp [execGenlockReference, State.glLocked, State.glSteered, State.glReported, hm, hs, hc, hh, hfar, hle.not_gt, hg, hoff]

/-- R336: a locked head without a reference is locked no longer. -/
theorem exec_genlockLost_locked (hm : s.glMode h.val ≠ 0) (hh : s.glHolds h.val = false)
    (hl : s.rd F.OUT_HEAD_GL_STAT_LOCKED h.val = 1) :
    exec (.genlockLost h) s = .next ((s.glUnlocked h.val).raise 272 h.val) := by
  have hon : s.on F.OUT_HEAD_GL_STAT_LOCKED h.val = true := by simp [State.on, hl]
  show execGenlockLost h s = _
  simp [execGenlockLost, State.glLost, State.glUnlocked, hm, hh, hon]

end

end Sys2Proof.Machine

open Sys2Proof Sys2Proof.Machine

/-- Settles O35: in each case of R336 and R337 what the command answers is known (the `exec_genlock…` lemmas), and the state that
it answers is `State.glSteered`, `State.glLocked` or `State.glUnlocked`, each with its frame and its fields. -/
theorem genlock : Obligations.Genlock := by
  refine ⟨fun h err refNs s hm hs hc hh hle hlt => ?steers, fun h err refNs s hm hs hc hh hle hg hl hr => ?locks,
    fun h err refNs s hm hs hc => ?incompatible, fun h s hm hh hl hr => ?lost⟩
  case steers =>
    refine ⟨_, exec_genlockReference_off hm hs hc hh hle hlt, ?frame, glSteered_rd_incompatible s h err,
      glSteered_rd_errNs s h err, exists_glSteered_rd_trim s h err⟩
    case frame => exact changes_modOh_of _ _ (changes_mono (changes_glSteered s h err) (by simp) (by simp)) (by simp)
  case locks =>
    have hch := changes_glLocked s h err
    refine ⟨_, exec_genlockReference_locks hm hs hc hh hle hg hl, ?locked, ?error,
      raises_raise_of _ _ hch (by simp) (by simp) (genKey_not_mem_glKeys h _) (by decide) hr, ?dram⟩
    case locked => exact (rd_raise (by decide) ..).trans (rd_wr ..)
    case error => exact (rd_raise (by decide) ..).trans (glLocked_rd_errNs s h err)
    case dram => exact ((changes_raise ..).2 .dram (by simp)).trans (hch.2 .dram (by simp))
  case incompatible => exact ⟨_, exec_genlockReference_incompatible hm hs hc, changes_wr .., rd_wr ..⟩
  case lost =>
    have hch := changes_glUnlocked s h.val
    refine ⟨_, exec_genlockLost_locked hm hh hl, ?frame, ?unlocked, fun hn => ?restarted,
      raises_raise_of _ _ hch (by simp) (by simp) (genKey_not_mem_lockedKey h) (by decide) hr⟩
    case frame => exact changes_raise_of _ _ _ _ (changes_mono hch (by simp) (by simp)) (by simp) (by simp)
    case unlocked => exact (rd_raise (by decide) ..).trans (rd_wr ..)
    case restarted => rw [oh_raise]; exact glUnlocked_oh_good hn

end

section
/-!
SUPPORT. The TDM ports (R424, R425, R428, R429): what a port's record reads after a change of it or of another port, and what a
received frame, a transmitted one, an FSYNC and its loss do.
-/
namespace Sys2Proof.Machine

/-! ### The record of a port -/

theorem changes_modPort_of {s t : State} {ks : List Nat} {ps : List Part} (n : Nat) (g : TdmPort → TdmPort) (h : s.changes t ks ps)
    (hp : .pool ∈ ps) : s.changes (t.modPort n g) ks ps := changes_modPool_of _ h hp

theorem port_modPort_same {s : State} {n : Nat} (hn : n < s.pool.ports.length) (g : TdmPort → TdmPort) :
    (s.modPort n g).port n = g (s.port n) := by
  simp [State.port, State.modPort, hn]

theorem port_modPort_ne {m n : Nat} (h : m ≠ n) (s : State) (g : TdmPort → TdmPort) : (s.modPort n g).port m = s.port m := by
  have hget := List.getElem?_modify_ne g s.pool.ports h.symm
  simp [State.port, State.modPort, hget]

@[simp] theorem port_wr (s : State) (f : Fld) (v i j n : Nat) : (s.wr f v i j).port n = s.port n := rfl

/-- A raise leaves the ports as they are. -/
theorem port_raise (s : State) (n src info cove : Nat) (secure : Bool) : (s.raise src info cove secure).port n = s.port n := by
  have hpool : (s.raise src info cove secure).pool = s.pool := (changes_raise s src info cove secure).2 .pool (by simp)
  simp [State.port, hpool]

/-- A write of a field leaves what another field of the same block shows: their keys lie apart at every index when they do at
index 0. -/
theorem rd_wr_of_st1_eq {f g : Fld} (hst : g.st1 = f.st1) (h : g.key 0 0 ≠ f.key 0 0) (s : State) (v n : Nat) :
    (s.wr f v n).rd g n = s.rd g n := by
  refine rd_wr_ne _ _ _ _ _ _ _ _ ?_
  simp only [Fld.key, hst, Nat.mul_zero, Nat.add_zero] at h ⊢
  omega

/-! ### A received frame (R424, R429) -/

/-- What a received frame holds for the receive slot of port `n`: bits [31:8] of each slot. -/
def State.rxFrame (s : State) (n : Nat) (slots : List Word) : List Int :=
  (List.range (s.pslot n).slots).map fun k => sx 24 ((slots.getD k 0).toNat / 256)

/-- Frame `f` has pushed the oldest one out of the receive FIFO of port `n`, which is counted. -/
def State.rxDropped (s : State) (n : Nat) (f : List Int) : State :=
  (s.modPort n fun p => { p with rx := p.rx.drop 1 ++ [f] }).inc F.POOL_TDM_RXDROP_COUNT 1 n

theorem changes_rxDropped (s : State) (n : Nat) (f : List Int) :
    s.changes (s.rxDropped n f) [F.POOL_TDM_RXDROP_COUNT.key n 0] [.pool] :=
  changes_wr_of _ _ _ _ (changes_modPort_of _ _ (changes_mono (changes_refl s) (by simp) (by simp)) (by simp)) (by simp)

theorem rxDropped_rd_count (s : State) (n : Nat) (f : List Int) :
    (s.rxDropped n f).rd F.POOL_TDM_RXDROP_COUNT n = (s.rd F.POOL_TDM_RXDROP_COUNT n + 1) % 2 ^ 32 := rd_wr ..

theorem rxDropped_port_rx {s : State} {n : Nat} (hn : n < s.pool.ports.length) (f : List Int) :
    ((s.rxDropped n f).port n).rx = (s.port n).rx.drop 1 ++ [f] :=
  congrArg TdmPort.rx (port_modPort_same hn _)

/-- A drop that raises event 422: the port keeps the instant, from which the next millisecond counts. -/
def State.rxDropNoted (s : State) (n : Nat) (f : List Int) : State :=
  (s.rxDropped n f).modPort n fun p => { p with dropAt := some s.elapsed }

theorem changes_rxDropNoted (s : State) (n : Nat) (f : List Int) :
    s.changes (s.rxDropNoted n f) [F.POOL_TDM_RXDROP_COUNT.key n 0] [.pool] :=
  changes_modPort_of _ _ (changes_rxDropped s n f) (by simp)

theorem rxDropNoted_port_rx {s : State} {n : Nat} (hn : n < s.pool.ports.length) (f : List Int) :
    ((s.rxDropNoted n f).port n).rx = (s.port n).rx.drop 1 ++ [f] := by
  have hlen : n < (s.rxDropped n f).pool.ports.length := by simpa [State.rxDropped, State.modPort] using hn
  exact (congrArg TdmPort.rx (port_modPort_same hlen _)).trans (rxDropped_port_rx hn f)

section
variable {n : Fin 4} {slots : List Word} {s : State}

/-- A frame enters a FIFO that is not full. -/
theorem exec_tdmRxFrame_room (hrun : s.tdmRunning n.val = true) (hslots : (s.pslot n.val).slots ≠ 0)
    (hlen : (s.port n.val).rx.length < 32) :
    exec (.tdmRxFrame n slots) s = .next (s.modPort n.val fun p => { p with rx := p.rx ++ [s.rxFrame n.val slots] }) := by
  show execTdmRxFrame n slots s = _
  simp [execTdmRxFrame, State.rxFrame, hrun, hslots, hlen]

/-- A frame that finds the FIFO full drops the oldest, and event 422 is raised unless the last one is less than 1 ms old. -/
theorem exec_tdmRxFrame_full (hrun : s.tdmRunning n.val = true) (hslots : (s.pslot n.val).slots ≠ 0)
    (hlen : 32 ≤ (s.port n.val).rx.length) :
    exec (.tdmRxFrame n slots) s = .next (if s.quietFor (s.port n.val).dropAt 1000000 then
      (s.rxDropNoted n.val (s.rxFrame n.val slots)).raise 422 n.val else s.rxDropped n.val (s.rxFrame n.val slots)) := by
  show execTdmRxFrame n slots s = _
  simp only [execTdmRxFrame, hrun, hslots, hlen.not_gt, Bool.not_true, decide_false, Bool.or_self, Bool.false_eq_true, if_false]
  rfl

end

/-! ### A transmitted frame (R425, R428) -/

/-- The oldest frame `f` has left the transmit FIFO of port `n`, which holds `l` now; FILL and MIN follow. -/
def State.txSent (s : State) (n : Nat) (f : List Int) (l : List (List Int)) : State :=
  (s.modPort n fun p => { p with tx := l, last := f }).tdmShow n

theorem changes_tdmShow_of {s t : State} {ks : List Nat} {ps : List Part} (n : Nat) (h : s.changes t ks ps)
    (hfill : F.POOL_TDM_FIFO_FILL.key n 0 ∈ ks) (hmin : F.POOL_TDM_FIFO_MIN.key n 0 ∈ ks) : s.changes (t.tdmShow n) ks ps :=
  changes_wr_of _ _ _ _ (changes_wr_of _ _ _ _ h hfill) hmin

/-- Frames move on a port that is LOCKED. -/
theorem tdmRunning_of_tdmLocked {s : State} {n : Nat} (h : s.tdmLocked n = true) : s.tdmRunning n = true := by
  rw [State.tdmLocked, Bool.and_eq_true] at h
  exact h.1

/-- FILL shows the frames in the transmit FIFO. -/
theorem tdmShow_rd_fill {s : State} {n : Nat} (hlen : (s.port n).tx.length < 64) :
    (s.tdmShow n).rd F.POOL_TDM_FIFO_FILL n = (s.port n).tx.length := by
  unfold State.tdmShow
  rw [rd_wr_of_st1_eq (by rfl) (by decide), rd_wr]
  exact Nat.mod_eq_of_lt hlen

/-- MIN shows the least fill. -/
theorem tdmShow_rd_min {s : State} {n : Nat} (hlen : (s.port n).tx.length < 64) :
    (s.tdmShow n).rd F.POOL_TDM_FIFO_MIN n = min (s.port n).tx.length (s.rd F.POOL_TDM_FIFO_MIN n) := by
  unfold State.tdmShow
  rw [rd_wr]
  exact Nat.mod_eq_of_lt ((Nat.min_le_left _ _).trans_lt hlen)

/-- FILL and MIN do not move the LOW threshold. -/
theorem tdmShow_tdmLow (s : State) (n : Nat) : (s.tdmShow n).tdmLow n = s.tdmLow n := by
  unfold State.tdmLow State.tdmShow
  iterate 2 rw [rd_wr_of_st1_eq (by rfl) (by decide)]

theorem changes_govSeen_of {s t : State} {ks : List Nat} {ps : List Part} (f : Watched) (fill : Nat) (active : Bool)
    (h : s.changes t ks ps) (hp : .gov ∈ ps) : s.changes (t.govSeen f fill active) ks ps := changes_modGov_of _ h hp

/-- A transmit FIFO that is not below LOW is only watched by the governor. -/
theorem tdmBelow_of_low_le {s : State} {n : Nat} (h : s.tdmLow n ≤ (s.port n).tx.length) :
    s.tdmBelow n = s.govSeen (.tdmTx (Fin.ofNat 4 n)) (s.port n).tx.length true := if_pos h

theorem changes_txSent (s : State) (n : Nat) (f : List Int) (l : List (List Int)) :
    s.changes (s.txSent n f l) [F.POOL_TDM_FIFO_FILL.key n 0, F.POOL_TDM_FIFO_MIN.key n 0] [.pool] :=
  changes_tdmShow_of n (changes_modPort_of _ _ (changes_mono (changes_refl s) (by simp) (by simp)) (by simp)) (by simp) (by simp)

theorem txSent_port {s : State} {n : Nat} (hn : n < s.pool.ports.length) (f : List Int) (l : List (List Int)) :
    (s.txSent n f l).port n = { s.port n with tx := l, last := f } := port_modPort_same hn _

section
variable {n : Fin 4} {f : List Int} {l : List (List Int)} {s : State}

/-- R428: a port that stays at or above LOW sends the oldest frame of its FIFO. -/
theorem exec_tdmTxFrame_oldest (hlock : s.tdmLocked n.val = true) (hslots : s.txSlots n.val ≠ 0)
    (hn : n.val < s.pool.ports.length) (htx : (s.port n.val).tx = f :: l) (hlow : s.tdmLow n.val ≤ l.length) :
    exec (.tdmTxFrame n) s =
      .next (((s.txSent n.val f l).govSeen (.tdmTx (Fin.ofNat 4 n.val)) l.length true).send (.tdm n.val f)) := by
  have hrun : s.tdmRunning n.val = true := tdmRunning_of_tdmLocked hlock
  have htxl : ((s.txSent n.val f l).port n.val).tx = l := congrArg TdmPort.tx (txSent_port hn f l)
  have hlow' : (s.txSent n.val f l).tdmLow n.val ≤ ((s.txSent n.val f l).port n.val).tx.length := by
    rw [htxl]; exact (tdmShow_tdmLow ..).trans_le hlow
  have hbelow := tdmBelow_of_low_le hlow'
  rw [htxl] at hbelow
  rw [← hbelow]
  show execTdmTxFrame n s = _
  simp [execTdmTxFrame, State.txSent, hrun, hslots, hlock, htx]

end

/-! ### FSYNC and its loss (R425) -/

/-- A slave's lock that changes is raised as event 423. -/
theorem setLock_of_ne {s : State} {n : Nat} {v : Bool} (h : s.on F.POOL_TDM_STAT_LOCKED n ≠ v) :
    s.setLock n v = (s.wrB F.POOL_TDM_STAT_LOCKED v n).raise 423 (n + 256 * b2n v) := if_neg h

/-- A period within a tolerance is within every wider one. -/
theorem tdmWithin_mono {fs ps a b : Nat} (hab : a ≤ b) (h : tdmWithin fs ps a = true) : tdmWithin fs ps b = true := by
  simp only [tdmWithin, Bool.and_eq_true, decide_eq_true_eq] at h ⊢
  omega

/-- The slave has seen its 64th good frame period in a row, of `ps` picoseconds. -/
def State.fsyncSeen (s : State) (n ps : Nat) : State :=
  ((s.wr F.POOL_TDM_STAT_RUNNING 1 n).wr F.POOL_TDM_STAT_RATE_HZ ((1000000000000 + ps / 2) / ps) n).modPort n
    fun p => { p with good := 64, fsyncAt := some s.elapsed }

/-- The slave counts good periods from 0 again, and does not run. -/
def State.fsyncStopped (s : State) (n : Nat) : State :=
  (s.modPort n fun p => { p with good := 0 }).wr F.POOL_TDM_STAT_RUNNING 0 n

/-- No cove's generation is among the status registers of a port. -/
theorem genKey_not_mem_tdmStatKeys (n : Fin 4) :
    F.COVE_ID_GEN.key 0 0 ∉ [F.POOL_TDM_STAT_RUNNING.key n.val 0, F.POOL_TDM_STAT_RATE_HZ.key n.val 0,
      F.POOL_TDM_STAT_LOCKED.key n.val 0] := by decide +revert

theorem genKey_not_mem_rxDropKey (n : Fin 4) : F.COVE_ID_GEN.key 0 0 ∉ [F.POOL_TDM_RXDROP_COUNT.key n.val 0] := by decide +revert

theorem changes_fsyncSeen_lock (s : State) (n ps : Nat) :
    s.changes ((s.fsyncSeen n ps).wrB F.POOL_TDM_STAT_LOCKED true n) [F.POOL_TDM_STAT_RUNNING.key n 0,
      F.POOL_TDM_STAT_RATE_HZ.key n 0, F.POOL_TDM_STAT_LOCKED.key n 0] [.pool] := by
  refine changes_wr_of _ _ _ _ (changes_modPort_of _ _ ?_ (by simp)) (by simp)
  iterate 2 refine changes_wr_of _ _ _ _ ?_ (by simp)
  exact changes_mono (changes_refl s) (by simp) (by simp)

theorem changes_fsyncStopped_unlock (s : State) (n : Nat) :
    s.changes ((s.fsyncStopped n).wrB F.POOL_TDM_STAT_LOCKED false n) [F.POOL_TDM_STAT_RUNNING.key n 0,
      F.POOL_TDM_STAT_LOCKED.key n 0] [.pool] := by
  iterate 2 refine changes_wr_of _ _ _ _ ?_ (by simp)
  exact changes_modPort_of _ _ (changes_mono (changes_refl s) (by simp) (by simp)) (by simp)

theorem fsyncSeen_rd_locked (s : State) (n ps : Nat) :
    (s.fsyncSeen n ps).rd F.POOL_TDM_STAT_LOCKED n = s.rd F.POOL_TDM_STAT_LOCKED n := by
  unfold State.fsyncSeen State.modPort
  rw [modPool_rd]
  iterate 2 rw [rd_wr_of_st1_eq (by rfl) (by decide)]

theorem fsyncStopped_rd_locked (s : State) (n : Nat) :
    (s.fsyncStopped n).rd F.POOL_TDM_STAT_LOCKED n = s.rd F.POOL_TDM_STAT_LOCKED n :=
  rd_wr_of_st1_eq (by rfl) (by decide) ..

theorem fsyncSeen_rd_rate (s : State) (n ps : Nat) :
    (s.fsyncSeen n ps).rd F.POOL_TDM_STAT_RATE_HZ n = (1000000000000 + ps / 2) / ps % 2 ^ 18 := rd_wr ..

theorem fsyncSeen_rd_running (s : State) (n ps : Nat) : (s.fsyncSeen n ps).rd F.POOL_TDM_STAT_RUNNING n = 1 := by
  unfold State.fsyncSeen State.modPort
  rw [modPool_rd, rd_wr_of_st1_eq (by rfl) (by decide), rd_wr]
  rfl

theorem fsyncStopped_rd_running (s : State) (n : Nat) : (s.fsyncStopped n).rd F.POOL_TDM_STAT_RUNNING n = 0 := rd_wr ..

/-- A change of LOCKED, and its raise, leave the other registers of a port as they are. -/
theorem rd_lock_raise {f : Fld} (hf : F.INL_RAISE_LOST_COUNT.off < f.off) (hst : f.st1 = F.POOL_TDM_STAT_LOCKED.st1)
    (hne : f.key 0 0 ≠ F.POOL_TDM_STAT_LOCKED.key 0 0) (s : State) (n : Nat) (v : Bool) (src info : Nat) :
    ((s.wrB F.POOL_TDM_STAT_LOCKED v n).raise src info).rd f n = s.rd f n :=
  (rd_raise hf ..).trans (rd_wr_of_st1_eq hst hne ..)

section
variable {n : Fin 4} {s : State}

/-- R425: with its 64th good period a slave that is not LOCKED becomes so. -/
theorem exec_tdmFsync_locks {ps : Nat} (hon : s.tdmOn n.val = true) (hrole : s.rd F.POOL_TDM_CFG_ROLE n.val = 1) (hps : 0 < ps)
    (hgood : tdmWithin (rateHz (s.tdmSlot n.val).fs) ps 1000 = true) (hseen : 63 ≤ (s.port n.val).good)
    (hlocked : s.rd F.POOL_TDM_STAT_LOCKED n.val = 0) :
    exec (.tdmFsync n ps) s = .next (((s.fsyncSeen n.val ps).wrB F.POOL_TDM_STAT_LOCKED true n.val).raise 423 (n.val + 256)) := by
  have hrole' : s.on F.POOL_TDM_CFG_ROLE n.val = true := by simp [State.on, hrole]
  have hbroad := tdmWithin_mono (b := 2000) (by decide) hgood
  have h64 : 64 ≤ (s.port n.val).good + 1 := by omega
  have hne : (s.fsyncSeen n.val ps).on F.POOL_TDM_STAT_LOCKED n.val ≠ true := by simp [State.on, fsyncSeen_rd_locked, hlocked]
  have hlock := setLock_of_ne hne
  rw [State.fsyncSeen] at hlock ⊢
  show execTdmFsync n ps s = _
  simp [execTdmFsync, hon, hrole', hps.ne', hgood, hbroad, h64, hlock, b2n]

/-- R425: a locked slave that has lost FSYNC is LOCKED no longer. -/
theorem exec_tdmFsyncLost_locked (hon : s.tdmOn n.val = true) (hrole : s.rd F.POOL_TDM_CFG_ROLE n.val = 1)
    (hrun : s.rd F.POOL_TDM_STAT_RUNNING n.val = 1) (hlocked : s.rd F.POOL_TDM_STAT_LOCKED n.val = 1)
    (hgone : s.fsyncGone n.val = true) :
    exec (.tdmFsyncLost n) s = .next (((s.fsyncStopped n.val).wrB F.POOL_TDM_STAT_LOCKED false n.val).raise 423 n.val) := by
  have hrole' : s.on F.POOL_TDM_CFG_ROLE n.val = true := by simp [State.on, hrole]
  have hrun' : s.on F.POOL_TDM_STAT_RUNNING n.val = true := by simp [State.on, hrun]
  have hne : (s.fsyncStopped n.val).on F.POOL_TDM_STAT_LOCKED n.val ≠ false := by simp [State.on, fsyncStopped_rd_locked, hlocked]
  have hlock := setLock_of_ne hne
  rw [State.fsyncStopped] at hlock ⊢
  show execTdmFsyncLost n s = _
  simp [execTdmFsyncLost, hon, hrole', hrun', hgone, hlock, b2n]

end

end Sys2Proof.Machine

open Sys2Proof Sys2Proof.Machine

/-- Settles O43: what each command answers is known (the `exec_tdm…` lemmas), and the state that it answers is the port's change
with the registers that follow it (`State.rxDropped`, `State.txSent`, `State.fsyncSeen`, `State.fsyncStopped`), with or without
its raise. -/
theorem tdmPorts : Obligations.TdmPorts := by
  refine ⟨fun n slots s hrun hslots hn hlen => ?received, fun n slots s hrun hslots hn hlen hdrop hr => ?dropped,
    fun n slots a s hrun hslots hn hlen hdrop hlt => ?droppedAgain, fun n f l s hlock hslots hn htx hlow hlen => ?sent,
    fun n ps s hon hrole hps hn hgood hseen hlocked hr => ?locks, fun n s hon hrole hrun hlocked hn hgone hr => ?lost⟩
  case received =>
    exact ⟨_, exec_tdmRxFrame_room hrun hslots hlen,
      changes_modPort_of _ _ (changes_mono (changes_refl s) (by simp) (by simp)) (by simp), port_modPort_same hn _,
      fun m hm => port_modPort_ne hm s _⟩
  case dropped =>
    have hquiet : s.quietFor (s.port n.val).dropAt 1000000 = true := by simp [State.quietFor, hdrop]
    have hch := changes_rxDropNoted s n.val (s.rxFrame n.val slots)
    refine ⟨_, (exec_tdmRxFrame_full hrun hslots hlen).trans (congrArg _ (if_pos hquiet)), ?frame, ?count, ?fifo,
      raises_raise_of _ _ hch (by simp) (by simp) (genKey_not_mem_rxDropKey n) (by decide) hr⟩
    case frame => exact changes_raise_of _ _ _ _ (changes_mono hch (by simp) (by simp)) (by simp) (by simp)
    case count => exact (rd_raise (by decide) ..).trans (rxDropped_rd_count s n.val _)
    case fifo => rw [port_raise]; exact rxDropNoted_port_rx hn _
  case droppedAgain =>
    have hquiet : ¬ s.quietFor (s.port n.val).dropAt 1000000 = true := by simp [State.quietFor, hdrop, hlt]
    exact ⟨_, (exec_tdmRxFrame_full hrun hslots hlen).trans (congrArg _ (if_neg hquiet)), changes_rxDropped s n.val _,
      rxDropped_rd_count s n.val _, rxDropped_port_rx hn _⟩
  case sent =>
    have hport := port_modPort_same hn fun p => { p with tx := l, last := f }
    have htxl := congrArg (fun p => p.tx.length) hport
    have hfit : l.length < 64 := by omega
    refine ⟨_, exec_tdmTxFrame_oldest hlock hslots hn htx hlow, ?frame, txSent_port hn f l, rfl, ?fill, ?min⟩
    case frame =>
      exact changes_send_of _
        (changes_govSeen_of _ _ _ (changes_mono (changes_txSent s n.val f l) (by simp) (by simp)) (by simp)) (by simp)
    case fill => exact (tdmShow_rd_fill (htxl.trans_lt hfit)).trans htxl
    case min => exact (tdmShow_rd_min (htxl.trans_lt hfit)).trans (congrArg (min · _) htxl)
  case locks =>
    have hch := changes_fsyncSeen_lock s n.val ps
    refine ⟨_, exec_tdmFsync_locks hon hrole hps hgood hseen hlocked, ?frame, ?running, ?locked, ?rate, ?good,
      raises_raise_of _ _ hch (by simp) (by simp) (genKey_not_mem_tdmStatKeys n) (by decide) hr⟩
    case frame => exact changes_raise_of _ _ _ _ (changes_mono hch (by simp) (by simp)) (by simp) (by simp)
    case running => exact (rd_lock_raise (by decide) (by rfl) (by decide) ..).trans (fsyncSeen_rd_running s n.val ps)
    case locked => exact (rd_raise (by decide) ..).trans (rd_wr ..)
    case rate => exact (rd_lock_raise (by decide) (by rfl) (by decide) ..).trans (fsyncSeen_rd_rate s n.val ps)
    case good => rw [port_raise]; exact congrArg TdmPort.good (port_modPort_same hn _)
  case lost =>
    have hch := changes_fsyncStopped_unlock s n.val
    refine ⟨_, exec_tdmFsyncLost_locked hon hrole hrun hlocked hgone, ?frame, ?stopped, ?unlocked, ?good,
      raises_raise_of _ _ (changes_mono hch (by simp) (List.Subset.refl _)) (by simp) (by simp) (genKey_not_mem_tdmStatKeys n)
        (by decide) hr⟩
    case frame => exact changes_raise_of _ _ _ _ (changes_mono hch (by simp) (by simp)) (by simp) (by simp)
    case stopped => exact (rd_lock_raise (by decide) (by rfl) (by decide) ..).trans (fsyncStopped_rd_running s n.val)
    case unlocked => exact (rd_raise (by decide) ..).trans (rd_wr ..)
    case good => rw [port_raise]; exact congrArg TdmPort.good (port_modPort_same hn _)

end
